-- ==== Sys2Proof/Word.lean ====
section
/-! DEFINITION. Word.lean: bytes, plain bit slices of natural numbers, and the plain-data operand types of the
device's commands (Scope and orientation, R8: bit 0 is least significant, little-endian everywhere). -/
namespace Sys2Proof

/-- One byte. -/
abbrev Byte := BitVec 8

/-- A CXL/PCIe function: one link together with one of its logical devices (R384). -/
structure Fn where
  link : Nat
  ld : Nat
  deriving DecidableEq, Repr

/-- How a request on a link reaches a function's BARs: the function, and whether the request carries the T bit of a TEE (R402). -/
structure Req where
  fn : Fn
  tee : Bool
  deriving DecidableEq, Repr

/-- A register by its BAR and its offset in it; 7 stands for configuration space (R472 to R476). -/
structure BarAddr where
  bar : Nat
  offset : Nat
  deriving DecidableEq, Repr

/-- What a promotion is asked for: blocks by number, and tiles by object slot and index (R203, R223). -/
structure Picks where
  blocks : List Nat
  tiles : List (Nat × Nat)
  deriving DecidableEq, Repr

/-- What a discovery shows of a party: whether it is there, and the tray number that a fabric manager assigns (R22, R463). -/
structure Sighting where
  present : Bool
  tray : Option Nat
  deriving DecidableEq, Repr

/-- A command as a queue pair carries it: the pair, and the 64-byte packet of Table 3-3 read as one
little-endian number.  The row of the opcode table names the opcode, so byte 0 of the packet is not read. -/
structure Cmd where
  qp : Nat
  pkt : BitVec 512
  deriving DecidableEq, Repr

/-- The tests of the entropy source that can fail (R393, R394). -/
inductive EntropyTest where
  | repetitionCount
  | adaptiveProportion
  | startUp
  deriving DecidableEq, Repr

/-- What ends link-watch (R52). -/
inductive WakeSource where
  | transaction
  | linkExit (port : Nat)
  | management
  | partnerMessage
  | trayWake
  deriving DecidableEq, Repr

/-- The parts that come back during a wake from link-watch (Table 2-5). -/
inductive WakePart where
  | deck
  | causeway
  | ports
  deriving DecidableEq, Repr

/-- One instance of a buffer pool of Table 3-13. -/
inductive Pool where
  | parameter (span : Nat)
  | transfer (abutment : Nat)
  | staging (pier : Nat)
  deriving DecidableEq, Repr

/-- What a chip-enable's ONFI parameter page and the firmware's qualification data say of its part (R43, R225): the
part's code (0 for an unqualified part), QLC cells, LUNs, erase blocks per LUN, bytes per erase block in native mode,
rated endurance in native and in SLC mode (R238), and whether it suspends programs and erases. -/
structure NandPart where
  ce : Nat
  code : Nat
  qlc : Bool
  luns : Nat
  blocks : Nat
  blockBytes : Nat
  endurance : Nat
  slcEndurance : Nat
  suspend : Bool
  deriving DecidableEq, Repr

/-- What NAND calibration found on one channel (R43): the rate it trained at in MT/s, 0 when it failed at every rate,
and the parts of the chip-enables that answered. -/
structure NandChannel where
  channel : Nat
  rate : Nat
  parts : List NandPart
  deriving DecidableEq, Repr

/-- The kinds of background work of the translation layer (R235). -/
inductive FtlWork where
  | fold
  | collect
  | compact
  | levelWear
  | softRelocate (block : Nat)
  | hardRelocate (block : Nat)
  | eraseStale
  deriving DecidableEq, Repr

/-- How a NAND operation ended (R225 to R228, R238, R239). -/
inductive NandEnd where
  | readOk (codewordsNearLimit : Bool)
  | readRetried
  | readRebuilt
  | rowLost (other : Nat)      -- the erase block of the row's other unreadable page (R228)
  | dieFailed
  | programOk
  | programFailed
  | eraseOk
  | eraseFailed
  deriving DecidableEq, Repr

/-- A CXL.mem load as R325 tells loads apart. -/
inductive LoadKind where
  | cached       -- the host may cache the line
  | uncached     -- the host declares that it will not cache the line
  deriving DecidableEq, Repr

/-- A CXL.mem request that changes memory or asks for ownership (R325). -/
inductive StoreKind where
  | write
  | ownership
  deriving DecidableEq, Repr

/-- The source a CXL.mem request shows: link, logical device and, under port-based routing, the SPID (R323); and its IDE T bit (R402). -/
structure Source where
  link : Nat
  ld : Nat
  spid : Nat
  tee : Bool
  deriving DecidableEq, Repr

/-- A NAK from a peer (R347, Table 12-4). -/
inductive Nak where
  | sequence
  | remoteAccess
  | invalidRequest
  | remoteOperational
  | rnr (timer : Nat)
  deriving DecidableEq, Repr

/-- An inbound RDMA message as it reaches the device: the connection's local QPN, PSN of its last packet, key and
offset, and whether a packet carried a CE mark (R344, R350). -/
structure Inbound where
  qpn : Nat
  psn : Nat
  key : Nat
  offset : Nat
  ce : Bool
  deriving DecidableEq, Repr

/-- A vote or an order about one block of a width-8 namespace, named by salt, block, key and group version (R370). -/
structure GroupBlock where
  salt : BitVec 128
  block : Nat
  key : BitVec 128
  version : Nat
  deriving DecidableEq, Repr

/-- One line of a member's reconciliation list (R377). -/
structure ReconcileLine where
  block : GroupBlock
  indexed : Bool
  prepared : Bool
  dropped : Bool
  deriving DecidableEq, Repr

/-- The parameters a partner reports for a width-8 namespace, in the order of the fourth case of R363. -/
structure MemberParams where
  blockSize : Nat
  format : Nat
  layers : Nat
  heads : Nat
  dim : Nat
  lossClass : Nat
  tokenStore : Bool
  keySummary : Bool
  autoseal : Bool
  latent : Bool
  window : Nat
  sinks : Nat
  adapter : Nat
  deriving DecidableEq, Repr

/-- A CXL/PCIe link (scheduling port 0-31), or the Ethernet link of scheduling port 32 + n (Table 9-8). -/
inductive LinkId where
  | cxl (link : Nat)
  | eth (port : Nat)
  deriving DecidableEq, Repr

/-- The SPDM requests that act on the device's state outside a key exchange (R396). -/
inductive SpdmReq where
  | getVersion
  | getCapabilities
  | negotiateAlgorithms
  | getDigests
  | getCertificate (slot : Nat)
  | challenge (nonce : BitVec 256)
  | getMeasurements (block : Nat) (nonce : BitVec 256)
  | finish (session : Nat) (mutualAuth : Bool) (tenantKey : Nat) (root : Nat)
  | keyUpdate (session : Nat)
  | heartbeat (session : Nat)
  | endSession (session : Nat)
  deriving DecidableEq, Repr

/-- The IDE streams of one link: the CXL.io link stream, a selective stream bound to one logical device, or the
CXL.cachemem stream (Table 14-12). -/
inductive IdeStream where
  | io
  | selective (index : Nat) (ld : Nat)
  | mem (containment : Bool)
  deriving DecidableEq, Repr

/-- The faults that R434 calls fatal. -/
inductive FatalCause where
  | dieFailed (locus : Nat)
  | tableUncorrectable (locus : Nat)
  | secondFault (locus : Nat)
  | cleanState
  deriving DecidableEq, Repr

/-- A 64-byte line that the patrol scrub meets: of pool memory by its DPA, of a layer-page by block record, layer and line,
of a weight tile by object slot and tile, of a block's record or token record, of a layer-page's key summary, or of a pier's copy of
a codebook set (R415, R421, R423); and a word of a cache's SRAM by its locus, or of the directory by its line group. -/
inductive ScrubLine where
  | pool (addr : Nat)
  | page (block layer line : Nat)
  | tile (object index : Nat)
  | record (block : Nat)
  | tokens (block : Nat)
  | summary (block layer : Nat)
  | codebook (slot pier : Nat)
  | sram (locus : Nat)
  | directory (group : Nat)
  deriving DecidableEq, Repr

/-- What a patrol scrub or a read finds in one 64-byte line (R415, R421). -/
inductive LineCheck where
  | clean
  | corrected
  | uncorrectable
  deriving DecidableEq, Repr

/-- The result a management read asks for (Table 17-2, first row). -/
inductive MgmtRead where
  | sensors
  | counter (index : Nat)
  | devReady
  | errorRing
  | fatalRing
  | attestation (nonce : BitVec 256)
  deriving DecidableEq, Repr

/-- A firmware image as R36 judges it: whether its signing key's digest is the one given, whether its signature
verifies, its security version, its version fields and its measurement. -/
structure Image where
  keyDigest : Nat
  signatureOk : Bool
  svn : Nat
  version : Nat
  measurement : Nat
  deriving DecidableEq, Repr

/-- A boot flash slot. -/
inductive Slot where
  | a
  | b
  deriving DecidableEq, Repr

/-- The other slot. -/
abbrev Slot.other : Slot → Slot
  | .a => .b
  | .b => .a

/-- The kinds of discovered party (Table 17-3). -/
inductive PartyKind where
  | host
  | accelerator
  | partner
  | fabricManager
  deriving DecidableEq, Repr

/-- Why a promotion starts (R203). -/
inductive PromoteWhy where
  | probeHit
  | plan
  | hint
  | reader
  | predicted
  | pin
  | limit
  deriving DecidableEq, Repr

/-- A PTP role (DEV_PTP_STATUS.ROLE, Table 18-3). -/
inductive PtpRole where
  | free
  | client
  | source
  deriving DecidableEq, Repr

/-- Bits [hi:lo] of `v`. -/
abbrev bits (v hi lo : Nat) : Nat := (v / 2 ^ lo) % 2 ^ (hi + 1 - lo)

/-- Bit `i` of `v`. -/
abbrev bit (v i : Nat) : Bool := (v / 2 ^ i) % 2 == 1

/-- A boolean as one bit. -/
abbrev b2n (b : Bool) : Nat := if b then 1 else 0

/-- Ceiling division. -/
abbrev cdiv (a b : Nat) : Nat := (a + b - 1) / b

/-- `a` rounded up to a multiple of `b`. -/
abbrev roundUp (a b : Nat) : Nat := cdiv a b * b

end Sys2Proof
end

