-- ==== Sys2Proof/Syntax.lean ====
section
/-! DEFINITION. Syntax.lean: the commands and events of the KT640, one constructor per row of
spec/opcode_table.json, in the table's order.  A row whose effect a host commands through a queue pair carries the
packet (`c : Cmd`); a row that is an event carries what the event brings. -/
namespace Sys2Proof

/-- The commands and events of spec/opcode_table.json, in its order. -/
inductive Instr where
  -- start-up, pins, link-watch and resets (R31 to R54)
  | coldStart (slot : Nat)
  | porNAssert
  | perstNDeassert (port : Nat)
  | firmwareVerified
  | fabricLinksTrained
  | readyLink
  | ddr5CalibrationComplete (dimms : List (Nat × Nat × Nat))
  | hbmTrainingComplete (failingLanes : List (Nat × Nat × Nat))
  | readyDeck
  | nandCalibrationComplete (channels : List NandChannel)
  | causewayScanComplete (bad : List (Nat × Nat))
  | footingMountComplete
  | haltNAssert
  | haltNDeassert
  | entropyHealthFail (test : EntropyTest)
  | entropyRestartDone
  | entropyWaitTimeout (request : Nat)
  | enterLinkWatch (c : Cmd)
  | linkWatchWake (source : WakeSource)
  | devWakeAtReached
  | linkWatchServiceRestored
  | ethernetLinksTrained (ports : Nat)
  | warmReset
  | devResetWarm (r : Req) (value : Nat)
  -- registers, queue pairs and operations (R55 to R92, R473 to R486)
  | registerWrite (r : Req) (reg : BarAddr) (width : Nat) (value : Option Nat)
  | adminQueueEnable (r : Req) (value : Nat)
  | adminQueueDisable (r : Req)
  | sqTailDoorbell (r : Req) (qp value : Nat)
  | cqHeadDoorbell (r : Req) (qp value : Nat)
  | commandFetch (span : Nat)
  | operationStart (tag : Nat)
  | bufferGrant (pool : Pool)
  | longOpUnitEnd (tag : Nat)
  | longOpFinal (tag : Nat)
  | identify (c : Cmd)
  | createQueuePair (c : Cmd)
  | deleteQueuePair (c : Cmd)
  | abort (c : Cmd)
  | halt (c : Cmd)
  | stageOpen (c : Cmd)
  | stageWrite (c : Cmd)
  | stageRead (c : Cmd)
  | stageCheck (c : Cmd)
  | commit (c : Cmd)
  | stageDiscard (c : Cmd)
  | stagingLeaseExpiry
  | commitSwitch
  | commitDrainEnd
  -- namespaces and the prefix store (R94 to R125, R501, R502)
  | createNamespace (c : Cmd)
  | deleteNamespace (c : Cmd)
  | queryNamespace (c : Cmd)
  | setNamespace (c : Cmd)
  | tailWindowStore (src : Source) (addr : Nat) (bytes : List Byte)
  | controlPageNStore (src : Source) (addr value : Nat)
  | tailRebindEnd (chain slot : Nat)
  | probe (c : Cmd)
  | openChain (c : Cmd)
  | insertBlock (c : Cmd)
  | appendCommit (c : Cmd)
  | seal (c : Cmd)
  | fork (c : Cmd)
  | openSnapshot (c : Cmd)
  | truncate (c : Cmd)
  | pin (c : Cmd)
  | release (c : Cmd)
  | mapTail (c : Cmd)
  | chainQuery (c : Cmd)
  | snapshotExpiry (slot : Nat)
  | pinExpiry (slot : Nat)
  | codebookLoad (r : Req) (value : Nat)
  | codebookUnload (r : Req) (value : Nat)
  | codebookLoadEnd
  -- the prefix index (R145 to R192)
  | lookup (c : Cmd)
  | indexTag (c : Cmd)
  | indexEvict (c : Cmd)
  | frRegion (c : Cmd)
  | frWrite (c : Cmd)
  | frSearch (c : Cmd)
  | indexBanks (c : Cmd)
  | forcedWrite (port : Nat)
  | cascadeFrameReceived (hit seqBit guard : Bool)
  | cascadeTimeout
  | cascadeResync (r : Req) (value : Nat)
  | trestleTempSample (die temperature : Nat)
  | indexParityScan (bank : Nat) (bad : List Nat)
  | blockRecordFree (record : Nat)
  -- tiers and placement (R193 to R224)
  | placementDemoteWatermark (tier : Nat)
  | placementDemoteHorizon (tier : Nat)
  | placementEvict (tier : Nat)
  | placementPromote (why : PromoteWhy) (picks : Picks)
  | moveUnit (task : Nat)
  | oldCopyRelease (copy : Nat)
  | histogramHalve
  | fetch (c : Cmd)
  | deliver (c : Cmd)
  | spill (c : Cmd)
  | promote (c : Cmd)
  | drop (c : Cmd)
  | placeHint (c : Cmd)
  | hintExpiry (hint : Nat)
  | placeReport (c : Cmd)
  | lease (c : Cmd)
  | leaseAutoRequest (partner : Nat)
  | leaseRequestReceived (partner id capacity rateCap notice term : Nat)
  | leaseAnswerReceived (id : Nat) (granted : Bool)
  | leaseRequestTimeout (id : Nat)
  | leaseReclaimReceived (id : Nat)
  | leaseTermEnd (id : Nat)
  | leaseNoticeExpiry (id : Nat)
  | leaseHeartbeatTimeout (id : Nat)
  | leaseEmpty (id : Nat)
  | leaseLostBookkeeping (id : Nat)
  | weightObject (c : Cmd)
  | weightWrite (c : Cmd)
  -- the footing (R225 to R245)
  | ftlBackgroundOp (port : Nat) (work : FtlWork)
  | nandOpComplete (channel : Nat) (ended : NandEnd)
  | relocationAgeTrigger (block : Nat)
  | metadataJournalCompact
  | sanitise
  | sanitiseEnd
  -- delivery and scheduling (R246 to R275)
  | prefetchPlan (c : Cmd)
  | layerTick (c : Cmd)
  | tickDoorbell (r : Req) (slot width value : Nat)
  | sequenceLanded (plan : Nat)
  | deadlineMiss (plan seq : Nat)
  | planStallTimeout (plan : Nat)
  | planIdleLimit (plan : Nat)
  | cancelPlan (c : Cmd)
  | planQuery (c : Cmd)
  | schedUnitStart (port : Nat)
  | gateTakeover (port : Nat)
  | gateEntryChange (port : Nat)
  | tollRecolour (port queue : Nat)
  -- the attention engine (R276 to R309)
  | attend (c : Cmd)
  | attendResume (tag : Nat)
  | attendPartialMerge (tag : Nat)
  | attendSparse (c : Cmd)
  | attDesc (c : Cmd)
  | attWindows (c : Cmd)
  | queryWindowStore (r : Req) (offset : Nat) (bytes : List Byte)
  -- the shared memory pool (R310 to R343)
  | dcAdd (hosts : List Source) (region : Nat) (base : Option Nat) (length tag partition : Nat) (shared : Bool)
  | extentZeroEnd (extent : Nat)
  | addDcResponse (host : Source) (extent : Nat) (accept : Bool)
  | releaseDynamicCapacity (host : Source) (extent : Nat)
  | dcRelease (host : Source) (extent : Nat) (forced : Bool)
  | getDcdInfo (link : Nat)
  | getHostDcRegionConfig (link ld : Nat)
  | setDcRegionConfig (link ld region blockSize : Nat)
  | getDcRegionExtentLists (link ld : Nat)
  | cxlMemRead (src : Source) (addr : Nat) (kind : LoadKind)
  | cxlMemWrite (src : Source) (addr : Nat) (kind : StoreKind) (bytes : List Byte) (poison : Bool)
  | backInvalidateResponse (host addr : Nat) (dirty : List Byte)
  | recallTimeout (host addr : Nat)
  | poolLease (c : Cmd)
  | heartbeatRenew (r : Req)
  | heartbeatRejoin (r : Req)
  | hostLeaseExpiry (host : Nat)
  | hostUnbind (host : Nat)
  | poolSnapshot (c : Cmd)
  | poolSnapshotExpiry (slot : Nat)
  | fill (c : Cmd)
  | copy (c : Cmd)
  | compare (c : Cmd)
  | reduce (c : Cmd)
  | mirrorPartnerAck (addr : Nat)
  | remirrorStart (extent : Nat)
  | patrolScrub (line : ScrubLine) (found : LineCheck)
  | linkUp (l : LinkId) (flit68 : Bool)
  | linkDown (l : LinkId)
  -- remote access (R344 to R361)
  | rmaConnect (c : Cmd)
  | rmaRegion (c : Cmd)
  | rmaWrite (c : Cmd)
  | rmaRead (c : Cmd)
  | rmaNotify (c : Cmd)
  | rmaWait (c : Cmd)
  | rmaWaitTimeout (tag : Nat)
  | inboundRdmaWrite (m : Inbound) (bytes : List Byte)
  | inboundRdmaWriteImm (m : Inbound) (bytes : List Byte) (immediate : Nat)
  | inboundRdmaRead (m : Inbound) (length : Nat)
  | inboundAck (qpn psn : Nat)
  | inboundNak (qpn : Nat) (nak : Nak)
  | inboundReadResponse (qpn psn : Nat) (bytes : List Byte)
  | inboundCnp (qpn : Nat)
  | ackTimeout (qpn : Nat)
  | rnrTimerExpiry (qpn : Nat)
  | nqHeadDoorbell (r : Req) (nq value : Nat)
  -- stripe groups (R362 to R381)
  | partnerGreeting
  | partnerGreetingReceived (identity : BitVec 128) (slot tray : Nat) (claimed : Bool) (route : Nat)
  | partnerAttestation (partner : Nat) (sigOk nonceOk : Bool) (identity : BitVec 128) (tenant session : Nat)
  | partnerHeartbeatSend
  | partnerHeartbeatReceived (partner session : Nat) (linkWatch : Bool) (route : Nat) (sessionEnd : Bool)
  | partnerSuspectTimeout (partner : Nat)
  | partnerDownTimeout (partner : Nat)
  | trayAlertFall
  | alertAnswerTimeout (partner : Nat)
  | partnerKeyLimit (partner : Nat)
  | voteReceived (slot : Nat) (b : GroupBlock) (dup full : Bool)
  | groupCommitReceived (b : GroupBlock) (unindexed : Bool)
  | voteTimeout (b : GroupBlock)
  | voteAnswerTimeout (b : GroupBlock)
  | groupAbortReceived (b : GroupBlock)
  | evictionProposalReceived (slot : Nat) (b : GroupBlock)
  | evictionQueryReceived (b : GroupBlock)
  | evictionAnswerReceived (slot : Nat) (b : GroupBlock) (free : Bool)
  | evictionProposalLapse (b : GroupBlock)
  | groupEvictionOrder (b : GroupBlock)
  | dropReportReceived (b : GroupBlock)
  | groupDropOrder (b : GroupBlock)
  | unindexReportReceived (b : GroupBlock)
  | groupUnindexOrder (b : GroupBlock)
  | reconcileListReceived (slot : Nat) (salt : BitVec 128) (lines : List ReconcileLine)
  -- tenancy, attestation and protection (R382 to R414)
  | tenantClaim (c : Cmd)
  | claimResume
  | tenantActivate (c : Cmd)
  | tenantRelease (c : Cmd)
  | releaseWalkEnd
  | releaseResetTimer
  | tenantStatus (c : Cmd)
  | attestReport (c : Cmd)
  | weightBind (c : Cmd)
  | netKey (c : Cmd)
  | mkaSecured (port : Nat)
  | spdmRequest (f : Fn) (request : SpdmReq)
  | spdmKeyExchange (f : Fn) (hbeat : Nat)
  | spdmSessionLimit (session : Nat)
  | ideKmQuery (link session : Nat)
  | ideKmKeyProg (link session : Nat) (stream : IdeStream) (keySet : Nat)
  | ideKmKSetGo (link session : Nat) (stream : IdeStream) (keySet : Nat)
  | ideKmKSetStop (link session : Nat) (stream : IdeStream) (keySet : Nat)
  | ideKeyLimit (link : Nat) (stream : IdeStream)
  | lockInterfaceRequest (f : Fn)
  | stopInterfaceRequest (f : Fn)
  | jtagInstruction (bypassOrIdcode : Bool)
  -- faults, errors and recovery (R415 to R436)
  | fabricLinkAckTimeout (link : Nat)
  | hbmStackTimeout (stack : Nat)
  | ddrChannelTimeout (channel : Nat)
  | bankPortTimeout (bank : Nat)
  | fatalFault (cause : FatalCause)
  | haltComplete
  | rasHeadWrite (r : Req) (value : Nat)
  | rasResume (r : Req) (value : Nat)
  | rasClearLost (r : Req)
  -- counters, monitors and interrupts (R437 to R455)
  | monitorClear (r : Req) (monitor : Nat)
  | cntDump (c : Cmd)
  | snapshotInstant
  | dumpSlotWritten
  | irqSharedAck (r : Req) (value : Nat)
  | irqModerationTimer (f : Fn) (vector : Nat)
  | irqHoldClear (r : Req)
  -- management, power and thermal control (R456 to R471, R490 to R496)
  | mgmtHalt
  | mgmtRelease
  | mgmtWarmReset
  | mgmtEnterLinkWatch (port : Nat)
  | mgmtRead (what : MgmtRead)
  | mgmtSetPowerCeiling (watts : Nat) (boost : Bool)
  | mgmtSetClaimPolicy (roots : List Nat)
  | mgmtSetFootingMode (zoned : Bool) (writeShare : Nat)
  | mgmtFirmwareWrite (slot : Slot) (image : Image)
  | mgmtFirmwareActivate (slot : Slot)
  | mgmtAdvanceRollback
  | mgmtSetPtp (profile domain : Nat) (ppsOut : Bool)
  | enrol (anchor : Nat)
  | mgmtTrustAnchorChange (anchor : Nat) (add : Bool)
  | coolantFlowReport (millilitresPerMinute : Nat)
  | powerSample (milliwatts : Nat)
  | thermalSample (logicMax hbmMax locus : Nat)
  | discoveryUpdate (kind : PartyKind) (link route : Nat) (seen : Sighting)
  | fmKeepaliveTimeout (link : Nat)
  | ppsInEdge
  | supplyFault (rail : Nat)
  | fixedRatePeriodBoundary
  -- rows the source's table adds at its end
  | startInterfaceRequest (f : Fn)
  | functionLevelReset (f : Fn)
  | configurationSpaceWrite (f : Fn) (bars command : Nat)
  | fabricLaneDown (link : Nat)
  | attentionSliceWatchdog (pier slice : Nat)
  | controlCoreWatchdog (span core : Nat)
  | hbmDataLaneFault (stack channel : Nat)
  | memberNamespaceReport (slot : Nat) (salt : BitVec 128) (holds : Bool) (params : MemberParams)
  | spdmHeartbeatTimeout (session : Nat)
  | ptpMessageReceived (role : PtpRole) (time offset : Int)
  | perstNAssert (port : Nat)
  | hostCapWindow (host : Nat)
  | consecFailClear
  | wakePartBack (part : WakePart)
  deriving DecidableEq, Repr

end Sys2Proof
end

