-- ==== Sys2Proof/Config.lean ====
section
/-! DEFINITION. Config.lean: what one device fixes and the manual leaves open.  Every constant here has no body: nothing
in Lean can evaluate it, so no proof can lean on a value of it. -/
namespace Sys2Proof

/-- e(x) of R279 away from its stated points: some FP32 value within 2 ulp (log entry 3). -/
opaque Config.expValue : BitVec 32 → BitVec 32
/-- tanh of R287 for a positive finite argument: some FP32 value within 2 ulp (log entry 3). -/
opaque Config.tanhValue : BitVec 32 → BitVec 32
/-- cos of R289, within 1 ulp (log entry 3). -/
opaque Config.cosValue : BitVec 32 → BitVec 32
/-- sin of R289, within 1 ulp (log entry 3). -/
opaque Config.sinValue : BitVec 32 → BitVec 32
/-- θ^(-2i/Dr) of R289, whose rounding the manual does not state: arguments θ, i, Dr (log entry 3). -/
opaque Config.ropeFreq : BitVec 32 → Nat → Nat → BitVec 32
/-- Numbers drawn from the DRBG, by the draw's ordinal (R386, R393, R349; log entry 4). -/
opaque Config.random : Nat → BitVec 64
/-- Values the manual calls undefined, by the ordinal of the use (log entry 5). -/
opaque Config.freeByte : Nat → BitVec 8
/-- AES-256-GCM opening: key, IV, additional data, ciphertext, tag; `none` when the tag fails (R404 to R407; log entry 6). -/
opaque Config.gcmOpen : Nat → Nat → List Byte → List Byte → Nat → Option (List Byte)
/-- HKDF of R404 and R405: secret and label code to a 256-bit key (log entry 6). -/
opaque Config.hkdf : Nat → Nat → Nat
/-- ECDH of an ephemeral public key with the device's binding key (R405; log entry 6). -/
opaque Config.ecdh : Nat → Nat
/-- The ECDSA P-384 signature by the alias key, r and s as one 96-byte number, of a message (R397; log entry 6). -/
opaque Config.sign : List Byte → Nat
/-- The SPDM export master secret of a session, by its ordinal (R404; log entry 6). -/
opaque Config.exportSecret : Nat → Nat
/-- The length in bytes of the plane codec's form of one granule (R142; log entry 7). -/
opaque Config.codecLength : List Byte → Nat
/-- The opaque device address of a page's key summary (Table 4-3; log entry 7). -/
opaque Config.summaryPointer : Nat → Nat → BitVec 64
/-- The WAIT estimate of the load word, by use (R69; log entry 7). -/
opaque Config.waitEstimate : Nat → BitVec 8
/-- The digest of the identity key, which the maker fixes (R485; log entry 8). -/
opaque Config.identityDigest : BitVec 384
/-- The digest of the boot ROM (Table 14-10, measurement block 1; log entry 8). -/
opaque Config.bootRomDigest : BitVec 384

/-- By how many nanoseconds a logic die's copy of device time runs ahead of the slowest copy, from the die's locus bits [15:8];
the model takes it modulo 5, since the copies agree within 4 ns (R26; log entry 133). -/
opaque Config.dieSkew : Nat → Nat

/-- How many messages' worth of credits a fabric class holds on a link, less one: 1 RSP, 2 REQ, 3 BULK (R17; log entry 134). -/
opaque Config.fabricCredits : Nat → Nat

/-- The form that the AES-XTS engines give bytes on their way to a memory: engine key, tweak, bytes (R21; log entry 135). -/
opaque Config.xts : Nat → Nat → List Byte → List Byte

/-- The form of a message on a deck fabric link: link key, the message's bytes (R21; log entry 135). -/
opaque Config.fabricCipher : BitVec 64 → List Byte → List Byte

/-- The element code the re-quantiser writes in a unit whose scale becomes NaN, which R130 does not state, by the target format
and the element's FP32 code; every reader decodes it as NaN (R128; log entry 147). -/
opaque Config.nanUnitCode : Nat → BitVec 32 → Nat

/-- Does the write of a move's target copy fail (Table 7-9)?  Block record, target tier, device time; the manual does not say when one
does (log entry 149). -/
opaque Config.targetFails : Nat → Nat → Nat → Bool

/-- What a borrower uses of a lease as its lender counts it, by lease and device time: the manual gives no message that carries it
(Table 7-13; log entry 150). -/
opaque Config.lenderUsed : Nat → Nat → Nat

/-- The factory default trim of a circuit, by its fuse word (Table 2-2; log entry 10). -/
opaque Config.factoryTrim : Nat → BitVec 32

/-- Where in its histogram bin the median reuse interval lies, in ms above the bin's lower edge (R203; log entry 26). -/
opaque Config.medianWithin : List Nat → Nat

/-- Which of the causeway's channels a layer-page lies on: the manual gives no interleave; block record, layer (R196,
R418; log entry 31). -/
opaque Config.channelOf : Nat → Nat → Nat

/-- Whether a lent lease's capacity lies on a channel of the causeway: the manual gives no layout; lease, channel (R418; log
entry 31). -/
opaque Config.leaseOn : Nat → Nat → Bool

/-- Which entry of the region-key cache a request uses within 512 µs of a DIRECT_KEY: 0 the new one, else one of those replaced, newest
first; by the number of the choice (R93, R352: the manual leaves it open). -/
opaque Config.staleEntry : Nat → Nat

/-- A connection's DCQCN rate after a CNP, from its rate before: management sets the parameters (Table 12-1, free). -/
opaque Config.dcqcnRate : Nat → Nat

/-- Does firmware back the dword of configuration space at an offset (R33; log entry 140)? -/
opaque Config.firmwareBacked : Nat → Bool

/-- A dword of configuration space that the manual does not describe (log entry 140). -/
opaque Config.configWord : Nat → BitVec 32

/-- A word of a logical device's CXL device registers, whose layout CXL gives and the manual does not (R484; log entry 140). -/
opaque Config.cxlDeviceWord : Nat → BitVec 32

/-- The DRAM row of a stack that a line lies in, by the line's address or by a number of the object that holds it: the manual gives no
row mapping (R415; log entry 152). -/
opaque Config.hbmRow : Nat → Nat

/-- The dies, by locus, with an SRAM location that fails the read-back of a start-up (R44; log entry 155). -/
opaque Config.badSram : Nat → List Nat
/-- The deck locations that fail the read-back of a start-up, by stack and DPA (R44; log entry 155). -/
opaque Config.badDeck : Nat → List (Nat × Nat)

end Sys2Proof
end

