-- ==== Sys2Proof/Machine/Fp.lean ====
section
/-! DEFINITION. Fp.lean: exact binary floating point.  A value is a sign, an integer significand and a power of two;
every operation of the engines is the exact result rounded once (R128, R130, R305). -/
namespace Sys2Proof.Machine

/-- A floating-point datum: NaN, an infinity, or (-1)^neg * m * 2^e (zero when m is 0, with its sign). -/
inductive FVal where
  | nan
  | inf (neg : Bool)
  | fin (neg : Bool) (m : Nat) (e : Int)
  deriving DecidableEq, Repr

/-- How a result is rounded. -/
inductive Rounding where
  | nearestEven
  | up
  | down
  deriving DecidableEq, Repr

/-- A floating-point format: exponent bits, mantissa bits, bias, the code of the largest finite magnitude, and
the codes of infinity and NaN where it has them (Table 5-1). -/
structure FFormat where
  eb : Nat
  mb : Nat
  bias : Nat
  maxCode : Nat
  infCode : Option Nat
  nanCode : Option Nat
  deriving DecidableEq, Repr

def fp32 : FFormat := ⟨8, 23, 127, 0x7F7FFFFF, some 0x7F800000, some 0x7FC00000⟩
def bf16 : FFormat := ⟨8, 7, 127, 0x7F7F, some 0x7F80, some 0x7FC0⟩
def fp16 : FFormat := ⟨5, 10, 15, 0x7BFF, some 0x7C00, some 0x7E00⟩
def e4m3 : FFormat := ⟨4, 3, 7, 0x7E, none, some 0x7F⟩
def e5m2 : FFormat := ⟨5, 2, 15, 0x7B, some 0x7C, some 0x7E⟩
def e3m2 : FFormat := ⟨3, 2, 3, 0x1F, none, none⟩
def e2m3 : FFormat := ⟨2, 3, 1, 0x1F, none, none⟩
def e2m1 : FFormat := ⟨2, 1, 1, 0x7, none, none⟩

/-- The width of a format in bits. -/
abbrev FFormat.width (f : FFormat) : Nat := 1 + f.eb + f.mb

/-- The exponent of the least significant bit of a subnormal. -/
abbrev FFormat.emin (f : FFormat) : Int := 1 - (f.bias : Int) - (f.mb : Int)

/-- The datum a code stands for (R126; an exponent field of 0 is subnormal).  Codes above the largest finite
magnitude are the infinity where the format has one at that code, and NaN otherwise. -/
def FFormat.decode (f : FFormat) (code : Nat) : FVal :=
  let neg := bit code (f.eb + f.mb)
  let mag := code % 2 ^ (f.eb + f.mb)
  if mag > f.maxCode then
    if some mag = f.infCode then .inf neg else .nan
  else
    let ef := mag / 2 ^ f.mb
    let mf := mag % 2 ^ f.mb
    if ef = 0 then .fin neg mf f.emin else .fin neg (mf + 2 ^ f.mb) (f.emin + (ef : Int) - 1)

/-- The magnitude code nearest to m * 2^e under a rounding of the magnitude (`up` away from zero), without regard to
overflow: exponent carries into the exponent field by themselves. -/
def FFormat.roundMag (f : FFormat) (r : Rounding) (m : Nat) (e : Int) : Nat :=
  if m = 0 then 0 else
  let len : Int := (Nat.log2 m : Int) + 1
  let e' : Int := max (e + len - ((f.mb : Int) + 1)) f.emin
  let base := ((e' - f.emin).toNat) * 2 ^ f.mb
  if e' ≤ e then base + m * 2 ^ (e - e').toNat
  else
    let k := (e' - e).toNat
    let q := m / 2 ^ k
    let rem := m % 2 ^ k
    let half := 2 ^ (k - 1)
    let inc := match r with
      | .nearestEven => decide (rem > half) || (decide (rem = half) && q % 2 == 1)
      | .up => decide (rem ≠ 0)
      | .down => false
    base + q + b2n inc

/-- The rounding of the magnitude that a rounding of the signed value asks for. -/
def Rounding.ofSign : Rounding → Bool → Rounding
  | .nearestEven, _ => .nearestEven
  | .up, neg => if neg then .down else .up
  | .down, neg => if neg then .up else .down

/-- The code of a sign and a magnitude code. -/
abbrev FFormat.sign (f : FFormat) (neg : Bool) (mag : Nat) : Nat := b2n neg * 2 ^ (f.eb + f.mb) + mag

/-- Conversion under R130: round once; a magnitude beyond the largest finite value becomes the largest finite value;
an infinity stays one where the target has it and becomes the largest finite value otherwise; NaN becomes the
target's NaN, or 0 where it has none. -/
def FFormat.convert (f : FFormat) (r : Rounding) : FVal → Nat
  | .nan => f.nanCode.getD 0
  | .inf neg => f.sign neg (f.infCode.getD f.maxCode)
  | .fin neg m e => f.sign neg (min (f.roundMag (r.ofSign neg) m e) f.maxCode)

/-- Rounding of an arithmetic result to FP32: overflow gives infinity under nearest (R305). -/
def FFormat.arith (f : FFormat) (r : Rounding) : FVal → Nat
  | .nan => f.nanCode.getD 0
  | .inf neg => f.sign neg (f.infCode.getD f.maxCode)
  | .fin neg m e =>
    let c := f.roundMag (r.ofSign neg) m e
    f.sign neg (if c > f.maxCode then (if r.ofSign neg = .down then f.maxCode else f.infCode.getD f.maxCode) else c)

/-- Negation. -/
def FVal.neg : FVal → FVal
  | .nan => .nan
  | .inf s => .inf (!s)
  | .fin s m e => .fin (!s) m e

/-- Absolute value. -/
def FVal.abs : FVal → FVal
  | .nan => .nan
  | .inf _ => .inf false
  | .fin _ m e => .fin false m e

/-- Exact product. -/
def FVal.mul : FVal → FVal → FVal
  | .nan, _ => .nan
  | _, .nan => .nan
  | .inf a, .inf b => .inf (a != b)
  | .inf a, .fin b m _ => if m = 0 then .nan else .inf (a != b)
  | .fin a m _, .inf b => if m = 0 then .nan else .inf (a != b)
  | .fin a m e, .fin b n f => .fin (a != b) (m * n) (e + f)

/-- Exact sum; an exact zero of opposite signs is +0 (`down` gives -0). -/
def FVal.add (r : Rounding) : FVal → FVal → FVal
  | .nan, _ => .nan
  | _, .nan => .nan
  | .inf a, .inf b => if a = b then .inf a else .nan
  | .inf a, .fin .. => .inf a
  | .fin .., .inf b => .inf b
  | .fin a m e, .fin b n f =>
    let g := min e f
    let x : Int := (m : Int) * 2 ^ (e - g).toNat * (if a then -1 else 1)
    let y : Int := (n : Int) * 2 ^ (f - g).toNat * (if b then -1 else 1)
    let z := x + y
    if z = 0 then
      .fin (if m = 0 ∧ n = 0 then (if a = b then a else r = .down) else r = .down) 0 g
    else .fin (decide (z < 0)) z.natAbs g

/-- Exact quotient to `k` extra bits, the last of them sticky. -/
def FVal.div : FVal → FVal → FVal
  | .nan, _ => .nan
  | _, .nan => .nan
  | .inf _, .inf _ => .nan
  | .inf a, .fin b _ _ => .inf (a != b)
  | .fin a _ _, .inf b => .fin (a != b) 0 0
  | .fin a m e, .fin b n f =>
    if n = 0 then (if m = 0 then .nan else .inf (a != b))
    else if m = 0 then .fin (a != b) 0 0
    else
      let k := 32 + Nat.log2 n + 1
      let q := m * 2 ^ k / n
      let s := m * 2 ^ k % n
      .fin (a != b) (2 * q + b2n (s ≠ 0)) (e - f - (k : Int) - 1)

/-- Order of two data, neither NaN, as signed values with -0 equal to +0. -/
def FVal.lt : FVal → FVal → Bool
  | .nan, _ => false
  | _, .nan => false
  | .inf a, .inf b => a && !b
  | .inf a, .fin .. => a
  | .fin .., .inf b => !b
  | .fin a m e, .fin b n f =>
    let g := min e f
    let x : Int := (m : Int) * 2 ^ (e - g).toNat * (if a then -1 else 1)
    let y : Int := (n : Int) * 2 ^ (f - g).toNat * (if b then -1 else 1)
    decide (x < y)

/-- A single-precision datum as its code. -/
abbrev F32 := BitVec 32

/-- The datum of an FP32 code. -/
abbrev F32.val (x : F32) : FVal := fp32.decode x.toNat

/-- An arithmetic result rounded to FP32, nearest even. -/
abbrev F32.of (v : FVal) : F32 := BitVec.ofNat 32 (fp32.arith .nearestEven v)

/-- A result rounded to FP32 towards +infinity (R299). -/
abbrev F32.ofUp (v : FVal) : F32 := BitVec.ofNat 32 (fp32.arith .up v)

def F32.zero : F32 := 0#32
def F32.one : F32 := 0x3F800000#32
def F32.posInf : F32 := 0x7F800000#32
def F32.negInf : F32 := 0xFF800000#32
def F32.qnan : F32 := 0x7FC00000#32

/-- Is the code a NaN? -/
def F32.isNan (x : F32) : Bool := x.val = .nan

def F32.add (x y : F32) : F32 := F32.of (.add .nearestEven x.val y.val)
def F32.sub (x y : F32) : F32 := F32.of (.add .nearestEven x.val y.val.neg)
def F32.mul (x y : F32) : F32 := F32.of (.mul x.val y.val)
def F32.div (x y : F32) : F32 := F32.of (.div x.val y.val)
/-- x * y + z rounded once. -/
def F32.fma (x y z : F32) : F32 := F32.of (.add .nearestEven (.mul x.val y.val) z.val)
def F32.lt (x y : F32) : Bool := FVal.lt x.val y.val
/-- The larger of two data; a NaN operand gives NaN, and -0 is below +0 (R338). -/
def F32.max (x y : F32) : F32 :=
  if x.isNan || y.isNan then .qnan
  else if F32.lt x y then y else if F32.lt y x then x else x &&& y
/-- The smaller of two data; a NaN operand gives NaN, and -0 is below +0 (R338). -/
def F32.min (x y : F32) : F32 :=
  if x.isNan || y.isNan then .qnan
  else if F32.lt x y then x else if F32.lt y x then y else x ||| y

/-- A signed integer rounded to FP32 (R286, R289). -/
def F32.ofInt (i : Int) : F32 := F32.of (.fin (decide (i < 0)) i.natAbs 0)

/-- Integer square root by bits, from bit `k - 1` downwards. -/
def isqrtBits : Nat → Nat → Nat → Nat
  | 0, acc, _ => acc
  | k + 1, acc, v =>
    let t := acc + 2 ^ k
    isqrtBits k (if t * t ≤ v then t else acc) v

/-- Integer n-th root by bits, from bit `k - 1` downwards. -/
def irootBits (n : Nat) : Nat → Nat → Nat → Nat
  | 0, acc, _ => acc
  | k + 1, acc, v =>
    let t := acc + 2 ^ k
    irootBits n k (if t ^ n ≤ v then t else acc) v

/-- 1/sqrt(d) rounded to nearest FP32 (Table 10-2, scale 0). -/
def F32.rsqrt (d : Nat) : F32 :=
  let v := 2 ^ 120 / d
  let q := isqrtBits 61 0 v
  F32.of (.fin false (2 * q + b2n (q * q * d ≠ 2 ^ 120)) (-61))

/-- 2^(-p/n), correctly rounded to FP32 (R286, GEOMETRIC). -/
def F32.pow2Neg (p n : Nat) : F32 :=
  let w := p / n
  let f := p % n
  -- 2^(-f/n) lies in (1/2, 1]: its first 40 bits are the n-th root of 2^(40 n - f)
  let q := irootBits n 41 0 (2 ^ (40 * n - f))
  F32.of (.fin false (2 * q + b2n (f ≠ 0)) (-41 - (w : Int)))

/-- The exponential of R279: exactly 1 at 0, exactly 0 at -infinity, 0 for a result below 2^-126, and the engine's own
value (within 2 ulp; Config.expValue) elsewhere. -/
def F32.exp (x : F32) : F32 :=
  if x.isNan then .qnan
  else if x = .zero ∨ x = 0x80000000#32 then .one
  else if x = .negInf then .zero
  else
    let r := Config.expValue x
    if r.toNat % 2 ^ 31 < 2 ^ 23 then .zero else r

/-- e(a - b), which is exactly 1 whenever a = b, also when both are +infinity (R279). -/
def F32.expDiff (a b : F32) : F32 :=
  if a.isNan || b.isNan then .qnan else if a = b then .one else F32.exp (F32.sub a b)

/-- The hyperbolic tangent of R287: odd, within 2 ulp (Config.tanhValue), and ±infinity map to ±1. -/
def F32.tanh (x : F32) : F32 :=
  if x.isNan then .qnan
  else
    let s := x &&& 0x80000000#32
    let a := x &&& 0x7FFFFFFF#32
    if a = .posInf then s ||| .one
    else if a = .zero then x
    else s ||| (Config.tanhValue a &&& 0x7FFFFFFF#32)

end Sys2Proof.Machine
end

