-- ==== Sys2Proof/Machine/Formats.lean ====
section
/-! DEFINITION. Formats.lean: the sixteen number formats, the layout of a layer-page, and conversion between formats
(Number formats and compression codecs, R126 to R131, R139 to R141; R97, R98 and R129 for the layout). -/
namespace Sys2Proof.Machine

/-- The geometry of a namespace's layer-pages: tokens per block, layers, KV heads held here, channels, format code and
whether a page holds one latent vector per token (Table 4-2). -/
structure Geo where
  b : Nat
  l : Nat
  h : Nat
  d : Nat
  fmt : Nat
  latent : Bool
  deriving DecidableEq, Repr

/-- The element width u of a format code, in bits (R97, Table 5-1). -/
def elemWidth : Nat → Nat
  | 0x0 => 32
  | 0x1 | 0x2 => 16
  | 0x3 | 0x4 | 0x8 | 0xB | 0xC => 8
  | 0x5 | 0x6 | 0x9 => 6
  | 0x7 | 0xA | 0xD => 4
  | 0xF => 3
  | 0xE => 2
  | _ => 0

/-- The sub-regions of a page: K and V, or K alone in a LATENT page (R98, R129). -/
def Geo.subs (g : Geo) : Nat := if g.latent then 1 else 2

/-- Bytes of the element region under format `f` (R97). -/
def Geo.elemBytes (g : Geo) (f : Nat) : Nat := g.subs * g.h * g.b * g.d * elemWidth f / 8

/-- Element rows in the page: 32 channels of one token and head each (R98). -/
def Geo.rows (g : Geo) : Nat := g.subs * g.h * g.b * (g.d / 32)

/-- Bytes of side data under format `f` (Table 5-2). -/
def Geo.sideBytes (g : Geo) (f : Nat) : Nat :=
  match f with
  | 0x8 | 0x9 | 0xA | 0xB => g.rows
  | 0xC => 2 * g.subs * g.h * g.d
  | 0xD => 4 * g.rows
  | 0xF => 2 * g.rows
  | _ => 0

/-- Where the side data starts: the element region rounded up to 64 bytes (R129). -/
def Geo.sideBase (g : Geo) (f : Nat) : Nat := roundUp (g.elemBytes f) 64

/-- Bytes of a page: element region, padding and side data (R129). -/
def Geo.pageBytes (g : Geo) (f : Nat) : Nat := g.sideBase f + g.sideBytes f

/-- The allocated size of a layer-page, in whole 4 KiB granules and at least one (R96, R97). -/
def Geo.allocBytes (g : Geo) (f : Nat) : Nat := max 4096 (roundUp (g.pageBytes f) 4096)

/-- The delivered size Q of a layer-page: element region and side data, each rounded up to 64 bytes (R246). -/
def Geo.deliveredBytes (g : Geo) (f : Nat) : Nat := g.sideBase f + roundUp (g.sideBytes f) 64

/-- The index of the element row that holds channel block `m` of token `t` of head `hd` of sub-region `kv` (R98, R129:
row_off / 4u over the whole element region). -/
def Geo.rowIndex (g : Geo) (kv hd t m : Nat) : Nat :=
  (kv * g.h + hd) * (g.b * g.d / 32) + (t / 16) * (16 * g.d / 32) + m * 16 + t % 16

/-- The byte offset of an element row (R98: 4u bytes each). -/
def rowOffset (f row : Nat) : Nat := row * 4 * elemWidth f

/-- Which sub-region, head, token and channel block an element row holds. -/
def Geo.rowPlace (g : Geo) (row : Nat) : Nat × Nat × Nat × Nat :=
  let per := g.b * g.d / 32
  let sub := row / per
  let w := row % per
  let grp := w / (16 * g.d / 32)
  let x := w % (16 * g.d / 32)
  (sub / g.h, sub % g.h, grp * 16 + x % 16, x / 16)

/-- The code of element `i` of a row read as a little-endian integer (R127). -/
def elemCode (f rowInt i : Nat) : Nat := rowInt / 2 ^ (elemWidth f * i) % 2 ^ elemWidth f

/-- A two's complement code as an integer. -/
def sint (w c : Nat) : Int := if c < 2 ^ (w - 1) then (c : Int) else (c : Int) - 2 ^ w

/-- An integer as an exact datum. -/
def FVal.ofInt (i : Int) (e : Int) : FVal := .fin (decide (i < 0)) i.natAbs e

/-- The value of an E8M0 scale code: 2^(e - 127), and NaN at 0xFF (R126). -/
def e8m0 (c : Nat) : FVal := if c = 0xFF then .nan else .fin false 1 ((c : Int) - 127)

/-- The element's own datum before any scale: floating point, or the scaled integers of Table 5-1. -/
def plainElem (f c : Nat) : FVal :=
  match f with
  | 0x0 => fp32.decode c
  | 0x1 => bf16.decode c
  | 0x2 => fp16.decode c
  | 0x3 | 0x8 => e4m3.decode c
  | 0x4 => e5m2.decode c
  | 0x5 => e3m2.decode c
  | 0x6 | 0x9 => e2m3.decode c
  | 0x7 | 0xA => e2m1.decode c
  | 0xB => FVal.ofInt (sint 8 c) (-6)
  | 0xC => FVal.ofInt (sint 8 c) 0
  | 0xD => FVal.ofInt c 0
  | _ => .nan

/-- The LQ3 element of code `c` under scale `x` (Table 5-3): X times 2^(K-3), and under a scale of either zero a zero that
carries the element's SIGN bit (R129). -/
def lq3Elem (x : FVal) (c : Nat) : FVal :=
  let s := bit c 2
  match x with
  | .fin _ 0 _ => .fin s 0 0
  | _ => .mul x (.fin s 1 ((c % 4 : Nat) - (3 : Int)))

/-- The sign of a plain NaN code, kept in the FP32 NaN it decodes to, as R128 keeps it when it writes MXFP8. -/
def nanOf (neg : Bool) : F32 := if neg then 0xFFC00000#32 else F32.qnan

/-- A decoded datum as FP32: rounded once, and a NaN with the sign bit of the code it came from. -/
def elemF32 (f code : Nat) (v : FVal) : F32 :=
  match v with
  | .nan => nanOf (bit code (elemWidth f - 1) && plainElem f code = .nan)
  | v => F32.of v

/-- One element decoded to FP32 (R128), from its code and its scale and offset codes.  KVQ is decoded through its
codebook elsewhere (R132). -/
def decodeElem (f code scale offset : Nat) : F32 :=
  match f with
  | 0x8 | 0x9 | 0xA | 0xB => elemF32 f code (.mul (plainElem f code) (e8m0 scale))
  | 0xC => F32.of (.mul (plainElem f code) (fp16.decode scale))
  | 0xD => F32.of (.add .nearestEven (.mul (plainElem f code) (fp16.decode scale)) (fp16.decode offset))
  | 0xF => F32.of (lq3Elem (e4m3.decode scale) code)
  | _ => elemF32 f code (plainElem f code)

/-- The scale and offset codes that cover element `i` of an element row (Table 5-2); `rd` reads the page. -/
def Geo.scaleOf (g : Geo) (f : Nat) (rd : Nat → Nat → Nat) (row i : Nat) : Nat × Nat :=
  let base := g.sideBase f
  match f with
  | 0x8 | 0x9 | 0xA | 0xB => (rd (base + row) 1, 0)
  | 0xC =>
    let (kv, hd, _, m) := g.rowPlace row
    (rd (base + 2 * ((kv * g.h + hd) * g.d + 32 * m + i)) 2, 0)
  | 0xD => (rd (base + 4 * row) 2, rd (base + 4 * row + 2) 2)
  | 0xF => (rd (base + 2 * row + i / 16) 1, 0)
  | _ => (0, 0)

/-- Element `i` of an element row of a page stored in format `f`, decoded to FP32 (R127 to R129). -/
def Geo.elem (g : Geo) (f : Nat) (rd : Nat → Nat → Nat) (row i : Nat) : F32 :=
  let code := elemCode f (rd (rowOffset f row) (4 * elemWidth f)) i
  let so := g.scaleOf f rd row i
  decodeElem f code so.1 so.2

/-- Channel `c` of token `t` of head `hd` of sub-region `kv` of a page in a plain or scaled format. -/
def Geo.channel (g : Geo) (f : Nat) (rd : Nat → Nat → Nat) (kv hd t c : Nat) : F32 :=
  g.elem f rd (g.rowIndex kv hd t (c / 32)) (c % 32)

/-- The KVQ code of subspace `j` of token `t` (R127: eight 8-bit codes a row). -/
def Geo.kvqCode (g : Geo) (rd : Nat → Nat → Nat) (kv hd t j : Nat) : Nat :=
  rd (rowOffset 0xE (g.rowIndex kv hd t (j / 8)) + j % 8) 1

/-! ### Choosing scales (R131, Table 5-4) -/

/-- The largest finite magnitude of a list of data, as an exact datum. -/
def amax (l : List FVal) : FVal :=
  l.foldl (fun a x => match x with
    | .fin _ m e => if FVal.lt a (.fin false m e) then .fin false m e else a
    | _ => a) (.fin false 0 0)

/-- Does the list hold a NaN? -/
def anyNan (l : List FVal) : Bool := l.any (fun x => x = .nan)

/-- The largest magnitude of an MX element (Table 5-4): 448, 7.5, 6 and 127/64. -/
def mxEmax : Nat → FVal
  | 0x8 => .fin false 448 0
  | 0x9 => .fin false 15 (-1)
  | 0xA => .fin false 6 0
  | _ => .fin false 127 (-6)

/-- The smallest k from `lo` up, in `n` tries, with amax ≤ Emax * 2^k (Table 5-4). -/
def mxExponent (emax a : FVal) : Nat → Int → Int
  | 0, k => k
  | n + 1, k => if FVal.lt (FVal.mul emax (.fin false 1 k)) a then mxExponent emax a n (k + 1) else k

/-- The E8M0 scale code of a block (Table 5-4); 0x7F for a block of zeros.  A NaN makes the scale NaN in the targets
that encode NaN only there; MXFP8 keeps a NaN in the element (R128, R130). -/
def mxScale (f : Nat) (l : List FVal) : Nat :=
  if anyNan l && f != 0x8 then 0xFF
  else
    let a := amax l
    if a = .fin false 0 0 then 0x7F else (mxExponent (mxEmax f) a 254 (-127) + 127).toNat

/-- x * 2^-k, the element's value before its code is chosen. -/
def unscale (x : FVal) (scale : Nat) : FVal := .mul x (.fin false 1 (127 - (scale : Int)))

/-- The nearest integer, ties to even, of an exact datum, clamped to [lo, hi]; infinities clamp. -/
def roundInt (x : FVal) (lo hi : Int) : Int :=
  match x with
  | .nan => 0
  | .inf s => if s then lo else hi
  | .fin s m e =>
    let q : Nat :=
      if 0 ≤ e then m * 2 ^ e.toNat
      else
        let k := (-e).toNat
        let q := m / 2 ^ k
        let r := 2 * (m % 2 ^ k)
        q + b2n (decide (r > 2 ^ k) || (decide (r = 2 ^ k) && q % 2 == 1))
    let i : Int := if s then -(q : Int) else q
    max lo (min hi i)

/-- The element code of a value for an MX target under a scale code (R130, Table 5-1); the device never writes 0x80
as an MXINT8 element. -/
def mxElem (f : Nat) (x : FVal) (scale : Nat) : Nat :=
  let y := unscale x scale
  match f with
  | 0x8 => match x with
    | .nan => 0x7F
    | _ => e4m3.convert .nearestEven y
  | 0x9 => e2m3.convert .nearestEven y
  | 0xA => e2m1.convert .nearestEven y
  | _ => ((roundInt (.mul y (.fin false 1 6)) (-127) 127) % 256).toNat

/-- Sign of a datum, for the NaN codes that keep it (R128). -/
def signBit32 (x : F32) : Nat := x.toNat / 2 ^ 31

/-- The FP16 code of a scale rounded towards +infinity (Table 5-4). -/
def scaleUp16 (v : FVal) : Nat := fp16.convert .up v

/-- The three magnitudes of LQ3 compared with |x|: the nearest of X/8, X/4, X/2 and X, ties to the larger. -/
def lq3Code (x : F32) (scale : Nat) : Nat :=
  let v := x.val
  let s := signBit32 x
  let sv := e4m3.decode scale
  match v with
  | .fin _ m _ =>
    if m = 0 || scale % 128 = 0 then s * 4
    else
      -- midpoints 3X/16, 3X/8 and 3X/4; at a midpoint the larger magnitude wins
      let ge := fun k : Int => !FVal.lt v.abs (.mul sv (.fin false 3 k))
      s * 4 + (if ge (-2) then 3 else if ge (-3) then 2 else if ge (-4) then 1 else 0)
  | .inf _ => if scale % 128 = 0 then s * 4 else s * 4 + 3
  | .nan => s * 4

/-- The least and greatest finite data of a list (INT4, Table 5-4). -/
def minMax (l : List FVal) : FVal × FVal :=
  let fin := l.filter (fun x => match x with | .fin .. => true | _ => false)
  match fin with
  | [] => (.fin false 0 0, .fin false 0 0)
  | a :: t => t.foldl (fun p x => (if FVal.lt x p.1 then x else p.1, if FVal.lt p.2 x then x else p.2)) (a, a)

/-- FP16 codes of the INT4 scale and offset of a row (Table 5-4); a NaN in the row makes both NaN. -/
def int4Scale (l : List FVal) : Nat × Nat :=
  if anyNan l then (0x7E00, 0x7E00)
  else
    let (mn, mx) := minMax l
    let diff := FVal.add .nearestEven mx mn.neg
    let z := fp16.convert .nearestEven mn
    if !FVal.lt mn mx then (0, z) else (scaleUp16 (.div diff (.fin false 15 0)), z)

/-- q = clamp(round((x - z) / s), 0, 15) with ties to even (Table 5-4). -/
def int4Code (x : FVal) (scale offset : Nat) : Nat :=
  if scale % 2 ^ 15 = 0 then 0
  else (roundInt (.div (.add .nearestEven x (fp16.decode offset).neg) (fp16.decode scale)) 0 15).toNat

/-- The element code of a unit whose scale is NaN: the manual gives the scale alone, so the code is free, but the device never
writes 0x80 in MXINT8 and INT8 (R128, R130; log entry 147). -/
def nanCode (f : Nat) (x : F32) : Nat :=
  let c := Config.nanUnitCode f x % 2 ^ elemWidth f
  if elemWidth f = 8 ∧ c = 0x80 then 0 else c

/-- Is a scale code of a target a NaN (Table 5-1)? -/
def scaleNan (f scale : Nat) : Bool :=
  match f with
  | 0x8 | 0x9 | 0xA | 0xB => scale = 0xFF
  | 0xC | 0xD => fp16.decode scale = .nan
  | _ => e4m3.decode scale = .nan

/-- One row of 32 elements converted to format `f` (R130, R131): the element codes, the side-data bytes of the row, and
how many NaN elements became 0 (the format event counter).  The per-channel scales of INT8 come from `int8`. -/
def convertRow (f : Nat) (row : List F32) (int8 : List Nat) : List Nat × List Nat × Nat :=
  let v := row.map F32.val
  match f with
  | 0x0 => (row.map (fun x => if x.isNan then F32.qnan.toNat else x.toNat), [], 0)
  | 0x1 => (v.map (bf16.convert .nearestEven), [], 0)
  | 0x2 => (v.map (fp16.convert .nearestEven), [], 0)
  | 0x3 => (v.map (e4m3.convert .nearestEven), [], 0)
  | 0x4 => (v.map (e5m2.convert .nearestEven), [], 0)
  | 0x5 => (v.map (e3m2.convert .nearestEven), [], (v.filter (· = .nan)).length)
  | 0x6 => (v.map (e2m3.convert .nearestEven), [], (v.filter (· = .nan)).length)
  | 0x7 => (v.map (e2m1.convert .nearestEven), [], (v.filter (· = .nan)).length)
  | 0x8 =>
    let s := mxScale f v
    (row.map (fun x => if x.isNan then 0x7F + 128 * signBit32 x else mxElem f x.val s), [s], 0)
  | 0x9 | 0xA | 0xB =>
    let s := mxScale f v
    (row.map (fun x => if scaleNan f s then nanCode f x else mxElem f x.val s), [s], 0)
  | 0xC =>
    ((row.zip int8).map (fun p =>
      if scaleNan f p.2 then nanCode f p.1
      else if p.2 % 2 ^ 15 = 0 then 0
      else ((roundInt (.div p.1.val (fp16.decode p.2)) (-127) 127) % 256).toNat), [], 0)
  | 0xD =>
    let (s, z) := int4Scale v
    (row.map (fun x => if scaleNan f s then nanCode f x else int4Code x.val s z), [s % 256, s / 256, z % 256, z / 256], 0)
  | 0xF =>
    let half := fun (l : List F32) =>
      let w := l.map F32.val
      if anyNan w then 0x7F else e4m3.convert .up (amax w)
    let s0 := half (row.take 16)
    let s1 := half (row.drop 16)
    let code := fun (s : Nat) (x : F32) => if scaleNan f s then nanCode f x else lq3Code x s
    ((row.take 16).map (code s0) ++ (row.drop 16).map (code s1), [s0, s1], 0)
  | _ => (row.map (fun _ => 0), [], 0)

/-- The codes of a row packed as the little-endian integer of R127. -/
def packRow (f : Nat) (codes : List Nat) : Nat :=
  codes.reverse.foldl (fun a c => a * 2 ^ elemWidth f + c) 0

/-- The FP16 scale of INT8 for one sub-region, head and channel: amax/127 over the block's tokens, rounded towards
+infinity; 0 for a channel of zeros; NaN when an element is NaN (R130, Table 5-4). -/
def int8Scale (l : List F32) : Nat :=
  let v := l.map F32.val
  if anyNan v then 0x7E00
  else
    let a := amax v
    if a = .fin false 0 0 then 0 else scaleUp16 (.div a (.fin false 127 0))

/-- A page converted from format `f` to format `f'`: its element region, padding and side data as bytes, and the count
of NaN elements written as 0 (R130, R131, R139 to R141). -/
def Geo.convertPage (g : Geo) (f f' : Nat) (rd : Nat → Nat → Nat) : List Byte × Nat :=
  let scales := if f' = 0xC then
      (List.range (g.subs * g.h)).flatMap (fun sh => (List.range g.d).map (fun c =>
        int8Scale ((List.range g.b).map (fun t => g.channel f rd (sh / g.h) (sh % g.h) t c))))
    else []
  let rows := (List.range g.rows).map (fun r =>
    let (kv, hd, _, m) := g.rowPlace r
    let chan := (kv * g.h + hd) * g.d + 32 * m
    convertRow f' ((List.range 32).map (fun i => g.elem f rd r i)) ((scales.drop chan).take 32))
  let elems := rows.flatMap (fun x => (List.range (4 * elemWidth f')).map (fun k =>
    BitVec.ofNat 8 (packRow f' x.1 / 256 ^ k)))
  let pad := List.replicate (g.sideBase f' - g.elemBytes f') 0#8
  let side :=
    if f' = 0xC then scales.flatMap (fun s => [BitVec.ofNat 8 s, BitVec.ofNat 8 (s / 256)])
    else rows.flatMap (fun x => x.2.1.map (BitVec.ofNat 8))
  (elems ++ pad ++ side, (rows.map (fun x => x.2.2)).foldl (· + ·) 0)

/-- The re-quantisation target of a stored format under a profile (Table 5-12); the format itself where the page stays. -/
def requantTarget (profile f : Nat) : Nat :=
  match profile, f with
  | 1, 0x0 | 1, 0x1 | 1, 0x2 => 0x8
  | 2, 0x0 | 2, 0x1 | 2, 0x2 => 0x9
  | 1, 0x3 | 1, 0x4 | 1, 0x8 => 0x9
  | 2, 0x3 | 2, 0x4 | 2, 0x8 => 0xA
  | 1, 0xB | 1, 0xC => 0x9
  | 2, 0xB | 2, 0xC => 0xD
  | 2, 0x5 | 2, 0x6 | 2, 0x9 => 0xA
  | 3, 0xE | 3, 0xF => f
  | 3, _ => 0xF
  | _, _ => f

/-- The key summary of a layer-page (R100): for each head, D channel minima then D channel maxima of K as BF16 codes,
each minimum rounded towards -infinity and each maximum towards +infinity; a channel that holds a NaN gets -infinity
and +infinity. -/
def Geo.summary (g : Geo) (chan : Nat → Nat → Nat → F32) : List Nat :=
  (List.range g.h).flatMap (fun hd =>
    let ch := fun c => (List.range g.b).map (fun t => (chan hd t c).val)
    let least := fun (l : List FVal) => match l with
      | [] => FVal.fin false 0 0
      | a :: t => t.foldl (fun p x => if FVal.lt x p then x else p) a
    let most := fun (l : List FVal) => match l with
      | [] => FVal.fin false 0 0
      | a :: t => t.foldl (fun p x => if FVal.lt p x then x else p) a
    (List.range g.d).map (fun c => if anyNan (ch c) then 0xFF80 else bf16.arith .down (least (ch c))) ++
    (List.range g.d).map (fun c => if anyNan (ch c) then 0x7F80 else bf16.arith .up (most (ch c))))

end Sys2Proof.Machine
end

