-- ==== Sys2Proof/Machine/State.lean ====
section
/-! DEFINITION. State.lean: everything the manual gives the machine, as plain data, and the machine right after reset.
A sub-structure holds the state of one chapter. -/
namespace Sys2Proof.Machine

/-- Sparse bytes: addresses strictly rising, no entry equal to 0, which is what an unlisted address reads as. -/
abbrev Mem := List Host.Cell

/-! ### The deck fabric (chapter 1) -/

/-- The traffic classes that every fabric link carries (R17). -/
inductive Traffic where
  | ctl | rsp | req | bulk
  deriving DecidableEq, Repr

/-- What a fabric message carries: an order to halt, a power-clamp order, the recall of a line group, a command that its queue's
span forwards and the completion that comes back (R20), data for an operation, its acknowledgement, and a store to a query window of
the other abutment (R17, R18, R280). -/
inductive FabBody where
  | halt
  | clamp (step : Nat)
  | recall (group : Nat)
  | command (tag : Nat)
  | reply (tag : Nat)
  | data (tag : Nat)
  | ack (tag : Nat)
  | store (window : Nat)
  deriving DecidableEq, Repr

/-- A fabric message: its class, what it carries, and the dies it comes from and goes to, as bits [15:8] of their locus codes. -/
structure FabMsg where
  cls : Traffic
  body : FabBody
  src : Nat
  dst : Nat
  deriving DecidableEq, Repr

/-- One direction of a link that has messages: those that wait at the sending die, oldest first, those on the wire, each with a
credit of its class, oldest first, and the turn of the REQ and BULK round robin. -/
structure FabLink where
  src : Nat
  dst : Nat
  waiting : List FabMsg
  flying : List FabMsg
  turn : Nat
  deriving DecidableEq, Repr

/-! ### Start-up (chapter 2) -/

/-- How far a cold start or a warm reset has come (Tables 2-1 and 2-6). -/
inductive Phase where
  | off            -- POR_N is low: held in cold reset
  | sensing        -- fuses sensed, entropy tested, boot ROM running
  | verified       -- an image slot is accepted; the other dies leave reset
  | linksTrained   -- deck fabric links trained, link keys set
  | up             -- READY.LINK and later
  | bootFailed     -- R37
  | tripped        -- R469
  | supplyHeld     -- R496
  deriving DecidableEq, Repr

/-- The classes of fuse words (Table 2-2). -/
inductive FuseClass where
  | debugLock | diagLock | rollback | bootDigestA | bootDigestB | repair | trim | identity
  deriving DecidableEq, Repr

/-- A fuse word: its index, its class and its two readings, against the low and the high reference (R34). -/
structure Fuse where
  index : Nat
  cls : FuseClass
  low : BitVec 32
  high : BitVec 32
  deriving DecidableEq, Repr

/-- Start-up state: pins, fuses, boot flash, DEV_READY and the times that timed steps need. -/
structure Boot where
  phase : Phase
  porN : Bool
  haltN : Bool                    -- HALT_N asserted
  perst : Nat                     -- bit p: PERST_N of port p is deasserted
  slotStrap : Nat
  tray : Nat                      -- the device's own tray number, which the fabric manager assigns (R22)
  fuses : List Fuse
  marginalSecurity : List Nat     -- marginal words applied to security words
  marginalOther : List Nat        -- marginal repair, trim and identity words of the last sensing
  marginalApplied : List Nat      -- marginal repair and trim words in use: those of the last reset (R35)
  slotA : Option Image
  slotB : Option Image
  slotAValid : Bool
  slotBValid : Bool
  selector : Slot
  running : Option Slot
  link : Bool
  deck : Bool
  full : Bool
  bootFail : Bool
  marginal : Bool
  warm : Bool
  halted : Bool
  linkwatch : Bool
  stackOk : Nat
  causewayOk : Nat
  deckTrained : Bool              -- HBM training done since the last cold start
  memoryActive : Bool
  ddrDone : Bool
  nandDone : Bool
  scanDone : Bool
  mounted : Bool
  stacksAtStart : Nat             -- stacks in service at the last cold start (R193)
  dimms : List (Nat × Nat × Nat)  -- channel, DIMMs, bytes per DIMM, of the channels that trained
  ddrRate : Nat
  livePort : Nat
  waking : Bool
  awakeDeck : Bool
  awakeCauseway : Bool
  awakePorts : Bool
  ethUp : Nat
  claims : Nat                    -- claims since the last cold start
  deriving DecidableEq, Repr

/-- Device time and PTP (R10, R478). -/
structure Clock where
  now : Nat
  locked : Bool
  lastPps : Option Nat
  role : PtpRole
  offset : Int
  wakeAt : Nat
  profile : Nat
  domain : Nat
  ppsOut : Bool
  deriving DecidableEq, Repr

/-! ### Queue pairs and operations (chapter 3) -/

/-- Status codes (Table 3-11). -/
inductive Status where
  | ok | partialDone | inProgress | aborted | retry | noBuffer | recompute | badOpcode | badParam | badHandle
  | outOfRange | immutable | staleEpoch | versionGone | checkFailed | stagingBusy | denied | notClaimed
  | quotaExceeded | entropyUnavailable | groupDegraded | deadlineMissed | mediaError | integrityError | poisoned
  | deviceHalted
  deriving DecidableEq, Repr

/-- A completion as posted (Table 3-6). -/
structure Cqe where
  cmdTag : Nat
  status : Status
  sq : Nat
  sqHead : Nat
  result : Nat
  progress : Nat
  load : Nat
  opTag : Nat
  deriving DecidableEq, Repr

/-- A completion that waits for a free CQ slot or for its link: what fences ask of its command, and the span its load word tells
of (R60, R65, R69). -/
structure HeldCqe where
  cqe : Cqe
  order : Nat
  handle : Nat
  deriving DecidableEq, Repr

/-- A queue pair (R55 to R62). -/
structure QPair where
  index : Nat
  owner : Fn
  ctl : Bool
  weight : Nat
  partition : Nat
  vector : Nat
  sqBase : Nat
  cqBase : Nat
  sqDepth : Nat
  cqDepth : Nat
  sqHead : Nat
  sqTail : Nat
  cqTail : Nat          -- next CQ slot the device writes
  cqHead : Nat
  cqCount : Nat         -- completions not yet released by CQ_HEAD
  phase : Bool
  error : Bool
  errKind : Nat
  held : List HeldCqe   -- completions that wait for free CQ slots
  turns : Nat           -- turns left in this round
  deleting : Bool
  pend : Nat            -- this CQ's events that are pending on its vector (R451)
  deriving DecidableEq, Repr

/-- The QM_ADMIN registers of one function (R480). -/
structure AdminRegs where
  fn : Fn
  sqBase : Nat
  cqBase : Nat
  depth : Nat
  enable : Bool
  vector : Nat
  ready : Bool
  busy : Bool
  fail : Nat
  index : Nat
  deriving DecidableEq, Repr

/-- A reference of a chain to one of its blocks (R102, R105, R120, R122). -/
inductive BRef where
  | held (block : Nat)
  | dropped (key parent : BitVec 128) (version group : Nat) (tokens : List Nat)   -- page and group version at the drop
  | left (key : Option (BitVec 128))      -- left the window (R120); none where the chain opened beyond it
  deriving DecidableEq, Repr

/-- One version of a chain: its sealed references from block 0, its full unsealed blocks and its open tail, and the
committed length N (R102, R103). -/
structure View where
  ns : Nat
  gen : Nat
  refs : List BRef
  unsealed : List Nat
  tail : Option Nat        -- none in a version that ends before the tail
  n : Nat
  version : Nat
  deriving DecidableEq, Repr

/-- A tail window (R107, R108): base address, the blocks that back its two slots, and the rebindings under way. -/
structure Window where
  base : Nat
  rebinding : List (Nat × Nat)     -- slot, latest end
  deriving DecidableEq, Repr

/-- A chain (R102, R104). -/
structure Chain where
  slot : Nat
  gen : Nat
  view : View
  window : Option Window
  next : Option Nat            -- the block that backs the slot after the tail (R108)
  forkWait : Option Nat        -- the long FORK that still fills it (R116)
  lost : Option (Nat × Nat)    -- first block and count to report once with RECOMPUTE (R419)
  discard : Nat                -- status code of the last discarded store (Table 4-5)
  deriving DecidableEq, Repr

/-- What an operation waits for. -/
inductive Wait where
  | none
  | fence
  | buffer (p : Pool)
  | context                      -- a page-engine context, search slot or host transfer context (R27, R30)
  | promotion                    -- R214, R294
  | merge                        -- R306: the span awaits the piers' partials
  | vote                         -- R370
  | claimDeck                    -- R386 step 4
  | release                      -- R388
  | lease (id : Nat)             -- R222
  | counter                      -- R358
  | cascade (seq : Nat)          -- R189
  | ended                        -- waits for other operations to end
  | entropy                      -- R395
  | recall                       -- R333, R339: host lines are being recalled
  | link (n : Nat)               -- R401: the device's transfers wait until the link's streams are secure
  deriving DecidableEq, Repr

/-- States of a progress record (Table 3-12). -/
inductive RecState where
  | queued | running | paused | done | aborted | failed
  deriving DecidableEq, Repr

/-- What a probe found at one block: the block, if it is present, the key, the stop cause it would give, and its location
entry (R159, R161). -/
structure ProbeHit where
  block : Option Nat
  key : BitVec 128
  cause : Nat
  entry : Nat
  deriving DecidableEq, Repr

/-- How far a probe has come (R159): the blocks from f it has processed, the last key, block f - 1, the false hits, the
rest of the verified run it is inside, and why it stopped. -/
structure ProbeRun where
  found : List ProbeHit
  key : BitVec 128
  parent : Option Nat
  falseHits : Nat
  run : List Nat
  stop : Option Nat
  deriving DecidableEq, Repr

/-- The work a long or waiting operation still has before it (the units of its owning chapter). -/
inductive Work where
  | nothing
  | blocks (todo : List (Nat × Nat × Nat))     -- block index, first layer, layers
  | near (srcs : List Nat) (bad : Bool)        -- a near-memory operation: REDUCE's sources; a source was poisoned
  | listed (l : List (View × Nat × Nat))       -- ATTEND_SPARSE under LIST: each entry's version, Nk and position
  | probe (r : ProbeRun)
  | sealing (chain : Nat) (blocks : List Nat) (done : Nat)
  | slots (l : List Nat)
  | sent (l : List (Nat × Nat))                -- DELIVER: units sent, and when their last write left
  | taken (st : Status) (result : Nat)         -- its effect was had at acceptance (R137, R501, R502)
  | snapshot (slot : List Byte)                -- CNT_DUMP ONCE: the counters at acceptance (R445)
  deriving DecidableEq, Repr

/-- An operation in flight: an entry of the operation table (R27 to R29). -/
structure Op where
  tag : Nat
  inc : Nat
  order : Nat
  qp : Nat
  opcode : Nat
  pkt : BitVec 512
  time : Nat
  epoch : Nat
  started : Bool
  long : Bool
  state : RecState
  pause : Nat
  unitsTotal : Nat
  unitsDone : Nat
  result : Nat
  resume : Nat
  status : Status
  finished : Bool        -- every unit has ended; the final state is due (LONG_OP_FINAL)
  wait : Wait
  view : Option View     -- the implicit snapshot (R103)
  work : Work
  buffers : List (Pool × Nat)    -- buffers held: the pool and the part it came from (0 shared, 1-4 a class's floor)
  contexts : List Nat            -- piers on which it holds a page-engine context (R27)
  announced : Bool               -- its IN_PROGRESS completion is posted (R73)
  stopping : Option Status       -- stops at the end of the unit under way (R80)
  target : Option Nat            -- the port of its last data target in host memory (R19)
  tails : Option (List Chain)    -- the chains with windows, as a near-memory operation's acceptance found them (R103)
  deriving DecidableEq, Repr

/-- A progress record (Table 3-12). -/
structure ProgRec where
  tag : Nat
  generation : Nat
  inc : Nat
  cmdTag : Nat
  sq : Nat
  opcode : Nat
  state : RecState
  status : Status
  pause : Nat
  unitsTotal : Nat
  unitsDone : Nat
  result : Nat
  updated : Nat
  epoch : Nat
  resume : Nat
  deriving DecidableEq, Repr

/-- One span's tags: tags never assigned since reset start at `fresh`; `freed` holds the others, longest free first;
`incs` the incarnations of the tags (R73, R77). -/
structure TagPool where
  fresh : Nat
  freed : List Nat
  incs : List (Nat × Nat)
  deriving DecidableEq, Repr

/-- A request on a pool's wait list (R84): an operation by its tag, or a task of the device by 2^16 plus its number; its time of
acceptance, its requester's locus and its buffer class. -/
structure Waiter where
  time : Nat
  locus : Nat
  id : Nat
  cls : Nat
  deriving DecidableEq, Repr

/-- One buffer pool (R83 to R85): buffers in use from the shared part, then from the CTL, LATENCY, BULK and BACKGROUND
floors, and the requests that wait, oldest first. -/
structure BufPool where
  pool : Pool
  shared : Nat
  ctl : Nat
  latency : Nat
  bulk : Nat
  background : Nat
  waiters : List Waiter
  deriving DecidableEq, Repr

/-- Queue pairs, operations, records and buffers. -/
structure Queues where
  pairs : List QPair
  admin : List AdminRegs
  firstAdmin : Bool             -- some function has enabled since the last reset
  ops : List Op
  records : List ProgRec
  tags0 : TagPool
  tags1 : TagPool
  accepted : Nat                -- acceptance order
  pools : List BufPool
  granted : List (Nat × Pool × Nat)   -- buffers granted to tasks of the device: task, pool, part
  deriving DecidableEq, Repr

/-! ### Staging (chapter 3) -/

/-- One entry of a staged item: item code, entry index and the entry's bytes as a little-endian number. -/
structure Item where
  code : Nat
  index : Nat
  value : Nat
  deriving DecidableEq, Repr

/-- The open staging session (R87). -/
structure Session where
  id : Nat
  owner : Nat
  lease : Nat
  deadline : Nat
  staged : List Item
  deriving DecidableEq, Repr

/-- A commit accepted and not yet DONE (R89, R90). -/
structure Commit where
  tag : Nat
  revoke : Bool
  switchAt : Nat
  switched : Bool
  staged : List Item
  deriving DecidableEq, Repr

/-- Live settings, the session, the commit, the epoch, and the settings under which the command of the moment acts
(R86 to R92). -/
structure Staging where
  live : List Item
  old : List Item               -- the settings of the epoch before the current one
  session : Option Session
  nextSession : Nat
  commit : Option Commit
  epoch : Nat
  digest : Nat                  -- the configuration digest (R398)
  acting : Bool                 -- an operation of the epoch before the current one is at work (R86)
  deriving DecidableEq, Repr

/-! ### Namespaces, blocks, chains (chapter 4) -/

/-- Reuse statistics of a namespace (Table 7-3, Table 7-7). -/
structure NsStats where
  hist : List Nat
  probed : Nat
  verified : Nat
  promoted : Nat
  demoted : Nat
  dropped : Nat
  evicted : Nat
  encoded : List (Nat × Nat)   -- length before the codec and stored length of the last pages encoded
  recent : List (Bool × Nat)   -- the last 2^20 blocks probed, newest first: runs of verified and other blocks
  deriving DecidableEq, Repr

/-- Group states of a width-8 namespace (Table 13-4). -/
inductive GroupState where
  | forming | active | degraded | reconciling
  deriving DecidableEq, Repr

/-- A namespace (Table 4-2). -/
structure Namespace where
  index : Nat
  gen : Nat
  geo : Geo
  width : Nat
  member : Nat
  dropClass : Bool
  lowest : Nat
  partition : Nat
  tokenStore : Bool
  keySummary : Bool
  autoseal : Bool
  window : Nat
  sinks : Nat
  entryWidth : Nat
  salt : BitVec 128
  adapter : Nat
  codebook : Nat
  pierMask : Nat
  initialTier : Nat
  blockCode : Nat
  group : Nat              -- bank group
  deleting : Bool
  gstate : GroupState
  holders : Nat            -- bit m: member m is known to hold the namespace with matching parameters
  mismatch : Bool
  stats : NsStats
  deriving DecidableEq, Repr

/-- A layer-page (R99 to R101, R194): where it lies, its stored form and its bytes. -/
structure Page where
  layer : Nat
  tier : Nat
  home : Nat
  chan : Nat               -- the DDR channel of a page in the causeway (R94, R196)
  fmt : Nat
  requant : Bool
  codec : Bool
  stored : Nat
  version : Nat
  poison : List Nat        -- poisoned 64-byte lines
  summary : Option (List Nat)
  crc : Nat
  lease : Option Nat
  data : Mem
  deriving DecidableEq, Repr

/-- A block (R105, R164): sealed or not, its record and its layer-pages. -/
structure Block where
  id : Nat
  ns : Nat
  gen : Nat
  k : Nat
  sealed : Bool
  key : BitVec 128
  parent : BitVec 128
  sinkKey : Option (BitVec 128)
  tokens : List Nat
  pages : List Page
  groupVersion : Nat
  indexed : Bool
  prepared : Bool
  digest : Nat
  segment : Nat
  lastTouch : Nat
  touches : Nat
  reuse : Nat
  lastHit : Nat
  run : Option Nat
  recordBad : Bool         -- its block record cannot be read (Table 6-6, MEDIA)
  tokensBad : Bool         -- its token record is poisoned (R422)
  deriving DecidableEq, Repr

/-- A snapshot handle (R104, R115). -/
structure Snapshot where
  slot : Nat
  gen : Nat
  view : View
  expires : Option Nat
  expired : Bool
  forRegion : Bool
  deriving DecidableEq, Repr

/-- A pin (R104, R210): the blocks it covers and the tier it names. -/
structure Pin where
  slot : Nat
  gen : Nat
  blocks : List Nat
  expires : Nat
  tier : Option Nat
  partition : Nat
  ns : Nat                 -- the handle of its namespace
  deriving DecidableEq, Repr

/-- A loaded codebook set (R133, R134). -/
structure CodeSet where
  slot : Nat
  gen : Nat
  partition : Nat
  layers : Nat
  heads : Nat
  dim : Nat
  fmt : Nat
  image : Mem
  deriving DecidableEq, Repr

/-- The codebook loader registers of one host entry (Tables 5-6 to 5-10). -/
structure Loader where
  fn : Fn
  addr : Nat
  go : Bool
  action : Nat
  partition : Nat
  setId : Nat
  busy : Bool
  done : Bool
  code : Status
  result : Nat
  deriving DecidableEq, Repr

/-- Namespaces, blocks, chains, snapshots, pins and codebooks. -/
structure Store where
  namespaces : List Namespace
  nsGens : List (Nat × Nat)
  blocks : List Block
  chains : List Chain
  chainGens : List (Nat × Nat)
  snapshots : List Snapshot
  snapGens : List (Nat × Nat)
  pins : List Pin
  pinGens : List (Nat × Nat)
  sets : List CodeSet
  setGens : List (Nat × Nat)
  loaders : List Loader
  loads : List Fn               -- functions whose load waits or runs, in the order of GO
  unmapped : List (Nat × Nat × Nat)   -- tail windows gone with their chain: base, bytes, namespace handle (R119)
  deriving DecidableEq, Repr

/-! ### The prefix index (chapter 6) -/

/-- A bank's mode (R145). -/
inductive BankMode where
  | free | native | forerunner
  deriving DecidableEq, Repr

/-- A bank that is not FREE: mode, entry width, partition and its group or region (R145, R149). -/
structure Bank where
  num : Nat
  mode : BankMode
  width : Nat
  partition : Nat
  owner : Nat
  lost : Bool
  deriving DecidableEq, Repr

/-- A valid entry: its units as one number of w * 80 bits, their mask, the priority and the result pointer (R145). -/
structure Entry where
  bank : Nat
  pos : Nat
  key : Nat
  mask : Nat
  prio : Nat
  ptr : Nat
  deriving DecidableEq, Repr

/-- A run descriptor (R179): its blocks in order. -/
structure Run where
  slot : Nat
  blocks : List Nat
  deriving DecidableEq, Repr

/-- A collision record (R166): up to four block records. -/
structure Collision where
  slot : Nat
  blocks : List Nat
  deriving DecidableEq, Repr

/-- A bank group (R155). -/
structure BankGroup where
  num : Nat
  banks : List Nat
  width : Nat
  partition : Nat
  deriving DecidableEq, Repr

/-- A forerunner region (R183, R184). -/
structure Region where
  num : Nat
  gen : Nat
  die : Nat
  first : Nat
  banks : Nat
  width : Nat
  gap : Nat             -- G
  partition : Nat
  deriving DecidableEq, Repr

/-- A cascade search that waits for its upstream frame (R189): operation, sequence, local result and when it was ready. -/
structure CascadeSearch where
  tag : Nat
  seq : Nat
  hit : Bool
  result : Nat
  since : Nat
  deriving DecidableEq, Repr

/-- IDX_CASCADE_CTRL and IDX_CASCADE_STATUS (R192). -/
structure Cascade where
  enable : Bool
  head : Bool
  region : Nat
  nextSeq : Nat
  desync : Bool
  cause : Nat
  expected : Nat
  waiting : List CascadeSearch
  frames : List Bool       -- HIT of the upstream frames held until L is ready, oldest first (R190)
  deriving DecidableEq, Repr

/-- The index. -/
structure Index where
  banks : List Bank
  entries : List Entry
  runs : List Run
  collisions : List Collision
  groups : List BankGroup
  regions : List Region
  regionGens : List (Nat × Nat)
  masks : List (Nat × Nat)       -- programmable global masks 4-7
  cascade : Cascade
  bands : List (Nat × Nat)       -- die, band (0 when absent)
  temps : List (Nat × Nat)
  parity : List (Nat × Nat)      -- bank and time of the parity errors of the last second (Table 15-3)
  releasing : List Nat           -- block records that wait for the searches issued before their invalidation (R167)
  retry : List Nat               -- footing blocks whose run could not be formed for want of an entry (R180)
  deriving DecidableEq, Repr

/-! ### Tiers and placement (chapter 7) -/

/-- A queued or running move (R212). -/
structure Move where
  id : Nat
  blocks : List Nat         -- blocks still to move; under `layered`, every block of the range
  layered : Bool            -- layer by layer (R203)
  layer : Nat               -- the next layer
  done : Nat                -- blocks of that layer already moved
  target : Nat
  reason : Nat
  latency : Bool
  tile : Option (Nat × Nat)     -- a weight tile in place of blocks: object slot and tile
  upTo : Nat                -- under `layered`, the layer to stop before
  up : Bool                 -- a promotion
  leave : Option (List Nat × Nat)  -- T3 to T3 in ZONED mode: the erase blocks that the pages leave, and the rank of their NAND work (R232, R239)
  deriving DecidableEq, Repr

/-- An old copy that waits for the operations that took its location (R212, step 5). -/
structure OldCopy where
  id : Nat
  block : Nat
  partition : Nat
  tier : Nat
  bytes : Nat
  holders : List Nat          -- operation tags
  deriving DecidableEq, Repr

/-- A placement hint (R211). -/
structure Hint where
  id : Nat
  kind : Nat
  blocks : List Nat
  tier : Nat
  needed : Nat
  expires : Nat
  deriving DecidableEq, Repr

/-- A partition's report ring (R207). -/
structure Ring where
  partition : Nat
  fn : Fn
  base : Nat
  entries : Nat
  pos : Nat
  deriving DecidableEq, Repr

/-- Lease states (Table 7-12). -/
inductive LeaseState where
  | requested | active | reclaiming | returning | lost | closed
  deriving DecidableEq, Repr

/-- A lease, in either role (R219 to R222). -/
structure Lease where
  id : Nat
  borrower : Bool
  state : LeaseState
  partner : Nat
  capacity : Nat
  rateCap : Nat
  notice : Nat
  term : Nat
  used : Nat
  changed : Nat
  since : Nat
  lastBeat : Nat
  busyUntil : Nat          -- until when its rate cap holds back viaduct traffic (R220)
  deriving DecidableEq, Repr

/-- A weight tile (R223). -/
structure Tile where
  index : Nat
  tier : Nat
  home : Nat                -- its home pier (R223)
  chan : Nat                -- its DDR channel in the causeway
  written : Bool
  poisoned : Bool
  codec : Bool
  stored : Nat
  lastTouch : Nat
  touches : Nat
  reuse : Nat
  lease : Option Nat
  data : Mem
  deriving DecidableEq, Repr

/-- A weight object (Table 7-14). -/
structure WeightObj where
  slot : Nat
  gen : Nat
  fmt : Nat
  partition : Nat
  tier : Nat
  count : Nat
  tileSize : Nat
  binding : Nat
  tiles : List Tile
  deleting : Bool
  deriving DecidableEq, Repr

/-- Tiers and placement. -/
structure Tiers where
  moves : List Move
  nextMove : Nat
  oldCopies : List OldCopy
  hints : List Hint
  nextHint : Nat
  rings : List Ring
  ringSeq : List (Nat × Nat)     -- next sequence number per partition
  leases : List Lease
  nextLease : Nat
  highSince : Option Nat         -- since when the causeway has stayed above its high watermark
  weights : List WeightObj
  weightGens : List (Nat × Nat)
  probeHits : List Nat           -- blocks that a probe without NO_PREFETCH verified and that no promotion has taken up (R203)
  scaled : List (Nat × Nat)      -- deck and causeway whose guarantees stay scaled down: tier, capacity they were scaled to (R199)
  nextLender : Nat               -- partner entry from which the next automatic lease request looks on (R221)
  deriving DecidableEq, Repr

/-! ### The footing (chapter 8) -/

/-- What one layer-page or weight tile occupies in the footing: its owner (block record or weight object), the layer or tile, and the
4 KiB granules it takes from the address `first`: a logical granule in MANAGED mode, a zone times 2^32 and an offset in ZONED mode
(Table 8-2, R230, R232). -/
structure FootPage where
  tile : Bool
  owner : Nat
  part : Nat
  first : Nat
  granules : Nat
  deriving DecidableEq, Repr

/-- An erase block (R238, R239, Table 8-4): its mode, erase counts in both modes, NAND pages programmed since its erase and the time
of the last program, and reads since its erase. -/
structure EraseBlock where
  id : Nat
  die : Nat
  slc : Bool               -- of the write region (R233)
  eraseSlc : Nat
  eraseNative : Nat
  written : Nat
  programmedAt : Nat
  reads : Nat
  stale : Bool             -- awaits its erase
  retired : Option Nat     -- cause: 0 program failure, 1 erase failure, 2 endurance, 3 its die
  deriving DecidableEq, Repr

/-- Erase blocks of one stripe, in channel order, whose page rows are written together; in ZONED mode a zone, under the zone's number
(R226, R232).  `next` counts the data pages written. -/
structure FootGroup where
  id : Nat
  stripe : Nat
  blocks : List Nat
  slc : Bool
  parity : Bool            -- one page of each row is the XOR of the others
  next : Nat
  deriving DecidableEq, Repr

/-- A map entry of MANAGED mode (R230): the map unit of four granules, the erase block and page row that hold it, its live granules. -/
structure MapUnit where
  unit : Nat
  block : Nat
  row : Nat
  live : Nat
  deriving DecidableEq, Repr

/-- A NAND operation of a channel: its rank under R243, its kind, its erase block, and the page row of a read or a program. -/
structure NandOp where
  id : Nat
  channel : Nat
  rank : Nat              -- 1 to 5 (R243)
  kind : Nat              -- 0 read, 1 program, 2 erase
  block : Nat
  row : Nat
  rebuild : Bool          -- part of a die's rebuild (R227)
  started : Bool          -- issued to its die
  suspends : Nat          -- how often a program or an erase has been suspended
  deriving DecidableEq, Repr

/-- A NAND die (R225 to R227, Table 8-4): its stripe, its lifetime counts, and the times and pages of the uncorrectable reads of
the last second. -/
structure NandDie where
  id : Nat
  channel : Nat
  part : Nat
  stripe : Nat
  retired : Bool
  uncorrectable : Nat
  rebuilds : Nat
  recent : List (Nat × Nat)
  bytesRead : Nat
  bytesProgrammed : Nat
  bytesErased : Nat
  deriving DecidableEq, Repr

/-- The footing. -/
structure Footing where
  channels : List NandChannel
  dies : List NandDie
  blocks : List EraseBlock
  others : List EraseBlock   -- the wear of blocks that the mount left out
  mounted : Bool
  part : Option NandPart     -- the part mounted (R225)
  rawBytes : Nat             -- mounted raw bytes (R42)
  zoned : Bool               -- mode in force
  share : Nat                -- write-region share in force: 0, 128, 64 or 32
  setZoned : Bool            -- the management setting, for the next mount
  setShare : Nat
  noParity : Bool
  forced : Bool
  sanitising : Bool
  draining : Bool            -- the write region was full and is not yet folded to half (R233)
  collecting : Bool          -- MANAGED collection or ZONED compaction has started and not reached its end (R232, R237)
  queue : List NandOp
  nextOp : Nat
  pages : List FootPage      -- what the translation layer has placed
  map : List MapUnit         -- the map of MANAGED mode, in the causeway (R230)
  cache : List Nat           -- map units in the girder's map cache, the latest used first (R230)
  groups : List FootGroup    -- the rows being written or holding data; the zone table (R226, R232)
  nextGroup : Nat
  rebuildAt : List (Nat × Nat)  -- when a channel may carry the next operation of a rebuild: at most 25 % of its time (R227)
  journal : List Nat         -- erase blocks erased since the last compaction (R242)
  copies : List Nat          -- the dies that hold the two copies of the persistent metadata (R242)
  lastCompact : Nat
  deriving DecidableEq, Repr

/-! ### Delivery and scheduling (chapter 9) -/

/-- Plan states (Table 9-4). -/
inductive PlanState where
  | armed | running | stalled | done | aborted | failed
  deriving DecidableEq, Repr

/-- A prefetch plan (R249 to R260). -/
structure Plan where
  slot : Nat
  gen : Nat
  tag : Nat
  qp : Nat
  ns : Nat
  kind : Nat                   -- 0 chain, 1 snapshot, 2 weight object
  view : Option View
  weight : Nat
  layout : Nat
  port : Nat
  missFail : Bool
  noPromote : Bool
  fixedPeriod : Bool
  first : Nat
  count : Nat
  firstLayer : Nat
  layers : Nat
  slots : Nat
  stride : Nat
  nominal : Nat
  passes : Nat
  lookahead : Nat
  promoteAhead : Nat
  guard : Nat
  stallMs : Nat
  idleS : Nat
  queue : Nat
  base : Nat
  state : PlanState
  tick : Option (Nat × Nat)    -- (T, n) of the current tick
  afterStall : Bool
  period : Int                 -- P in units of 1/1,048,576 ns
  issued : Nat                 -- sequences issued: 0 .. issued - 1
  landed : List Nat            -- landed sequences at or above the first not landed
  skipped : List Nat
  missed : List Nat
  cut : List Nat               -- sequences that CANCEL_PLAN left partly written: they get no flag (R258)
  firstOut : Nat               -- first sequence not landed
  gapless : Nat                -- sequences landed without a gap
  misses : Nat
  skips : Nat
  late : Nat
  ignored : Nat
  stalls : Nat
  lastTick : Nat
  stalledAt : Nat
  finishTo : Option Nat        -- CANCEL_PLAN FINISH_TICKED: deliver below this, then stop
  ending : Option Status
  deriving DecidableEq, Repr

/-- What queues units at a scheduling port: a DELIVER or a sequence of a plan, by its operation tag (R248, R251), or a
message of a connection, by the connection's slot and the message's number on it (R345). -/
inductive SSrc where
  | op (tag : Nat)
  | plan (tag seq : Nat)
  | msg (conn id : Nat)
  deriving DecidableEq, Repr

/-- A unit of R248 that waits in a scheduling queue: its source, its number within the source, its bytes, those already
sent, and its deadline.  The scheduler sends it one write TLP or frame at a time (R265). -/
structure SUnit where
  src : SSrc
  unit : Nat
  size : Nat
  off : Nat
  deadline : Option Nat
  pay : Nat                    -- largest payload of one write or frame
  deriving DecidableEq, Repr

/-- One queue of a scheduling port (R266, R271): its finish tag, its units in arrival order, and its two buckets in bytes
times 1,000. -/
structure SQueue where
  num : Nat
  finish : Nat
  headTag : Option Nat
  units : List SUnit
  committed : Nat
  peak : Nat
  filled : Nat                 -- device time up to which the buckets are filled
  red : Bool
  deriving DecidableEq, Repr

/-- A gate list (R268): takeover time, cycle and entries (duration, mask). -/
structure GateList where
  takeover : Nat
  cycle : Nat
  entries : List (Nat × Nat)
  deriving DecidableEq, Repr

/-- A scheduling port (R262 to R275). -/
structure SPort where
  num : Nat
  linked : Bool
  mem : Bool                   -- CXL.mem is enabled: not a 68-byte flit link (R312)
  raw : Nat                    -- GB/s
  queues : List SQueue
  vtime : Nat
  active : Option GateList
  pending : Option GateList
  spanDone : List Nat          -- queues that already sent their one oversized unit in this open span
  sending : Nat                -- counted bytes of the unit in transmission
  sentUntil : Nat
  deriving DecidableEq, Repr

/-- Delivery and scheduling. -/
structure Delivery where
  plans : List Plan
  planGens : List (Nat × Nat)
  ports : List SPort
  planMisses : Nat
  deriving DecidableEq, Repr

/-! ### Attention (chapter 10) -/

/-- A descriptor slot that is not empty: its partition and its 1,024 bytes (R284). -/
structure Desc where
  slot : Nat
  partition : Nat
  bytes : Mem
  deriving DecidableEq, Repr

/-- The copy of descriptor and query that an attention command took, the partition of the descriptor, and whether its
windows were stored to before its first completion, which leaves its rows undefined (R283, R284). -/
structure AttCopy where
  tag : Nat
  partition : Nat
  desc : Mem
  query : Option Mem
  undefined : Bool
  deriving DecidableEq, Repr

/-- Attention state: descriptors, windows' owners, window content and the commands' copies. -/
structure Attention where
  descs : List Desc
  windows : List (Nat × Nat)    -- window, queue pair
  content : Mem
  copies : List AttCopy
  slicesOut : List (Nat × Nat)  -- pier, slice out of service
  deriving DecidableEq, Repr

/-! ### The pool (chapter 11) -/

/-- States of one host's side of an extent (Table 11-3); a detached host has no side. -/
inductive SideState where
  | offered | active | releasing | revoking
  deriving DecidableEq, Repr

/-- An extent (R313 to R316). -/
structure Extent where
  id : Nat
  region : Nat
  base : Nat
  length : Nat
  tag : Nat
  partition : Nat
  shared : Bool                    -- added with Enable Shared Access
  zeroing : Bool
  sides : List (Nat × SideState)   -- host entry
  version : Nat
  places : List Nat                -- the piers or DDR channels that back its granules (R314)
  mirrored : Option Nat            -- the lease that holds the mirror copy (R341)
  deriving DecidableEq, Repr

/-- A directory entry (R324): line group, state and holders. -/
inductive DirState where
  | shared | owned | recalling
  deriving DecidableEq, Repr

structure DirEntry where
  group : Nat              -- DPA / 256
  state : DirState
  coarse : Bool
  holders : List Nat       -- exact holders, or the set bits of the vector under COARSE
  granted : Nat
  deriving DecidableEq, Repr

/-- A recall under way (R327): group, the holders still to answer, the holders that an invalidation removes, whether the
group was OWNED, and when it started. -/
structure Recall where
  group : Nat
  waiting : List Nat
  leaving : List Nat
  downgrade : Bool
  owned : Bool
  since : Nat
  deriving DecidableEq, Repr

/-- What the directory holds for a host that is dead or holds a lease (R330 to R332). -/
structure HostState where
  entry : Nat
  lease : Option Nat          -- term in ms
  renewed : Nat
  dead : Bool
  rejoined : Option Nat
  needsReset : Bool
  readUsed : Nat              -- 64-byte lines served in the running 1 µs window (R329)
  writeUsed : Nat
  deriving DecidableEq, Repr

/-- A pool snapshot (R333, R334). -/
structure PoolSnap where
  slot : Nat
  gen : Nat
  extent : Nat
  base : Nat
  length : Nat
  budget : Nat
  used : Nat
  version : Nat
  ttl : Nat                       -- ms, 0 for none
  maker : Option Nat              -- the CREATE that has not reached its instant yet
  expires : Option Nat
  expired : Option Nat            -- the acceptance order at which it expired: later commands get VERSION_GONE
  released : Option Nat           -- the acceptance order at which RELEASE took its handle
  copies : List (Nat × Mem)       -- granule, its bytes at the instant
  bad : List Nat                  -- lines of the copies that were poisoned, DPA / 64
  deriving DecidableEq, Repr

/-- A region and its key (R348, R349): `pages` holds the snapshot handle, first block and block count of a PAGES region; `dead`
once an extent under it was detached, `dying` while DEREGISTER waits. -/
structure RRegion where
  slot : Nat
  gen : Nat
  check : Nat
  pages : Option (Nat × Nat × Nat)
  base : Nat
  length : Nat
  readable : Bool
  writable : Bool
  partition : Nat
  scope : Nat
  pinSlot : Option Nat
  dead : Bool
  dying : Bool
  deriving DecidableEq, Repr

/-- An entry of the region-key cache that DIRECT_KEY has replaced without invalidation, and until when it may be used (R93, R352). -/
structure StaleKey where
  entry : RRegion
  until_ : Nat
  deriving DecidableEq, Repr

/-- An inbound message as it waits to be applied: 0 WRITE, 1 WRITE with immediate, 2 READ, 3 READ response; the PSN of its
last packet; the key-cache entry that admits it, none where its key is refused (R350 to R352); the notification queue that its
immediate matched on arrival (R357, Table 12-6). -/
structure InMsg where
  kind : Nat
  qpn : Nat
  psn : Nat
  region : Option RRegion
  nq : Option Nat
  offset : Nat
  bytes : List Byte
  imm : Nat
  length : Nat
  deriving DecidableEq, Repr

/-- What a request to memory asks for: a CXL.mem load, ownership or store (R325), or an inbound message (R351). -/
inductive PoolReq where
  | read (cached : Bool)
  | own
  | write (bytes : List Byte) (poison : Bool)
  | inbound (m : InMsg)
  | commit (value : Nat)         -- a store to N in a control page (R110)
  deriving DecidableEq, Repr

/-- A request held while its group is recalled, while an entry is evicted, or above its host's cap (R325 to R329). -/
structure HeldReq where
  src : Source
  host : Nat
  addr : Nat
  req : PoolReq
  deriving DecidableEq, Repr

/-- A mirrored store that waits for its partner (R341): its address, host and link. -/
structure MirrorWait where
  addr : Nat
  host : Nat
  link : Nat
  deriving DecidableEq, Repr

/-- Pool state. -/
structure PoolState where
  extents : List Extent
  nextExtent : Nat
  mem : Mem
  poison : List Nat               -- poisoned lines, DPA / 64
  dir : List DirEntry
  recalls : List Recall
  late : List (Nat × List Nat × Bool)   -- recalls that wait for a tracker: group, hosts, by downgrade (R327)
  heldReqs : List HeldReq
  hosts : List HostState
  bound : List Fn                 -- logical devices the fabric manager has bound
  snaps : List PoolSnap
  snapGens : List (Nat × Nat)
  timeouts : Nat                  -- POOL_RECALL.TIMEOUTS
  pressure : Option Nat           -- time of the last directory eviction
  mirrorWaits : List MirrorWait
  unmirrored : List Nat           -- extents that run unmirrored
  hdm : List (Fn × Nat × Nat)     -- component registers, the HDM decoders': function, offset, value (R484)
  deriving DecidableEq, Repr

/-! ### Remote access (chapter 12) -/

/-- Connection states (Table 12-2). -/
inductive ConnState where
  | created | ready | error
  deriving DecidableEq, Repr

/-- A message of a connection: its number, operation (none for a READ response that the device sends) and unit; READ
request or response; the key-cache entry of its local region, if it moves data; local and remote offset, remote key, length,
immediate; its first PSN once it has started; the bytes of a READ that have landed. -/
structure Msg where
  id : Nat
  tag : Option Nat
  unit : Nat
  read : Bool
  region : Option RRegion
  local_ : Nat
  key : Nat
  offset : Nat
  length : Nat
  imm : Option Nat
  psn : Option Nat
  got : Nat
  deriving DecidableEq, Repr

/-- A connection (R347): the span that accepted its CREATE; next PSN to send, oldest unacknowledged PSN, next PSN expected;
retries used; R358's counter; messages in order; the DCQCN rate; when the ACK timer started; whether it waits for the RNR
timer; bytes placed of an inbound message that got an RNR NAK. -/
structure Conn where
  slot : Nat
  gen : Nat
  span : Nat
  port : Nat
  partition : Nat
  state : ConnState
  peerQpn : Nat
  peerIp : Nat
  peerMac : Nat
  vlan : Option Nat
  ipv6 : Bool
  dscp : Nat
  mtu : Nat
  ackCode : Nat
  retry : Nat
  rnrCode : Nat
  rnrRetry : Nat
  queue : Nat
  psn : Nat
  acked : Nat
  expectPsn : Nat
  retries : Nat
  rnrTries : Nat
  counter : Nat
  msgs : List Msg
  nextMsg : Nat
  rate : Nat
  timer : Option Nat
  rnrWait : Bool
  lastCnp : Option Nat
  received : Nat
  deriving DecidableEq, Repr

/-- A notification queue (R356). -/
structure NQ where
  slot : Nat
  gen : Nat
  owner : Fn
  port : Nat
  base : Nat
  entries : Nat
  tail : Nat
  count : Nat
  phase : Bool
  partition : Nat
  vector : Nat
  counter : Nat
  armed : Bool
  deriving DecidableEq, Repr

/-- A match slot (R357). -/
structure MatchSlot where
  slot : Nat
  nq : Nat
  value : Nat
  mask : Nat
  conn : Nat
  deriving DecidableEq, Repr

/-- Remote-access state. -/
structure Remote where
  conns : List Conn
  connGens : List (Nat × Nat)
  regions : List RRegion
  regionGens : List (Nat × Nat)
  stale : List StaleKey           -- entries that DIRECT_KEY has replaced
  picks : Nat                     -- choices among entries made so far
  nqs : List NQ
  nqGens : List (Nat × Nat)
  matchSlots : List MatchSlot
  accessNaks : Nat
  exhausted : Nat
  unmatched : Nat
  deriving DecidableEq, Repr

/-! ### Stripe groups (chapter 13) -/

/-- States of a partner as this device sees it (Table 13-2). -/
inductive MemberState where
  | up | suspect | down
  deriving DecidableEq, Repr

/-- A partner that the device tracks (R365 to R368). -/
structure Partner where
  entry : Nat
  state : MemberState
  session : Nat
  attested : Bool
  lastBeat : Nat
  alertSince : Option Nat
  linkWatch : Bool
  route : Nat
  keySince : Option Nat
  deriving DecidableEq, Repr

/-- A vote the leader collects for one block (R370, R371). -/
structure Ballot where
  block : GroupBlock
  votes : Nat             -- bit m: member m has voted
  full : Bool
  since : Nat
  epoch : Nat             -- the epoch whose partner table the insert uses (Table 13-6)
  deriving DecidableEq, Repr

/-- A block this member holds PREPARED, with the operation that seals it (R370, R371). -/
structure Prepared where
  block : GroupBlock
  chain : Nat              -- slot of the chain that seals or refills it
  id : Nat
  op : Option Nat
  dup : Option Nat         -- the block its search found and verified
  since : Nat
  deriving DecidableEq, Repr

/-- A proposal of a group eviction (R373). -/
structure Proposal where
  block : GroupBlock
  free : Nat              -- bit m: member m answered FREE
  refused : Bool
  since : Nat
  mine : Bool
  deriving DecidableEq, Repr

/-- A discovered device (R365, R399): what its greeting said and whether it has completed partner attestation. -/
structure Device where
  identity : BitVec 128
  slot : Nat
  tray : Nat
  claimed : Bool
  route : Nat
  attested : Bool
  session : Nat
  seen : Nat
  deriving DecidableEq, Repr

/-- A partner message that a device in link-watch answers once its deck is back (R368). -/
inductive PartnerMsg where
  | vote (slot : Nat) (block : GroupBlock) (full : Bool)
  | commit (block : GroupBlock) (unindexed : Bool)
  | abort (block : GroupBlock)
  | proposal (slot : Nat) (block : GroupBlock)
  | query (block : GroupBlock)
  | answer (slot : Nat) (block : GroupBlock) (free : Bool)
  | evict (block : GroupBlock)
  | dropReport (block : GroupBlock)
  | drop (block : GroupBlock)
  | unindexReport (block : GroupBlock)
  | unindex (block : GroupBlock)
  | lines (slot : Nat) (salt : BitVec 128) (lines : List ReconcileLine)
  deriving DecidableEq, Repr

/-- Stripe-group state. -/
structure Group where
  devices : List Device
  partners : List Partner
  ballots : List Ballot
  prepared : List Prepared
  proposals : List Proposal
  kept : List GroupBlock          -- reports kept while DEGRADED or RECONCILING (R374)
  localDrops : List GroupBlock    -- drops carried out while DEGRADED (R376)
  lists : List (Nat × BitVec 128 × List ReconcileLine)
  reports : List (Nat × BitVec 128 × MemberParams)   -- what members last reported to hold: slot, salt, parameters
  held : List PartnerMsg          -- messages that wait for the deck in link-watch, in order (R368)
  lastGreeting : Nat
  lastHeartbeat : Nat
  deriving DecidableEq, Repr

/-! ### Security (chapter 14) -/

/-- Lifecycle states (Table 14-1). -/
inductive Life where
  | unclaimed | claiming | claimed | operating | releasing
  deriving DecidableEq, Repr

/-- An SPDM session (R384, R396). -/
structure Spdm where
  id : Nat
  fn : Fn
  mutualAuth : Bool
  key : Nat               -- the requester's identity key
  root : Nat              -- the digest of its chain's root
  established : Bool
  since : Nat
  records : Nat
  hbeat : Nat
  lastBeat : Nat
  deriving DecidableEq, Repr

/-- An IDE stream of a link and its key sets (R400). -/
structure Ide where
  link : Nat
  stream : IdeStream
  k0 : Option Nat         -- time of programming
  k1 : Option Nat
  active : Option Nat
  secure : Bool
  left : Bool             -- has left the secure state
  deriving DecidableEq, Repr

/-- TDISP states of a TDI (R402, R403). -/
inductive TdiState where
  | unlocked | locked | run | error
  deriving DecidableEq, Repr

/-- A weight binding (R406). -/
structure Binding where
  slot : Nat
  gen : Nat
  key : Nat
  iv : Nat
  deriving DecidableEq, Repr

/-- One Ethernet port's MACsec state (R404). -/
structure MacSec where
  port : Nat
  cak : Option Nat
  required : Bool
  secured : Bool
  stopped : Bool          -- secured before a warm reset: carries nothing until MKA secures it again (R54)
  deriving DecidableEq, Repr

/-- A request to the DRBG that waits (R393, R395): an operation, an SPDM key exchange on a link, or a partner's key
exchange. -/
inductive EReq where
  | op (tag : Nat)
  | keyExchange (f : Fn) (hbeat : Nat)
  | partner (entry : Nat) (identity : BitVec 128) (session : Nat)
  deriving DecidableEq, Repr

/-- Security state. -/
structure Security where
  life : Life
  tenant : Nat              -- tenant identity digest, 0 for none
  tenantKey : Nat
  session : Nat             -- session identifier, 0 for none
  root : Option Nat         -- session root: present while the session keys exist
  keysPresent : Bool
  lastCause : Nat
  claimOp : Option Nat
  claimFn : Option Fn
  releaseOp : Option Nat
  releaseMgmt : Bool
  releaseAt : Option Nat    -- when the release completed
  spdms : List Spdm
  nextSpdm : Nat
  ides : List Ide
  tdis : List (Fn × TdiState)
  config : List (Fn × Nat × Nat)    -- configuration space: a function's BAR registers and its command register
  bindings : List Binding
  bindingGens : List (Nat × Nat)
  macsec : List MacSec
  consecFail : Nat
  fails : Nat
  waitFails : Nat
  apt : Bool
  rct : Bool
  sourceOk : Bool
  latched : Bool
  drawn : Nat               -- numbers drawn since power-on
  requests : Nat            -- DRBG requests since the last reseed
  waiting : List (EReq × Nat)   -- requests that wait for entropy, oldest first, and when each was made
  debugOpen : Bool
  diagOpen : Bool
  cleanFailed : Bool        -- a clean-state condition can no longer hold (R389)
  fabricKey : Option (BitVec 64)   -- the draw behind the deck fabric link keys (R39)
  fabricKeys : Bool                -- every link has taken its key
  fatalPersists : Bool
  deriving DecidableEq, Repr

/-! ### Faults (chapter 15) -/

/-- Fault classes (Table 15-2). -/
inductive FClass where
  | corrected | recovered | dataLoss | degraded | refused | fatal
  deriving DecidableEq, Repr

/-- An error record (Table 15-5). -/
structure ErrRec where
  time : Nat
  seq : Nat
  cls : FClass
  flags : Nat
  code : Nat
  locus : Nat
  opTag : Nat
  object : Nat
  span : Nat
  count : Nat
  addr : Nat
  detail : Nat
  epoch : Nat
  deriving DecidableEq, Repr

/-- A component out of service (Table 15-3). -/
inductive Out where
  | fabricLink (n : Nat)
  | fabricHalf (n : Nat)
  | hbmLane (stack channel spares : Nat)
  | core (span n : Nat)
  deriving DecidableEq, Repr

/-- Corrections in one row of a stack within 24 h (R415): stack, row, and their times. -/
structure RowHits where
  stack : Nat
  row : Nat
  times : List Nat
  deriving DecidableEq, Repr

/-- RAS state: the rings, the lost counters and the halt. -/
structure Ras where
  ring : List (Nat × ErrRec)     -- ring slot and record, unread or read
  head : Nat
  tail : Nat
  seq : Nat
  fatal : List ErrRec
  lost : List Nat                -- classes 1-6
  haltSource : Nat
  recent : List Nat              -- ring positions of the signatures tracked, newest first
  out : List Out
  rowHits : List RowHits         -- corrections by row of a stack (R415)
  ddrBad : List (Nat × Nat)      -- uncorrectable lines by DDR channel and time (Table 15-3)
  deriving DecidableEq, Repr

/-! ### Counters and interrupts (chapter 16) -/

/-- A monitor (Table 16-4). -/
structure Monitor where
  num : Nat
  enable : Bool
  freeze : Bool
  hit : Bool
  err : Bool
  mode : Nat
  locusEn : Bool
  objEn : Bool
  source : Nat
  locusMask : Nat
  locusValue : Nat
  object : Nat
  partMask : Nat
  param : Nat
  count : Nat
  thresh : Nat
  holds : Bool              -- the condition held when last looked at
  seen : Nat                -- device time up to which a LEVEL count is settled
  deriving DecidableEq, Repr

/-- A counter dump (R445 to R447). -/
structure Dump where
  qp : Nat
  base : Nat
  slots : Nat
  first : Nat
  period : Nat
  port : Nat
  seq : Nat                -- the next instant's number
  skipped : Nat
  latched : Option (Nat × List Byte)   -- the snapshot being written: its number and its slot's bytes
  deriving DecidableEq, Repr

/-- A vector's moderation state (R451, R453). -/
structure Vector where
  fn : Fn
  num : Nat
  timer : Nat
  count : Nat
  masked : Bool
  pending : Nat
  srcs : Nat              -- the shared sources among the pending events
  firstAt : Nat
  lastSent : Option Nat
  addr : Nat
  data : Nat
  deriving DecidableEq, Repr

/-- A route of a shared source (Table 16-9). -/
structure Route where
  source : Nat
  valid : Bool
  host : Nat
  vector : Nat
  deriving DecidableEq, Repr

/-- Counters, monitors, dumps and interrupts. -/
structure Telemetry where
  counters : List (Nat × Nat)        -- index, events counted since reset
  wraps : List Nat                   -- counters whose WRAP reads 1
  monitors : List Monitor
  dump : Option Dump
  dumpFault : Bool
  dumpSkipped : Nat
  vectors : List Vector
  bankHold : List Fn                 -- functions whose IRQ_CTRL.HOLD is set
  funcMask : List Fn                 -- functions whose MSI-X function mask is set
  globalHold : Bool
  shared : Nat                       -- IRQ_SHARED.PENDING
  waiting : Nat                      -- shared sources whose event awaits a valid route
  routes : List Route
  rasArmed : Bool
  fixedSample : List (Nat × Nat)     -- the load words sampled under FIXED_RATE: span * 64 + port, word
  fixedStep : Nat                    -- the highest clamp step of the period just ended
  fixedPeak : Nat                    -- the highest clamp step of the running period
  fixedAt : Nat                      -- start of the running period
  deferred : List (Nat × Nat)        -- FR counters' events of the running period
  deriving DecidableEq, Repr

/-! ### Management, power and thermal (chapter 17) -/

/-- A discovery-list entry (R463). -/
structure Party where
  kind : PartyKind
  link : Nat
  route : Nat
  identity : Nat
  dead : Bool
  misses : Nat
  seen : Nat
  changed : Nat
  deriving DecidableEq, Repr

/-- Thermal states (Table 17-7). -/
inductive Thermal where
  | normal | warm | limit | trip
  deriving DecidableEq, Repr

/-- Management, power and thermal state. -/
structure Mgmt where
  anchors : List Nat
  sessions : Nat
  oobUp : Bool
  policy : List Nat           -- claim policy: the listed roots; empty for ANY
  ceiling : Nat
  boostWanted : Bool
  boostEn : Bool
  flow : Nat                  -- reported coolant flow, mL/min
  boostLeft : Nat             -- µs
  peakLeft : Nat              -- tenths of µs
  powerStep : Nat
  thermalStep : Nat
  raiseLevel : Nat            -- level in mW that caused the last raise
  belowSince : Option Nat
  lastPower : Nat             -- mW
  peak1ms : List (Nat × Nat)  -- samples of the last 1 ms: time, mW
  thermal : Thermal
  logicMax : Nat
  hbmMax : Nat
  thermalAt : Nat             -- last rise of the thermal step, or entry into LIMIT
  coolSince : Option Nat      -- since when both readings lie 5 °C below LIMIT's thresholds
  regs : List Nat             -- PWR_STATUS, PWR_POWER, PWR_LIMITS, PWR_TEMP, MGT_STATUS as last brought up to date
  thermTrip : Bool
  parties : List Party
  deriving DecidableEq, Repr

/-! ### Outputs -/

/-- What the device sends or drives, newest first in `State.out` (the model's own record of its outputs). -/
inductive Output where
  | cqe (qp slot : Nat) (c : Cqe) (tee : Bool)   -- the T bit of R402, as in the two below
  | read (fn : Fn) (value : Option Nat)     -- a register read answered; none for Configuration Request Retry Status (R33), or for
                                            -- Unsupported Request (R401, R402)
  | zeroRead (link : Nat) (tee : Bool)      -- R19
  | msix (fn : Fn) (vector : Nat) (tee : Bool)
  | trayAlert
  | trayWake
  | thermTrip
  | ppsOut
  | matchFrame (hit seqBit : Bool)
  | cxlData (host addr : Nat) (bytes : List Byte) (poison : Bool) (devLoad : Nat)
  | cxlDone (host addr devLoad : Nat)
  | snoop (host group : Nat) (invalidate : Bool)
  | addCapacity (host extent : Nat)
  | releaseCapacity (host extent : Nat)
  | fmReply (ok : Bool) (value : List Nat)
  | hostDeadEvent (host : Nat)
  | mediaEvent (host addr : Nat)
  | partner (entry kind : Nat) (block : Option GroupBlock) (value : Nat)
  | greeting (route : Nat) (identity : BitVec 384) (slot tray : Nat) (claimed : Bool)
  | attest (route : Nat)
  | heartbeat (entry session : Nat) (linkWatch : Option Nat) (sessionEnd : Bool)   -- link-watch names the live port (R368)
  | packet (qpn kind psn : Nat) (fields : List Nat) (bytes : List Byte)
  | spdm (fn : Fn) (ok : Bool) (value : List Nat)
  | ideKm (link : Nat) (ok : Bool) (value : Nat)
  | tdisp (fn : Fn) (ok : Bool) (state : TdiState)
  | mgmt (ok : Bool) (value : List Nat)
  | fatalReport (r : ErrRec)
  | unitSent (port queue bytes : Nat) (colour mark : Nat)
  | jtag (ok : Bool)
  | report (kind value : Nat)
  deriving DecidableEq, Repr

/-- Why a step stops with a fault.  No rule of the manual stops this device without a next state: a fatal fault, a trip
and a supply fault are all states it enters.  No meaning raises a fault; the type has no constructor (safe). -/
inductive Fault where
  deriving DecidableEq, Repr

/-- Why a step is refused. -/
inductive Refusal where
  /-- Raised by an arm of exec whose command has no meaning yet (safe: nothing is claimed of it). -/
  | notModelled (mnemonic : String)
  /-- Raised when OPERATION_START starts a vendor-diagnostic opcode 0xC0-0xFF with DIAG_OPEN in UNCLAIMED: Table 3-8
  calls the group "Not described", so the manual gives the operation no effect (safe). -/
  | vendorDiagnostics (opcode : Nat)
  deriving DecidableEq, Repr

/-- The whole machine. -/
structure State where
  boot : Boot
  fab : List FabLink                       -- the fabric's directed links that have messages
  clock : Clock
  q : Queues
  stg : Staging
  store : Store
  idx : Index
  tiers : Tiers
  foot : Footing
  dlv : Delivery
  att : Attention
  pool : PoolState
  rma : Remote
  grp : Group
  sec : Security
  ras : Ras
  tel : Telemetry
  mgmt : Mgmt
  host : Mem                               -- memory on the hosts' links: address + link * 2^64
  hostBad : List (Nat × Nat × Bool × Bool) -- failing ranges of it: first, last, reads fail, writes fail
  out : List Output
  free : Nat                               -- uses of the free values so far
  pending : List Instr
  deriving DecidableEq, Repr

/-! ### The machine right after reset

The machine before its cold start: POR_N holds every die in reset and no step of Table 2-1 has run.  A field without a
value in the manual takes the one that log entries 9, 10 and 11 name. -/

/-- The fuse words of a device as it leaves the factory: both locks blown, nothing else (log entry 10). -/
def Boot.factoryFuses : List Fuse :=
  [⟨0, .debugLock, 1, 1⟩, ⟨1, .diagLock, 1, 1⟩] ++
  (List.range 8).map (fun i => ⟨2 + i, .rollback, 0, 0⟩) ++
  (List.range 12).map (fun i => ⟨16 + i, .bootDigestA, 0, 0⟩) ++
  (List.range 12).map (fun i => ⟨28 + i, .bootDigestB, 0, 0⟩) ++
  [⟨40, .repair, 0, 0⟩, ⟨41, .trim, 0, 0⟩] ++
  (List.range 4).map (fun i => ⟨42 + i, .identity, 0, 0⟩)

/-- Start-up state before the cold start. -/
def Boot.reset : Boot where
  phase := .off
  porN := true
  haltN := false
  perst := 0
  slotStrap := 0
  tray := 0
  fuses := Boot.factoryFuses
  marginalSecurity := []
  marginalOther := []
  marginalApplied := []
  slotA := some ⟨0, true, 0, 0, 0⟩
  slotB := some ⟨0, true, 0, 0, 0⟩
  slotAValid := true
  slotBValid := true
  selector := .a
  running := none
  link := false
  deck := false
  full := false
  bootFail := false
  marginal := false
  warm := false
  halted := false
  linkwatch := false
  stackOk := 0
  causewayOk := 0
  deckTrained := false
  memoryActive := false
  ddrDone := false
  nandDone := false
  scanDone := false
  mounted := false
  stacksAtStart := 0
  dimms := []
  ddrRate := 0
  livePort := 0
  waking := false
  awakeDeck := true
  awakeCauseway := true
  awakePorts := true
  ethUp := 0
  claims := 0

/-- Device time at 0 and free-running (R479, Table 18-3). -/
def Clock.reset : Clock := ⟨0, false, none, .free, 0, 0, 0, 0, false⟩

/-- The three pools with every buffer free (Table 3-13, R83: two spans, two abutments, six piers). -/
def Queues.pools0 : List BufPool :=
  [.parameter 0, .parameter 1, .transfer 0, .transfer 1, .staging 0, .staging 1, .staging 2, .staging 3, .staging 4,
   .staging 5].map (fun p => ⟨p, 0, 0, 0, 0, 0, []⟩)

/-- No queue pair, operation or record. -/
def Queues.reset : Queues where
  pairs := []
  admin := []
  firstAdmin := false
  ops := []
  records := []
  tags0 := ⟨0, [], []⟩
  tags1 := ⟨0, [], []⟩
  accepted := 0
  pools := Queues.pools0
  granted := []

/-- Every item at its reset value and epoch 1 (R89). -/
def Staging.reset : Staging := ⟨[], [], none, 1, none, 1, 0, false⟩

/-- No namespace, chain or handle. -/
def Store.reset : Store := ⟨[], [], [], [], [], [], [], [], [], [], [], [], [], []⟩

/-- Every bank FREE; the cascade off (Table 6-18). -/
def Index.reset : Index where
  banks := []
  entries := []
  runs := []
  collisions := []
  groups := []
  regions := []
  regionGens := []
  masks := []
  cascade := ⟨false, false, 0, 0, false, 0, 0, [], []⟩
  bands := []
  temps := []
  parity := []
  releasing := []
  retry := []

/-- No move, hint, ring, lease or weight object. -/
def Tiers.reset : Tiers := ⟨[], 0, [], [], 0, [], [], [], 1, none, [], [], [], [], 0⟩

/-- No footing mounted; the management setting at its first value (R229). -/
def Footing.reset : Footing where
  channels := []
  dies := []
  blocks := []
  others := []
  mounted := false
  part := none
  rawBytes := 0
  zoned := false
  share := 0
  setZoned := false
  setShare := 64
  noParity := false
  forced := false
  sanitising := false
  draining := false
  collecting := false
  queue := []
  nextOp := 0
  pages := []
  map := []
  cache := []
  groups := []
  nextGroup := 0
  rebuildAt := []
  copies := []
  journal := []
  lastCompact := 0

/-- No plan; no port has a link. -/
def Delivery.reset : Delivery := ⟨[], [], [], 0⟩

/-- No descriptor; every window unbound. -/
def Attention.reset : Attention := ⟨[], [], [], [], []⟩

/-- No extent, directory entry or snapshot. -/
def PoolState.reset : PoolState where
  extents := []
  nextExtent := 0
  mem := []
  poison := []
  dir := []
  recalls := []
  late := []
  heldReqs := []
  hosts := []
  bound := []
  snaps := []
  snapGens := []
  timeouts := 0
  pressure := none
  mirrorWaits := []
  unmirrored := []
  hdm := []

/-- No connection, region or notification queue. -/
def Remote.reset : Remote := ⟨[], [], [], [], [], 0, [], [], [], 0, 0, 0⟩

/-- No partner. -/
def Group.reset : Group := ⟨[], [], [], [], [], [], [], [], [], [], 0, 0⟩

/-- UNCLAIMED, no session, no key (R382). -/
def Security.reset : Security where
  life := .unclaimed
  tenant := 0
  tenantKey := 0
  session := 0
  root := none
  keysPresent := false
  lastCause := 0
  claimOp := none
  claimFn := none
  releaseOp := none
  releaseMgmt := false
  releaseAt := none
  spdms := []
  nextSpdm := 1
  ides := []
  tdis := []
  config := []
  bindings := []
  bindingGens := []
  macsec := []
  consecFail := 0
  fails := 0
  waitFails := 0
  apt := false
  rct := false
  sourceOk := true
  latched := false
  drawn := 0
  requests := 0
  waiting := []
  debugOpen := false
  diagOpen := false
  cleanFailed := false
  fabricKey := none
  fabricKeys := false
  fatalPersists := false

/-- Empty rings (R424, R429). -/
def Ras.reset : Ras := ⟨[], 0, 0, 0, [], [0, 0, 0, 0, 0, 0], 0, [], [], [], []⟩

/-- Monitor `n` at its reset values (Table 16-4). -/
def Monitor.reset (n : Nat) : Monitor :=
  ⟨n, false, false, false, false, 0, false, false, 0, 0, 0, 0, 0xFFFF, 0, 0, 2 ^ 64 - 1, false, 0⟩

/-- Every counter 0; every monitor, vector and route at its reset value. -/
def Telemetry.reset : Telemetry where
  counters := []
  wraps := []
  monitors := []
  dump := none
  dumpFault := false
  dumpSkipped := 0
  vectors := []
  bankHold := []
  funcMask := []
  globalHold := false
  shared := 0
  waiting := 0
  routes := []
  rasArmed := true
  fixedSample := []
  fixedStep := 0
  fixedPeak := 0
  fixedAt := 0
  deferred := []

/-- The registers of Table 17-9 at reset. -/
def Mgmt.regsReset : List Nat := [0, 0, 0x03E803E8, 0, 0]

/-- A new management configuration block; both power limits at 1,000 W (R457, R460, R464). -/
def Mgmt.reset : Mgmt where
  anchors := []
  sessions := 0
  oobUp := false
  policy := []
  ceiling := 1000
  boostWanted := false
  boostEn := false
  flow := 0
  boostLeft := 0
  peakLeft := 0
  powerStep := 0
  thermalStep := 0
  raiseLevel := 0
  belowSince := none
  lastPower := 0
  peak1ms := []
  thermal := .normal
  logicMax := 0
  hbmMax := 0
  thermalAt := 0
  coolSince := none
  regs := Mgmt.regsReset
  thermTrip := false
  parties := []

/-- The machine right after reset. -/
def State.reset : State where
  boot := Boot.reset
  fab := []
  clock := Clock.reset
  q := Queues.reset
  stg := Staging.reset
  store := Store.reset
  idx := Index.reset
  tiers := Tiers.reset
  foot := Footing.reset
  dlv := Delivery.reset
  att := Attention.reset
  pool := PoolState.reset
  rma := Remote.reset
  grp := Group.reset
  sec := Security.reset
  ras := Ras.reset
  tel := Telemetry.reset
  mgmt := Mgmt.reset
  host := []
  hostBad := []
  out := []
  free := 0
  pending := []

end Sys2Proof.Machine
end

