-- ==== Sys2Proof/Machine/Settings.lean ====
section
/-! DEFINITION. Settings.lean: the twelve staged items (Table 3-14): their entries, the values they hold at every reset,
their fields, and the rules by which STAGE_WRITE judges one entry. -/
namespace Sys2Proof.Machine

/-- Insertion into a list sorted by `le`, after equals. -/
def insertBy {α : Type} (le : α → α → Bool) (x : α) : List α → List α
  | [] => [x]
  | y :: t => if le y x then y :: insertBy le x t else x :: y :: t

/-- A list sorted by `le`; equals keep their order. -/
def sortBy {α : Type} (le : α → α → Bool) (l : List α) : List α := l.foldl (fun a x => insertBy le x a) []

/-- Bytes `off .. off + n - 1` of an entry held as a little-endian number. -/
def fld (v off n : Nat) : Nat := v / 2 ^ (8 * off) % 2 ^ (8 * n)

/-- How many entries an item has (Table 3-14; SCHED, TOLL and GATE cover ports 0-41, R264, R268, R271). -/
def itemEntries : Nat → Nat
  | 0x01 => 16
  | 0x02 => 64
  | 0x03 => 1024
  | 0x04 => 16384
  | 0x05 => 1024
  | 0x06 => 42
  | 0x07 => 672
  | 0x08 => 10794
  | 0x09 => 1
  | 0x0A => 1
  | 0x0B => 1
  | 0x0C => 17
  | _ => 0

/-- The bytes of one entry of an item.  The manual gives no layout for POWER; log entry 12 fixes 16 bytes. -/
def itemSize : Nat → Nat
  | 0x01 => 64
  | 0x02 => 32
  | 0x03 => 32
  | 0x04 => 32
  | 0x05 => 32
  | 0x06 => 64
  | 0x07 => 32
  | 0x08 => 16
  | 0x09 => 128
  | 0x0A => 16
  | 0x0B => 16
  | 0x0C => 16
  | _ => 0

/-- The SCHED entry of port `k` at reset (Table 9-9). -/
def schedReset (k : Nat) : Nat :=
  let ovr := if k < 32 then 24 else if k < 40 then 82 else 0
  let weights := (List.range 15).foldl (fun a i =>
    a + (if i = 0 then 8 else if i = 1 then 4 else 1) * 2 ^ (16 * (i + 1))) 0
  let map := (List.range 48).foldl (fun a i => a + (i % 3 + 1) * 2 ^ (256 + 4 * i)) 0
  ovr + weights + map

/-- The POLICY entry at reset (Table 7-4). -/
def policyReset : Nat :=
  3 + 50 * 2 ^ 32 + 10000 * 2 ^ 64 + 10000 * 2 ^ 96 + 0x5F5A5A5A * 2 ^ 128 + 0x5A505050 * 2 ^ 160 +
  1050 * 2 ^ 192 + 16 * 2 ^ 216

/-- The value of entry `i` of item `code` at every cold or warm reset (R197, R206, R264, R271, R408, R499; R464 for the
power cap). -/
def itemReset (code i : Nat) : Nat :=
  if code = 0x01 then (if i = 0 then 1 else 0)
  else if code = 0x02 then (2 ^ 64 - 1) * 2 ^ 64
  else if code = 0x06 then schedReset i
  else if code = 0x09 then policyReset
  else if code = 0x0A then 1000
  else if code = 0x0C then (if i < 16 then 1 else 1000 * 2 ^ 32)
  else 0

/-- The value an item list holds for an entry: the listed one, else the reset value. -/
def itemGet (l : List Item) (code i : Nat) : Nat :=
  match l.find? (fun x => x.code == code && x.index == i) with
  | some x => x.value
  | none => itemReset code i

/-- The item list with one entry set; an entry equal to its reset value is not listed. -/
def itemSet (l : List Item) (code i v : Nat) : List Item :=
  let rest := l.filter (fun x => !(x.code == code && x.index == i))
  if v = itemReset code i then rest else ⟨code, i, v⟩ :: rest

/-- The live items with every staged entry laid over them (R88). -/
def itemOver (live staged : List Item) : List Item :=
  staged.foldr (fun x a => itemSet a x.code x.index x.value) live

/-- The indices that an item list names for one item, and whose value differs from 0 at reset or now. -/
def itemListed (l : List Item) (code : Nat) : List Nat := (l.filter (fun x => x.code == code)).map (·.index)

/-- Those indices once each, rising. -/
def itemOrder (l : List Item) (code : Nat) : List Nat := sortBy (fun a b => decide (a ≤ b)) (itemListed l code).eraseDups

/-! ### Fields -/

/-- PARTITION entry `p` is VALID. -/
def partValid (l : List Item) (p : Nat) : Bool := p < 16 && bit (itemGet l 0x01 p) 0
/-- PARTITION entry `p` is HARD. -/
def partHard (l : List Item) (p : Nat) : Bool := partValid l p && bit (itemGet l 0x01 p) 1
/-- Pier mask of partition `p`. -/
def partPiers (l : List Item) (p : Nat) : Nat := fld (itemGet l 0x01 p) 2 1
/-- DDR channel mask of partition `p`. -/
def partDdr (l : List Item) (p : Nat) : Nat := fld (itemGet l 0x01 p) 3 1
/-- CXL link mask of partition `p`. -/
def partLinks (l : List Item) (p : Nat) : Nat := fld (itemGet l 0x01 p) 4 4
/-- Ethernet port mask of partition `p`. -/
def partEth (l : List Item) (p : Nat) : Nat := fld (itemGet l 0x01 p) 8 1
/-- Trestle bank mask of partition `p`. -/
def partBanks (l : List Item) (p : Nat) : Nat := fld (itemGet l 0x01 p) 16 32

/-- Guarantee of partition `p` in tier `t` (Table 7-2). -/
def quotaGuar (l : List Item) (p t : Nat) : Nat := fld (itemGet l 0x02 (4 * p + t)) 0 8
/-- Limit of partition `p` in tier `t`; 2^64 - 1 for none. -/
def quotaLimit (l : List Item) (p t : Nat) : Nat := fld (itemGet l 0x02 (4 * p + t)) 8 8

/-- Is host entry `h` VALID? (Table 11-4) -/
def hostValid (l : List Item) (h : Nat) : Bool := bit (itemGet l 0x03 h) 0
/-- Is port-based routing set in host entry `h`? -/
def hostPbr (l : List Item) (h : Nat) : Bool := bit (itemGet l 0x03 h) 1
/-- The CTL right of host entry `h`. -/
def hostCtl (l : List Item) (h : Nat) : Bool := bit (itemGet l 0x03 h) 2
/-- The DATA right of host entry `h`. -/
def hostData (l : List Item) (h : Nat) : Bool := bit (itemGet l 0x03 h) 3
/-- The MEM right of host entry `h`. -/
def hostMem (l : List Item) (h : Nat) : Bool := bit (itemGet l 0x03 h) 4
/-- OUTBOUND_CHECK of host entry `h`. -/
def hostOutCheck (l : List Item) (h : Nat) : Bool := bit (itemGet l 0x03 h) 5
/-- The function host entry `h` names. -/
def hostFn (l : List Item) (h : Nat) : Fn := ⟨fld (itemGet l 0x03 h) 2 1, fld (itemGet l 0x03 h) 3 1⟩
/-- The SPID of host entry `h`. -/
def hostSpid (l : List Item) (h : Nat) : Nat := fld (itemGet l 0x03 h) 4 2
/-- The partition mask of host entry `h`. -/
def hostParts (l : List Item) (h : Nat) : Nat := fld (itemGet l 0x03 h) 6 2
/-- The read cap of host entry `h`, GB/s. -/
def hostReadCap (l : List Item) (h : Nat) : Nat := fld (itemGet l 0x03 h) 8 2
/-- The write cap of host entry `h`, GB/s. -/
def hostWriteCap (l : List Item) (h : Nat) : Nat := fld (itemGet l 0x03 h) 10 2
/-- The recall timeout of host entry `h`, in µs; a field of 0 stands for 10,000. -/
def hostRecallUs (l : List Item) (h : Nat) : Nat :=
  let v := fld (itemGet l 0x03 h) 12 4
  if v = 0 then 10000 else v

/-- The valid host entries, in index order. -/
def validHosts (l : List Item) : List Nat := (itemOrder l 0x03).filter (fun h => h < 1024 && hostValid l h)

/-- FM_TRUST mode: no host entry is valid (R322). -/
def fmTrust (l : List Item) : Bool :=
  !((l.filter (fun x => x.code == 0x03)).any (fun x => bit x.value 0))

/-- A range entry (Table 11-5) as a record. -/
structure RangeIso where
  index : Nat
  base : Nat
  length : Nat
  host : Nat
  read : Bool
  write : Bool
  nc : Bool
  mirror : Bool
  outbound : Bool
  partition : Nat
  partner : Nat
  valid : Bool
  deriving DecidableEq, Repr

/-- Range entry `i`. -/
def rangeIso (l : List Item) (i : Nat) : RangeIso :=
  let v := itemGet l 0x04 i
  let r := fld v 18 1
  ⟨i, fld v 0 8, fld v 8 8, fld v 16 2, bit r 0, bit r 1, bit r 2, bit r 3, bit r 4, fld v 19 1, fld v 20 2,
    bit (fld v 22 1) 0⟩

/-- The valid range entries that an item list holds. -/
def validRanges (l : List Item) : List RangeIso :=
  ((itemListed l 0x04).map (rangeIso l)).filter (·.valid)

/-- Partner entry `i` is VALID (Table 13-1). -/
def partnerValid (l : List Item) (i : Nat) : Bool := bit (itemGet l 0x05 i) 0
/-- TRAY of partner entry `i`. -/
def partnerTray (l : List Item) (i : Nat) : Bool := bit (itemGet l 0x05 i) 1
/-- LEND of partner entry `i`. -/
def partnerLend (l : List Item) (i : Nat) : Bool := bit (itemGet l 0x05 i) 2
/-- MIRROR of partner entry `i`. -/
def partnerMirror (l : List Item) (i : Nat) : Bool := bit (itemGet l 0x05 i) 3
/-- Member index of partner entry `i`. -/
def partnerMember (l : List Item) (i : Nat) : Nat := fld (itemGet l 0x05 i) 2 1
/-- Route of partner entry `i`. -/
def partnerRoute (l : List Item) (i : Nat) : Nat := fld (itemGet l 0x05 i) 4 2
/-- Local link of partner entry `i`. -/
def partnerLink (l : List Item) (i : Nat) : Nat := fld (itemGet l 0x05 i) 6 1
/-- Tray number of partner entry `i`. -/
def partnerTrayNo (l : List Item) (i : Nat) : Nat := fld (itemGet l 0x05 i) 8 4
/-- First 16 bytes of the identity digest in partner entry `i`. -/
def partnerId (l : List Item) (i : Nat) : Nat := fld (itemGet l 0x05 i) 16 16
/-- The valid partner entries, in index order. -/
def validPartners (l : List Item) : List Nat := (itemOrder l 0x05).filter (fun h => h < 1024 && partnerValid l h)
/-- The TRAY entries that count: not this device's own slot, and the lowest-numbered entry of each member (R364). -/
def trayPartners (l : List Item) (slot : Nat) : List Nat :=
  let tr := (validPartners l).filter (partnerTray l)
  tr.filter (fun i => partnerMember l i != slot &&
    !(tr.any (fun j => j < i && partnerMember l j == partnerMember l i)))

/-- Counted overhead of port `k` (Table 9-9). -/
def schedOverhead (l : List Item) (k : Nat) : Nat := fld (itemGet l 0x06 k) 0 1
/-- Weight of queue `q` of port `k`. -/
def schedWeight (l : List Item) (k q : Nat) : Nat := fld (itemGet l 0x06 k) (2 * q) 2
/-- The queue that port `k` maps from partition `p` and class `c` (1 LATENCY, 2 BULK, 3 BACKGROUND). -/
def schedQueue (l : List Item) (k p c : Nat) : Nat :=
  let i := 3 * p + c - 1
  fld (itemGet l 0x06 k) (32 + i / 2) 1 / 16 ^ (i % 2) % 16

/-- A toll entry (Table 9-13). -/
structure Toll where
  crate : Nat
  prate : Nat
  cdepth : Nat
  pdepth : Nat
  action : Nat
  mark : Nat
  enable : Bool
  deriving DecidableEq, Repr

/-- The toll entry of queue `q` of port `k`. -/
def tollOf (l : List Item) (k q : Nat) : Toll :=
  let v := itemGet l 0x07 (16 * k + q)
  ⟨fld v 0 4, fld v 4 4, fld v 8 4, fld v 12 4, fld v 16 1, fld v 17 1, bit (fld v 18 1) 0⟩

/-- The gate list of port `k` (Table 9-11). -/
def gateOf (l : List Item) (k : Nat) : GateList :=
  let h := itemGet l 0x08 (257 * k)
  ⟨fld h 0 8, fld h 8 4, (List.range (fld h 12 2)).map (fun i =>
    let e := itemGet l 0x08 (257 * k + 1 + i)
    (fld e 0 4, fld e 4 2))⟩

/-- PREDICT, CODEC, LEND, BORROW: bit `i` of POLICY's flags (Table 7-4). -/
def policyFlag (l : List Item) (i : Nat) : Bool := bit (itemGet l 0x09 0) i
/-- The horizon of tier `t` in ms: deck, causeway, viaduct. -/
def policyHorizon (l : List Item) (t : Nat) : Nat := fld (itemGet l 0x09 0) (4 + 4 * t) 4
/-- The high watermark of tier `t`, in percent. -/
def policyHigh (l : List Item) (t : Nat) : Nat := fld (itemGet l 0x09 0) (16 + t) 1
/-- The low watermark of tier `t`, in percent. -/
def policyLow (l : List Item) (t : Nat) : Nat := fld (itemGet l 0x09 0) (20 + t) 1
/-- The codec threshold, a ratio in 1/1,000. -/
def policyThreshold (l : List Item) : Nat := fld (itemGet l 0x09 0) 24 2
/-- The lend share, in 1/256. -/
def policyShare (l : List Item) : Nat := fld (itemGet l 0x09 0) 26 1
/-- The lease step in GiB. -/
def policyStep (l : List Item) : Nat := fld (itemGet l 0x09 0) 27 1
/-- The re-quantisation profile of partition `p` and tier `t`. -/
def policyProfile (l : List Item) (p t : Nat) : Nat := fld (itemGet l 0x09 0) 32 16 / 4 ^ (4 * p + t) % 4

/-- The tenant's power cap in W (log entry 12 for its place). -/
def powerCap (l : List Item) : Nat := fld (itemGet l 0x0A 0) 0 2

/-- The deck mode: 0 plain, 1 parity, 2 mirror (R499). -/
def deckMode (l : List Item) : Nat := fld (itemGet l 0x0B 0) 0 1

/-- EXPERT of partition `p` (Table 14-15). -/
def expertOn (l : List Item) (p : Nat) : Bool := bit (itemGet l 0x0C p) 0
/-- DIRECT_WRITE of partition `p`. -/
def directWrite (l : List Item) (p : Nat) : Bool := bit (itemGet l 0x0C p) 1
/-- FIXED_RATE. -/
def fixedRate (l : List Item) : Bool := bit (itemGet l 0x0C 16) 0
/-- IDE_REQUIRED. -/
def ideRequired (l : List Item) : Bool := bit (itemGet l 0x0C 16) 1
/-- The fixed-rate period in µs. -/
def fixedPeriod (l : List Item) : Nat := fld (itemGet l 0x0C 16) 4 4

/-! ### Judging one entry (R197, R206, R264, R268, R271, R318, R319, R364, R408, R499) -/

/-- Does STAGE_WRITE accept this value for this entry, or answer BAD_PARAM? -/
def entryOk (code i v : Nat) : Bool :=
  let f := fld v
  match code with
  | 0x01 =>
    let masks := f 2 1 + f 3 1 + f 4 4 + f 8 1 + f 16 32
    f 0 2 < 4 && f 2 1 < 64 && f 8 1 < 16 && f 9 7 = 0 && f 48 16 = 0 &&
      (if bit v 1 then f 2 1 != 0 && f 16 32 != 0 else masks = 0)
  | 0x02 => f 0 8 % 4096 = 0 && f 0 8 ≤ f 8 8 && f 16 16 = 0
  | 0x03 =>
    f 0 2 < 64 && f 2 1 < 32 && f 3 1 < 16 && f 4 2 < 4096 && (bit v 1 || f 4 2 = 0) &&
      (f 12 4 = 0 || (100 ≤ f 12 4 && f 12 4 ≤ 100000)) && f 16 16 = 0
  | 0x04 =>
    let out := bit (f 18 1) 4
    let unit := if out then 4096 else 2 ^ 21
    let r := f 18 1
    f 8 8 != 0 && f 0 8 % unit = 0 && f 8 8 % unit = 0 && f 16 2 < 1024 && r < 32 &&
      (if out then f 19 1 = 0 else f 19 1 < 16) && f 20 2 < 1024 && (bit r 3 || f 20 2 = 0) && f 22 1 < 2 && f 23 9 = 0
  | 0x05 =>
    f 0 2 < 16 && f 2 1 < 8 && (bit v 1 || f 2 1 = 0) && f 3 1 = 0 && f 4 2 < 4096 && f 6 1 < 32 && f 7 1 = 0 &&
      f 12 4 = 0
  | 0x06 =>
    (List.range 15).all (fun q => f (2 * (q + 1)) 2 != 0) && f 1 1 = 0 &&
      (List.range 48).all (fun j => f (32 + j / 2) 1 / 16 ^ (j % 2) % 16 != 0) && f 56 8 = 0
  | 0x07 => i % 16 != 0 && i < 640 && f 16 1 < 3 && f 17 1 < 64 && f 18 1 < 2 && f 19 13 = 0
  | 0x08 => if i % 257 = 0 then f 12 2 ≤ 256 && f 14 2 = 0 else (v = 0 || 100 ≤ f 0 4) && f 6 10 = 0
  | 0x09 =>
    let horizon := fun n => 1 ≤ n && n ≤ 3600000
    f 0 4 < 16 && horizon (f 4 4) && horizon (f 8 4) && horizon (f 12 4) &&
      (List.range 4).all (fun t => 50 ≤ f (16 + t) 1 && f (16 + t) 1 ≤ 99 && 10 ≤ f (20 + t) 1 && f (20 + t) 1 ≤ 94 &&
        f (20 + t) 1 + 5 ≤ f (16 + t) 1) &&
      1000 ≤ f 24 2 && f 24 2 ≤ 4000 && 1 ≤ f 27 1 && f 28 4 = 0 &&
      (List.range 16).all (fun p => f (32 + p) 1 % 4 = 0) && f 48 80 = 0
  | 0x0A => f 2 14 = 0
  | 0x0B => f 0 1 < 3 && f 1 15 = 0
  | 0x0C =>
    if i < 16 then f 0 4 < 4 && f 4 12 = 0
    else f 0 4 < 4 && 100 ≤ f 4 4 && f 4 4 ≤ 100000 && f 8 8 = 0
  | _ => false

end Sys2Proof.Machine
end

