-- ==== Sys2Proof/Machine/Flags.lean ====
section
/-! DEFINITION. Flags.lean: codes that the device reports and the reporting words it computes: status codes (Table
3-11), record states (Table 3-12), the load word (Table 3-7) and its quantised form (R410), DEV_READY (Table 2-4) and
the fuse words' readings (R34). -/
namespace Sys2Proof.Machine

/-- A key's value in an association list. -/
def assoc (l : List (Nat × Nat)) (k d : Nat) : Nat := match l.find? (·.1 == k) with
  | some p => p.2
  | none => d

/-- A key's value set. -/
def assocSet (l : List (Nat × Nat)) (k v : Nat) : List (Nat × Nat) := (k, v) :: l.filter (·.1 != k)

/-- The code of a status (Table 3-11). -/
def Status.code : Status → Nat
  | .ok => 0x00
  | .partialDone => 0x01
  | .inProgress => 0x02
  | .aborted => 0x03
  | .retry => 0x10
  | .noBuffer => 0x11
  | .recompute => 0x12
  | .badOpcode => 0x20
  | .badParam => 0x21
  | .badHandle => 0x22
  | .outOfRange => 0x23
  | .immutable => 0x24
  | .staleEpoch => 0x30
  | .versionGone => 0x31
  | .checkFailed => 0x32
  | .stagingBusy => 0x33
  | .denied => 0x40
  | .notClaimed => 0x41
  | .quotaExceeded => 0x42
  | .entropyUnavailable => 0x50
  | .groupDegraded => 0x60
  | .deadlineMissed => 0x70
  | .mediaError => 0x80
  | .integrityError => 0x81
  | .poisoned => 0x82
  | .deviceHalted => 0xF0

/-- The place of a status in Table 3-11, which orders the completion counters (Table 16-2). -/
def Status.place : Status → Nat
  | .ok => 0
  | .partialDone => 1
  | .inProgress => 2
  | .aborted => 3
  | .retry => 4
  | .noBuffer => 5
  | .recompute => 6
  | .badOpcode => 7
  | .badParam => 8
  | .badHandle => 9
  | .outOfRange => 10
  | .immutable => 11
  | .staleEpoch => 12
  | .versionGone => 13
  | .checkFailed => 14
  | .stagingBusy => 15
  | .denied => 16
  | .notClaimed => 17
  | .quotaExceeded => 18
  | .entropyUnavailable => 19
  | .groupDegraded => 20
  | .deadlineMissed => 21
  | .mediaError => 22
  | .integrityError => 23
  | .poisoned => 24
  | .deviceHalted => 25

/-- The code of a record state (Table 3-12). -/
def RecState.code : RecState → Nat
  | .queued => 0
  | .running => 1
  | .paused => 2
  | .done => 3
  | .aborted => 4
  | .failed => 5

/-- The final state of a record by its final status: PARTIAL ends DONE; a stop by ABORT, by a REVOKE commit or by a halt
ends ABORTED (Table 3-12, R431; log entry 15). -/
def Status.finalState : Status → RecState
  | .ok | .partialDone => .done
  | .aborted | .staleEpoch | .deviceHalted => .aborted
  | _ => .failed

/-- The code of a lifecycle state (Table 14-18). -/
def Life.code : Life → Nat
  | .unclaimed => 0
  | .claiming => 1
  | .claimed => 2
  | .operating => 3
  | .releasing => 4

/-- The code of an error class (Table 15-2). -/
def FClass.code : FClass → Nat
  | .corrected => 1
  | .recovered => 2
  | .dataLoss => 3
  | .degraded => 4
  | .refused => 5
  | .fatal => 6

/-- The code of a thermal state (Table 17-9). -/
def Thermal.code : Thermal → Nat
  | .normal => 0
  | .warm => 1
  | .limit => 2
  | .trip => 3

/-- The clamp step in force: the higher of the thermal and the power step (R468). -/
def State.clampStep (s : State) : Nat := max s.mgmt.thermalStep s.mgmt.powerStep

/-- The clamp step that registers, events and counters show: under FIXED_RATE the highest of the period just ended (R410). -/
def State.shownStep (s : State) : Nat := if fixedRate s.stg.live then s.tel.fixedStep else s.clampStep

/-- The cap in force, in W: the lower of the staged POWER cap and the management ceiling (R464). -/
def State.capNow (s : State) : Nat := min (powerCap s.stg.live) s.mgmt.ceiling

/-- Is boost in force: enabled, and the thermal state below WARM (R464, R468)? -/
def State.boosts (s : State) : Bool := s.mgmt.boostEn && s.mgmt.thermal = .normal

/-- Does the keystone take authenticated management: powered, with a trust anchor installed (R456, R457)? -/
def State.managed (s : State) : Bool := s.boot.phase != .off && !s.mgmt.anchors.isEmpty

/-- The registers of Table 17-9 as of now. -/
def State.powerRegs (s : State) : List Nat :=
  let m := s.mgmt
  [s.shownStep * 2 ^ 28 + m.thermal.code * 2 ^ 26 + b2n s.boosts * 2 ^ 25 + b2n (m.peakLeft = 0) * 2 ^ 24 +
     b2n (m.boostLeft = 0) * 2 ^ 23 + m.boostLeft / 1000,
   (m.peak1ms.map (·.2)).foldl max 0 / 1000 % 2 ^ 16 * 2 ^ 16 + m.lastPower / 1000 % 2 ^ 16,
   m.ceiling * 2 ^ 16 + s.capNow,
   m.hbmMax * 2 ^ 16 + m.logicMax,
   b2n (!m.anchors.isEmpty) * 2 ^ 31 + b2n m.oobUp * 2 ^ 30 + min 3 m.sessions * 2 ^ 28 + b2n (!m.policy.isEmpty) * 2 ^ 27 +
     m.anchors.length * 2 ^ 24 + b2n s.boot.slotBValid * 2 ^ 23 + b2n s.boot.slotAValid * 2 ^ 22 + min 0x7FF m.parties.length]

/-- The power and management registers brought up to date (R471). -/
def State.refreshRegs (s : State) : State := { s with mgmt.regs := s.powerRegs }

/-- The largest unit of a port before its counted overhead: a read request of Max_Read_Request_Size at its PCIe reset
value, and a 4,096-byte payload on Ethernet (R265, Table 12-1; log entry 21). -/
def largestUnit (port : Nat) : Nat := if port < 32 then 512 else 4096

/-- The payload of one write unit: Max_Payload_Size at its PCIe reset value on CXL/PCIe, and the RDMA path's largest on
Ethernet (R265; log entry 21). -/
def maxPayload (port : Nat) : Nat := if port < 32 then 128 else 4096

/-- Counted bytes of what a unit still has to send, in pieces of `mps` (R265). -/
def SUnit.counted (u : SUnit) (mps ovr : Nat) : Nat := (u.size - u.off) + max 1 (cdiv (u.size - u.off) (min mps u.pay)) * ovr

/-- A scheduling port's queued counted bytes: every waiting unit, and what of the unit in transmission has not left
(R274). -/
def SPort.backlog (p : SPort) (now ovr : Nat) : Nat :=
  (p.queues.map (fun q => (q.units.map (fun u => u.counted (maxPayload p.num) ovr)).foldl (· + ·) 0)).foldl (· + ·) 0 +
  (if now < p.sentUntil then min p.sending ((p.sentUntil - now) * p.raw) else 0)

/-- Where a time lies in a gate list: the entry in force, what of its span is left, both by R269. -/
def gateSpan (l : List (Nat × Nat)) (t : Nat) (i : Nat) : Nat × Nat :=
  match l with
  | [] => (i - 1, 0)
  | e :: r => if t < e.1 || r.isEmpty then (i, e.1 - t) else gateSpan r (t - e.1) (i + 1)

/-- The entry in force at a time (R269). -/
def GateList.entry (g : GateList) (now : Nat) : Nat := (gateSpan g.entries ((now - g.takeover) % max 1 g.cycle) 0).1

/-- The gate mask in force on a port: every gate is open without a list (R268, R269). -/
def SPort.mask (p : SPort) (now : Nat) : Nat := match p.active with
  | some g => (g.entries.getD (g.entry now) (0, 0xFFFF)).2
  | none => 0xFFFF

/-- Is the gate of a queue open now?  Nothing gates queue 0 (R263). -/
def SPort.open_ (p : SPort) (q now : Nat) : Bool := q = 0 || bit (p.mask now) q

/-- The PORT field of the load word: min(15, floor(queued bytes / raw rate in µs)) (R274). -/
def State.portLoad (s : State) (k : Nat) : Nat :=
  match s.dlv.ports.find? (·.num == k) with
  | some p => if p.raw = 0 then 0 else min 15 (p.backlog s.clock.now (schedOverhead s.stg.live k) / (p.raw * 1000))
  | none => 0

/-- The span that owns an operation tag (R28). -/
def tagSpan (tag : Nat) : Nat := tag / 2 ^ 15 % 2

/-- Operations in span `n`'s operation table. -/
def State.opsOf (s : State) (n : Nat) : Nat := (s.q.ops.filter (fun o => tagSpan o.tag == n)).length

/-- The OPS field: occupancy of the owning span's operation table in 1/256 (R69). -/
def State.opsLoad (s : State) (n : Nat) : Nat := min 255 (s.opsOf n * 256 / 32768)

/-- Page-engine contexts in use on a pier: one for each operation whose unit on that pier has not ended (R27, Table 1-13). -/
def State.ctxUsed (s : State) (p : Nat) : Nat := (s.q.ops.filter (fun o => o.contexts.contains p)).length

/-- The CTX field: the highest page-engine context occupancy among the piers, in 1/256 (R69). -/
def State.ctxLoad (s : State) : Nat :=
  ((List.range 6).map (fun p => min 255 (s.ctxUsed p * 256 / 2048))).foldl max 0

/-- The load word as of now, for a completion of span `n` on port `k` (Table 3-7). -/
def State.rawLoad (s : State) (n k : Nat) : Nat :=
  s.opsLoad n * 2 ^ 24 + s.ctxLoad * 2 ^ 16 + s.clampStep * 2 ^ 12 + s.portLoad k * 2 ^ 8 +
  (Config.waitEstimate s.free).toNat

/-- Quantisation under FIXED_RATE: OPS and CTX down to multiples of 64; WAIT to 0, 16, 64 or 255; PORT to 0, 4 or 15;
CLAMP 0 (R410). -/
def quantise (w : Nat) : Nat :=
  let wait := bits w 7 0
  let port := bits w 11 8
  bits w 31 24 / 64 * 64 * 2 ^ 24 + bits w 23 16 / 64 * 64 * 2 ^ 16 +
  (if port < 4 then 0 else if port < 15 then 4 else 15) * 2 ^ 8 +
  (if wait < 16 then 0 else if wait < 64 then 16 else if wait < 255 then 64 else 255)

/-- The load word of a completion: as of now, or the period's sample under FIXED_RATE (R69, R410). -/
def State.loadWord (s : State) (n k : Nat) : Nat :=
  if fixedRate s.stg.live then assoc s.tel.fixedSample (n * 64 + k) 0 else s.rawLoad n k

/-- DevLoad of a CXL.mem response on port `k`: the higher of the two levels of Table 9-15 (R274). -/
def State.devLoad (s : State) (k : Nat) : Nat :=
  let w := s.loadWord 0 k
  let ctx := bits w 23 16
  let port := if fixedRate s.stg.live then bits w 11 8 else s.portLoad k
  let a := if ctx < 64 then 0 else if ctx < 128 then 1 else if ctx < 192 then 2 else 3
  let b := if port < 1 then 0 else if port < 4 then 1 else if port < 15 then 2 else 3
  max a b

/-- The DEV_READY register (Table 2-4). -/
def State.devReady (s : State) : Nat :=
  let b := s.boot
  b2n b.halted * 2 ^ 31 + b2n b.warm * 2 ^ 30 + b.stackOk % 64 * 2 ^ 16 + b.causewayOk % 256 * 2 ^ 8 +
  b2n b.linkwatch * 2 ^ 7 + b2n b.marginal * 2 ^ 5 + b2n b.bootFail * 2 ^ 4 + b2n b.full * 2 ^ 2 + b2n b.deck * 2 +
  b2n b.link

/-! ### Fuses (R34) -/

/-- Is a fuse word marginal: some bit reads blown only against the low reference? -/
def Fuse.marginal (f : Fuse) : Bool := f.low &&& ~~~f.high != 0

/-- The classes whose marginal set is applied at once; repair and trim words wait for the next reset (R35). -/
def FuseClass.security : FuseClass → Bool
  | .debugLock | .diagLock | .rollback | .bootDigestA | .bootDigestB => true
  | _ => false

/-- The fuse words of one class. -/
def Boot.classOf (b : Boot) (c : FuseClass) : List Fuse := b.fuses.filter (·.cls == c)

/-- Does a fuse word count as marginal: by the last sensing, or by the last reset's for repair and trim words (R35)? -/
def Boot.isMarginal (b : Boot) (f : Fuse) : Bool :=
  if f.cls.security then b.marginalSecurity.contains f.index
  else if f.cls = .identity then b.marginalOther.contains f.index
  else b.marginalApplied.contains f.index

/-- The reading of a lock: locked when its word is not 0, and when it is marginal (Table 2-2; log entry 10). -/
def Boot.locked (b : Boot) (c : FuseClass) : Bool :=
  (b.classOf c).any (fun f => b.isMarginal f || f.high != 0)

/-- A repair word's value: none where it is marginal, and training and self-test find the repair instead (Table 2-2). -/
def Boot.repairWord (b : Boot) (f : Fuse) : Option (BitVec 32) := if b.isMarginal f then none else some f.high

/-- A trim word's value: the circuit's factory default where it is marginal (Table 2-2). -/
def Boot.trimWord (b : Boot) (f : Fuse) : BitVec 32 := if b.isMarginal f then Config.factoryTrim f.index else f.high

/-- Identity word `i`, at the low reference whether marginal or not (Table 2-2; log entry 10): 0 and 1 the serial number's halves,
2 the stepping, 3 the speed grade. -/
def Boot.identityWord (b : Boot) (i : Nat) : Nat := (((b.classOf .identity)[i]?).map (·.low.toNat)).getD 0

/-- The serial number. -/
def Boot.serial (b : Boot) : Nat := b.identityWord 0 + b.identityWord 1 * 2 ^ 32

/-- The stepping. -/
def Boot.stepping (b : Boot) : Nat := b.identityWord 2 % 256

/-- The speed grade. -/
def Boot.speedGrade (b : Boot) : Nat := b.identityWord 3 % 256

/-- Bits set in a word. -/
def popcount (v : BitVec 32) : Nat := ((List.range 32).filter (fun i => v.getLsbD i)).length

/-- The anti-rollback counter, a thermometer code in which every marginal bit counts as blown (Table 2-2). -/
def Boot.rollback (b : Boot) : Nat :=
  ((b.classOf .rollback).map (fun f => popcount (f.low ||| f.high))).foldl (· + ·) 0

/-- One copy of the boot key digest, unless it holds a marginal word. -/
def Boot.digestCopy (b : Boot) (c : FuseClass) : Option Nat :=
  let ws := b.classOf c
  if ws.any (fun f => b.isMarginal f) then none
  else some (ws.foldr (fun f a => a * 2 ^ 32 + f.high.toNat) 0)

/-- The boot key digest: a copy with no marginal word; none when both copies hold one, and boot then fails. -/
def Boot.keyDigest (b : Boot) : Option Nat :=
  match b.digestCopy .bootDigestA with
  | some d => some d
  | none => b.digestCopy .bootDigestB

/-- The slots' images. -/
def Boot.image (b : Boot) : Slot → Option Image
  | .a => b.slotA
  | .b => b.slotB

/-- The rules of R36 for one slot. -/
def Boot.accepts (b : Boot) (sl : Slot) : Bool :=
  match b.image sl, b.keyDigest with
  | some im, some d => im.keyDigest == d && im.signatureOk && b.rollback ≤ im.svn
  | _, _ => false

/-- The running image. -/
def Boot.runningImage (b : Boot) : Option Image := b.running.bind b.image

/-- The security version of the running firmware (SEC_STATUS.FW_SVN); 0 with none. -/
def Boot.svn (b : Boot) : Nat := match b.runningImage with
  | some im => im.svn
  | none => 0

end Sys2Proof.Machine
end

