-- ==== Sys2Proof/Machine/Fabric.lean ====
section
/-! DEFINITION. Fabric.lean: the deck fabric's messages, their classes, credits, routes and arbitration, and the copies of device
time on the dies (Package architecture, R15 to R18, R20, R26). -/
namespace Sys2Proof.Machine

/-! ### Dies (Table 1-1, Table 1-3) -/

/-- A pier die, as bits [15:8] of its locus. -/
def pierDie (n : Nat) : Nat := 0x10 + n
/-- A trestle die. -/
def trestleDie (n : Nat) : Nat := 0x20 + n
/-- A span die. -/
def spanDie (n : Nat) : Nat := 0x30 + n
/-- The girder die. -/
def girderDie : Nat := 0x40
/-- An abutment die. -/
def abutmentDie (n : Nat) : Nat := 0x50 + n
/-- The keystone die. -/
def keystoneDie : Nat := 0x60

/-- The abutment that carries a scheduling port: links 0-15 and Ethernet links 32-35 are abutment 0's (Table 1-2, Table 9-8). -/
def portAbutment (k : Nat) : Nat := if k < 32 then k / 16 else (k - 32) / 4

/-- Every logic die of the package. -/
def logicDies : List Nat :=
  (List.range 6).map pierDie ++ (List.range 4).map trestleDie ++ (List.range 2).map spanDie ++ [girderDie] ++
  (List.range 2).map abutmentDie ++ [keystoneDie]

/-- The link number between two dies, the lower locus first: Table 1-4 counts them by the first die, then by the second. -/
def fabricBetween (a b : Nat) : Option Nat :=
  let i := a % 16
  let j := b % 16
  match a / 16, b / 16 with
  | 1, 3 => some (2 * i + j)
  | 1, 5 => some (16 + 2 * i + j)
  | 3, 3 => if i = j then none else some 32
  | 2, 3 => some (48 + 2 * i + j)
  | 3, 4 => some (64 + i)
  | 3, 5 => some (80 + 2 * i + j)
  | 3, 6 => some (96 + i)
  | _, _ => none

/-- The link between two dies in either order. -/
def fabricNumber (a b : Nat) : Option Nat := fabricBetween (min a b) (max a b)

/-- Does a link between the two dies serve? -/
def State.fabricServes (s : State) (a b : Nat) : Bool :=
  (fabricNumber a b).any (fun n => !s.ras.out.contains (.fabricLink n))

/-- The next die on a message's way: its target over the direct link, else the lower-numbered span from which the way goes on, as
Table 1-4's text and R420 let it (log entry 134). -/
def State.fabricHop (s : State) (here dst : Nat) : Nat :=
  if s.fabricServes here dst then dst
  else if here / 16 = 3 && dst / 16 = 3 then abutmentDie 0
  else if s.fabricServes here (spanDie 0) && s.fabricServes (spanDie 0) dst then spanDie 0
  else if s.fabricServes here (spanDie 1) && s.fabricServes (spanDie 1) dst then spanDie 1
  else if s.fabricServes here (spanDie 0) then spanDie 0
  else if s.fabricServes here (spanDie 1) then spanDie 1
  else dst

/-! ### Links (R17) -/

/-- Credits of a class on a link: CTL has 8 messages' worth that no other class can take. -/
def Traffic.credits : Traffic → Nat
  | .ctl => 8
  | .rsp => Config.fabricCredits 1 + 1
  | .req => Config.fabricCredits 2 + 1
  | .bulk => Config.fabricCredits 3 + 1

/-- Has a class a message that waits at this link and a credit for it? -/
def FabLink.ready (l : FabLink) (c : Traffic) : Bool :=
  l.waiting.any (·.cls == c) && (l.flying.filter (·.cls == c)).length < c.credits

/-- The class that a link sends next: CTL by strict priority, then RSP, then REQ and BULK, three turns of BULK to one of REQ. -/
def FabLink.pick (l : FabLink) : Option Traffic :=
  if l.ready .ctl then some .ctl
  else if l.ready .rsp then some .rsp
  else if l.turn = 0 && l.ready .req then some .req
  else if l.ready .bulk then some .bulk
  else if l.ready .req then some .req
  else none

/-- The oldest message of a class, and the list without it. -/
def takeClass (c : Traffic) : List FabMsg → Option (FabMsg × List FabMsg)
  | [] => none
  | m :: t => if m.cls = c then some (m, t) else (takeClass c t).map (fun x => (x.1, m :: x.2))

/-- A link sends its next message. -/
def FabLink.send (l : FabLink) : FabLink :=
  match l.pick with
  | none => l
  | some c =>
    match takeClass c l.waiting with
    | none => l
    | some (m, t) => { l with
        waiting := t
        flying := l.flying ++ [m]
        turn := (match c with
          | .req => 1
          | .bulk => if l.turn = 0 then 0 else (l.turn + 1) % 4
          | .ctl | .rsp => l.turn) }

/-- A message joins the link from the die that holds it towards its target, behind its class's earlier messages. -/
def State.fabricPut (s : State) (here : Nat) (m : FabMsg) : State :=
  let next := s.fabricHop here m.dst
  if s.fab.any (fun l => l.src == here && l.dst == next) then
    { s with fab := s.fab.map (fun l => if l.src == here && l.dst == next then { l with waiting := l.waiting ++ [m] } else l) }
  else { s with fab := s.fab ++ [⟨here, next, [m], [], 0⟩] }

/-- A message sent from one die to another (R17, R18). -/
def State.fabricSend (s : State) (cls : Traffic) (body : FabBody) (src dst : Nat) : State :=
  if src = dst then s else s.fabricPut src ⟨cls, body, src, dst⟩

/-- The same order to every other logic die, in CTL (R17). -/
def State.fabricAll (s : State) (body : FabBody) (src : Nat) : State :=
  logicDies.foldl (fun s d => s.fabricSend .ctl body src d) s

/-- A message reaches a die: it goes on towards its target, or arrives; data that arrives is acknowledged in RSP (R18). -/
def State.fabricArrive (s : State) (here : Nat) (m : FabMsg) : State :=
  if here != m.dst then s.fabricPut here m
  else match m.body with
    | .data tag => s.fabricSend .rsp (.ack tag) here m.src
    | .halt | .clamp _ | .recall _ | .command _ | .reply _ | .ack _ | .store _ => s

/-- One step of one link: its oldest message on the wire reaches the far die and frees its credit, and the next is sent. -/
def State.fabricLinkStep (s : State) (src dst : Nat) : State :=
  match s.fab.find? (fun l => l.src == src && l.dst == dst) with
  | none => s
  | some l =>
    let here := fun x : FabLink => x.src == src && x.dst == dst
    match l.flying with
    | [] => { s with fab := s.fab.map (fun x => if here x then x.send else x) }
    | m :: t =>
      let s := { s with fab := s.fab.map (fun x => if here x then FabLink.send { x with flying := t } else x) }
      s.fabricArrive dst m

/-- One step of the whole fabric; a link without messages is not listed. -/
def State.fabricStep (s : State) : State :=
  let t := s.fab.foldl (fun t l => t.fabricLinkStep l.src l.dst) s
  { t with fab := t.fab.filter (fun l => !(l.waiting.isEmpty && l.flying.isEmpty)) }

/-- Is data of an operation, or an acknowledgement of it, still on its way? -/
def State.fabricCarries (s : State) (tag : Nat) : Bool :=
  s.fab.any (fun l => (l.waiting ++ l.flying).any (fun m => m.body == .data tag || m.body == .ack tag))

/-- The fabric runs until nothing of the operation is on its way, at most `n` steps. -/
def State.fabricRun (s : State) (tag : Nat) : Nat → State
  | 0 => s
  | n + 1 => if s.fabricCarries tag then s.fabricStep.fabricRun tag n else s

/-- Messages on their way, each counted once a link. -/
def State.fabricLoad (s : State) : Nat := (s.fab.map (fun l => l.waiting.length + l.flying.length)).foldl (· + ·) 0

/-- A span's BULK data for an operation's unit reaches every die it names and is acknowledged (R18). -/
def State.fabricData (s : State) (tag : Nat) (dies : List Nat) : State :=
  let s := dies.foldl (fun s d => s.fabricSend .bulk (.data tag) (spanDie (tagSpan tag)) d) s
  s.fabricRun tag (8 * (s.fabricLoad + 1))

/-- A link that leaves service: each of its ends sends again, on the new path and before anything later, what the link had not
acknowledged (R420). -/
def State.fabricReroute (s : State) (n : Nat) : State :=
  let hit := fun l : FabLink => fabricNumber l.src l.dst == some n
  (s.fab.filter hit).foldl (fun s l => (l.flying ++ l.waiting).foldl (fun s m => s.fabricPut l.src m) s)
    { s with fab := s.fab.filter (fun l => !hit l) }

/-! ### Device time on a die (R26) -/

/-- Device time as the copy on a die shows it, from any locus code of the die. -/
def State.dieTime (s : State) (locus : Nat) : Nat := s.clock.now + Config.dieSkew (locus / 256) % 5

/-- A message's bytes as a fabric link carries them under the key that the keystone set (R21). -/
def State.onWire (s : State) (bytes : List Byte) : Option (List Byte) :=
  if s.sec.fabricKeys then s.sec.fabricKey.map (fun k => Config.fabricCipher k bytes) else none

end Sys2Proof.Machine
end

