-- ==== Sys2Proof/Machine/Hash.lean ====
section
/-! DEFINITION. Hash.lean: the three public checksums that the spec's words name and the device's answers depend on:
SHA-256 (chain keys, R150), SHA-384 (identity and configuration digests, R398) and CRC-32C (R99, R133).  The spec names
them by their standards; the functions follow FIPS 180-4 and the Castagnoli polynomial (log entry 2). -/
namespace Sys2Proof.Machine

/-- Split a list into chunks of `n` (structural in the fuel `k`). -/
def chunks {α : Type} (n : Nat) : Nat → List α → List (List α)
  | 0, _ => []
  | _ + 1, [] => []
  | k + 1, l => l.take n :: chunks n k (l.drop n)

/-- Bytes, first most significant, as a number. -/
def beNat (l : List Byte) : Nat := l.foldl (fun a b => a * 256 + b.toNat) 0

/-- `n` big-endian bytes of `v`. -/
def beBytes : Nat → Nat → List Byte
  | 0, _ => []
  | n + 1, v => BitVec.ofNat 8 (v / 256 ^ n) :: beBytes n v

/-- Bytes, first least significant, as a number (R8). -/
def leNat : List Byte → Nat
  | [] => 0
  | b :: l => b.toNat + 256 * leNat l

/-- `n` little-endian bytes of `v` (R8). -/
def leBytes : Nat → Nat → List Byte
  | 0, _ => []
  | n + 1, v => BitVec.ofNat 8 v :: leBytes n (v / 256)

/-- The message padded to whole blocks of `blk` bytes, its bit length in the last `len` bytes. -/
def shaPad (blk len : Nat) (m : List Byte) : List Byte :=
  let z := (2 * blk - 1 - len - m.length % blk) % blk
  m ++ [0x80#8] ++ List.replicate z 0#8 ++ beBytes len (8 * m.length)

/-- The largest root `r` below `2 ^ k` with `r ^ d ≤ v`, found bit by bit from the top. -/
def rootBits (d v : Nat) : Nat → Nat → Nat
  | 0, r => r
  | k + 1, r => rootBits d v k (if (r + 2 ^ k) ^ d ≤ v then r + 2 ^ k else r)

/-- The first 64 bits of the fraction of the `d`th root of a number below 512: FIPS 180-4 takes its constants from there. -/
def rootFraction (d p : Nat) : Nat := rootBits d (p * 2 ^ (64 * d)) 69 0 % 2 ^ 64

/-- The first 80 primes, those below 410. -/
def smallPrimes : List Nat :=
  (List.range 410).filter (fun n => 2 ≤ n && (List.range 19).all (fun d => n ≤ d + 2 || n % (d + 2) != 0))

/-- The round constants, as 64-bit words, from the cube roots of the primes; SHA-256 takes the upper halves of the first 64. -/
def shaConstants : List Nat := smallPrimes.map (rootFraction 3)

/-- What tells one hash of the family from another, by its word of `n` bits: the rotations of its four mixing functions, the shifts that
end the two of the schedule, its number of rounds, and the first of the eight primes whose square roots start it. -/
structure ShaForm (n : Nat) where
  early : List Nat × Nat      -- the schedule's function of the word 15 places back
  late : List Nat × Nat       -- the schedule's function of the word 2 places back
  onA : List Nat
  onE : List Nat
  rounds : Nat
  prime : Nat

/-- The exclusive or of a word's rotations. -/
def spin {n : Nat} (x : BitVec n) (by_ : List Nat) : BitVec n := by_.foldl (fun a r => a ^^^ x.rotateRight r) 0

/-- The leading bits of a 64-bit fraction, as a word. -/
def leading (n frac : Nat) : BitVec n := BitVec.ofNat n (frac / 2 ^ (64 - n))

/-- The working words: the last four values that the rounds gave the first word and the fifth, newest first.  The other six words of
FIPS 180-4 are these, one to three rounds later. -/
structure ShaWork (n : Nat) where
  as : List (BitVec n)
  es : List (BitVec n)

/-- One round, with its constant and schedule word added up. -/
def ShaWork.turn {n : Nat} (f : ShaForm n) (x : ShaWork n) (kw : BitVec n) : ShaWork n :=
  let e := x.es.headD 0
  let pick := (e &&& x.es.getD 1 0) ||| (~~~ e &&& x.es.getD 2 0)
  let most := x.as.take 3 |>.foldl (fun m w => (m.1 ||| (m.2 &&& w), m.2 ||| w)) ((0 : BitVec n), (0 : BitVec n))
  let t := x.es.getD 3 0 + spin e f.onE + pick + kw
  ⟨(t + spin (x.as.headD 0) f.onA + most.1) :: x.as.take 3, (x.as.getD 3 0 + t) :: x.es.take 3⟩

/-- The rounds of a block over a window of the schedule's next 16 words, which each round moves on by one. -/
def ShaWork.turns {n : Nat} (f : ShaForm n) : List Nat → List (BitVec n) → ShaWork n → ShaWork n
  | [], _, x => x
  | k :: ks, w, x =>
    let old := w.getD 1 0
    let new := w.getD 14 0
    let next := w.headD 0 + (spin old f.early.1 ^^^ old >>> f.early.2) + w.getD 9 0 + (spin new f.late.1 ^^^ new >>> f.late.2)
    (x.turn f (leading n k + w.headD 0)).turns f ks (w.drop 1 ++ [next])

/-- A block taken into the eight words of the hash. -/
def ShaForm.take {n : Nat} (f : ShaForm n) (h : List (BitVec n)) (block : List Byte) : List (BitVec n) :=
  let x := ShaWork.turns f (shaConstants.take f.rounds) ((chunks (n / 8) 16 block).map (fun b => BitVec.ofNat n (beNat b)))
    ⟨h.take 4, h.drop 4⟩
  List.zipWith (· + ·) h (x.as ++ x.es)

/-- The eight words of the hash of a message, as bytes. -/
def ShaForm.digest {n : Nat} (f : ShaForm n) (m : List Byte) : List Byte :=
  let start := ((smallPrimes.drop f.prime).take 8).map (fun p => leading n (rootFraction 2 p))
  let p := shaPad (2 * n) (n / 4) m
  ((chunks (2 * n) (p.length / (2 * n)) p).foldl f.take start).flatMap (fun w => beBytes (n / 8) w.toNat)

/-- SHA-256 of a message, 32 bytes. -/
def sha256 (m : List Byte) : List Byte :=
  (⟨([7, 18], 3), ([17, 19], 10), [2, 13, 22], [6, 11, 25], 64, 0⟩ : ShaForm 32).digest m

/-- SHA-384 of a message, 48 bytes: the first six words. -/
def sha384 (m : List Byte) : List Byte :=
  ((⟨([1, 8], 7), ([19, 61], 6), [28, 34, 39], [14, 18, 41], 80, 8⟩ : ShaForm 64).digest m).take 48

/-- One bit of the reflected CRC-32C division. -/
def crcBit (c : BitVec 32) : BitVec 32 :=
  if c.getLsbD 0 then (c >>> 1) ^^^ 0x82F63B78#32 else c >>> 1

/-- CRC-32C over a list of bytes (R99, R133). -/
def crc32c (m : List Byte) : BitVec 32 :=
  ~~~ (m.foldl (fun c b => (List.range 8).foldl (fun c _ => crcBit c) (c ^^^ b.setWidth 32)) 0xFFFFFFFF#32)

end Sys2Proof.Machine
end

