-- ==== Sys2Proof/Machine/Operands.lean ====
section
/-! DEFINITION. Operands.lean: the fields of a command packet (Table 3-3), which opcodes exist and in which class
(Table 3-8), which bytes each layout uses (R66), and handles. -/
namespace Sys2Proof.Machine

/-- Bytes `off .. off + n - 1` of a packet, little-endian. -/
def pf (pkt : BitVec 512) (off n : Nat) : Nat := fld pkt.toNat off n

/-- A parameter of an operation's packet. -/
def Op.p (o : Op) (off n : Nat) : Nat := pf o.pkt off n

/-- The command tag. -/
def Op.cmdTag (o : Op) : Nat := o.p 2 2
/-- The namespace handle field, bytes 4-7. -/
def Op.handle (o : Op) : Nat := o.p 4 4
/-- Bytes 56-63. -/
def Op.buf (o : Op) : Nat := o.p 56 8
/-- EXPERT (Table 3-4). -/
def Op.expert (o : Op) : Bool := bit (o.p 1 1) 7
/-- NO_WAIT. -/
def Op.noWait (o : Op) : Bool := bit (o.p 1 1) 6
/-- FINAL_CQE. -/
def Op.finalCqe (o : Op) : Bool := bit (o.p 1 1) 5
/-- EPOCH_CHECK. -/
def Op.epochCheck (o : Op) : Bool := bit (o.p 1 1) 4
/-- FENCE. -/
def Op.fence (o : Op) : Nat := o.p 1 1 % 4

/-- The handle of slot `slot` of generation `gen`, with `w` slot bits. -/
def mkHandle (w slot gen : Nat) : Nat := gen * 2 ^ w + slot

/-- The slot of a handle. -/
def handleSlot (w h : Nat) : Nat := h % 2 ^ w

/-- The generation of a handle. -/
def handleGen (w h : Nat) : Nat := h / 2 ^ w

/-- The generation after `g` in `bits` bits; never 0. -/
def nextGen (bits g : Nat) : Nat := if g + 1 ≥ 2 ^ bits then 1 else g + 1

/-- The opcodes that the owning chapters assign below 0xC0. -/
def assignedOpcodes : List Nat :=
  [0x00, 0x01, 0x02, 0x03, 0x04, 0x05, 0x10, 0x11, 0x12, 0x13, 0x14, 0x15,
   0x20, 0x21, 0x22, 0x23, 0x30, 0x31, 0x32, 0x33, 0x34, 0x35, 0x36, 0x37, 0x38, 0x39, 0x3A, 0x3B,
   0x3C, 0x3D, 0x3E, 0x3F,
   0x40, 0x41, 0x42, 0x50, 0x51, 0x52, 0x53, 0x54, 0x55, 0x56, 0x57, 0x58, 0x59,
   0x60, 0x61, 0x62, 0x63, 0x70, 0x71, 0x72, 0x73, 0x80, 0x81, 0x82, 0x83, 0x84, 0x85,
   0x90, 0x91, 0x92, 0x93, 0x94, 0x95, 0xA0, 0xA1, 0xA2, 0xA3, 0xA4, 0xA5, 0xA6, 0xB0]

/-- Does a queue of this class take the opcode (R57)? -/
def classAccepts (ctl : Bool) (op : Nat) : Bool :=
  if ctl then op < 0x20 || (0xA0 ≤ op && op < 0x100) else 0x20 ≤ op && op < 0xC0 && !(0xA0 ≤ op && op < 0xB0)

/-- Data-class opcodes complete with NOT_CLAIMED outside OPERATING (R47, R383): the opcodes of DATA pairs, telemetry
apart. -/
def dataClass (op : Nat) : Bool := 0x20 ≤ op && op < 0xA0

/-- The buffer class of an opcode: 1 CTL, 2 LATENCY, 3 BULK (Table 3-8). -/
def bufferClass (ctl : Bool) (op : Nat) : Nat :=
  if op < 0x20 then 1
  else if op < 0x50 then 2
  else if op < 0x60 then (if op = 0x50 || op = 0x51 then 2 else 3)
  else if op < 0x80 then 2
  else if op < 0xA0 then 3
  else if op < 0xB0 then 1
  else if op < 0xC0 then (if ctl then 1 else 2)
  else 1

/-- The ready flag that an opcode needs at acceptance: 0 LINK, 1 DECK, 2 FULL (Table 2-3). -/
def needsFlag (op : Nat) (pkt : BitVec 512) : Nat :=
  if op < 0x20 then 0
  else if op < 0x50 then 1
  else if op < 0x60 then
    -- FETCH, DELIVER, PLACE_REPORT and WEIGHT_WRITE from READY.DECK; WEIGHT_OBJECT by its initial tier
    (if op = 0x50 || op = 0x51 || op = 0x56 || op = 0x59 then 1
     else if op = 0x58 then (if pf pkt 8 1 = 0 && pf pkt 11 1 != 0 then 2 else 1)
     else 2)
  else if op < 0x90 then 1
  else if op < 0xA0 then 2
  else 0

/-- What a command's namespace handle field must be: 0 zero, 1 a live namespace, 2 judged by the command itself. -/
def handleUse (op : Nat) : Nat :=
  if op < 0x21 then 0
  else if op = 0x21 then 2
  else if 0x34 ≤ op && op < 0x38 then 0
  else if op < 0x43 then 1
  else if op = 0x50 || op = 0x52 || op = 0x53 || op = 0x54 || op = 0x55 then 1
  else if op = 0x51 || op = 0x56 || op = 0x60 then 2
  else if op = 0x70 || op = 0x71 then 1
  else if op = 0x91 then 2
  else 0

/-- Opcodes whose owning chapter defines an expert layout (R66). -/
def hasExpert (op : Nat) : Bool :=
  [0x20, 0x30, 0x32, 0x37, 0x3F, 0x51, 0x52, 0x55, 0x57, 0x60, 0x70, 0x71, 0x90, 0x91].contains op

/-- The parameter bytes that a layout uses, for whichever action, and bytes 56-63 where the action it selects uses them, as (first
byte, length) pairs (R66).  Every other byte of 8-51 and 56-63 is reserved. -/
def layoutUses (op : Nat) (x : Bool) (pkt : BitVec 512) : List (Nat × Nat) :=
  let act := pf pkt 8 1
  match op with
  | 0x00 => [(56, 8)]
  | 0x01 => [(8, 28)]
  | 0x02 => [(8, 2)]
  | 0x03 => [(8, 1), (10, 6)]
  | 0x04 => [(8, 4)]
  | 0x05 => [(8, 1)]
  | 0x10 => [(8, 2)]
  | 0x11 => [(8, 16), (56, 8)]
  | 0x12 => [(8, 17), (56, 8)]
  | 0x13 => [(8, 2)]
  | 0x14 => [(8, 3), (16, 8)]
  | 0x15 => [(8, 2)]
  | 0x20 => if x then [(8, 40)] else [(8, 38)]
  | 0x21 => []
  | 0x22 => [(56, 8)]
  | 0x23 => [(8, 3)]
  | 0x30 => if x then [(8, 44), (56, 8)] else [(8, 25), (36, 12), (56, 8)]
  | 0x31 => [(8, 18), (28, 4), (56, 8)]
  | 0x32 => if x then [(8, 9), (20, 6), (56, 8)] else [(8, 9), (20, 4), (56, 8)]
  | 0x33 => [(8, 12)]
  | 0x34 => if act < 2 then [(8, 8)] else [(8, 8), (56, 8)]
  | 0x35 =>
    let a := pf pkt 10 1
    [(8, 3), (12, 4), (16, 2), (20, 4)] ++ (if a = 2 || a = 3 then [] else [(56, 8)])
  | 0x36 => [(8, 6), (16, 10), (56, 8)]
  | 0x37 =>
    if !x then [] else (8, 6) :: (if act = 3 then [] else [(56, 8)])
  | 0x38 => [(8, 20)]
  | 0x39 => [(8, 11), (20, 4), (56, 8)]
  | 0x3A => [(8, 8)]
  | 0x3B => [(8, 5), (56, 8)]
  | 0x3C => [(8, 5)]
  | 0x3D => [(8, 12)]
  | 0x3E => [(8, 8)]
  | 0x3F => if x then [(8, 5), (16, 13)] else [(8, 5), (16, 4)]
  | 0x40 => [(8, 5)]
  | 0x41 => [(8, 4), (16, 8)]
  | 0x42 => [(8, 5), (56, 8)]
  | 0x50 => [(8, 5), (16, 10), (28, 1), (32, 8), (56, 8)]
  | 0x51 => if x then [(8, 5), (16, 10), (28, 16), (56, 8)] else [(8, 5), (16, 10), (28, 3), (32, 12), (56, 8)]
  | 0x52 => if x then [(8, 5), (16, 8), (28, 3)] else [(8, 5), (16, 8), (28, 2)]
  | 0x53 => [(8, 5), (16, 10), (28, 2)]
  | 0x54 => [(8, 5), (16, 8)]
  | 0x55 => if x then [(8, 5), (16, 8), (28, 2), (32, 12)] else []
  | 0x56 =>
    [(8, 2), (12, 4)] ++ (if act = 1 then [] else [(56, 8)])
  | 0x57 =>
    (if x then [(8, 1), (10, 6), (16, 12)] else [(8, 1)]) ++ (if act = 0 then [(56, 8)] else [])
  | 0x58 =>
    [(8, 16), (24, 4)] ++ (if act < 2 then [] else [(56, 8)])
  | 0x59 => [(8, 12), (56, 8)]
  | 0x60 => if x then [(8, 44), (56, 8)] else [(8, 34), (56, 8)]
  | 0x61 => [(8, 4), (16, 16)]
  | 0x62 => [(8, 5)]
  | 0x63 => [(8, 4), (56, 8)]
  | 0x70 => if x then [(8, 28), (40, 11), (56, 8)] else [(8, 28), (40, 9), (56, 8)]
  | 0x71 => if x then [(8, 29), (40, 10), (56, 8)] else [(8, 29), (40, 9), (56, 8)]
  | 0x72 =>
    (8, 4) :: (if pf pkt 10 1 = 1 then [] else [(56, 8)])
  | 0x73 => [(8, 6)]
  | 0x80 => [(8, 24)]
  | 0x81 => [(8, 28)]
  | 0x82 => [(8, 28)]
  | 0x83 => [(8, 20), (56, 8)]
  | 0x84 => [(8, 1), (12, 4), (16, 28)] ++ (if act = 3 then [(56, 8)] else [])
  | 0x85 => [(8, 1), (12, 4)]
  | 0x90 =>
    [(8, 11), (20, if x then 29 else 28)] ++ (if act < 3 then [] else [(56, 8)])
  | 0x91 =>
    [(8, 1), (12, 22)] ++ (if act = 3 then [(56, 8)] else [])
  | 0x92 => [(8, 5), (16, 36)]
  | 0x93 => [(8, 5), (16, 32)]
  | 0x94 =>
    [(8, 1), (12, 18), (32, 16)] ++ (if act < 4 then [] else [(56, 8)])
  | 0x95 => [(8, 5), (16, 12)]
  | 0xA0 => [(8, 4)]
  | 0xA1 => [(8, 4), (16, 8)]
  | 0xA2 => [(8, 4)]
  | 0xA3 => [(56, 8)]
  | 0xA4 => [(8, 32), (56, 8)]
  | 0xA5 => [(8, 1), (12, 12)] ++ (if act = 1 then [] else [(56, 8)])
  | 0xA6 => [(8, 3), (12, 4)] ++ (if pf pkt 9 1 = 1 then [] else [(56, 8)])
  | 0xB0 => [(8, 1), (12, 2), (16, 13)] ++ (if act = 0 || act = 2 then [(56, 8)] else [])
  | _ => []

/-- Is every reserved parameter byte 0, with bytes 52-55 left to EPOCH_CHECK (R66)? -/
def reservedZero (op : Nat) (x check : Bool) (pkt : BitVec 512) : Bool :=
  let uses := layoutUses op x pkt
  ((List.range 44).map (· + 8) ++ (List.range 8).map (· + 56)).all (fun i =>
    uses.any (fun u => u.1 ≤ i && i < u.1 + u.2) || pf pkt i 1 = 0) &&
  (check || pf pkt 52 4 = 0)

end Sys2Proof.Machine
end

