-- ==== Sys2Proof/Machine/Ops.lean ====
section
/-! DEFINITION. Ops.lean: the named operations every command is written from: byte memory, generations, counters and
monitors, interrupts, error records, access to host memory, completions, operations and their records, buffers. -/
namespace Sys2Proof.Machine

/-! ### Byte memory -/

/-- The canonical form: addresses strictly rising, no listed byte 0. -/
def Mem.wf : Mem → Bool
  | [] => true
  | [c] => c.2 != 0#8
  | c :: d :: t => c.2 != 0#8 && decide (c.1 < d.1) && Mem.wf (d :: t)

/-- The byte at an address; an unlisted byte reads as 0 (R44 for memory the device initialises; log entry 1 for hosts'). -/
def Mem.byte : Mem → Nat → Byte
  | [], _ => 0#8
  | c :: t, a => if c.1 = a then c.2 else Mem.byte t a

/-- One byte written; writing 0 unlists the address. -/
def Mem.set : Mem → Nat → Byte → Mem
  | [], a, b => if b = 0#8 then [] else [(a, b)]
  | c :: t, a, b =>
    if c.1 < a then c :: Mem.set t a b
    else if c.1 = a then (if b = 0#8 then t else (a, b) :: t)
    else if b = 0#8 then c :: t else (a, b) :: c :: t

/-- `n` bytes from address `a` up. -/
def Mem.read (m : Mem) (a : Nat) : Nat → List Byte
  | 0 => []
  | n + 1 => Mem.byte m a :: Mem.read m (a + 1) n

/-- Bytes written from address `a` up. -/
def Mem.write (m : Mem) (a : Nat) : List Byte → Mem
  | [] => m
  | b :: t => Mem.write (Mem.set m a b) (a + 1) t

/-- `n` bytes as a little-endian number. -/
def Mem.nat (m : Mem) (a n : Nat) : Nat := leNat (Mem.read m a n)

/-! ### Lists of records -/

/-- `f` on every member that `p` selects. -/
def upd {α : Type} (p : α → Bool) (f : α → α) (l : List α) : List α := l.map (fun x => if p x then f x else x)

/-- The lowest index from `lo` up, among `n`, that `ok` holds of. -/
def firstFrom (ok : Nat → Bool) (lo : Nat) : Nat → Option Nat
  | 0 => none
  | n + 1 => if ok lo then some lo else firstFrom ok (lo + 1) n

/-- The lowest index from `lo` up, among `n`, that `used` does not hold. -/
def lowestFree (used : List Nat) (lo n : Nat) : Option Nat := firstFrom (fun i => !used.contains i) lo n

/-- The sum of a list. -/
def total (l : List Nat) : Nat := l.foldl (· + ·) 0

/-- Set bits of a mask, ascending, below `n`. -/
def bitsOf (m n : Nat) : List Nat := (List.range n).filter (fun i => bit m i)

/-! ### Outputs, free values, lifecycle -/

/-- The device sends or drives `o`. -/
def State.emit (s : State) (o : Output) : State := { s with out := o :: s.out }

/-- The next free value, and the state that has used it. -/
def State.fresh (s : State) : Byte × State := (Config.freeByte s.free, { s with free := s.free + 1 })

/-- The device counts as claimed only in OPERATING (R383). -/
def State.claimed (s : State) : Bool := s.sec.life = .operating

/-- The tenant-function rule: the function holds a live SPDM session authenticated mutually with the tenant key (R384). -/
def State.tenantFn (s : State) (f : Fn) : Bool :=
  s.sec.tenantKey != 0 &&
    s.sec.spdms.any (fun x => x.established && x.mutualAuth && x.fn == f && x.key == s.sec.tenantKey)

/-- May this function write device-wide registers (R475)? -/
def State.mayWrite (s : State) (f : Fn) : Bool := s.sec.life = .unclaimed || s.tenantFn f

/-! ### Counters and monitors (R437 to R443) -/

/-- An event that counters and monitors see: its counter, its weight, and the partition, locus and object it carries. -/
structure Event where
  src : Nat
  weight : Nat
  part : Option Nat
  locus : Nat
  obj : Option Nat
  deriving DecidableEq, Repr

/-- The locus of a scheduling port: its CXL or Ethernet port on the abutment die (Table 1-3, Table 9-8). -/
def linkLocus (k : Nat) : Nat :=
  if k < 32 then 0x5000 + 0x100 * (k / 16) + k / 4 else 0x5000 + 0x100 * ((k - 32) / 4) + 0x10 + (k - 32) / 2

/-- The die and sub-unit that detect the events of a counter, as a locus code; a counter that both spans keep takes the span from
its object's index (R14, R20, Table 16-2; log entry 16). -/
def srcLocus (src : Nat) (obj : Option Nat) : Nat :=
  let span := 0x3000 + 0x100 * (obj.getD 0 % 2)
  if src < 0x040 then span
  else if src < 0x050 then span + 0x10
  else if src < 0x054 then 0x2000 + 0x100 * (src - 0x050)
  else if src < 0x0A0 then span + 0x12
  else if src < 0x100 then span + 0x14
  else if src < 0x180 then span + 0x11
  else if src < 0x190 then span
  else if src < 0x200 then 0x1010 + 0x100 * (src - 0x190)
  else if src < 0x280 then 0x4000
  else if src < 0x2C0 then span + 0x15
  else if src < 0x300 then span + 0x13
  else if src < 0x3A0 then 0x6000
  else if src < 0x400 then 0x2000 + 0x100 * ((src - 0x3A0) / 4)
  else if src < 0x500 then linkLocus ((src - 0x400) / 4)
  else if src < 0x560 then
    0x1000 + 0x100 * ((src - 0x500) / 16) + [0x10, 0x13, 0x13, 0x11, 0x12, 0x12].getD ((src - 0x500) % 16) 0x10
  else 0x3000

/-- Does the event pass a monitor's filter (R443)? -/
def Monitor.passes (m : Monitor) (e : Event) : Bool :=
  (match e.part with
    | some p => bit m.partMask p
    | none => m.partMask = 0xFFFF) &&
  (!m.locusEn || Nat.land e.locus m.locusMask = Nat.land m.locusValue m.locusMask) &&
  (!m.objEn || e.obj = some m.object)

/-- The counters that FIXED_RATE defers (Table 16-2, FR). -/
def isFR (src : Nat) : Bool := 0x380 ≤ src && src < 0x3A0

/-- The byte counters of Table 16-2, whose weights are 64-byte units: attention's bytes, counted bytes of ports, and the piers' bytes. -/
def isBytes (src : Nat) : Bool :=
  (0x190 ≤ src && src < 0x196) || (0x400 ≤ src && src < 0x4A8 && src % 4 = 0) ||
    (0x500 ≤ src && src < 0x560 && 1 ≤ src % 16 && src % 16 ≤ 5)

/-- A monitor counts what one report says (R442): SUM its weight; EDGE one event of a byte counter, and of every other counter as
many events as its weight, unless a FREEZE holds it. -/
def Monitor.count1 (m : Monitor) (e : Event) : Monitor :=
  if m.enable && !m.err && m.source = e.src && !(m.freeze && m.hit) && m.passes e && m.mode < 2 then
    let c := (m.count + if m.mode = 0 && isBytes e.src then 1 else e.weight) % 2 ^ 64
    { m with count := c, hit := m.hit || decide (m.thresh ≤ c) }
  else m

/-- A counter advances by `n`; WRAP sets when the count passes 2^48 - 1 (R437, R438). -/
def State.addCounter (s : State) (i n : Nat) : State :=
  let old := assoc s.tel.counters i 0
  let new := old + n
  { s with
    tel.counters := assocSet s.tel.counters i (new % 2 ^ 48)
    tel.wraps := if new ≥ 2 ^ 48 then i :: s.tel.wraps.filter (· != i) else s.tel.wraps }

/-! ### Interrupts (R448 to R453) -/

/-- A vector of a function's bank; one not yet touched is masked, as MSI-X resets it (log entry 17), with COUNT 1. -/
def State.vector (s : State) (f : Fn) (n : Nat) : Vector :=
  match s.tel.vectors.find? (fun v => v.fn == f && v.num == n) with
  | some v => v
  | none => ⟨f, n, 0, 1, true, 0, 0, 0, none, 0, 0⟩

/-- A vector stored back. -/
def State.setVector (s : State) (v : Vector) : State :=
  { s with tel.vectors := v :: s.tel.vectors.filter (fun x => !(x.fn == v.fn && x.num == v.num)) }

/-- Are all of a link's IDE streams in the secure state, and is there one (R401)? -/
def State.linkSecure (s : State) (link : Nat) : Bool :=
  let l := s.sec.ides.filter (·.link == link)
  !l.isEmpty && l.all (·.secure)

/-- Are a vector's messages held: HOLD, IRQ_GLOBAL, the function mask, the vector mask, a TDI in ERROR, or a link whose streams
are not secure yet (R453, Table 16-11, R401)? -/
def State.held (s : State) (v : Vector) : Bool :=
  v.masked || s.tel.globalHold || s.tel.bankHold.contains v.fn || s.tel.funcMask.contains v.fn ||
    s.sec.tdis.contains (v.fn, .error) || (ideRequired s.stg.live && !s.linkSecure v.fn.link)

/-- The interrupt controller's own events, in their counter and in the monitors that select it (R437, R441). -/
def State.countIrq (s : State) (i n : Nat) : State :=
  let s := s.addCounter i n
  { s with tel.monitors := s.tel.monitors.map (fun m => m.count1 ⟨i, n, none, srcLocus i none, none⟩) }

/-- The transfers that the device makes for a function carry the IDE T bit while its TDI is in RUN (R402). -/
def State.teeFor (s : State) (f : Fn) : Bool := s.sec.tdis.contains (f, .run)

/-- The vector's one message, which clears its pending events; it passes scheduling queue 0 of its function's port (R451, R452). -/
def State.sendOne (s : State) (v : Vector) : State :=
  let s := s.countIrq 0x600 1
  let s := if v.pending > 1 then s.countIrq 0x601 (v.pending - 1) else s
  let s := (s.countIrq (0x400 + 4 * v.fn.link) ((4 + schedOverhead s.stg.live v.fn.link) / 64)).countIrq (0x401 + 4 * v.fn.link) 1
  let s := { s with q.pairs := upd (fun q : QPair => q.owner == v.fn && q.vector == v.num) (fun q => { q with pend := 0 }) s.q.pairs }
  (s.setVector { v with pending := 0, srcs := 0, lastSent := some s.clock.now }).emit (.msix v.fn v.num (s.teeFor v.fn))

/-- One event on a vector; `now` sends at once.  A vector is idle when it sent no message within the last TIMER µs (R451). -/
def State.pendOne (s : State) (f : Fn) (n : Nat) (now : Bool) : State :=
  let v := s.vector f n
  let idle := match v.lastSent with
    | some t => decide (t + v.timer * 1000 ≤ s.clock.now)
    | none => true
  let v' := { v with pending := v.pending + 1, firstAt := if v.pending = 0 then s.clock.now else v.firstAt }
  if s.held v then s.setVector v'
  else if now || v.timer = 0 || max 1 v.count ≤ v'.pending then s.sendOne v'
  else if idle then (s.countIrq 0x602 1).sendOne v'
  else s.setVector v'

/-- The functions with a vector that has pending events. -/
def State.waitingBanks (s : State) : List Fn := ((s.tel.vectors.filter (fun v => v.pending != 0)).map (·.fn)).eraseDups

/-- The host index of a function in FM_TRUST mode, where no host entry exists (log entry 13). -/
def trustHost (f : Fn) : Nat := f.link * 16 + f.ld

/-- The function a host index names, if it names one. -/
def State.fnOfHost (s : State) (h : Nat) : Option Fn :=
  if fmTrust s.stg.live then
    (if s.pool.bound.contains ⟨h / 16, h % 16⟩ then some ⟨h / 16, h % 16⟩ else none)
  else if hostValid s.stg.live h then some (hostFn s.stg.live h) else none

/-- Is a host declared dead (R331)? -/
def State.hostDead (s : State) (h : Nat) : Bool := s.pool.hosts.any (fun x => x.entry == h && x.dead)

/-- The route of a shared source, when it is valid and its host alive (R449). -/
def State.routeOf (s : State) (src : Nat) : Option (Fn × Nat) :=
  match s.tel.routes.find? (·.source == src) with
  | some r => if r.valid && !s.hostDead r.host then (s.fnOfHost r.host).map (fun f => (f, r.vector)) else none
  | none => none

/-- The unsent event of a shared source leaves the vector that holds it (Table 16-11). -/
def State.takeSrc (s : State) (src : Nat) : State :=
  let out := fun v : Vector => { v with srcs := v.srcs - 2 ^ src, pending := v.pending - 1 }
  { s with tel.vectors := upd (fun v : Vector => bit v.srcs src) out s.tel.vectors }

/-- Pending shared sources whose route names a host wait for a valid route: the host is dead (R449, Table 16-11). -/
def State.unrouteHost (s : State) (h : Nat) : State :=
  let hit := fun i => bit s.tel.shared i && !bit s.tel.waiting i && s.tel.routes.any (fun r => r.source == i && r.valid && r.host == h)
  { s with tel.waiting := s.tel.waiting + total (((List.range 16).filter hit).map (2 ^ ·)) }

/-- One event of a shared source on a vector, which keeps the source's name until its message leaves. -/
def State.pendSrcOne (s : State) (src : Nat) (f : Fn) (n : Nat) : State :=
  let s := s.pendOne f n false
  let v := s.vector f n
  if v.pending = 0 then s else s.setVector { v with srcs := Nat.lor v.srcs (2 ^ src) }

/-- An event on a shared source: its pending bit sets, and the event goes to its route or waits for one; an event that
finds the bit set merges into it (R449, R450). -/
def State.raiseOne (s : State) (src : Nat) : State :=
  if bit s.tel.shared src then s
  else
    let s := { s with tel.shared := s.tel.shared + 2 ^ src }
    match s.routeOf src with
    | some (f, v) => s.pendSrcOne src f v
    | none => { s with tel.waiting := Nat.lor s.tel.waiting (2 ^ src) }

/-- Does some monitor show HIT: the condition of the MONITOR source? -/
def State.anyHit (s : State) : Bool := s.tel.monitors.any (·.hit)

/-- Where `t` has come from `s`, and its messages made a monitor show HIT, the MONITOR source is raised (R443, R450). -/
def State.noteHit (s t : State) : State := if !s.anyHit && t.anyHit then t.raiseOne 4 else t

/-- The vector's one message. -/
def State.sendVector (s : State) (v : Vector) : State := s.noteHit (s.sendOne v)

/-- One event on a vector. -/
def State.pendVector (s : State) (f : Fn) (n : Nat) (now : Bool) : State := s.noteHit (s.pendOne f n now)

/-- One event of a shared source on a vector. -/
def State.pendSrc (s : State) (src : Nat) (f : Fn) (n : Nat) : State := s.noteHit (s.pendSrcOne src f n)

/-- An event on a shared source. -/
def State.raiseSrc (s : State) (src : Nat) : State := s.noteHit (s.raiseOne src)

/-- `k` pending events of a vector are discarded (R451, R453). -/
def State.discardSome (s : State) (v : Vector) (k : Nat) : State :=
  if k = 0 then s
  else s.noteHit ((s.countIrq 0x604 k).setVector { v with pending := v.pending - k, srcs := if v.pending = k then 0 else v.srcs })

/-- A vector's pending events are discarded (R451, R453). -/
def State.discardVector (s : State) (f : Fn) (n : Nat) : State := s.discardSome (s.vector f n) (s.vector f n).pending

/-- The message that the end of a hold releases (R453). -/
def State.releaseOne (s : State) (v : Vector) : State := s.noteHit ((s.countIrq 0x603 1).sendOne v)

/-- Every pending event of a function's bank is discarded (Table 16-11). -/
def State.discardBank (s : State) (f : Fn) : State :=
  let s := ((s.tel.vectors.filter (fun v => v.fn == f)).map (·.num)).foldl (fun s n => s.discardVector f n) s
  { s with q.pairs := upd (fun q : QPair => q.owner == f) (fun q => { q with pend := 0 }) s.q.pairs }

/-- When the last hold over vectors of a bank clears, each sends one message if it has pending events, in ascending order
(R453). -/
def State.releaseVectors (s : State) (f : Fn) : State :=
  (sortBy (fun a b : Vector => decide (a.num ≤ b.num)) (s.tel.vectors.filter (fun v => v.fn == f && v.pending != 0))).foldl
    (fun s v => if s.held v then s else s.releaseOne v) s

/-- Shared sources that wait for a valid route are delivered where one now exists (R449). -/
def State.routeWaiting (s : State) : State :=
  (bitsOf s.tel.waiting 16).foldl (fun s i => match s.routeOf i with
    | some (f, v) => State.pendSrc { s with tel.waiting := s.tel.waiting - 2 ^ i } i f v
    | none => s) s

/-- Monitors whose COUNT reaches THRESH raise the MONITOR source when its condition becomes true (R443, R450). -/
def State.setMonitors (s : State) (l : List Monitor) : State :=
  let before := s.tel.monitors.any (·.hit)
  let s := { s with tel.monitors := l }
  if !before && l.any (·.hit) then s.raiseSrc 4 else s

/-- One event counts in its counter and in every monitor that selects it (R437 to R443). -/
def State.count (s : State) (e : Event) : State :=
  let s := s.addCounter e.src e.weight
  if s.tel.monitors.any (fun m => m.enable && m.source = e.src) then
    s.setMonitors (s.tel.monitors.map (fun m => m.count1 e))
  else s

/-- One event counts at once, or at the period's end for an FR counter under FIXED_RATE (R410, R440). -/
def State.event (s : State) (e : Event) : State :=
  if isFR e.src && fixedRate s.stg.live then
    { s with tel.deferred := assocSet s.tel.deferred e.src (assoc s.tel.deferred e.src 0 + e.weight) }
  else s.count e

/-- `n` weight on a counter, without partition or object. -/
def State.bump (s : State) (src n : Nat) : State := if n = 0 then s else s.event ⟨src, n, none, srcLocus src none, none⟩

/-- One event with a partition and an object. -/
def State.bumpAt (s : State) (src n : Nat) (part obj : Option Nat) : State :=
  if n = 0 then s else s.event ⟨src, n, part, srcLocus src obj, obj⟩

/-- Bytes written to and read from a pier's stack, each through its AES-XTS engine (Table 16-2). -/
def State.pierIo (s : State) (p wr rd : Nat) : State :=
  ((s.bump (0x501 + 16 * p) (wr / 64)).bump (0x502 + 16 * p) (rd / 64)).bump (0x503 + 16 * p) ((wr + rd) / 64)

/-- The load word of each span and scheduling port as of now, quantised (R410). -/
def State.sampleLoad (s : State) : State :=
  (List.range 84).foldl (fun s i => { s with
    tel.fixedSample := assocSet s.tel.fixedSample (i / 42 * 64 + i % 42) (quantise (s.rawLoad (i / 42) (i % 42)))
    free := s.free + 1 }) s

/-- The deferred events of a period count at once (R410, R440). -/
def State.settleDeferred (s : State) : State :=
  s.tel.deferred.foldr (fun d s => s.count ⟨d.1, d.2, none, srcLocus d.1 none, none⟩) { s with tel.deferred := [] }

/-- FIXED_RATE comes into force: its first period and its first sample begin (R410). -/
def State.fixedOn (s : State) : State :=
  { s with tel.fixedAt := s.clock.now, tel.fixedStep := s.clampStep, tel.fixedPeak := s.clampStep }.sampleLoad

/-- FIXED_RATE ends: what it deferred counts, and a step that it did not show yet is reported (R410, Table 16-8). -/
def State.fixedOff (s : State) : State :=
  let s := s.settleDeferred
  if s.tel.fixedStep = s.clampStep then s else s.raiseSrc 9

/-- DEV_READY changed (R49). -/
def State.readyChanged (s : State) : State := s.raiseSrc 0

/-- SEC_STATUS or SEC_ENTROPY changed (Table 16-8). -/
def State.securityChanged (s : State) : State := s.raiseSrc 8

/-- A group or member state changed (Table 16-8). -/
def State.groupChanged (s : State) : State := s.raiseSrc 6

/-- A lease changed state (Table 16-8). -/
def State.leaseChanged (s : State) : State := s.raiseSrc 7

/-- A link went up or down (Table 16-8). -/
def State.linkChanged (s : State) : State := s.raiseSrc 12

/-- PLC_FOOT_STATUS changed (Table 16-8). -/
def State.footingChanged (s : State) : State := s.raiseSrc 13

/-! ### Error records (R424 to R430) -/

/-- What an error record says besides its time, sequence, count and epoch. -/
structure Report where
  cls : FClass
  code : Nat
  locus : Nat
  tag : Option Nat
  object : Option Nat
  addr : Option Nat
  detail : Nat
  poison : Bool
  deriving DecidableEq, Repr

/-- A report without tag, address or detail. -/
def Report.plain (cls : FClass) (code locus : Nat) (object : Option Nat) : Report :=
  ⟨cls, code, locus, none, object, none, 0, false⟩

/-- Unread records in the main ring. -/
def Ras.unread (r : Ras) : Nat := (r.tail + 8192 - r.head) % 8192

/-- Is ring position `p` (with its wrap bit) unread? -/
def Ras.isUnread (r : Ras) (p : Nat) : Bool := (p + 8192 - r.head) % 8192 < r.unread

/-- The record of a report. -/
def Report.record (r : Report) (time seq epoch : Nat) : ErrRec :=
  { time := time, seq := seq, cls := r.cls
    flags := b2n r.tag.isSome + 2 * b2n r.object.isSome + 4 * b2n r.addr.isSome + 8 * b2n r.poison
    code := r.code, locus := r.locus, opTag := r.tag.getD 0, object := r.object.getD 0, span := 0, count := 1
    addr := r.addr.getD 0, detail := r.detail, epoch := epoch }

/-- Adds 1 to a class's lost counter, saturating at 255 (R428). -/
def bumpLost (l : List Nat) (cls : Nat) : List Nat :=
  l.zipIdx.map (fun p => if p.2 + 1 = cls then min 255 (p.1 + 1) else p.1)

/-- Same signature: class, code, locus and object (R427). -/
def ErrRec.sameSig (a b : ErrRec) : Bool :=
  a.cls == b.cls && a.code == b.code && a.locus == b.locus && a.object == b.object

/-- The ring position of an unread, tracked record of the same signature whose first occurrence is less than 1 ms old. -/
def Ras.coalesces (r : Ras) (e : ErrRec) (now : Nat) : Option Nat :=
  r.recent.find? (fun p => r.isUnread p && (match r.ring.find? (·.1 == p % 4096) with
    | some x => x.2.sameSig e && decide (now < x.2.time + 1000000)
    | none => false))

/-- A class-6 record goes to the fatal ring and to management (R429). -/
def State.logFatal (s : State) (r : Report) : State :=
  let rec0 := r.record (s.dieTime r.locus) s.ras.seq s.stg.epoch
  let s := s.event ⟨0x345, 1, none, r.locus, r.object⟩
  let s := s.emit (.fatalReport rec0)
  if s.ras.fatal.length < 64 then
    let was := s.ras.fatal.isEmpty
    let s := { s with ras.fatal := s.ras.fatal ++ [rec0], ras.seq := s.ras.seq + 1 }
    if was then s.raiseSrc 2 else s
  else (({ s with ras.lost := bumpLost s.ras.lost 6, ras.seq := s.ras.seq + 1 }).bump 0x347 1)

/-- Writes an error record: a fatal one to the fatal ring; otherwise coalesced, written, or counted as lost when the
ring is full (R424 to R429).  Its time is the copy of device time on the die of its locus; records of two dies within 4 ns of each
other stand in the order in which the model's steps write them (R26; log entry 133). -/
def State.log (s : State) (r : Report) : State :=
  if r.cls = .fatal then s.logFatal r
  else
    let rec0 := r.record (s.dieTime r.locus) s.ras.seq s.stg.epoch
    let s := s.event ⟨0x33F + r.cls.code, 1, none, r.locus, r.object⟩
    match s.ras.coalesces rec0 rec0.time with
    | some p =>
      let again := fun x : Nat × ErrRec =>
        (x.1, { x.2 with span := min (2 ^ 48 - 1) (rec0.time - x.2.time), count := min 0xFFFF (x.2.count + 1) })
      ({ s with ras.ring := upd (·.1 == p % 4096) again s.ras.ring }).bump 0x346 1
    | none =>
      if s.ras.unread = 4096 then
        ({ s with ras.lost := bumpLost s.ras.lost r.cls.code, ras.seq := s.ras.seq + 1 }).bump 0x347 1
      else
        let was := s.ras.unread = 0
        let pos := s.ras.tail
        let s := { s with
          ras.ring := (pos % 4096, rec0) :: s.ras.ring.filter (·.1 != pos % 4096)
          ras.tail := (pos + 1) % 8192
          ras.seq := s.ras.seq + 1
          ras.recent := (pos :: s.ras.recent).take 256 }
        if was && s.tel.rasArmed then ({ s with tel.rasArmed := false }).raiseSrc 1 else s

/-! ### Host memory (R321, R401, R500) -/

/-- Why the device's own transfer does not take place. -/
inductive Xfer where
  | denied          -- R321
  | failed          -- R500
  | waits (link : Nat)  -- R401
  deriving DecidableEq, Repr

/-- The host entry of a function under an item list (R318); none in FM_TRUST. -/
def hostEntry (l : List Item) (f : Fn) : Option Nat := (validHosts l).find? (fun h => hostFn l h == f)

/-- The host index of a function: its entry, or its FM_TRUST index. -/
def State.hostOf (s : State) (f : Fn) : Option Nat :=
  if fmTrust s.stg.live then (if s.pool.bound.contains f then some (trustHost f) else none)
  else hostEntry s.stg.live f

/-- Does OUTBOUND_CHECK confine the function away from this range (R321)? -/
def outboundDenied (l : List Item) (f : Fn) (a n : Nat) : Bool :=
  match hostEntry l f with
  | some h => hostOutCheck l h &&
      !((validRanges l).any (fun r => r.outbound && r.host = h && r.base ≤ a && a + n ≤ r.base + r.length))
  | none => false

/-- Are doorbells, commands and register accesses admitted on a link: always, or only while its IDE streams are secure (R401)? -/
def State.admits (s : State) (link : Nat) : Bool := !ideRequired s.stg.live || s.linkSecure link

/-- Are a function's requests admitted: its link admits, and in RUN its TDI's resources take only requests with the IDE T bit (R401,
R402)? -/
def State.hears (s : State) (f : Fn) (tee : Bool) : Bool := s.admits f.link && (tee || !s.sec.tdis.contains (f, .run))

/-- Is the link up? -/
def State.linkUp (s : State) (link : Nat) : Bool := s.dlv.ports.any (fun p => p.num == link && p.linked)

/-- The key of an address on a link in the model's one list of host bytes. -/
def hostKey (link a : Nat) : Nat := link * 2 ^ 64 + a % 2 ^ 64

/-- Does the host's memory fail a read or a write of this range? -/
def State.hostFails (s : State) (link a n : Nat) (write : Bool) : Bool :=
  s.hostBad.any (fun r => (if write then r.2.2.2 else r.2.2.1) && r.1 < hostKey link a + n && hostKey link a ≤ r.2.1)

/-- The isolation settings that govern what the device does now: those of the epoch that the operation at work carries (R86). -/
def State.isoItems (s : State) : List Item := if s.stg.acting then s.stg.old else s.stg.live

/-- The items that grant permissions: PARTITION, HOST_ISO, RANGE_ISO, PARTNER and CONTROL (R90). -/
def permissionItem (code : Nat) : Bool := [0x01, 0x03, 0x04, 0x05, 0x0C].contains code

/-- The old epoch's settings under the permissions of the epoch that a running drain leads to (R90). -/
def State.permItems (s : State) : List Item := match s.stg.commit with
  | some c => itemOver s.stg.old (c.staged.filter (fun x => permissionItem x.code))
  | none => s.stg.live

/-- Does a REVOKE drain judge the next unit of an operation (R90)? -/
def State.revokes (s : State) (o : Op) : Bool :=
  s.stg.commit.any (fun c => c.switched && c.revoke && o.epoch < s.stg.epoch && o.tag != c.tag)

/-- The operation at work has left off: the current epoch's settings govern again. -/
def State.rested (s : State) : State := { s with stg.acting := false }

/-- May the device's transfer for function `f` over `link` take place?  In link-watch only the live port carries data, and the
others wait until they are back (R51, R52). -/
def State.xferOk (s : State) (f : Fn) (link a n : Nat) (write : Bool) : Option Xfer :=
  if outboundDenied s.isoItems f a n then some .denied
  else if !s.linkUp link then some .failed
  else if s.boot.linkwatch && link / 4 != s.boot.livePort && !s.boot.awakePorts then some (.waits link)
  else if ideRequired s.stg.live && !s.linkSecure link then some (.waits link)
  else if a + n > 2 ^ 64 || s.hostFails link a n write then some .failed
  else none

/-- Bytes read from memory on a link. -/
def State.hostRead (s : State) (f : Fn) (link a n : Nat) : Except Xfer (List Byte) :=
  match s.xferOk f link a n false with
  | some e => .error e
  | none => .ok (s.host.read (hostKey link a) n)

/-- Bytes written to memory on a link. -/
def State.hostWrite (s : State) (f : Fn) (link a : Nat) (b : List Byte) : Except Xfer State :=
  match s.xferOk f link a b.length true with
  | some e => .error e
  | none => .ok { s with host := s.host.write (hostKey link a) b }

/-- How many leading bytes of a write go out before its first unit that fails (R265, R500). -/
def State.goodPrefix (s : State) (link a : Nat) (units : List Nat) : Nat :=
  (units.foldl (fun (x : Nat × Bool) u =>
    if x.2 && a + x.1 + u ≤ 2 ^ 64 && !s.hostFails link (a + x.1) u true then (x.1 + u, true) else (x.1, false)) (0, true)).1

/-- What stands in host memory after a write that fails part way: the bytes already written (R500). -/
def State.hostPart (s : State) (link a : Nat) (b : List Byte) (units : List Nat) : State :=
  if !s.linkUp link then s else { s with host := s.host.write (hostKey link a) (b.take (s.goodPrefix link a units)) }

/-! ### Scheduling queues (R263, R266) -/

/-- A port with a record of queue `n`; its buckets start full (R271). -/
def SPort.withQueue (p : SPort) (l : List Item) (n now : Nat) : SPort :=
  if p.queues.any (·.num == n) then p
  else
    let t := tollOf l p.num n
    let q : SQueue := ⟨n, 0, none, [], t.cdepth * 1000, t.pdepth * 1000, now, false⟩
    { p with queues := insertBy (fun a b : SQueue => a.num ≤ b.num) q p.queues }

/-- A queue without the units that `sel` selects; a tag already computed stands while a unit waits (R264). -/
def SQueue.purge (sel : SUnit → Bool) (q : SQueue) : SQueue :=
  let l := q.units.filter (fun u => !sel u)
  { q with units := l, headTag := if l.isEmpty then none else q.headTag, red := q.red && !l.isEmpty }

/-- Units that `sel` selects leave every scheduling queue. -/
def State.purge (s : State) (sel : SUnit → Bool) : State :=
  { s with dlv.ports := s.dlv.ports.map (fun p : SPort => { p with queues := p.queues.map (SQueue.purge sel) }) }

/-- The finish tag of a unit of counted length `c` that reaches the head of a queue (R266). -/
def finishTag (v f c w : Nat) (wasEmpty : Bool) : Nat := (if wasEmpty then max v f else f) + cdiv (c * 65536) w

/-- A queue's buckets filled up to now; rates are in MB/s, fills in thousandths of a byte. -/
def SQueue.fill (q : SQueue) (t : Toll) (now : Nat) : SQueue :=
  let dt := now - q.filled
  { q with
    committed := min (t.cdepth * 1000) (q.committed + t.crate * dt)
    peak := min (t.pdepth * 1000) (q.peak + t.prate * dt)
    filled := now }

/-- Colours of a unit (R272). -/
inductive Colour where
  | green | yellow | red
  deriving DecidableEq, Repr

/-- The colour of a unit of counted length `c` against filled buckets; every unit of a queue without ENABLE is green. -/
def SQueue.colour (q : SQueue) (t : Toll) (c : Nat) : Colour :=
  if !t.enable then .green
  else if q.peak < c * 1000 then .red
  else if q.committed < c * 1000 then .yellow
  else .green

/-- Tokens taken by a unit that starts. -/
def SQueue.pay (q : SQueue) (t : Toll) (c : Nat) : Colour → SQueue
  | .green => if t.enable then { q with committed := q.committed - c * 1000, peak := q.peak - c * 1000 } else q
  | .yellow => { q with peak := q.peak - c * 1000 }
  | .red => q

/-- A unit of counted length `c` that passes through a queue at once: tokens, finish tag and virtual time; queue 0 is served
by strict priority and carries no tag (R263, R266, R272; log entry 47). -/
def SPort.pass (l : List Item) (num now : Nat) (p : SPort) (c : Nat) : SPort :=
  let p := p.withQueue l num now
  let t := tollOf l p.num num
  match p.queues.find? (·.num == num) with
  | none => p
  | some q =>
    let q := q.fill t now
    let tag := finishTag p.vtime q.finish c (schedWeight l p.num num) q.units.isEmpty
    { p with
      vtime := tag
      queues := upd (·.num == num) (fun _ => { q.pay t c (q.colour t c) with finish := tag }) p.queues }

/-- `n` bytes in pieces of `m`. -/
def bytePieces (m n : Nat) : List Nat := List.replicate (n / m) m ++ (if n % m = 0 then [] else [n % m])

/-- The write units of `n` bytes at a port, and its read requests from `a` on, none across a 4 KiB boundary (R265). -/
def writeUnits (link n : Nat) : List Nat := bytePieces (maxPayload link) n

def readUnits (link a n : Nat) : List Nat :=
  let m := largestUnit link
  let first := min n (4096 - a % 4096)
  bytePieces m first ++ (List.range (cdiv (n - first) 4096)).flatMap (fun i => bytePieces m (min 4096 (n - first - 4096 * i)))

/-- Units that pass a queue of a port at once: queue 0 is served by strict priority and keeps no tag (R263, R266). -/
def State.pass (s : State) (link num : Nat) (units : List Nat) : State :=
  let l := s.stg.live
  let cs := units.map (· + schedOverhead l link)
  let s := (s.bump (0x400 + 4 * link) (total (cs.map (· / 64)))).bump (0x401 + 4 * link) cs.length
  if num = 0 then s
  else { s with dlv.ports := upd (·.num == link) (fun p => cs.foldl (SPort.pass l num s.clock.now) p) s.dlv.ports }

/-- Units of a partition's class (0 CTL, 1 LATENCY, 2 BULK, 3 BACKGROUND) counted at the port of a link (R263, R266). -/
def State.charge (s : State) (link part cls : Nat) (units : List Nat) : State :=
  s.pass link (if cls = 0 then 0 else schedQueue s.stg.live link part cls) units

/-! ### Queue pairs and completions (R55 to R62, R68) -/

/-- The live pair at an index. -/
def State.pair (s : State) (i : Nat) : Option QPair := s.q.pairs.find? (·.index == i)

/-- A pair stored back. -/
def State.setPair (s : State) (q : QPair) : State := { s with q.pairs := upd (·.index == q.index) (fun _ => q) s.q.pairs }

/-- A queue error (R61). -/
def State.queueError (s : State) (q : QPair) (kind : Nat) : State :=
  let s := s.setPair { q with error := true, errKind := kind }
  let s := s.bumpAt 0x02A 1 (some q.partition) (some q.index)
  let s := s.log (.plain .refused 0x0301 (0x3000 + 0x100 * (q.index % 2)) (some q.index))
  s.pendVector q.owner q.vector true

/-- One CQ event on the pair's vector, counted as this CQ's own while it is pending (R448, R451). -/
def State.pendCq (s : State) (i : Nat) : State :=
  match s.pair i with
  | none => s
  | some q =>
    let s := s.pendVector q.owner q.vector false
    if (s.vector q.owner q.vector).pending = 0 then s
    else { s with q.pairs := upd (fun x : QPair => x.index == i) (fun x => { x with pend := x.pend + 1 }) s.q.pairs }

/-- A CQ's pending events are discarded from its vector (R451, R453). -/
def State.discardCq (s : State) (i : Nat) : State :=
  match s.pair i with
  | none => s
  | some q =>
    if q.pend = 0 then s
    else
      (s.discardSome (s.vector q.owner q.vector) q.pend).setPair { q with pend := 0 }

/-- The 32 bytes of a completion (Table 3-6). -/
def Cqe.bytes (c : Cqe) (phase : Bool) : List Byte :=
  leBytes 2 c.cmdTag ++ leBytes 2 c.status.code ++ leBytes 2 c.sq ++
  leBytes 2 (b2n phase * 2 ^ 15 + c.sqHead) ++ leBytes 8 c.result ++ leBytes 8 c.progress ++ leBytes 4 c.load ++
  leBytes 2 c.opTag ++ leBytes 2 0

/-- A completion into the pair's CQ: written while a slot is free, with the load word of that moment; held while the CQ is full or
its link's IDE is not secure, and discarded once the CQ cannot be written (R60, R61, R69, R401). -/
def State.writeCqe (s : State) (q : QPair) (h : HeldCqe) : State :=
  if q.error && q.errKind = 2 then s
  else if q.cqCount ≥ q.cqDepth || !q.held.isEmpty then s.setPair { q with held := q.held ++ [h] }
  else
    let c := { h.cqe with sqHead := q.sqHead, load := s.loadWord (tagSpan h.cqe.opTag) q.owner.link }
    match s.hostWrite q.owner q.owner.link (q.cqBase + 32 * q.cqTail) (c.bytes q.phase) with
    | .ok s =>
      let next := q.cqTail + 1
      let q := { q with
        cqTail := if next = q.cqDepth then 0 else next
        phase := if next = q.cqDepth then !q.phase else q.phase
        cqCount := q.cqCount + 1 }
      let s := { s with free := s.free + 1 }.charge q.owner.link q.partition (if q.ctl then 0 else 1) (writeUnits q.owner.link 32)
      let s := (s.setPair q).emit (.cqe q.index (if next = q.cqDepth then q.cqDepth - 1 else next - 1) c (s.teeFor q.owner))
      let s := if q.cqCount = q.cqDepth then s.bumpAt 0x02B 1 (some q.partition) (some q.index) else s
      s.pendCq q.index
    | .error (.waits _) => s.setPair { q with held := q.held ++ [h] }
    | .error _ => s.queueError q 2

/-- The rest of the held completions put back. -/
def State.restoreHeld (s : State) (i : Nat) (t : List HeldCqe) : State :=
  match s.pair i with
  | some q => s.setPair { q with held := q.held ++ t }
  | none => s

/-- Held completions written as slots and the link's IDE allow; `n` bounds the number. -/
def State.flushHeld (s : State) (i : Nat) : Nat → State
  | 0 => s
  | n + 1 =>
    match s.pair i with
    | some q =>
      (match q.held with
      | [] => s
      | c :: t =>
        if q.cqCount ≥ q.cqDepth || (ideRequired s.stg.live && !s.linkSecure q.owner.link) then s
        else (((s.setPair { q with held := [] }).writeCqe { q with held := [] } c).restoreHeld i t).flushHeld i n)
    | none => s

/-! ### References to blocks (R103, R105, R118) -/

/-- The block that a reference holds. -/
def BRef.block : BRef → Option Nat
  | .held b => some b
  | .dropped .. | .left _ => none

/-- The blocks that a version holds. -/
def View.blocks (v : View) : List Nat :=
  v.refs.filterMap BRef.block ++ v.unsealed ++ v.tail.toList

/-- A block by its record's slot. -/
def State.block (s : State) (id : Nat) : Option Block := s.store.blocks.find? (·.id == id)

/-- `f` on a block. -/
def State.updBlock (s : State) (id : Nat) (f : Block → Block) : State :=
  { s with store.blocks := upd (·.id == id) f s.store.blocks }

/-- A plan that still runs. -/
def Plan.live (p : Plan) : Bool := match p.state with
  | .armed | .running | .stalled => true
  | .done | .aborted | .failed => false

/-- Does an operation hold the block in a version it accepted, or in one of those of its list (R103)? -/
def Op.holds (o : Op) (id : Nat) : Bool :=
  o.view.any (·.blocks.contains id) || o.tails.any (·.any (fun c => c.view.blocks.contains id || c.next == some id)) || (match o.work with
    | .listed l => l.any (fun x => x.1.blocks.contains id)
    | _ => false)

/-- Does an operation in flight hold the block? -/
def State.opHolds (s : State) (id : Nat) : Bool :=
  s.q.ops.any (fun o => o.holds id) ||
    s.dlv.plans.any (fun p => p.live && p.view.any (·.blocks.contains id))

/-- Does the operation carry blocks itself, as SPILL and PROMOTE do?  It takes no block's location to read it. -/
def Op.moves (o : Op) : Bool := o.opcode = 0x52 || o.opcode = 0x53

/-- Does an operation in flight read the block, or a plan? -/
def State.readers (s : State) (id : Nat) : Bool :=
  s.q.ops.any (fun o => !o.moves && o.holds id) ||
    s.dlv.plans.any (fun p => p.live && p.view.any (·.blocks.contains id))

/-- Does a snapshot, a pin or an operation in flight refer to the block: what forbids a drop or a re-quantisation (R118)?  The command
that moves a block does not stand in its own way (R205, Table 7-9). -/
def State.guarded (s : State) (id : Nat) : Bool :=
  s.store.snapshots.any (fun x => !x.expired && x.view.blocks.contains id) ||
    s.store.pins.any (·.blocks.contains id) || s.readers id

/-- Does a chain, a snapshot, a pin or an operation refer to the block (R105)? -/
def State.referenced (s : State) (id : Nat) : Bool :=
  s.store.chains.any (fun c => c.view.blocks.contains id || c.next == some id) || s.guarded id || s.opHolds id

/-- Blocks that nothing refers to and the index does not hold are freed; the records of sealed ones wait for the searches
under way (R105, R167). -/
def State.gc (s : State) : State :=
  let keep := fun b : Block => b.indexed || b.prepared || s.referenced b.id
  let gone := (s.store.blocks.filter (fun b => !keep b)).map (·.id)
  if gone.isEmpty then s
  else
    let records := (s.store.blocks.filter (fun b => !keep b && b.sealed)).map (·.id)
    let stays := fun l : List Nat => l.filter (fun i => !gone.contains i)
    { s with
      store.blocks := s.store.blocks.filter keep
      idx.releasing := s.idx.releasing ++ records
      tiers.probeHits := stays s.tiers.probeHits
      tiers.hints := s.tiers.hints.map (fun h : Hint => { h with blocks := stays h.blocks })
      tiers.moves := s.tiers.moves.map (fun m : Move => { m with blocks := stays m.blocks }) }

/-! ### Operations and records (R27 to R29, R73 to R80) -/

/-- The operation that holds a tag. -/
def State.op (s : State) (tag : Nat) : Option Op := s.q.ops.find? (·.tag == tag)

/-- `f` on the operation that holds a tag. -/
def State.setOp (s : State) (tag : Nat) (f : Op → Op) : State := { s with q.ops := upd (·.tag == tag) f s.q.ops }

/-- The tag pool of a span. -/
def State.tags (s : State) (span : Nat) : TagPool := if span = 0 then s.q.tags0 else s.q.tags1

/-- A span's tag pool stored back. -/
def State.setTags (s : State) (span : Nat) (t : TagPool) : State :=
  if span = 0 then { s with q.tags0 := t } else { s with q.tags1 := t }

/-- The next tag of a pool: tags never assigned first, in ascending order, then the one free longest (R77; log entry 14). -/
def TagPool.next (t : TagPool) (span : Nat) : Option (Nat × TagPool) :=
  if t.fresh < 2 ^ 15 then some (span * 2 ^ 15 + t.fresh, { t with fresh := t.fresh + 1 })
  else match t.freed with
    | [] => none
    | a :: r => some (a, { t with freed := r })

/-- The incarnation a tag takes when it is assigned: one more than its last (R73). -/
def TagPool.inc (t : TagPool) (tag : Nat) : Nat := assoc t.incs tag 0 + 1

/-- The progress record of a tag. -/
def State.record (s : State) (tag : Nat) : Option ProgRec := s.q.records.find? (·.tag == tag)

/-- The record an operation now shows; the generation advances by 2, from even to even (R74, R75). -/
def Op.toRec (o : Op) (gen now : Nat) : ProgRec :=
  { tag := o.tag, generation := (gen + 2) % 2 ^ 32, inc := o.inc, cmdTag := o.cmdTag, sq := o.qp, opcode := o.opcode
    state := o.state, status := o.status, pause := o.pause, unitsTotal := o.unitsTotal, unitsDone := o.unitsDone
    result := o.result, updated := now, epoch := o.epoch, resume := o.resume }

/-- The record of an operation written afresh. -/
def State.writeRec (s : State) (o : Op) : State :=
  let gen := match s.record o.tag with
    | some r => r.generation
    | none => 0
  { s with q.records := o.toRec gen (s.dieTime (0x3000 + 0x100 * tagSpan o.tag)) :: s.q.records.filter (·.tag != o.tag) }

/-- `f` on an operation, and its record updated (R75). -/
def State.updOp (s : State) (tag : Nat) (f : Op → Op) : State :=
  let s := s.setOp tag f
  match s.op tag with
  | some o => s.writeRec o
  | none => s

/-- The progress handle of an operation (R73). -/
def Op.progress (o : Op) : Nat := o.inc % 2 ^ 32 * 2 ^ 16 + o.tag

/-- The partition of a queue pair's commands, if the pair lives. -/
def State.pairPart (s : State) (i : Nat) : Option Nat := (s.pair i).map (·.partition)

/-- The zero-length read to an operation's last data target, where that lies behind another port than its completion (R19). -/
def State.settleTarget (s : State) (o : Op) (q : QPair) : State :=
  match o.target with
  | some k => if k = q.owner.link then s
      else (s.charge k q.partition (if q.ctl then 0 else 1) [0]).emit (.zeroRead k (s.teeFor q.owner))
  | none => s

/-- The completion that a forwarded command's span hands back to its queue's span over link 32 (R17, R20). -/
def State.handBack (s : State) (o : Op) : State :=
  if tagSpan o.tag = o.qp % 2 then s
  else s.fabricSend (if (s.pair o.qp).any (·.ctl) then .ctl else .rsp) (.reply o.tag) (spanDie (tagSpan o.tag)) (spanDie (o.qp % 2))

/-- Posts a completion of an operation, once its data has landed (R19, R20, R68). -/
def State.complete (s : State) (o : Op) (st : Status) (result progress : Nat) : State :=
  match s.pair o.qp with
  | some q =>
    let s := (s.bumpAt (0x010 + st.place) 1 (some q.partition) (some q.index)).settleTarget o q
    let c : Cqe :=
      { cmdTag := o.cmdTag, status := st, sq := q.index, sqHead := q.sqHead, result := result % 2 ^ 64
        progress := progress, load := 0, opTag := o.tag }
    (s.handBack o).writeCqe q ⟨c, o.order, o.handle⟩
  | none => s

/-- A buffer returns to the part of its pool that it came from (R84). -/
def BufPool.give (b : BufPool) (part : Nat) : BufPool :=
  match part with
  | 0 => { b with shared := b.shared - 1 }
  | 1 => { b with ctl := b.ctl - 1 }
  | 2 => { b with latency := b.latency - 1 }
  | 3 => { b with bulk := b.bulk - 1 }
  | _ => { b with background := b.background - 1 }

/-- The shared part and the floors of a pool: shared, CTL, LATENCY, BULK, BACKGROUND (Table 3-13). -/
def poolSizes : Pool → List Nat
  | .parameter _ => [2496, 64, 1024, 512, 0]
  | .transfer _ => [312, 8, 128, 64, 0]
  | .staging _ => [160, 0, 64, 32, 0]

/-- One buffer more in use from a part. -/
def BufPool.add (b : BufPool) (part : Nat) : BufPool :=
  match part with
  | 0 => { b with shared := b.shared + 1 }
  | 1 => { b with ctl := b.ctl + 1 }
  | 2 => { b with latency := b.latency + 1 }
  | 3 => { b with bulk := b.bulk + 1 }
  | _ => { b with background := b.background + 1 }

/-- The part that a class (1 CTL, 2 LATENCY, 3 BULK, 4 BACKGROUND) takes a buffer from: the shared one if it has a free buffer,
else the class's own floor (R84). -/
def BufPool.part (b : BufPool) (cls : Nat) : Option Nat :=
  let size := fun i => (poolSizes b.pool).getD i 0
  if b.shared < size 0 then some 0
  else match cls with
    | 1 => if b.ctl < size 1 then some 1 else none
    | 2 => if b.latency < size 2 then some 2 else none
    | 3 => if b.bulk < size 3 then some 3 else none
    | _ => if b.background < size 4 then some 4 else none

/-- A buffer for a class, and the pool without it. -/
def BufPool.take (b : BufPool) (cls : Nat) : Option (Nat × BufPool) := (b.part cls).map (fun p => (p, b.add p))

/-- The pool once every waiter before a request has the buffer that is there for it: the list is served first (R84). -/
def BufPool.served (b : BufPool) (id : Nat) : BufPool :=
  (b.waiters.takeWhile (·.id != id)).foldl (fun b w => (b.take w.cls).elim b (·.2)) b

/-- The part from which a request takes its buffer, behind the waiters before it. -/
def BufPool.partFor (b : BufPool) (id cls : Nat) : Option Nat := (b.served id).part cls

/-- The order of a wait list: time of acceptance, requester's locus, tag (R84). -/
def Waiter.before (a b : Waiter) : Bool :=
  decide (a.time < b.time) || (a.time == b.time && (decide (a.locus < b.locus) || (a.locus == b.locus && decide (a.id ≤ b.id))))

/-- A request joins the wait list, once. -/
def BufPool.wait (b : BufPool) (w : Waiter) : BufPool :=
  if b.waiters.any (·.id == w.id) then b else { b with waiters := insertBy Waiter.before w b.waiters }

/-- A buffer pool. -/
def State.bufPool (s : State) (p : Pool) : Option BufPool := s.q.pools.find? (·.pool == p)

/-- A buffer pool stored back. -/
def State.setPool (s : State) (b : BufPool) : State := { s with q.pools := upd (·.pool == b.pool) (fun _ => b) s.q.pools }

/-- The pool snapshot that an operation reads: its handle, 0 for none (R334). -/
def Op.snapNamed (o : Op) : Nat :=
  if o.opcode = 0x81 || o.opcode = 0x82 then o.p 32 4
  else if o.opcode = 0x84 && o.p 8 1 = 2 then o.p 12 4 else 0

/-- The handle of a pool snapshot. -/
def PoolSnap.handle (x : PoolSnap) : Nat := mkHandle 12 x.slot x.gen

/-- Does some operation read the snapshot? -/
def PoolSnap.isRead (x : PoolSnap) (ops : List Op) : Bool := ops.any (fun o => o.snapNamed == x.handle)

/-- What stays of a snapshot: a released one goes, and the copies of an expired one go, once no command reads it (R334). -/
def PoolSnap.kept (ops : List Op) (x : PoolSnap) : Option PoolSnap :=
  if x.isRead ops then some x
  else if x.released.isSome then none
  else if x.expired.isSome then some { x with copies := [], used := 0, bad := [] } else some x

/-- The handle of a connection. -/
def Conn.handle (c : Conn) : Nat := mkHandle 14 c.slot c.gen

/-- Does the end of an operation count on a connection: an RMA_WRITE or RMA_READ that ends with OK (R358)? -/
def Op.countsOn (o : Op) (c : Conn) : Bool :=
  (o.opcode = 0x92 || o.opcode = 0x93) && o.status = .ok && o.state = .done && o.p 8 4 = c.handle

/-- A claim ends without a session: the device is UNCLAIMED again and no key remains (Table 14-1). -/
def State.dropClaim (s : State) : State :=
  ({ s with
    sec.life := .unclaimed, sec.claimOp := none, sec.claimFn := none, sec.tenantKey := 0, sec.tenant := 0
    sec.keysPresent := false, sec.root := none, sec.session := 0, sec.bindings := [], sec.macsec := [] }).securityChanged

/-- What a finished operation lets go: its table entry, tag, buffer, place on wait lists, attention copies, hold on
old copies, messages not yet started, a commit not yet switched, and the chain that it fills (R77, R84, R92, R116, R212, R354). -/
def State.endOp (s : State) (tag : Nat) : State :=
  match s.op tag with
  | none => s
  | some o =>
    let waits := fun m : Msg => m.tag == some tag && m.psn.isNone
    let mine := fun u : SUnit => match u.src with
      | .op t | .plan t _ => t == tag
      | .msg c i => s.rma.conns.any (fun x => x.slot == c && x.msgs.any (fun m => m.id == i && waits m))
    let s := if s.dlv.ports.any (fun p => p.queues.any (fun q => q.units.any mine)) then s.purge mine else s
    let t := s.tags (tagSpan tag)
    let s := s.setTags (tagSpan tag) { t with freed := t.freed ++ [tag] }
    let given := o.buffers.foldl (fun l h => upd (fun b : BufPool => b.pool == h.1) (fun b => b.give h.2) l) s.q.pools
    let pools := given.map (fun b : BufPool => { b with waiters := b.waiters.filter (·.id != tag) })
    let s := { s with
      q.ops := s.q.ops.filter (·.tag != tag)
      q.pools := pools
      stg.commit := s.stg.commit.filter (fun c => c.tag != tag || c.switched)
      store.chains := upd (fun c : Chain => c.forkWait == some tag) (fun c => { c with forkWait := none }) s.store.chains
      att.copies := s.att.copies.filter (·.tag != tag)
      idx.cascade := { s.idx.cascade with waiting := s.idx.cascade.waiting.filter (·.tag != tag) }
      pool.snaps := (s.pool.snaps.filter (fun x => x.maker != some tag)).filterMap (PoolSnap.kept (s.q.ops.filter (·.tag != tag)))
      tiers.oldCopies := s.tiers.oldCopies.map (fun c => { c with holders := c.holders.filter (· != tag) })
      rma.conns := s.rma.conns.map (fun c : Conn => { c with
        msgs := c.msgs.filter (fun m => !waits m)
        counter := c.counter + b2n (o.countsOn c) })
      sec.waiting := s.sec.waiting.filter (·.1 != .op tag) }
    let s := if s.sec.claimOp = some tag && s.sec.life = .claiming then s.dropClaim else s
    if o.view.isSome || o.work != .nothing then s.gc else s

/-- A long operation reaches its final state, and posts its second completion under FINAL_CQE (R68). -/
def State.finalise (s : State) (tag : Nat) : State :=
  let s := s.updOp tag (fun o => { o with state := o.status.finalState, pause := 0 })
  match s.op tag with
  | some o => (if o.finalCqe then s.complete o o.status o.result o.progress else s).endOp tag
  | none => s

/-- An operation ends: its record takes its final state, its completion is posted, its entry is freed.  One whose IN_PROGRESS is
already posted ends as a long operation does (R68, R73). -/
def State.finish (s : State) (tag : Nat) (st : Status) (result : Nat) : State :=
  let s := s.rested.updOp tag (fun o => { o with state := st.finalState, status := st, result := result })
  match s.op tag with
  | some o => if o.announced then s.finalise tag else (s.complete o st result 0).endOp tag
  | none => s

/-- What a probe writes at its location buffer: the header of Table 6-4 and one entry a block (R161). -/
def probeBytes (d first falseHits cause slow handle : Nat) (key : BitVec 128) (entries : List Nat) : List Byte :=
  leBytes 4 d ++ leBytes 4 first ++ leBytes 4 entries.length ++ leBytes 4 falseHits ++ leBytes 1 cause ++
  leBytes 1 slow ++ leBytes 2 0 ++ leBytes 4 handle ++ leBytes 16 (if d = 0 then 0 else key.toNat) ++
  leBytes 24 0 ++ entries.flatMap (leBytes 8)

/-- A probe stopped by ABORT keeps the depth it reached and says so, in its result and in its location buffer (R162,
Table 6-6). -/
def State.stopProbe (s : State) (o : Op) (st : Status) : State :=
  match o.work, st with
  | .probe r, .aborted =>
    let d := o.result % 2 ^ 32
    let f := o.p 12 4
    let slow := (r.found.take (d - f)).foldl (fun a h => max a (h.entry / 4 % 4)) 0
    let key := if d = f then BitVec.ofNat 128 (o.p 16 16) else (r.found[d - f - 1]?).elim 0 (·.key)
    let s := if bit (o.p 32 1) 1 then s
      else s.setOp o.tag (fun o => { o with result := o.result + 8 * 2 ^ 32 })
    match s.pair o.qp with
    | some q => if o.p 40 8 = 0 then s
      else match s.hostWrite q.owner q.owner.link (o.p 40 8)
          (probeBytes d f r.falseHits 8 slow 0 key (r.found.map (·.entry))) with
        | .ok t => t
        | .error _ => s
    | none => s
  | _, _ => s

/-- An operation stops now, at a unit boundary, with a status: a long one reaches its final state, any other completes
with the status (R80, R431). -/
def State.stopOp (s : State) (tag : Nat) (st : Status) : State :=
  match s.op tag with
  | none => s
  | some o =>
    let s := s.stopProbe o st
    if o.long then (s.setOp tag (fun o => { o with status := st })).finalise tag else s.finish tag st 0

/-! ### Acceptance (R20, R47, R57, R64 to R66, R70, R91, R432) -/

/-- A live namespace by its 32-bit handle (R94). -/
def State.ns (s : State) (h : Nat) : Option Namespace :=
  s.store.namespaces.find? (fun n => mkHandle 12 n.index n.gen == h && !n.deleting)

/-- The span that owns a command: its namespace's, else its queue's (R20). -/
def ownerSpan (qp handle : Nat) : Nat := if handle = 0 then qp % 2 else handle % 2

/-- The connection that a command names: RMA_CONNECT after CREATE, RMA_WRITE, RMA_READ and RMA_WAIT on a connection. -/
def connNamed (op : Nat) (pkt : BitVec 512) : Nat :=
  if op = 0x90 then (if pf pkt 8 1 = 0 then 0 else pf pkt 12 4)
  else if op = 0x92 || op = 0x93 then pf pkt 8 4
  else if op = 0x95 && pf pkt 12 1 = 0 then pf pkt 8 4 else 0

/-- The span that owns a command (R20, R347). -/
def State.spanOf (s : State) (qp op : Nat) (pkt : BitVec 512) : Nat :=
  match s.rma.conns.find? (fun c => c.handle == connNamed op pkt) with
  | some c => c.span
  | none => if handleUse op != 0 then ownerSpan qp (pf pkt 4 4) else qp % 2

/-- The result of R47: the bit number of the flag waited for. -/
def State.flagSet (s : State) (n : Nat) : Bool :=
  if n = 0 then s.boot.link else if n = 1 then s.boot.deck else s.boot.full

/-- Opcodes accepted while halted (R432). -/
def haltedAccepts (op : Nat) : Bool := op = 0x00 || op = 0x04 || op = 0xA3 || op = 0xA4 || (0xB0 ≤ op && op < 0xC0)

/-- Remote-access commands need the Ethernet links (R52). -/
def State.needsMore (s : State) (op : Nat) : Bool := 0x90 ≤ op && op < 0xA0 && s.boot.ethUp = 0 && s.boot.waking

/-- The handle of a weight object: slot in [11:0], generation above. -/
def WeightObj.handle (w : WeightObj) : Nat := mkHandle 12 w.slot w.gen

/-- A weight object by its handle, unless its deletion runs. -/
def State.weightOf (s : State) (h : Nat) : Option WeightObj :=
  s.tiers.weights.find? (fun w => w.handle == h && !w.deleting)

/-- A region's key. -/
def RRegion.key (r : RRegion) : Nat := r.slot * 2 ^ 16 + r.gen * 2 ^ 8 + r.check

/-- The partition that owns the object a command acts on, or that a creation names; none for a command on no partition's object
(R66). -/
def State.objectPart (s : State) (op : Nat) (pkt : BitVec 512) : Option Nat :=
  let weight := (s.weightOf (pf pkt 8 4)).map (·.partition)
  match op with
  | 0x20 => some (pf pkt 18 1)
  | 0x37 =>
    if pf pkt 8 1 = 2 then some (pf pkt 12 1)
    else if pf pkt 8 1 = 3 then (s.idx.groups.find? (·.num == pf pkt 13 1)).map (·.partition)
    else none
  | 0x51 | 0x60 => if pf pkt 12 1 = 2 then weight else (s.ns (pf pkt 4 4)).map (·.partition)
  | 0x90 =>
    if pf pkt 8 1 = 0 then some (pf pkt 10 1) else (s.rma.conns.find? (fun c => c.handle == pf pkt 12 4)).map (·.partition)
  | 0x91 =>
    if pf pkt 8 1 = 0 then some (pf pkt 33 1)
    else if pf pkt 8 1 = 1 then (s.ns (pf pkt 4 4)).map (·.partition)
    else (s.rma.regions.find? (fun r => r.key == pf pkt 12 4)).map (·.partition)
  | _ => (s.ns (pf pkt 4 4)).map (·.partition)

/-- The partition whose EXPERT level decides: the object's or the named one, else the pair's (R66). -/
def State.expertPart (s : State) (q : QPair) (op : Nat) (pkt : BitVec 512) : Nat := (s.objectPart op pkt).getD q.partition

/-- The first reason not to run a command, with the result it carries (R47, R57, R64 to R66, R91, R412, R432). -/
def State.reject (s : State) (q : QPair) (op : Nat) (pkt : BitVec 512) : Option (Status × Nat) :=
  let flags := pf pkt 1 1
  let x := bit flags 7
  let check := bit flags 4
  let vendor := 0xC0 ≤ op && op < 0x100
  if s.boot.halted && !(q.ctl && haltedAccepts op) then some (.deviceHalted, 0)
  else if !classAccepts q.ctl op then some (.badOpcode, 0)
  else if vendor && !s.sec.diagOpen then some (.badOpcode, 0)
  else if vendor && s.sec.life != .unclaimed then some (.denied, 0)
  else if !vendor && !assignedOpcodes.contains op then some (.badOpcode, 0)
  else if dataClass op && !s.claimed then some (.notClaimed, 0)
  else if !s.flagSet (needsFlag op pkt) then some (.retry, needsFlag op pkt)
  else if s.needsMore op then some (.retry, 2)
  else if (bit flags 6 && !x) || bit flags 3 || bit flags 2 || flags % 4 = 3 then some (.badParam, 0)
  else if x && !vendor && !hasExpert op then some (.badParam, 0)
  else if !vendor && handleUse op = 0 && pf pkt 4 4 != 0 then some (.badParam, 0)
  else if !vendor && !reservedZero op x check pkt then some (.badParam, 0)
  else if check && pf pkt 52 4 != s.stg.epoch % 2 ^ 32 then some (.staleEpoch, 0)
  else if handleUse op = 1 && (s.ns (pf pkt 4 4)).isNone then some (.badHandle, 0)
  else if x && !vendor && op != 0x20 && !expertOn s.stg.live (s.expertPart q op pkt) then some (.denied, 0)
  else none

/-- The version of a chain or snapshot that a command names now: what ATTEND, ATTEND_SPARSE, DELIVER, FETCH, FORK and a
plan read (R103, R249). -/
def State.viewNamed (s : State) (op : Nat) (pkt : BitVec 512) : Option View :=
  if ! [0x3C, 0x50, 0x51, 0x60, 0x70, 0x71].contains op then none
  else (s.ns (pf pkt 4 4)).bind (fun n =>
    let here := fun v : View => v.ns == n.index && v.gen == n.gen
    if pf pkt 12 1 = 0 then
      (s.store.chains.find? (fun c => mkHandle 20 c.slot c.gen == pf pkt 8 4 && here c.view && c.forkWait.isNone)).map (·.view)
    else if pf pkt 12 1 = 1 then
      (s.store.snapshots.find? (fun x => mkHandle 18 x.slot x.gen == pf pkt 8 4 && here x.view && !x.expired)).map (·.view)
    else none)

/-- The descriptor that an attention command copies at its acceptance (R284). -/
def State.copyDesc (s : State) (tag op : Nat) (pkt : BitVec 512) : State :=
  if op != 0x70 && op != 0x71 then s
  else match s.att.descs.find? (·.slot == pf pkt 14 2) with
    | some d => { s with att.copies := s.att.copies ++ [⟨tag, d.partition, d.bytes, none, false⟩] }
    | none => s

/-- Has a span's operation table room for a command of a pair: 256 entries are the control class's own (R27)? -/
def State.tableRoom (s : State) (span : Nat) (ctl : Bool) : Bool := s.opsOf span < (if ctl then 32768 else 32512)

/-- Monitor `n` as it stands. -/
def State.monitor (s : State) (n : Nat) : Monitor := match s.tel.monitors.find? (·.num == n) with
  | some m => m
  | none => Monitor.reset n

/-- A counter's register (Table 16-1). -/
def State.counterReg (s : State) (i : Nat) : Nat := b2n (s.tel.wraps.contains i) * 2 ^ 63 + assoc s.tel.counters i 0

/-- The bytes of a snapshot slot for instant `t`, but its generation (R446, Table 16-6): header, counters, monitors. -/
def State.slotBytes (s : State) (t q skipped : Nat) : List Byte :=
  leBytes 4 q ++ leBytes 8 t ++ leBytes 8 s.stg.epoch ++ leBytes 4 skipped ++
  leBytes 1 (b2n (fixedRate s.stg.live)) ++ leBytes 35 0 ++
  (List.range 2048).flatMap (fun i => leBytes 8 (s.counterReg i)) ++
  (List.range 64).flatMap (fun n => leBytes 8 (s.monitor n).count) ++ leBytes 448 0

/-- What a command takes of the machine at its acceptance: CNT_DUMP ONCE the counters (R445). -/
def State.captured (s : State) (op : Nat) (pkt : BitVec 512) : Work :=
  if op = 0xB0 && pf pkt 8 1 = 2 then .snapshot (s.slotBytes s.clock.now 0 0) else .nothing

/-- A new operation as its acceptance leaves it. -/
def State.newOp (s : State) (tag inc qp op : Nat) (pkt : BitVec 512) : Op :=
  { tag := tag, inc := inc, order := s.q.accepted, qp := qp, opcode := op, pkt := pkt, time := s.clock.now
    epoch := s.stg.epoch, started := false, long := false, state := .queued, pause := 0, unitsTotal := 0
    unitsDone := 0, result := 0, resume := 0, status := .ok, finished := false, wait := .none, view := s.viewNamed op pkt
    work := s.captured op pkt, buffers := [], contexts := [], announced := false, stopping := none, target := none, tails := none }

/-- The command that its queue's span forwards over link 32 to the span that owns it (R17, R20). -/
def State.handOver (s : State) (q : QPair) (span tag : Nat) : State :=
  if span = q.index % 2 then s
  else s.fabricSend (if q.ctl then .ctl else .req) (.command tag) (spanDie (q.index % 2)) (spanDie span)

/-- A staging command of the pair that opened the session renews its lease, however it ends (R87). -/
def State.renewSession (s : State) (qp op : Nat) : State :=
  { s with stg.session := s.stg.session.map (fun x =>
      if x.owner = qp && 0x10 ≤ op && op < 0x16 then { x with deadline := s.clock.now + x.lease * 10 ^ 9 } else x) }

/-- A command accepted from a pair: it takes a tag of its span and an operation-table entry, and completes at once when
it is rejected.  No effect when the owning span's table is full for the pair's class (R20, R27). -/
def State.accept (s : State) (qp op : Nat) (pkt : BitVec 512) : Option Nat × State :=
  match s.pair qp with
  | none => (none, s)
  | some q =>
    let span := s.spanOf qp op pkt
    let t := s.tags span
    if !s.tableRoom span q.ctl then (none, s)
    else match t.next span with
    | none => (none, s)
    | some (tag, t) =>
      let inc := t.inc tag
      let s := s.setTags span { t with incs := assocSet t.incs tag inc }
      let o := s.newOp tag inc qp op pkt
      let s := ({ s with q.ops := s.q.ops ++ [o], q.accepted := s.q.accepted + 1 }).copyDesc tag op pkt
      let s := (((s.renewSession qp op).handOver q span tag).writeRec o).bumpAt (op / 16 % 16) 1 (some q.partition) (some q.index)
      match s.reject q op pkt with
      | some (st, r) => (none, s.finish tag st r)
      | none => (some tag, s)

/-! ### Starting an operation (R65, R80, R83 to R85) -/

/-- What the first unit of an operation answers. -/
inductive BodyOut where
  | done (st : Status) (result : Nat) (s : State)
  | long (units result : Nat) (s : State)
  | wait (w : Wait) (s : State)

/-- The state that a body answers. -/
def BodyOut.state : BodyOut → State
  | .done _ _ s => s
  | .long _ _ s => s
  | .wait _ s => s

/-- The function that owns an operation's queue pair. -/
def State.opFn (s : State) (o : Op) : Fn := match s.pair o.qp with
  | some q => q.owner
  | none => ⟨0, 0⟩

/-- The partition of an operation's queue pair. -/
def State.opPart (s : State) (o : Op) : Nat := match s.pair o.qp with
  | some q => q.partition
  | none => 0

/-- Does the fence hold the operation back: an earlier command of its SQ, with the same handle under NAMESPACE, has not
finished, its completion posted included (R65)? -/
def State.fenced (s : State) (o : Op) : Bool :=
  let held := fun (p : HeldCqe → Bool) => (s.pair o.qp).any (fun q => q.held.any p)
  match o.fence with
  | 1 => s.q.ops.any (fun x => x.qp == o.qp && x.order < o.order && x.handle == o.handle) ||
      held (fun h => h.order < o.order && h.handle == o.handle)
  | 2 => s.q.ops.any (fun x => x.qp == o.qp && x.order < o.order) || held (fun h => h.order < o.order)
  | _ => false

/-- The settings an operation uses: those of the epoch it carries (R86, R90). -/
def State.itemsOf (s : State) (o : Op) : List Item := if o.epoch < s.stg.epoch then s.stg.old else s.stg.live

/-- The device acts for an operation, under the settings of the epoch that it carries (R86). -/
def State.actFor (s : State) (o : Op) : State := { s with stg.acting := decide (o.epoch < s.stg.epoch) }

/-- The first unit's answer, carried out: the completion, IN_PROGRESS unless it is posted already, or the wait. -/
def State.settle (tag : Nat) : BodyOut → State
  | .done st r s => s.finish tag st r
  | .long units r s =>
    let s := s.rested.updOp tag (fun o => { o with
      long := true, state := .running, wait := .none, pause := 0, unitsTotal := units, result := r })
    (match s.op tag with
    | some o => if o.announced then s else (s.setOp tag (fun o => { o with announced := true })).complete o .inProgress r o.progress
    | none => s)
  | .wait w s => s.rested.updOp tag (fun o => { o with wait := w })

/-- A command that waits before its start and will be long completes with IN_PROGRESS at once (R73): its first unit's checks say
so as things stand.  A long ATTEND_SPARSE reads its list and copies its query first (R283, R302). -/
def State.announce (body : Op → State → BodyOut) (s : State) (tag : Nat) : State :=
  match s.op tag with
  | none => s
  | some o =>
    if o.announced || o.started then s
    else match body o (s.actFor o) with
      | .long units r t =>
        let s := if o.opcode = 0x71 then
            { s with att.copies := t.att.copies, tel := t.tel }.setOp tag (fun o => { o with work := (t.op tag).elim o.work (·.work) }) else s
        let s := s.updOp tag (fun o => { o with announced := true, unitsTotal := units, result := r })
        s.complete o .inProgress r o.progress
      | .done .. | .wait .. => s

/-- The engine of the span that makes an operation's requests, as a locus code (Table 1-3; log entry 136). -/
def Op.requester (o : Op) : Nat :=
  0x3000 + 0x100 * tagSpan o.tag +
    (if o.opcode = 0x50 || o.opcode = 0x51 || (0x60 ≤ o.opcode && o.opcode < 0x70) then 0x11
     else if 0x50 ≤ o.opcode && o.opcode < 0x60 then 0x12
     else if 0x90 ≤ o.opcode && o.opcode < 0xA0 then 0x15
     else if 0x30 ≤ o.opcode && o.opcode < 0x38 then 0x10 else 0)

/-- Do an operation's units stage pages or pool lines in a pier? -/
def Op.stages (o : Op) : Bool :=
  [0x39, 0x50, 0x52, 0x53, 0x59, 0x80, 0x81, 0x82, 0x83].contains o.opcode

/-- The buffers that an operation's first unit needs, in the order in which it takes them: a parameter buffer of its span; a
transfer buffer of its port's abutment where it names a host buffer; a staging buffer of a pier where it stages data (R80, R83; log
entry 136). -/
def State.needs (s : State) (o : Op) : List Pool :=
  [.parameter (tagSpan o.tag)] ++
  (if o.buf != 0 && (layoutUses o.opcode o.expert o.pkt).contains (56, 8) then [.transfer (portAbutment (s.opFn o).link)] else []) ++
  (if o.stages then [.staging (o.handle % 6)] else [])

/-- The buffer class of an operation (Table 3-8). -/
def State.bufClass (s : State) (o : Op) : Nat := bufferClass ((s.pair o.qp).any (·.ctl)) o.opcode

/-- Host transfer contexts of an abutment in use: one for each operation that holds a transfer buffer there and each write that a
scheduling port has in transmission (Table 1-13). -/
def State.hostContexts (s : State) (a : Nat) : Nat :=
  (s.q.ops.filter (fun o => o.buffers.any (·.1 == .transfer a))).length +
  (s.dlv.ports.filter (fun p => portAbutment p.num = a && decide (s.clock.now < p.sentUntil))).length

/-- Is a host transfer context free for an operation: 64 of an abutment's 2,048 are the control class's own (R27, R81)? -/
def State.contextFree (s : State) (o : Op) : Bool :=
  s.hostContexts (portAbutment (s.opFn o).link) < (if s.bufClass o = 1 then 2048 else 1984)

/-- One buffer for an operation, unless it holds one of that pool; none when the pool has none for it (R84). -/
def State.takeOne (s : State) (o : Op) (p : Pool) : Option State :=
  if o.buffers.any (·.1 == p) then some s
  else match s.bufPool p with
  | none => some s
  | some b => (b.partFor o.tag (s.bufClass o)).map (fun part =>
      (s.setPool { b.add part with waiters := b.waiters.filter (·.id != o.tag) }).setOp o.tag (fun o => { o with
        buffers := o.buffers ++ [(p, part)] }))

/-- Buffers taken in order until a pool has none: the state with those taken, and that pool. -/
def State.acquire (s : State) (o : Op) : List Pool → State × Option Pool
  | [] => (s, none)
  | p :: t => match s.takeOne o p with
    | some s => s.acquire o t
    | none => (s, some p)

/-- Parks an operation on a pool's wait list (R84). -/
def State.park (s : State) (o : Op) (p : Pool) : State :=
  let s := match s.bufPool p with
    | some b => s.setPool (b.wait ⟨o.time, o.requester, o.tag, s.bufClass o⟩)
    | none => s
  let c := match p with
    | .parameter _ => 0x02C
    | .transfer _ => 0x02D
    | .staging _ => 0x02E
  (s.bumpAt c 1 (some (s.opPart o)) (some o.qp)).updOp o.tag (fun o => { o with wait := .buffer p, pause := 1 })

/-- In link-watch a command waits until the part it needs is back (R52). -/
def State.awakeFor (s : State) (op : Nat) : Bool :=
  !s.boot.linkwatch || (s.boot.waking && (if op < 0x20 || 0xA0 ≤ op then true
    else if op < 0x50 then s.boot.awakeDeck else s.boot.awakeCauseway))

/-- The state in which an operation has started: running, with its buffers, under its own epoch's settings; none when a pool has no
buffer or an abutment no context for it (R30, R80, R83, R86). -/
def State.launch (s : State) (tag : Nat) (o : Op) : Option State :=
  match s.acquire o (s.needs o) with
  | (t, none) =>
    if s.contextFree o then
      some ((t.updOp tag (fun o => { o with started := true, state := .running, wait := .none, pause := 0 })).actFor o)
    else none
  | (_, some _) => none

/-- An operation without a buffer: it completes with NO_BUFFER under NO_WAIT, else it waits with what it could take (R85); one
without a transfer context waits (R30). -/
def State.lacksBuffer (s : State) (tag : Nat) (o : Op) : State :=
  match s.acquire o (s.needs o) with
  | (t, some p) => if o.expert && o.noWait then s.finish tag .noBuffer 0 else t.park o p
  | (t, none) => t.updOp tag (fun o => { o with wait := .context, pause := 1 })

/-- An operation starts when its fence holds and its first unit has its buffers (R80), or goes on after a wait. -/
def State.start (body : Op → State → BodyOut) (s : State) (tag : Nat) : State :=
  match s.op tag with
  | none => s
  | some o =>
    if o.long || o.finished || (s.boot.halted && !haltedAccepts o.opcode) || !s.awakeFor o.opcode then s
    else if o.started then State.settle tag (body o (s.actFor o))
    else if s.fenced o then (s.updOp tag (fun o => { o with wait := .fence, pause := 4 })).announce body tag
    else match s.launch tag o with
      | some s => (match s.op tag with
        | some o => State.settle tag (body o s)
        | none => s)
      | none => (s.lacksBuffer tag o).announce body tag

/-- A transaction reaches the live port in link-watch: the wake begins, and DEV_WAKE_AT clears (R52, R479). -/
def State.wake (s : State) : State :=
  if s.boot.linkwatch && !s.boot.waking then
    { s with
      boot.waking := true
      boot.awakeDeck := false
      boot.awakeCauseway := false
      boot.awakePorts := false
      clock.wakeAt := 0 }
  else s

/-- A command row: the command is accepted from its pair and starts at once if it can. -/
def State.submit (op : Nat) (body : Op → State → BodyOut) (c : Cmd) (s : State) : State :=
  match s.wake.accept c.qp op c.pkt with
  | (some tag, s) => s.start body tag
  | (none, s) => s

/-- A command that is accepted and starts at once: its operation and the state as its first unit runs; none when it is
turned away or has to wait. -/
def State.begins (s : State) (op : Nat) (c : Cmd) : Option (Op × State) :=
  match s.wake.accept c.qp op c.pkt with
  | (none, _) => none
  | (some tag, s) => (s.op tag).bind (fun o =>
      if o.long || o.finished || o.started || (s.boot.halted && !haltedAccepts o.opcode) || !s.awakeFor o.opcode ||
        s.fenced o then none
      else (s.launch tag o).bind (fun t => (t.op tag).map (fun o => (o, t))))

/-- What a unit of a long operation answers: it goes on, or it is the last and the operation ends with a status. -/
inductive UnitOut where
  | more (result resume : Nat) (s : State)
  | last (st : Status) (result resume : Nat) (s : State)
  | cut (st : Status) (result resume : Nat) (s : State)
  | stay (s : State)

/-- The state that a unit answers. -/
def UnitOut.state : UnitOut → State
  | .more _ _ s => s
  | .last _ _ _ s => s
  | .cut _ _ _ s => s
  | .stay s => s

/-- The dies that receive BULK data for an operation: its port's abutment, and the home piers of the pages that it reads (R18). -/
def State.bulkDies (s : State) (o : Op) : List Nat :=
  let ids := o.view.elim [] View.blocks
  abutmentDie (portAbutment (s.opFn o).link) ::
    ((s.store.blocks.filter (fun b => ids.contains b.id)).flatMap (fun b => b.pages.map (fun p => pierDie p.home))).eraseDups

/-- Does foreground work wait that work of a class yields to: an operation of a class before it that has started and waits for nothing
(R79)? -/
def State.busyBefore (s : State) (cls : Nat) : Bool :=
  s.q.ops.any (fun x => x.started && !x.finished && x.wait == .none && s.bufClass x < cls)

/-- Does foreground work wait that an operation yields to? -/
def State.foreground (s : State) (o : Op) : Bool := s.busyBefore (s.bufClass o)

/-- One unit of a task of the device's own, in its class: work in BACKGROUND yields to foreground work; the unit runs with a buffer
that it gives back at its end, the granted one if it waited; without one the task joins the pool's wait list (R70, R79, R84). -/
def State.forTask (s : State) (task cls locus : Nat) (p : Pool) (run : State → State) : State :=
  let id := 2 ^ 16 + task
  if cls = 4 && s.busyBefore 4 then s
  else match s.q.granted.find? (·.1 == task), s.bufPool p with
  | some g, _ => run { s with
      q.granted := s.q.granted.filter (·.1 != task)
      q.pools := upd (fun b : BufPool => b.pool == g.2.1) (fun b => b.give g.2.2) s.q.pools }
  | none, none => run s
  | none, some b =>
    if (b.partFor id cls).isSome then run (s.setPool { b with waiters := b.waiters.filter (·.id != id) })
    else s.setPool (b.wait ⟨s.clock.now, locus, id, cls⟩)

/-- A task of the device's own goes: its place on wait lists and a buffer granted to it are free again. -/
def State.dropTask (s : State) (task : Nat) : State :=
  let given := (s.q.granted.filter (·.1 == task)).foldl (fun l g => upd (fun b : BufPool => b.pool == g.2.1) (fun b => b.give g.2.2) l) s.q.pools
  { s with
    q.granted := s.q.granted.filter (·.1 != task)
    q.pools := given.map (fun b : BufPool => { b with waiters := b.waiters.filter (·.id != 2 ^ 16 + task) }) }

/-- Are the memories out of self-refresh and the NAND out of deep power-down (R51, R52)? -/
def State.memoriesAwake (s : State) : Bool := !s.boot.linkwatch || (s.boot.awakeDeck && s.boot.awakeCauseway)

/-- How an operation shows itself between two units: PAUSED under a clamp or while it yields, else RUNNING (R79). -/
def State.between (s : State) (o : Op) : RecState × Nat :=
  if s.clampStep != 0 then (.paused, 2) else if s.foreground o then (.paused, 3) else (.running, 0)

/-- One unit of a long operation, carried out: its data is acknowledged (R18), the record counts it, and the operation goes on,
pauses, stops, or is due its final state (R75, R78 to R80). -/
def State.unit (unit : Op → State → UnitOut) (s : State) (tag : Nat) : State :=
  match s.op tag with
  | none => s
  | some o =>
    if !o.long || o.finished || s.boot.halted then s
    else match unit o (s.actFor o) with
      | .stay s => match o.wait with
        | .buffer _ | .context => s.rested.updOp tag (fun o => { o with state := .paused, pause := 1 })
        | _ => s.rested
      | .more r p s =>
        let s := s.rested.fabricData tag (s.bulkDies o)
        let b := s.between o
        s.updOp tag (fun o => { o with
          state := b.1, pause := b.2, unitsDone := o.unitsDone + 1, result := r, resume := p })
      | .last st r p s => (s.rested.fabricData tag (s.bulkDies o)).updOp tag (fun o => { o with
          state := .running, pause := 0, unitsDone := o.unitsDone + 1
          result := r, resume := p, status := st, finished := true })
      | .cut st r p s => s.rested.updOp tag (fun o => { o with
          state := .running, pause := 0, result := r, resume := p, status := st, finished := true })

/-! ### Transfers of a command -/

/-- The answer to a transfer that did not take place: DENIED (R321), OUT_OF_RANGE (R500) or a wait (R401). -/
def Xfer.answer (x : Xfer) (s : State) : BodyOut :=
  match x with
  | .denied => .done .denied 0 s
  | .failed => .done .outOfRange 0 s
  | .waits l => .wait (.link l) s

/-- The class of a command's own transfers: its buffer class (R263, Table 3-8). -/
def State.opClass (s : State) (o : Op) : Nat := bufferClass ((s.pair o.qp).any (·.ctl)) o.opcode - 1

/-- The read requests of a command for `n` bytes from `a`, and the writes of `n` bytes, at its port. -/
def State.readFor (s : State) (o : Op) (a n : Nat) : State :=
  s.charge (s.opFn o).link (s.opPart o) (s.opClass o) (readUnits (s.opFn o).link a n)

def State.wroteFor (s : State) (o : Op) (link n : Nat) : State :=
  s.charge link (s.opPart o) (s.opClass o) (writeUnits link n)

/-- `f` on the state that a body answers; a waiting body has not run yet. -/
def BodyOut.after (f : State → State) : BodyOut → BodyOut
  | .done st r s => .done st r (f s)
  | .long n r s => .long n r (f s)
  | .wait w s => .wait w s

/-- Reads a command's buffer over its own link and goes on with the bytes (R262). -/
def State.withRead (s : State) (o : Op) (a n : Nat) (k : List Byte → BodyOut) : BodyOut :=
  match s.hostRead (s.opFn o) (s.opFn o).link a n with
  | .ok b => (k b).after (fun t => t.readFor o a n)
  | .error x => x.answer s

/-- Writes a command's buffer over its own link and goes on; bytes written before a unit that fails stand (R500). -/
def State.writeThen (s : State) (o : Op) (a : Nat) (b : List Byte) (k : State → BodyOut) : BodyOut :=
  match s.hostWrite (s.opFn o) (s.opFn o).link a b with
  | .ok s => k (s.wroteFor o (s.opFn o).link b.length)
  | .error .failed => Xfer.failed.answer (s.hostPart (s.opFn o).link a b (writeUnits (s.opFn o).link b.length))
  | .error x => x.answer s

/-! ### Random numbers (R393 to R395) -/

/-- Can the source serve a request now? -/
def State.entropyOk (s : State) : Bool := s.sec.sourceOk && !s.sec.latched

/-- The next number of the DRBG; it reseeds itself after every 65,536 requests (R393). -/
def State.draw (s : State) : BitVec 64 × State :=
  (Config.random s.sec.drawn, { s with
    sec.drawn := s.sec.drawn + 1
    sec.requests := if s.sec.requests + 1 ≥ 65536 then 0 else s.sec.requests + 1 })

/-- A request that fails for want of entropy is counted (Table 14-19, Table 16-2). -/
def State.entropyFailed (s : State) : State :=
  (({ s with sec.waitFails := min 255 (s.sec.waitFails + 1) }).bump 0x304 1).securityChanged

/-- A command that draws random numbers: it goes on while the source serves, ends with ENTROPY_UNAVAILABLE once the failure
is latched, and else waits: in one of the keystone's 64 security requests, or for one to be free (R27, R395). -/
def State.withEntropy (s : State) (o : Op) (k : State → BodyOut) : BodyOut :=
  if s.entropyOk then k { s with sec.waiting := s.sec.waiting.filter (·.1 != .op o.tag) }
  else if s.sec.latched then .done .entropyUnavailable 0 s.entropyFailed
  else .wait .entropy (if s.sec.waiting.any (·.1 == .op o.tag) || 64 ≤ s.sec.waiting.length then s
    else { s with sec.waiting := s.sec.waiting ++ [(.op o.tag, s.clock.now)] })

/-! ### Clamp steps (R466) -/

/-- The clamp steps in force: the keystone's order goes out in CTL, each step entered counts, and the POWER source is raised, at
once or at a period's end (R17, R466, R467, Table 17-8).  A long operation pauses at its next unit boundary (R79). -/
def State.setSteps (s : State) (power thermal : Nat) : State :=
  let old := s.clampStep
  let s := { s with mgmt.powerStep := power, mgmt.thermalStep := thermal }
  let new := s.clampStep
  if old = new then s
  else
    let entered := if old < new then (List.range (new - old)).map (· + old + 1) else (List.range (old - new)).map (old - 1 - ·)
    let s := entered.foldl (fun s i => s.bump (0x380 + i) 1) (s.fabricAll (.clamp new) keystoneDie)
    let s := { s with tel.fixedPeak := max s.tel.fixedPeak new }
    if fixedRate s.stg.live then s else s.raiseSrc 9

/-! ### Ethernet protection (R404) -/

/-- Must an Ethernet scheduling port carry secured frames only, while MKA has not secured it: under REQUIRED, and after a warm reset
of a port that was secured (R54, R404)? -/
def State.macShut (s : State) (port : Nat) : Bool :=
  32 ≤ port && s.sec.macsec.any (fun m => m.port == (port - 32) / 2 && (m.required || m.stopped) && !m.secured)

end Sys2Proof.Machine
end

