-- ==== Sys2Proof/Machine/Conns.lean ====
section
/-! DEFINITION. Conns.lean: connections that enter ERROR, and how their operations end (Remote access over Ethernet, R347,
Table 12-2, Table 12-4). -/
namespace Sys2Proof.Machine

/-- A connection by its handle. -/
def State.conn (s : State) (h : Nat) : Option Conn := s.rma.conns.find? (fun c => c.handle == h)

/-- The local QPN of a connection: its slot above the well-known QPNs (log entry 41). -/
def Conn.qpn (c : Conn) : Nat := 256 + c.slot

/-- A connection by its local QPN. -/
def State.connOfQpn (s : State) (qpn : Nat) : Option Conn := s.rma.conns.find? (fun c => c.qpn == qpn)

/-- `f` on a connection. -/
def State.updConn (s : State) (slot : Nat) (f : Conn → Conn) : State :=
  { s with rma.conns := upd (·.slot == slot) f s.rma.conns }

/-- A connection's messages leave the scheduling queues. -/
def State.purgeConn (s : State) (slot : Nat) : State :=
  s.purge (fun u => match u.src with
    | .msg c _ => c == slot
    | .op _ | .plan .. => false)

/-- The result of a connection failure: bit 63 (Table 12-3). -/
def connFailed : Nat := 2 ^ 63

/-- An RMA_WRITE or RMA_READ ends with a status; units done stand, and a connection failure sets bit 63 (R355). -/
def State.endRma (s : State) (o : Op) (st : Status) (result : Nat) : State :=
  let r := if st = .retry then result + connFailed else result
  if o.long then s.updOp o.tag (fun o => { o with status := st, result := r, finished := true })
  else s.finish o.tag st r

/-- The operations in flight on a connection: its started RMA_WRITEs and RMA_READs. -/
def State.connOps (s : State) (c : Conn) : List Op :=
  s.q.ops.filter (fun o => (o.opcode = 0x92 || o.opcode = 0x93) && o.p 8 4 = c.handle && o.work != .nothing && !o.finished)

/-- The RMA_WAITs that wait on a connection. -/
def State.connWaits (s : State) (c : Conn) : List Op :=
  s.q.ops.filter (fun o => o.opcode = 0x95 && o.p 12 1 = 0 && o.p 8 4 = c.handle && o.wait = .counter)

/-- Every operation in flight on a connection ends: that of the oldest message with `first`, the others and the waits with
RETRY; its messages and what waits to be applied go (Table 12-2). -/
def State.endConnOps (s : State) (c : Conn) (first : Status) : State :=
  let oldest := (c.msgs.filterMap (·.tag)).head?
  let s := (s.connOps c).foldl (fun s o => s.endRma o (if some o.tag = oldest then first else .retry) o.result) s
  let s := (s.connWaits c).foldl (fun s o => s.finish o.tag .retry connFailed) s
  let mine := fun r : HeldReq => match r.req with
    | .inbound m => m.qpn == c.qpn
    | .read _ | .own | .write .. | .commit _ => false
  let s := (s.purgeConn c.slot).updConn c.slot (fun c => { c with msgs := [], timer := none, rnrWait := false })
  { s with pool.heldReqs := s.pool.heldReqs.filter (fun r => !mine r) }

/-- A READY connection enters ERROR (Table 12-2). -/
def State.connError (s : State) (slot : Nat) (first : Status) : State :=
  match s.rma.conns.find? (·.slot == slot) with
  | none => s
  | some c =>
    if c.state != .ready then s
    else
      let s := s.updConn slot (fun c => { c with state := .error })
      ({ s with rma.exhausted := min 255 (s.rma.exhausted + 1) }).endConnOps c first

/-- Ports leave service: their READY connections enter ERROR (Table 12-2). -/
def State.connPortsDown (s : State) (down : Nat → Bool) : State :=
  (s.rma.conns.filter (fun c => down c.port)).foldl (fun s c => s.connError c.slot .retry) s

end Sys2Proof.Machine
end

