-- ==== Sys2Proof/Machine/Reset.lean ====
section
/-! DEFINITION. Reset.lean: the ends of sessions, the resets, and halting as operations that several commands share
(R6, R53, R54, R82, R414, R431, R434, R476). -/
namespace Sys2Proof.Machine

/-- Is there a session whose keys exist (R382, R414)? -/
def State.hasSession (s : State) : Bool := s.sec.keysPresent

/-- A locked or running TDI enters ERROR (R403). -/
def tdiError (t : Fn × TdiState) : Fn × TdiState :=
  match t.2 with
  | .locked | .run => (t.1, .error)
  | .unlocked | .error => t

/-- A lease that is not closed goes to LOST (Table 7-12). -/
def Lease.lose (l : Lease) (now : Nat) : Lease :=
  match l.state with
  | .closed => l
  | _ => { l with state := .lost, changed := now }

/-- A partner goes DOWN, its channel key gone (Table 13-2). -/
def Partner.drop (p : Partner) : Partner := { p with state := .down, attested := false, keySince := none }

/-- The TDIs of functions that `sel` selects enter ERROR (R403). -/
def State.failTdis (s : State) (sel : Fn → Bool) : State :=
  let hit := fun t : Fn × TdiState => (t.2 == .locked || t.2 == .run) && sel t.1
  ({ s with sec.tdis := upd hit tdiError s.sec.tdis }).bump 0x306 (s.sec.tdis.filter hit).length

/-- Pages whose session key is gone hold nothing that can be read (R6). -/
def Page.forget (p : Page) : Page := { p with data := [], summary := none }

/-- The content of every tier becomes unrecoverable with the session's keys (R6). -/
def State.forget (s : State) : State :=
  { s with
    store.blocks := s.store.blocks.map (fun b => { b with pages := b.pages.map Page.forget })
    tiers.weights := s.tiers.weights.map (fun w => { w with tiles := w.tiles.map (fun t => { t with data := [] }) })
    pool.mem := []
    pool.snaps := s.pool.snaps.map (fun x => { x with copies := [] }) }

/-- The session ends: its keys are destroyed and LAST_CAUSE records why; the content of every tier is gone, every locked or running
TDI enters ERROR, and leases are lost (R6, R403, R414, Table 7-12). -/
def State.endSession (s : State) (cause : Nat) : State :=
  if s.hasSession then
    let s := { s.forget with
      sec.keysPresent := false
      sec.root := none
      sec.session := 0
      sec.tenant := 0
      sec.tenantKey := 0
      sec.life := .unclaimed
      sec.claimOp := none
      sec.claimFn := none
      sec.releaseOp := none
      sec.lastCause := cause
      sec.releaseAt := none
      sec.bindings := []
      sec.macsec := []
      tiers.leases := s.tiers.leases.map (fun l => Lease.lose l s.clock.now)
      grp.partners := s.grp.partners.map Partner.drop }
    (s.failTdis (fun _ => true)).securityChanged
  else { s with sec.life := .unclaimed, sec.claimOp := none, sec.claimFn := none, sec.tenantKey := 0, sec.tenant := 0 }

/-- The fuses sensed at both references: the marginal sets, and the readings of the two locks (R34, R412).  Outside a reset the new
set is not applied to repair and trim words (R35). -/
def State.senseFuses (s : State) (reset : Bool) : State :=
  let mg := fun sec => (s.boot.fuses.filter (fun f => f.cls.security == sec && f.marginal)).map (·.index)
  let b := { s.boot with
    marginalSecurity := mg true
    marginalOther := mg false
    marginalApplied := if reset then mg false else s.boot.marginalApplied }
  let b := { b with marginal := !(b.marginalSecurity.isEmpty && b.marginalOther.isEmpty) }
  { s with boot := b, sec.debugOpen := !b.locked .debugLock, sec.diagOpen := !b.locked .diagLock }

/-- The readiness source is raised when DEV_READY differs from what it was (R49). -/
def State.noteReady (s : State) (was : Nat) : State := if s.devReady = was then s else s.readyChanged

/-- An erase block whose content no session can read any more: a block that was programmed awaits its erase (R240). -/
def EraseBlock.forget (b : EraseBlock) : EraseBlock :=
  { b with written := 0, reads := 0, stale := b.stale || b.written != 0 }

/-- The ports at their full width: in link-watch the live port runs at x2 of its x16 (R51, Table 2-5). -/
def State.fullRate (s : State) : List SPort :=
  if s.boot.linkwatch && !s.boot.awakePorts then
    upd (fun p : SPort => p.num / 4 = s.boot.livePort && p.num < 32) (fun p => { p with raw := p.raw * 8 }) s.dlv.ports
  else s.dlv.ports

/-- What a reset of either kind clears: queue pairs, operations, settings, namespaces, handles, the index, plans,
extents, connections, groups, rings, counters, vectors and security state; what stays is named, the configuration space with the
MSI-X function masks among it (R54, R476). -/
def State.cleared (s : State) : State :=
  { s with
    fab := []
    q := Queues.reset
    stg := Staging.reset
    store := Store.reset
    idx := { Index.reset with temps := s.idx.temps }
    tiers := Tiers.reset
    foot := { s.foot with mounted := false, zoned := false, share := 0, forced := false, sanitising := false, draining := false, collecting := false, queue := [], pages := [], map := [], cache := [], groups := [], rebuildAt := [], blocks := s.foot.blocks.map EraseBlock.forget }
    dlv := { Delivery.reset with ports := s.dlv.ports.map (fun p : SPort => { p with queues := [], vtime := 0, active := none, pending := none, spanDone := [], sending := 0, sentUntil := 0 }) }
    att := { Attention.reset with slicesOut := s.att.slicesOut }
    pool := { PoolState.reset with bound := s.pool.bound }
    rma := Remote.reset
    grp := Group.reset
    sec := { Security.reset with lastCause := s.sec.lastCause, debugOpen := s.sec.debugOpen, diagOpen := s.sec.diagOpen, drawn := s.sec.drawn, fatalPersists := s.sec.fatalPersists, tdis := s.sec.tdis, config := s.sec.config }
    ras := { Ras.reset with out := s.ras.out }
    tel := { Telemetry.reset with funcMask := s.tel.funcMask }
    mgmt := { s.mgmt with powerStep := 0, thermalStep := 0, raiseLevel := 0, belowSince := none, boostLeft := 0, peakLeft := 0, lastPower := 0, peak1ms := [], coolSince := none, regs := Mgmt.regsReset }
    clock := { s.clock with wakeAt := 0 } }

/-- A warm reset by a route: a session that still exists ends with that route's cause; everything of R54 is discarded,
trained state, links, device time and persistent settings stay, a port that MACsec secured stops until MKA secures it again, and the
start-up runs again from the fuses. -/
def State.warmReset (s : State) (cause : Nat) : State :=
  let was := s.devReady
  let stopped := (s.sec.macsec.filter (fun m => m.secured || m.stopped)).map (fun m => MacSec.mk m.port none false false true)
  let s := s.endSession cause
  let s := s.cleared.senseFuses true
  let s := { s with
    sec.macsec := stopped
    boot.phase := .sensing
    boot.running := none
    boot.link := false
    boot.deck := false
    boot.full := false
    boot.bootFail := false
    boot.warm := true
    boot.halted := false
    boot.linkwatch := false
    boot.waking := false
    boot.awakeDeck := true
    boot.awakeCauseway := true
    boot.awakePorts := true
    boot.memoryActive := false
    boot.mounted := false
    dlv.ports := s.fullRate }
  s.noteReady was

/-- Everything volatile lost: the state in which POR_N holds the device (R495, R476). -/
def State.powerLost (s : State) : State :=
  let c := s.cleared
  { c with
    boot := { Boot.reset with
      perst := s.boot.perst, tray := s.boot.tray, haltN := s.boot.haltN, fuses := s.boot.fuses, slotA := s.boot.slotA, slotB := s.boot.slotB
      slotAValid := s.boot.slotAValid, slotBValid := s.boot.slotBValid, selector := s.boot.selector }
    clock := { Clock.reset with profile := s.clock.profile, domain := s.clock.domain, ppsOut := s.clock.ppsOut }
    idx.temps := []
    dlv.ports := []
    tel := Telemetry.reset
    att := Attention.reset
    ras := Ras.reset
    pool.bound := []
    sec := { Security.reset with drawn := s.sec.drawn }
    foot := { c.foot with channels := [], part := none, rawBytes := 0, noParity := false }
    mgmt := { Mgmt.reset with
      anchors := s.mgmt.anchors, policy := s.mgmt.policy, ceiling := s.mgmt.ceiling, boostWanted := s.mgmt.boostWanted } }

/-- A heartbeat to every partner: this device's session, in link-watch its live port, and whether it announces the session's end
(R366, R368). -/
def State.beatPartners (s : State) (sessionEnd : Bool) : State :=
  s.grp.partners.foldl (fun s p => s.emit (.heartbeat p.entry s.sec.session
    (if s.boot.linkwatch then some s.boot.livePort else none) sessionEnd)) s

/-- Pulls TRAY_ALERT_N low for 1 µs (R366). -/
def State.trayAlert (s : State) : State := s.emit .trayAlert

/-- A commit before its switch is discarded, and its operation ends ABORTED (R92). -/
def State.discardCommit (s : State) (st : Status) : State :=
  match s.stg.commit with
  | some c => if c.switched then s else ({ s with stg.commit := none }).stopOp c.tag st
  | none => s

/-- HALT from a source of R82 or a fatal fault (R431, R434, Tables 14-17, 15-7): the order goes to every die in
CTL (R17), HALTED sets, a fatal record is written, TRAY_ALERT_N pulses, connections enter ERROR, a commit before its switch is discarded, a claim under way ends, and a release under way ends its
session at once. -/
def State.halt (s : State) (source : Nat) (r : Report) : State :=
  let s := (s.log r).fabricAll .halt (if r.locus / 4096 = 3 then r.locus / 256 else keystoneDie)
  let s := { s with boot.halted := true, ras.haltSource := if s.ras.haltSource = 4 then 4 else source }
  let s := (s.readyChanged.trayAlert.discardCommit .deviceHalted).connPortsDown (fun _ => true)
  match s.sec.life with
  | .claiming =>
    let op := s.sec.claimOp
    let s := s.dropClaim
    (match op with
    | some t => s.finish t .deviceHalted 0
    | none => s)
  | .releasing => s.endSession (if s.sec.releaseMgmt then 2 else 1)
  | _ => s

/-- A fatal fault: the session keys are destroyed, with cause 0x5, and the device halts (R434). -/
def State.fatal (s : State) (r : Report) : State := (s.endSession 5).halt 4 r

/-- No footing is mounted: no causeway DIMM passes training, no NAND answers, or no qualified part is found (R45). -/
def State.noFooting (s : State) : Bool :=
  s.boot.dimms.all (fun d => d.2.1 = 0) ||
    !(s.foot.channels.any (fun c => c.rate != 0 && c.parts.any (fun p => p.code != 0)))

/-- Without a footing READY.FULL sets once READY.DECK is set and both the causeway scan and the NAND calibration have ended (R45). -/
def State.fullIfBare (s : State) : State :=
  if s.boot.deck && !s.boot.full && s.boot.scanDone && s.boot.nandDone && s.noFooting then
    ({ s with boot.full := true }).readyChanged
  else s

end Sys2Proof.Machine
end

