-- ==== Sys2Proof/Machine/Queues.lean ====
section
/-! DEFINITION. Queues.lean: queue pairs, doorbells, fetching, ABORT, HALT and buffers (Command packets, queues and long
operations, R55 to R85; administration pairs, R480). -/
namespace Sys2Proof.Machine

/-- Is `n` a power of two from `lo` to `hi`? -/
def pow2In (n lo hi : Nat) : Bool := lo ≤ n && n ≤ hi && (List.range 16).any (fun k => n = 2 ^ k)

/-- The rules of R56 for a pair's bases and depths. -/
def ringsOk (sqBase cqBase sqDepth cqDepth : Nat) : Bool :=
  sqBase % 4096 = 0 && cqBase % 4096 = 0 && pow2In sqDepth 16 4096 && pow2In cqDepth 16 16384 && sqDepth ≤ cqDepth

/-- A class right of a function, and its rights in a partition (R318, R322). -/
def State.mayPair (s : State) (f : Fn) (ctl : Bool) (part : Nat) : Bool :=
  let l := s.isoItems
  if fmTrust l then s.pool.bound.contains f
  else match hostEntry l f with
    | some h => (if ctl then hostCtl l h else hostData l h) && bit (hostParts l h) part
    | none => false

/-- A hard partition takes pairs only through its own links (R409). -/
def State.partLink (s : State) (link part : Nat) : Bool :=
  !partHard s.stg.live part || bit (partLinks s.stg.live part) link

/-- Live pairs of a span and class. -/
def State.pairsOf (s : State) (span : Nat) (ctl : Bool) : Nat :=
  (s.q.pairs.filter (fun q => q.index % 2 == span && q.ctl == ctl)).length

/-- The lowest free index from 1 of a span (2 for either) that still takes a pair of the class (R57, R71). -/
def State.freeIndex (s : State) (span : Nat) (ctl : Bool) : Option Nat :=
  let used := s.q.pairs.map (·.index)
  let room := fun n => !ctl || s.pairsOf n true < 32
  firstFrom (fun i => !used.contains i && (span = 2 || i % 2 = span) && room (i % 2)) 1 8191

/-- A fresh pair. -/
def QPair.new (index : Nat) (owner : Fn) (ctl : Bool) (weight part vector sqBase cqBase sqDepth cqDepth : Nat) :
    QPair :=
  { index := index, owner := owner, ctl := ctl, weight := weight, partition := part, vector := vector
    sqBase := sqBase, cqBase := cqBase, sqDepth := sqDepth, cqDepth := cqDepth, sqHead := 0, sqTail := 0, cqTail := 0
    cqHead := 0, cqCount := 0, phase := true, error := false, errKind := 0, held := [], turns := weight
    deleting := false, pend := 0 }

/-- A pair added. -/
def State.addPair (s : State) (q : QPair) : State :=
  { s with q.pairs := insertBy (fun a b : QPair => a.index ≤ b.index) q s.q.pairs }

/-- CREATE_QUEUE_PAIR (Table 3-9). -/
def bodyCreateQueuePair (o : Op) (s : State) : BodyOut :=
  let idx := o.p 28 2
  let cls := o.p 30 1
  let ctl := cls == 1
  let w := o.p 31 1
  let vec := o.p 32 2
  let part := o.p 34 1
  let span := o.p 35 1
  let f := s.opFn o
  if 2 ≤ cls || !ringsOk (o.p 8 8) (o.p 16 8) (o.p 24 2) (o.p 26 2) || 2048 ≤ vec || 16 ≤ part ||
      (if ctl then w != 0 else w < 1 || 16 < w) || !(span < 2 || span = 0xFF) ||
      !partValid s.stg.live part then .done .badParam 0 s
  else if idx != 0xFFFF && (idx = 0 || 8192 ≤ idx || (s.pair idx).isSome || (span != 0xFF && idx % 2 != span)) then
    .done .badParam 0 s
  else if !s.mayPair f ctl part || !s.partLink f.link part then .done .denied 0 s
  else
    let pick := if idx = 0xFFFF then s.freeIndex (if span = 0xFF then 2 else span) ctl
      else if ctl && 32 ≤ s.pairsOf (idx % 2) true then none else some idx
    match pick with
    | none => .done .quotaExceeded 0 s
    | some i =>
      .done .ok i (s.addPair (QPair.new i f ctl w part vec (o.p 8 8) (o.p 16 8) (o.p 24 2) (o.p 26 2)))

/-- CREATE_QUEUE_PAIR from a queue pair. -/
def execCreateQueuePair (c : Cmd) (s : State) : Host.Outcome State Fault Refusal :=
  .next (s.submit 0x01 bodyCreateQueuePair c)

/-- Stops an operation now, as ABORT does at a unit boundary; a plan's operation ends its plan too (R80, Table 9-4). -/
def State.stopNow (s : State) (tag : Nat) (st : Status) : State :=
  let live := fun p : Plan => p.tag == tag && p.live
  ({ s with dlv.plans := upd live (fun p => { p with state := .aborted, ending := some st, view := none }) s.dlv.plans }).stopOp tag st

/-- Units of a sequence still waiting or being sent. -/
def State.planUnits (s : State) (tag m : Nat) : Nat :=
  total (s.dlv.ports.map (fun p => total (p.queues.map (fun q => (q.units.filter (fun u => u.src == .plan tag m)).length))))

/-- Any unit of the plan still waiting or being sent. -/
def State.planBusy (s : State) (tag : Nat) : Bool :=
  s.dlv.ports.any (fun p => p.queues.any (fun q => q.units.any (fun u => match u.src with
    | .plan t _ => t == tag
    | .op _ | .msg .. => false)))

/-- A sequence whose writes are all sent and whose flag is still to be written. -/
def State.unflagged (s : State) (p : Plan) : Option Nat :=
  ((List.range (p.issued - p.firstOut)).map (· + p.firstOut)).find? (fun m =>
    !p.landed.contains m && !p.skipped.contains m && !p.cut.contains m && s.planUnits p.tag m = 0)

/-- Has an ending plan units or flags under way? -/
def State.planOpen (s : State) (p : Plan) : Bool := s.planBusy p.tag || (s.unflagged p).isSome

/-- The sequences of a plan that are partly written: they land no more once the plan stops (R258). -/
def State.partSeqs (s : State) (p : Plan) : List Nat :=
  ((List.range (p.issued - p.firstOut)).map (· + p.firstOut)).filter (fun m => s.planUnits p.tag m != 0)

/-- Is a unit of the operation partly carried out: writes of a DELIVER's or a plan's unit have left, a landed sequence waits for its
flag, or a message is on the wire (R80, R258)? -/
def State.midUnit (s : State) (tag : Nat) : Bool :=
  s.dlv.ports.any (fun p => p.queues.any (fun q => q.units.any (fun u => u.src == .op tag && u.off != 0))) ||
    s.dlv.plans.any (fun p => p.tag == tag && p.live && s.planOpen p) ||
    s.rma.conns.any (fun c => c.msgs.any (fun m => m.tag == some tag && m.psn.isSome))

/-- Nothing further of an operation is taken up: its units and messages not started leave their queues, and its plan issues none (R80,
R258). -/
def State.cutUnits (s : State) (tag : Nat) (st : Status) : State :=
  let waits := fun m : Msg => m.tag == some tag && m.psn.isNone
  let t := s.purge (fun u => match u.src with
    | .op t | .plan t _ => t == tag && u.off == 0
    | .msg c i => s.rma.conns.any (fun x => x.slot == c && x.msgs.any (fun m => m.id == i && waits m)))
  { t with
    rma.conns := t.rma.conns.map (fun c : Conn => { c with msgs := c.msgs.filter (fun m => !waits m) })
    dlv.plans := upd (fun p : Plan => p.tag == tag && p.live)
      (fun p => { p with ending := some (p.ending.getD st), cut := p.cut ++ s.partSeqs p }) t.dlv.plans }

/-- Stops an operation as ABORT does: at once at a unit boundary, and at the end of a unit that is under way, of which nothing
further is taken up (R80). -/
def State.stopAny (s : State) (tag : Nat) (st : Status) : State :=
  let t := s.cutUnits tag st
  if t.midUnit tag then t.setOp tag (fun o => { o with stopping := some (o.stopping.getD st) }) else t.stopNow tag st

/-- The operations that were to stop at the end of a unit which has ended stop (R80). -/
def State.stopDue (s : State) : State :=
  (s.q.ops.filter (fun o => o.stopping.isSome && !o.finished && !s.midUnit o.tag)).foldl (fun s o => s.stopNow o.tag (o.stopping.getD .aborted)) s

/-- Is this a short operation that has started: ABORT lets it run to its normal end (R80)? -/
def Op.shortStarted (o : Op) : Bool := o.started && !o.long

/-- The second unit of a deletion: windows unbind, pending interrupt events go, the index is free (R71). -/
def State.removePair (s : State) (i : Nat) : State :=
  let s := s.discardCq i
  let session := match s.stg.session with
    | some x => if x.owner = i then none else some x
    | none => none
  { s with
    q.pairs := s.q.pairs.filter (fun q => q.index != i)
    att.windows := s.att.windows.filter (fun w => w.2 != i)
    stg.session := session }

/-- A pair deleted at once, with every operation its SQ submitted (R331 step 4, R403, R480). -/
def State.killPair (s : State) (i : Nat) : State :=
  let tags := (s.q.ops.filter (fun o => o.qp == i)).map (·.tag)
  (tags.foldl (fun s t => s.stopNow t .aborted) s).removePair i

/-- DELETE_QUEUE_PAIR: accepted as a long operation of two units (R71). -/
def bodyDeleteQueuePair (o : Op) (s : State) : BodyOut :=
  let i := o.p 8 2
  match s.pair i with
  | some q =>
    if i = 0 || i = o.qp || q.deleting then .done .badParam 0 s
    else .long 2 0 (s.setPair { q with deleting := true })
  | none => .done .badParam 0 s

/-- DELETE_QUEUE_PAIR from a queue pair. -/
def execDeleteQueuePair (c : Cmd) (s : State) : Host.Outcome State Fault Refusal :=
  .next (s.submit 0x02 bodyDeleteQueuePair c)

/-- Operations that an ABORT selects: in mode 1 all that carry the command tag.  It never selects itself, which the manual leaves
open (R71; log entry 137). -/
def State.abortSelects (s : State) (o : Op) : List Op :=
  (s.q.ops.filter (fun x => x.tag != o.tag && (match o.p 8 1 with
    | 0 => x.tag == o.p 10 2
    | 1 => x.qp == o.p 12 2 && x.cmdTag == o.p 14 2
    | _ => x.qp == o.p 12 2)))

/-- Is the operation a COMMIT after its switch, which nothing aborts, or one before it (R92)? -/
def State.commitStage (s : State) (tag : Nat) : Option Bool :=
  match s.stg.commit with
  | some c => if c.tag = tag then some c.switched else none
  | none => none

/-- One operation under ABORT: the state and what it counts as: 0 cancelled before its start, 1 stopped at a unit
boundary, 2 already finished or not abortable.  A COMMIT before its switch takes its session with it (R71, R80, R92). -/
def State.abortOne (s : State) (x : Op) : Nat × State :=
  match s.commitStage x.tag with
  | some true => (2, s)
  | some false => (0, s.stopOp x.tag .aborted)
  | none =>
    if !x.started then
      let mine := fun y : Session => x.opcode = 0x14 && y.id = x.p 8 2 && y.owner = x.qp
      (0, ({ s with stg.session := s.stg.session.filter (fun y => !mine y) }).stopAny x.tag .aborted)
    else if x.long && !x.finished then (1, s.stopAny x.tag .aborted)
    else (2, s)

/-- The two units of DELETE_QUEUE_PAIR (R71). -/
def unitDeleteQueuePair (o : Op) (s : State) : UnitOut :=
  let i := o.p 8 2
  if o.unitsDone = 0 then
    let l := s.q.ops.filter (fun x => x.qp == i)
    let s := l.foldl (fun s x => (s.abortOne x).2) s
    if s.q.ops.any (fun x => x.qp == i) then .stay s else .more 0 0 s
  else .last .ok 0 0 (s.removePair i)

/-- ABORT (R71, R80).  A started short operation it selects runs on, a unit under way runs to its end, and ABORT completes once these
have ended. -/
def bodyAbort (o : Op) (s : State) : BodyOut :=
  match o.work with
  | .slots tags =>
    if s.q.ops.any (fun x => tags.contains x.tag) then .wait .ended s else .done .ok o.result s
  | _ =>
    let mode := o.p 8 1
    if 3 ≤ mode || (mode != 0 && (s.pair (o.p 12 2)).isNone) then .done .badParam 0 s
    else
      let sel := s.abortSelects o
      let r := sel.foldl (fun a x =>
        let one := a.2.abortOne x
        (a.1 + 2 ^ (16 * one.1), one.2)) (if mode = 0 && sel.isEmpty then 2 ^ 32 else 0, s)
      let left := (sel.filter (fun x => x.shortStarted || (r.2.op x.tag).any (·.stopping.isSome))).map (·.tag)
      if left.isEmpty then .done .ok r.1 r.2
      else .wait .ended (r.2.setOp o.tag (fun x => { x with work := .slots left, result := r.1 }))

/-- ABORT from a queue pair. -/
def execAbort (c : Cmd) (s : State) : Host.Outcome State Fault Refusal := .next (s.submit 0x03 bodyAbort c)

/-- HALT: completes OK, then the device halts; the fatal record holds the reason code (R82, R431). -/
def bodyHalt (o : Op) (s : State) : BodyOut :=
  .done .ok 0 (s.halt 1 ⟨.fatal, 0x0F01, 0x3000 + 0x100 * tagSpan o.tag, some o.tag, none, none, o.p 8 4, false⟩)

/-- HALT from a CTL pair. -/
def execHalt (c : Cmd) (s : State) : Host.Outcome State Fault Refusal := .next (s.submit 0x04 bodyHalt c)

/-! ### Administration pairs (R480) -/

/-- A function's QM_ADMIN registers. -/
def State.adminOf (s : State) (f : Fn) : AdminRegs :=
  match s.q.admin.find? (·.fn == f) with
  | some a => a
  | none => ⟨f, 0, 0, 0, false, 0, false, false, 0, 0⟩

/-- A function's QM_ADMIN registers stored back. -/
def State.setAdmin (s : State) (a : AdminRegs) : State := { s with q.admin := a :: s.q.admin.filter (fun x => x.fn != a.fn) }

/-- ENABLE set: the device creates the function's administration pair, or FAIL says why not. -/
def execAdminQueueEnable (r : Req) (value : Nat) (s : State) : Host.Outcome State Fault Refusal :=
  let a := s.adminOf r.fn
  if !s.boot.link || !s.hears r.fn r.tee then .next s
  else if !bit value 31 || a.enable || a.busy then .next (s.wake.setAdmin { a with vector := value % 2 ^ 11 })
  else
    let s := s.wake
    let sqd := a.depth % 2 ^ 16
    let cqd := a.depth / 2 ^ 16 % 2 ^ 16
    let vec := value % 2 ^ 11
    let fail := fun n => Host.Outcome.next (s.setAdmin { a with vector := vec, fail := n, ready := false })
    if !ringsOk a.sqBase a.cqBase sqd cqd then fail 1
    else if !s.mayPair r.fn true 0 || !s.partLink r.fn.link 0 then fail 3
    else match (if s.q.firstAdmin then s.freeIndex 2 true else some 0) with
      | none => fail 2
      | some i =>
        let s := s.addPair (QPair.new i r.fn true 0 0 vec a.sqBase a.cqBase sqd cqd)
        .next (({ s with q.firstAdmin := true }).setAdmin
          { a with enable := true, vector := vec, ready := true, busy := false, fail := 0, index := i })

/-- The deletions of administration pairs whose operations have all ended are complete (R71, R480). -/
def State.adminSweep (s : State) : State :=
  (s.q.admin.filter (fun a => a.busy && !s.q.ops.any (fun o => o.qp == a.index))).foldl (fun s a =>
    (s.removePair a.index).setAdmin { a with busy := false }) s

/-- ENABLE cleared: the pair is deleted as DELETE_QUEUE_PAIR deletes it: fetching stops, its operations end as under ABORT mode 2,
and BUSY reads 1 until the last has ended. -/
def execAdminQueueDisable (r : Req) (s : State) : Host.Outcome State Fault Refusal :=
  let a := s.adminOf r.fn
  if !s.boot.link || !s.hears r.fn r.tee || !a.enable then .next s
  else
    let s := { s.wake with q.pairs := upd (fun q : QPair => q.index == a.index) (fun q => { q with deleting := true }) s.wake.q.pairs }
    let s := (s.q.ops.filter (fun x => x.qp == a.index)).foldl (fun s x => (s.abortOne x).2) s
    .next (s.setAdmin { a with enable := false, ready := false, busy := true }).adminSweep

/-! ### Doorbells (R58 to R61) -/

/-- SQ_TAIL (R59, R61). -/
def execSqTailDoorbell (r : Req) (qp value : Nat) (s : State) : Host.Outcome State Fault Refusal :=
  match s.pair qp with
  | none => .next s
  | some q =>
    if q.owner != r.fn || !s.hears r.fn r.tee then .next s
    else
      let s := s.wake
      let t := value % 2 ^ 12
      if t ≥ q.sqDepth then .next (s.queueError q 0)
      else
        let waiting := (q.sqTail + q.sqDepth - q.sqHead) % q.sqDepth
        let added := (t + q.sqDepth - q.sqTail) % q.sqDepth
        if waiting + added ≥ q.sqDepth then .next (s.queueError q 0)
        else .next (s.setPair { q with sqTail := t })

/-- CQ_HEAD: frees slots, releases held completions, and re-samples the interrupt (R60, R61, R451).  A value that repeats the last
one while the CQ is full frees every slot, and one past the completions written is ignored: the manual leaves both open (log entry
138). -/
def execCqHeadDoorbell (r : Req) (qp value : Nat) (s : State) : Host.Outcome State Fault Refusal :=
  match s.pair qp with
  | none => .next s
  | some q =>
    if q.owner != r.fn || !s.hears r.fn r.tee then .next s
    else
      let s := s.wake
      let h := value % 2 ^ 14
      if h ≥ q.cqDepth then .next (s.queueError q 0)
      else
        let d := (h + q.cqDepth - q.cqHead) % q.cqDepth
        let freed := if d = 0 && q.cqCount = q.cqDepth then q.cqDepth else d
        if freed > q.cqCount then .next s
        else
          let s := s.setPair { q with cqHead := h, cqCount := q.cqCount - freed }
          let s := if q.cqCount = freed then s.discardCq qp else s.pendCq qp
          .next (s.flushHeld qp q.held.length)

/-! ### Fetching (R62) -/

/-- May the span fetch from this pair? -/
def State.fetchable (s : State) (q : QPair) : Bool :=
  q.sqHead != q.sqTail && !q.error && !q.deleting && q.cqCount < q.cqDepth && q.held.isEmpty &&
    !(s.boot.halted && !q.ctl) && s.admits q.owner.link && !s.sec.tdis.contains (q.owner, .error) &&
    (!s.boot.linkwatch || s.boot.waking) && s.tableRoom (q.index % 2) q.ctl

/-! ### Buffers (R84) -/

/-- The first waiter, in the list's order, for whose class the pool has a buffer: the waiter, the part, and the pool without both. -/
def BufPool.grantee (b : BufPool) : Option (Waiter × Nat × BufPool) :=
  b.waiters.findSome? (fun w => (b.part w.cls).map (fun p =>
    (w, p, { b.add p with waiters := b.waiters.filter (·.id != w.id) })))

/-- A freed buffer goes to the first waiter of the pool that may take it: an operation can then start or go on, a task of the device
can run. -/
def execBufferGrant (pool : Pool) (s : State) : Host.Outcome State Fault Refusal :=
  match (s.bufPool pool).bind BufPool.grantee with
  | none => .next s
  | some (w, part, b) =>
    let s := s.setPool b
    if 2 ^ 16 ≤ w.id then .next { s with q.granted := s.q.granted ++ [(w.id - 2 ^ 16, pool, part)] }
    else .next (s.updOp w.id (fun o => { o with wait := .none, pause := 0, buffers := o.buffers ++ [(pool, part)] }))

/-- A long operation whose units have all ended reaches its final state (R68). -/
def execLongOpFinal (tag : Nat) (s : State) : Host.Outcome State Fault Refusal :=
  match s.op tag with
  | some o => .next (if o.long && o.finished then s.finalise tag else s)
  | none => .next s

end Sys2Proof.Machine
end

