-- ==== Sys2Proof/Machine/Capacity.lean ====
section
/-! DEFINITION. Capacity.lean: what each tier can hold (R193, R231, R234, Tables 7-1, 7-16, 8-2). -/
namespace Sys2Proof.Machine

/-- Bytes of one HBM stack: 32 GB (R40; Table 1-1). -/
def stackBytes : Nat := 32 * 10 ^ 9

/-- Stacks in service now. -/
def State.stacksNow (s : State) : Nat := (bitsOf s.boot.stackOk 6).length

/-- The stacks that count for the deck: in parity and mirror modes those of the last cold start (Table 7-1). -/
def State.stacksCounted (s : State) (mode : Nat) : Nat := if mode = 0 then s.stacksNow else s.boot.stacksAtStart

/-- The channels of the causeway in service, with their DIMMs. -/
def State.dimmsNow (s : State) : List (Nat × Nat × Nat) := s.boot.dimms.filter (fun d => bit s.boot.causewayOk d.1)

/-- DIMMs in service. -/
def State.dimmCount (s : State) : Nat := total (s.dimmsNow.map (fun d => d.2.1))

/-- Raw bytes of the causeway. -/
def State.causewayRaw (s : State) : Nat := total (s.dimmsNow.map (fun d => d.2.1 * d.2.2))

/-- Does the mounted part have QLC cells? -/
def State.qlc (s : State) : Bool := s.foot.part.any (·.qlc)

/-- Data bytes of the write region: its raw share over 3 on TLC and over 4 on QLC parts (R233). -/
def writeRegion (raw share : Nat) (qlc : Bool) : Nat := if share = 0 then 0 else raw / share / (if qlc then 4 else 3)

/-- The map reserve of `raw` mounted bytes over `n` DIMMs: map and parity reserve together, spread evenly and rounded up
to a whole GiB on each DIMM; 1 GiB in all in ZONED mode (R231, R234). -/
def mapReserve (raw share n : Nat) (zoned qlc : Bool) : Nat :=
  if zoned then 2 ^ 30
  else if n = 0 then 0
  else n * roundUp (cdiv (cdiv (raw * 5) 16384 + writeRegion raw share qlc / 15) n) (2 ^ 30)

/-- DIMMs that trained at the last start. -/
def State.dimmsTrained (s : State) : Nat := total (s.boot.dimms.map (fun d => d.2.1))

/-- The map reserve on the channels in service: the even share on each of their DIMMs; in ZONED mode 1 GiB on the lowest-numbered channel
that trained (R231). -/
def State.reserve (s : State) : Nat :=
  if !s.foot.mounted then 0
  else if s.foot.zoned then
    let lowest := (s.boot.dimms.map (·.1)).foldl min 8
    if bit s.boot.causewayOk lowest then 2 ^ 30 else 0
  else mapReserve s.foot.rawBytes s.foot.share s.dimmsTrained false s.qlc / max 1 s.dimmsTrained * s.dimmCount

/-- Does the lease hold capacity? -/
def Lease.holds (l : Lease) : Bool := match l.state with
  | .active | .reclaiming | .returning | .lost => true
  | .requested | .closed => false

/-- Capacity lent to others. -/
def State.lent (s : State) : Nat :=
  total ((s.tiers.leases.filter (fun l => !l.borrower && l.holds)).map (·.capacity))

/-- Capacity borrowed in ACTIVE leases. -/
def State.leased (s : State) : Nat :=
  total ((s.tiers.leases.filter (fun l => l.borrower && l.state == .active)).map (·.capacity))

/-- Bytes of retired erase blocks. -/
def State.retiredBytes (s : State) : Nat :=
  s.foot.part.elim 0 (·.blockBytes) * (s.foot.blocks.filter (fun b => b.retired.isSome)).length

/-- Usable bytes of a tier under a deck mode (R193).  The deck keeps 1 GiB of each counted stack for descriptors; parity
spends one stack in six and mirror every second copy (R340); the viaduct's tags take 1/256 of each lease (R392). -/
def State.usableIn (s : State) (mode tier : Nat) : Nat :=
  match tier with
  | 0 =>
    let n := s.stacksCounted mode
    (if mode = 1 then n * stackBytes * 5 / 6 else if mode = 2 then n * stackBytes / 2 else n * stackBytes) - 2 ^ 30 * n
  | 1 => s.causewayRaw - s.reserve - s.lent
  | 2 => s.leased - s.leased / 256
  | _ =>
    if s.foot.mounted then s.foot.rawBytes * 15 / 16 * (if s.foot.zoned then 97 else 90) / 100 - s.retiredBytes else 0

/-- Usable bytes of a tier under the live deck mode. -/
def State.usable (s : State) (tier : Nat) : Nat := s.usableIn (deckMode s.stg.live) tier

/-- Raw bytes of a tier (Table 7-16). -/
def State.raw (s : State) (tier : Nat) : Nat :=
  match tier with
  | 0 => s.stacksNow * stackBytes
  | 1 => s.causewayRaw
  | 2 => s.leased
  | _ => if s.foot.mounted then s.foot.rawBytes else 0

/-- The committed guarantees of a tier. -/
def guarSum (l : List Item) (tier : Nat) : Nat := total ((List.range 16).map (fun p => quotaGuar l p tier))

/-- The capacity that a tier's guarantees are scaled down to: the usable capacity while it is short; in the deck and the causeway, once
short, the capacity they were scaled to, until a cold start or a commit that lowers them (R199). -/
def State.scaledTo (s : State) (tier : Nat) : Option Nat :=
  if s.usable tier < guarSum s.stg.live tier then some (s.usable tier)
  else ((s.tiers.scaled.find? (·.1 == tier)).map (·.2)).filter (fun c => decide (c < guarSum s.stg.live tier))

/-- Are a tier's guarantees scaled down (R199)? -/
def State.short (s : State) (tier : Nat) : Bool := (s.scaledTo tier).isSome

/-- The guarantee of a partition in a tier that is in force: in proportion, rounded down to 4 KiB, while the guarantees are scaled
down (R199). -/
def State.guarantee (s : State) (p tier : Nat) : Nat :=
  let g := quotaGuar s.stg.live p tier
  match s.scaledTo tier with
  | some c => g * c / guarSum s.stg.live tier / 4096 * 4096
  | none => g

/-- The deck and the causeway note the capacity that their guarantees are scaled down to (R199). -/
def State.noteShort (s : State) : State :=
  let l := [0, 1].filterMap (fun t => (s.scaledTo t).map (fun c => (t, c)))
  if l = s.tiers.scaled then s else { s with tiers.scaled := l }

/-- A commit that lowers the guarantees of a tier to what it can hold brings them back whole (R199). -/
def State.lowered (s : State) (old : List Item) : State :=
  { s with tiers.scaled := s.tiers.scaled.filter (fun x =>
      !(guarSum s.stg.live x.1 < guarSum old x.1 && guarSum s.stg.live x.1 ≤ s.usable x.1)) }

end Sys2Proof.Machine
end

