-- ==== Sys2Proof/Machine/Blocks.lean ====
section
/-! DEFINITION. Blocks.lean: blocks and layer-pages: their places, headers, chain keys, counted use and the room a partition
has in a tier (R97 to R101, R150, R194, R195, R198 to R200). -/
namespace Sys2Proof.Machine

/-- The namespace's 32-bit handle (R94). -/
def Namespace.handle (n : Namespace) : Nat := mkHandle 12 n.index n.gen

/-- The namespace at an index and generation, also while its deletion runs. -/
def State.nsAt (s : State) (i gen : Nat) : Option Namespace :=
  s.store.namespaces.find? (fun n => n.index == i && n.gen == gen)

/-- The namespace of a block. -/
def State.nsOf (s : State) (b : Block) : Option Namespace := s.nsAt b.ns b.gen

/-- `f` on a namespace. -/
def State.updNs (s : State) (i : Nat) (f : Namespace → Namespace) : State :=
  { s with store.namespaces := upd (·.index == i) f s.store.namespaces }

/-- The partition of a block's namespace. -/
def State.blockPart (s : State) (b : Block) : Nat := (s.nsOf b).elim 0 (·.partition)

/-- Whole 4 KiB granules. -/
def granules (n : Nat) : Nat := roundUp n 4096

/-- The allocated size of a layer-page in the namespace's own format (R96, R97). -/
def Namespace.alloc (n : Namespace) : Nat := n.geo.allocBytes n.geo.fmt

/-- Bytes of a key summary (R100). -/
def Namespace.summaryBytes (n : Namespace) : Nat := 4 * n.geo.h * n.geo.d

/-! ### Places (R194, R195) -/

/-- The piers that a namespace's pages may use, ascending. -/
def State.piersFor (s : State) (mask part : Nat) : List Nat :=
  (bitsOf s.boot.stackOk 6).filter (fun p =>
    (mask = 0 || bit mask p) && (!partHard s.stg.live part || bit (partPiers s.stg.live part) p))

/-- The home pier at a position. -/
def homeAt (piers : List Nat) (i : Nat) : Nat := piers.getD (i % max 1 piers.length) 0

/-- The home pier of layer-page (k, l) of a namespace. -/
def State.homePier (s : State) (n : Namespace) (k l : Nat) : Nat := homeAt (s.piersFor n.pierMask n.partition) (k + l)

/-- The DDR channel that takes an object's part into the causeway: among those in service that a hard partition's pages may use (R94,
R196; log entry 31). -/
def State.channelFor (s : State) (partition obj part : Nat) : Nat :=
  let l := (s.dimmsNow.map (·.1)).filter (fun c => !partHard s.stg.live partition || bit (partDdr s.stg.live partition) c)
  l.getD (Config.channelOf obj part % max 1 l.length) 0

/-- The slowest tier that holds a layer-page of the block. -/
def Block.slowest (b : Block) : Nat := b.pages.foldl (fun a p => max a p.tier) 0

/-- The fastest tier that holds a layer-page of the block. -/
def Block.fastest (b : Block) : Nat := b.pages.foldl (fun a p => min a p.tier) 3

/-- Where the block record, the token record and the summaries live (R101, R164). -/
def Block.recordTier (b : Block) : Nat := if b.pages.any (fun p => p.tier != 3) then 0 else 1

/-- The locus of a layer-page's memory: its stack's memory controller, its DDR channel, or the span that drives a lower tier (R14,
Table 1-3). -/
def tierLocus (tier home chan : Nat) : Nat :=
  if tier = 0 then 0x1013 + 0x100 * home else if tier = 1 then 0x5020 + 0x100 * (chan / 4) + chan else 0x3012

/-- The stack and the channel of a block's record: those of its first page (R164). -/
def Block.recordHome (b : Block) : Nat := (b.pages.head?).elim 0 (·.home)
def Block.recordChan (b : Block) : Nat := (b.pages.head?).elim 0 (·.chan)

/-- The locus of a block's record: the deck of its home pier while a page lies above the footing, else the causeway (R164). -/
def Block.recordLocus (b : Block) : Nat := tierLocus b.recordTier b.recordHome b.recordChan

/-- The largest and the lowest page version. -/
def Block.topVersion (b : Block) : Nat := b.pages.foldl (fun a p => max a p.version) 0
def Block.lowVersion (b : Block) : Nat := match b.pages with
  | [] => 0
  | p :: t => t.foldl (fun a p => min a p.version) p.version

/-! ### Chain keys and headers (R99, R150) -/

/-- The chain key of a full block. -/
def chainKey (salt parent : BitVec 128) (tokens : List Nat) : BitVec 128 :=
  BitVec.ofNat 128 (leNat ((sha256 (leBytes 16 salt.toNat ++ leBytes 16 parent.toNat ++
    tokens.flatMap (leBytes 4))).take 16))

/-- The `n` token IDs of a block's record or slot; positions that nothing wrote read 0 (log entry 22). -/
def Block.tokenIds (b : Block) (n : Nat) : List Nat := (List.range n).map (fun i => b.tokens.getD i 0)

/-- Token IDs laid over a block's record from position `at_`; a record written whole loses its poison (R421). -/
def Block.setTokens (b : Block) (at_ cap : Nat) (l : List Nat) : Block :=
  { b with
    tokens := (List.range cap).map (fun i =>
      if at_ ≤ i && i < at_ + l.length then l.getD (i - at_) 0 else b.tokens.getD i 0)
    tokensBad := b.tokensBad && !(at_ = 0 && cap ≤ l.length) }

/-- The content a page's CRC covers: element region, then side data; not the padding between them (Table 4-3). -/
def Page.covered (p : Page) (g : Geo) : List Byte :=
  p.data.read 0 (g.elemBytes p.fmt) ++ p.data.read (g.sideBase p.fmt) (g.sideBytes p.fmt)

/-- The data CRC of a page's content. -/
def Page.dataCrc (p : Page) (g : Geo) : Nat := (crc32c (p.covered g)).toNat

/-- The 64-byte header of a layer-page; `count` tokens, and only bytes 0-15 before the seal (R99, Table 4-3). -/
def pageHeader (n : Namespace) (b : Block) (p : Page) (count : Nat) : List Byte :=
  let sink := n.window != 0 && b.k < n.sinks
  let flags := b2n b.sealed * 2 + b2n (b.sealed && p.summary.isSome) * 4 + b2n (b.sealed && n.tokenStore) * 8 +
    b2n p.codec * 16 + b2n p.requant * 32 + b2n sink * 64 + b2n (!p.poison.isEmpty) * 128
  let low := leBytes 1 (0x10 + p.fmt) ++ leBytes 1 flags ++ leBytes 2 count ++ leBytes 4 n.handle ++ leBytes 4 b.k ++
    leBytes 2 p.layer ++ leBytes 1 n.member ++ leBytes 1 n.geo.h
  if b.sealed then
    let body := low ++ leBytes 8 p.version ++ leBytes 4 p.crc ++ leBytes 4 p.stored ++
      leBytes 8 (if p.summary.isSome then (Config.summaryPointer b.id p.layer).toNat else 0) ++ leBytes 16 b.key.toNat
    body ++ leBytes 4 (crc32c body).toNat ++ leBytes 4 0
  else low ++ List.replicate 48 0#8

/-- The token that byte `i` of a page belongs to, where it belongs to one (R98, R129). -/
def Geo.tokenOfByte (g : Geo) (f i : Nat) : Option Nat :=
  let tok := fun row => (g.rowPlace row).2.2.1
  if i < g.elemBytes f then some (tok (i / (4 * elemWidth f)))
  else if i < g.sideBase f then none
  else
    let j := i - g.sideBase f
    match f with
    | 0x8 | 0x9 | 0xA | 0xB => some (tok j)
    | 0xD => some (tok (j / 4))
    | 0xF => some (tok (j / 2))
    | _ => none

/-- A page's bytes as a reader gets them: rows beyond the token count hold undefined content, which are free values
(R98; log entry 5). -/
def State.pageBytes (s : State) (n : Namespace) (b : Block) (p : Page) (count : Nat) : List Byte × State :=
  let len := n.geo.pageBytes p.fmt
  let raw := p.data.read 0 len
  if b.sealed || n.geo.b ≤ count then (raw, s)
  else
    (raw.zipIdx.map (fun x => match n.geo.tokenOfByte p.fmt x.2 with
      | some t => if count ≤ t then Config.freeByte (s.free + x.2) else x.1
      | none => x.1), { s with free := s.free + len })

/-! ### Counted use (R198) -/

/-- The counted bytes of a sealed block's token record and summaries. -/
def Block.recordBytes (b : Block) (n : Namespace) : Nat :=
  (if n.tokenStore then granules (4 * n.geo.b) else 0) +
    (b.pages.filter (·.summary.isSome)).length * granules n.summaryBytes

/-- A block's counted use of a tier: its pages there, and its token record and summaries where the record lives. -/
def Block.use (b : Block) (n : Namespace) (t : Nat) : Nat :=
  total ((b.pages.filter (·.tier == t)).map (fun p => granules p.stored)) +
  (if b.sealed && b.recordTier = t then b.recordBytes n else 0)

/-- Bytes of a codebook set's image (R133). -/
def CodeSet.bytes (c : CodeSet) : Nat := 64 + 1024 * c.layers * c.heads * c.dim

/-- A partition's use of a tier: extents count their full size, and pool snapshots their copies (R198, R314, R334). -/
def State.use (s : State) (p t : Nat) : Nat :=
  total (s.store.blocks.map (fun b => match s.nsOf b with
    | some n => if n.partition = p then b.use n t else 0
    | none => 0)) +
  total ((s.tiers.oldCopies.filter (fun c => c.partition == p && c.tier == t)).map (·.bytes)) +
  (if t = 0 then 6 * total ((s.store.sets.filter (·.partition == p)).map (fun c => granules c.bytes)) else 0) +
  total ((s.tiers.weights.filter (·.partition == p)).map (fun w =>
    total ((w.tiles.filter (·.tier == t)).map (fun x => granules x.stored)))) +
  total ((s.pool.extents.filter (fun e => e.partition == p && e.region == t)).map (fun e => e.length +
    total ((s.pool.snaps.filter (·.extent == e.id)).map (·.used))))

/-- Every partition's use of a tier. -/
def State.useAll (s : State) (t : Nat) : Nat := total ((List.range 16).map (fun p => s.use p t))

/-- Is the partition's use within its limit with `n` more bytes (R200)? -/
def State.limitOk (s : State) (p t n : Nat) : Bool := s.use p t + n ≤ quotaLimit s.stg.live p t

/-- May the partition hold `n` more bytes of the tier beside the other partitions' guarantees (R199)? -/
def State.guaranteesOk (s : State) (p t n : Nat) : Bool :=
  s.useAll t + n + total (((List.range 16).filter (· != p)).map (fun q => s.guarantee q t - s.use q t)) ≤ s.usable t

/-- Is there room for `n` more bytes of the partition in the tier? -/
def State.room (s : State) (p t n : Nat) : Bool :=
  s.limitOk p t n && s.guaranteesOk p t n && (t != 3 || !s.foot.sanitising)

/-! ### Making blocks -/

/-- A free block record slot (R167). -/
def State.freshId (s : State) : Nat :=
  let used := s.store.blocks.map (·.id) ++ s.idx.releasing
  (lowestFree used 0 (used.length + 1)).getD 0

/-- A fresh page of an open tail: in the deck, in the namespace's format, reading 0 (log entry 22). -/
def State.freshPage (s : State) (n : Namespace) (k l : Nat) : Page :=
  { layer := l, tier := 0, home := s.homePier n k l, chan := 0, fmt := n.geo.fmt, requant := false, codec := false
    stored := n.alloc, version := 1, poison := [], summary := none, crc := 0, lease := none, data := [] }

/-- A fresh unsealed block `k` of a namespace. -/
def State.addBlock (s : State) (n : Namespace) (k : Nat) : Nat × State :=
  let id := s.freshId
  let b : Block :=
    { id := id, ns := n.index, gen := n.gen, k := k, sealed := false, key := 0, parent := 0, sinkKey := none
      tokens := [], pages := (List.range n.geo.l).map (s.freshPage n k), groupVersion := 1, indexed := false
      prepared := false, digest := 0, segment := 0, lastTouch := s.clock.now, touches := 0, reuse := 0, lastHit := 0,
      recordBad := false, tokensBad := false
      run := none }
  (id, { s with store.blocks := s.store.blocks ++ [b] })

/-- Rows of `count` tokens from `from_` of one page copied onto another of the same format, and the side data of those tokens.  Side
data of no token, as INT8's scales of a channel, comes from the source at every copy: the manual does not say whose it is (log entry
142). -/
def Page.copyRows (p : Page) (g : Geo) (src : List Byte) (from_ count : Nat) : Page :=
  { p with data := (src.zipIdx).foldl (fun m x => match g.tokenOfByte p.fmt x.2 with
      | some t => if from_ ≤ t && t < from_ + count then m.set x.2 x.1 else m
      | none => if g.sideBase p.fmt ≤ x.2 then m.set x.2 x.1 else m) p.data }

/-! ### Touches (R202) -/

/-- The histogram bin of an interval: log2 of milliseconds, from under 1 ms to 16 s and above. -/
def intervalBin (ns : Nat) : Nat :=
  let ms := ns / 1000000
  ((List.range 15).filter (fun i => 2 ^ i ≤ ms)).length

/-- Adds 1 to a bin. -/
def bumpBin (l : List Nat) (i : Nat) : List Nat := (List.range 16).map (fun j => l.getD j 0 + b2n (i = j))

/-- A touch of a block: at most one counts per 100 µs; the reuse estimate follows from the second on. -/
def State.touch (s : State) (id : Nat) : State :=
  match s.block id with
  | none => s
  | some b =>
    if b.touches != 0 && s.clock.now < b.lastTouch + 100000 then s
    else
      let iv := s.clock.now - b.lastTouch
      let r : Nat := if b.touches = 0 then 0 else (((b.reuse : Int) + (iv - (b.reuse : Int)) / 4)).toNat
      let s := s.updBlock id (fun b => { b with
        lastTouch := s.clock.now, touches := min 15 (b.touches + 1), reuse := r })
      let s := if b.touches = 0 then s
        else s.updNs b.ns (fun n => { n with stats.hist := bumpBin n.stats.hist (intervalBin iv) })
      s.bumpAt 0x08F 1 (some (s.blockPart b)) ((s.nsOf b).map (·.index))

/-- One more block probed: the totals, and the last 2^20 blocks of the hit ratio (Table 7-3). -/
def NsStats.probe (st : NsStats) (hit : Bool) : NsStats :=
  let grown := match st.recent with
    | (h, c) :: t => if h = hit then (h, c + 1) :: t else (hit, 1) :: st.recent
    | [] => [(hit, 1)]
  let excess := total (grown.map (·.2)) - 2 ^ 20
  let cut := match grown.reverse with
    | (h, c) :: t => if excess = 0 then grown else if c ≤ excess then t.reverse else ((h, c - excess) :: t).reverse
    | [] => []
  { st with probed := st.probed + 1, verified := st.verified + b2n hit, recent := cut }

/-- A list of blocks touched. -/
def State.touchAll (s : State) (l : List Nat) : State := l.foldl State.touch s

/-! ### Reports (R207) -/

/-- What a placement record says besides its time, sequence and partition. -/
structure PlaceRec where
  handle : Nat
  first : Nat
  count : Nat
  layer : Nat
  layers : Nat
  src : Nat
  dst : Nat
  reason : Nat
  flags : Nat
  granules : Nat
  deriving DecidableEq, Repr

/-- The 32 bytes of a placement record (Table 7-5). -/
def PlaceRec.bytes (r : PlaceRec) (time seq part : Nat) : List Byte :=
  leBytes 8 time ++ leBytes 4 seq ++ leBytes 4 r.handle ++ leBytes 4 r.first ++ leBytes 2 r.count ++
  leBytes 1 r.layer ++ leBytes 1 (r.layers % 256) ++ leBytes 1 (r.src * 16 + r.dst) ++ leBytes 1 r.reason ++
  leBytes 1 r.flags ++ leBytes 1 part ++ leBytes 4 r.granules

/-- A record in the partition's ring, if one is bound: its number is consumed also when the write fails. -/
def State.report (s : State) (part : Nat) (r : PlaceRec) : State :=
  match s.tiers.rings.find? (·.partition == part) with
  | none => s
  | some g =>
    let seq := assoc s.tiers.ringSeq part 0
    let s' := match s.hostWrite g.fn g.fn.link (g.base + 32 * g.pos) (r.bytes s.clock.now seq part) with
      | .ok t => t
      | .error _ => s
    { s' with
      tiers.ringSeq := assocSet s.tiers.ringSeq part ((seq + 1) % 2 ^ 32)
      tiers.rings := upd (·.partition == part) (fun g : Ring => { g with pos := (g.pos + 1) % g.entries }) s.tiers.rings }

end Sys2Proof.Machine
end

