-- ==== Sys2Proof/Machine/Members.lean ====
section
/-! DEFINITION. Members.lean: the members of a stripe group as this device sees them, the leader of a namespace, and the
reports and proposals a member sends it (R362 to R376). -/
namespace Sys2Proof.Machine

/-- The kinds of partner message that the model's outputs name. -/
def msgVote : Nat := 1
def msgCommit : Nat := 2
def msgAbort : Nat := 3
def msgPropose : Nat := 4
def msgQuery : Nat := 5
def msgAnswer : Nat := 6
def msgEvict : Nat := 7
def msgDropReport : Nat := 8
def msgDrop : Nat := 9
def msgUnindexReport : Nat := 10
def msgUnindex : Nat := 11
def msgList : Nat := 12
def msgGreeting : Nat := 13
def msgLease : Nat := 14
def msgMirror : Nat := 15
def msgHeartbeatRequest : Nat := 16
def msgNamespace : Nat := 17

/-- This device's tray slot. -/
def State.slot (s : State) : Nat := s.boot.slotStrap % 8

/-- The TRAY partner in a slot. -/
def State.member (s : State) (m : Nat) : Option Partner :=
  match (trayPartners s.stg.live s.slot).find? (fun i => partnerMember s.stg.live i == m) with
  | some i => s.grp.partners.find? (·.entry == i)
  | none => none

/-- Is the member in this slot not DOWN: this device itself, or a partner that is UP or SUSPECT (Table 13-2)? -/
def State.memberUp (s : State) (m : Nat) : Bool :=
  m == s.slot || (s.member m).any (fun p => p.state == .up || p.state == .suspect)

/-- Does the member in this slot hold the namespace, as far as this device knows? -/
def Namespace.heldBy (n : Namespace) (m : Nat) : Bool := bit n.holders m

/-- The leader: the first member, from salt byte 0 bits [2:0] upward modulo 8, that is up and holds the namespace.  A
SUSPECT leader keeps its office, since nothing else changes while a partner is SUSPECT (R367, R369; log entry 23). -/
def State.leader (s : State) (n : Namespace) : Option Nat :=
  (List.range 8).map (fun i => (n.salt.toNat % 8 + i) % 8) |>.find? (fun m => s.memberUp m && n.heldBy m)

/-- Does this device lead the namespace? -/
def State.leads (s : State) (n : Namespace) : Bool := n.width == 8 && s.leader n == some s.slot

/-- Members that are missing or DOWN, as a mask. -/
def State.missing (s : State) (n : Namespace) : Nat :=
  total ((List.range 8).map (fun m => if s.memberUp m && n.heldBy m then 0 else 2 ^ m))

/-- The code of a group state (Table 13-4). -/
def GroupState.code : GroupState → Nat
  | .forming => 1
  | .active => 2
  | .degraded => 3
  | .reconciling => 4

/-- The result of GROUP_DEGRADED (R375). -/
def State.groupResult (s : State) (n : Namespace) : Nat :=
  n.gstate.code + s.missing n * 2 ^ 8 + (s.leader n).getD 0 * 2 ^ 16

/-- May a width-8 namespace run its group actions now? -/
def Namespace.active (n : Namespace) : Bool := n.width != 8 || n.gstate == .active

/-- A message to the member in a slot. -/
def State.toMember (s : State) (m kind : Nat) (b : Option GroupBlock) (value : Nat) : State :=
  match s.member m with
  | some p => s.emit (.partner p.entry kind b value)
  | none => s

/-- A message to every other member. -/
def State.toMembers (s : State) (kind : Nat) (b : Option GroupBlock) (value : Nat) : State :=
  ((List.range 8).filter (· != s.slot)).foldl (fun s m => s.toMember m kind b value) s

/-- A message to the leader of a namespace, unless this device leads it. -/
def State.toLeader (s : State) (n : Namespace) (kind : Nat) (b : GroupBlock) (value : Nat) : State :=
  match s.leader n with
  | some m => if m = s.slot then s else s.toMember m kind (some b) value
  | none => s

/-- The name of a block in group messages (R370). -/
def groupName (n : Namespace) (b : Block) : GroupBlock := ⟨n.salt, b.k, b.key, b.groupVersion⟩

/-- The sealed block that a group message names, if this member holds it at that version. -/
def State.groupBlock (s : State) (g : GroupBlock) : Option Block :=
  s.store.blocks.find? (fun b => b.sealed && b.k == g.block && b.key == g.key && b.groupVersion == g.version &&
    (s.nsOf b).any (fun n => n.width == 8 && n.salt == g.salt))

/-- The width-8 namespace of a salt. -/
def State.groupNs (s : State) (salt : BitVec 128) : Option Namespace :=
  s.store.namespaces.find? (fun n => n.width == 8 && n.salt == salt && !n.deleting)

/-- A member lost the entry of a block outside a group action: it reports the block, or keeps the report while the
namespace is not ACTIVE; a leader orders the unindex at once (R374). -/
def State.reportUnindex (s : State) (n : Namespace) (b : Block) : State :=
  if n.width != 8 then s
  else if n.gstate == .active then
    (if s.leads n then s.toMembers msgUnindex (some (groupName n b)) 0
     else s.toLeader n msgUnindexReport (groupName n b) 0)
  else { s with grp.kept := groupName n b :: s.grp.kept }

/-- A member dropped its slice: it reports the loss, or notes it for the reconciliation; a leader orders the drop (R373,
R376). -/
def State.reportDrop (s : State) (n : Namespace) (b : Block) : State :=
  if n.width != 8 then s
  else if n.gstate == .active then
    let s := s.bumpAt 0x2C4 1 (some n.partition) (some n.index)
    (if s.leads n then s.toMembers msgDrop (some (groupName n b)) 0
     else s.toLeader n msgDropReport (groupName n b) 0)
  else { s with grp.localDrops := groupName n b :: s.grp.localDrops }

/-- Does nothing on this member refer to the block: the FREE answer (R373)? -/
def State.groupFree (s : State) (g : GroupBlock) : Bool :=
  match s.groupBlock g with
  | some b => !s.referenced b.id
  | none => true

/-- A member proposes the eviction of a block; a leader asks every member at once.  A block already proposed waits: 1 ms
for the decision, and 10 ms before the next proposal (R373). -/
def State.proposeEviction (s : State) (n : Namespace) (b : Block) : State :=
  let g := groupName n b
  if n.gstate != .active || s.grp.proposals.any (fun p => p.block == g && s.clock.now < p.since + 10000000) then s
  else
    let rest := s.grp.proposals.filter (fun p => p.block != g)
    let mine := if s.groupFree g then 2 ^ s.slot else 0
    let s := { s with grp.proposals := ⟨g, mine, false, s.clock.now, true⟩ :: rest }
    if s.leads n then s.toMembers msgQuery (some g) 0 else s.toLeader n msgPropose g 0

/-! ### Group states (R363, R375, Table 13-4) -/

/-- The parameters by which members compare a namespace (R363). -/
def Namespace.params (n : Namespace) : MemberParams :=
  { blockSize := n.geo.b, format := n.geo.fmt, layers := n.geo.l, heads := n.geo.h, dim := n.geo.d
    lossClass := b2n n.dropClass, tokenStore := n.tokenStore, keySummary := n.keySummary, autoseal := n.autoseal
    latent := n.geo.latent, window := n.window, sinks := n.sinks, adapter := n.adapter }

/-- The members that hold the namespace with matching parameters, this device among them. -/
def State.holdersFor (s : State) (salt : BitVec 128) (p : MemberParams) : Nat :=
  total ((List.range 8).map (fun m =>
    if m = s.slot || s.grp.reports.any (fun r => r.1 == m && r.2.1 == salt && r.2.2 == p) then 2 ^ m else 0))

/-- Does a member hold the namespace with other parameters? -/
def State.mismatched (s : State) (salt : BitVec 128) (p : MemberParams) : Bool :=
  s.grp.reports.any (fun r => r.1 != s.slot && r.2.1 == salt && r.2.2 != p)

/-- The next group state of a namespace by the members' states and reports (Table 13-4); RECONCILING ends elsewhere. -/
def State.nextGroupState (s : State) (n : Namespace) : GroupState :=
  let whole := n.holders % 256 = 255 && !n.mismatch
  let up := (List.range 8).all s.memberUp
  match n.gstate with
  | .forming => if whole then .active else .forming
  | .active => if whole && up then .active else .degraded
  | .degraded => if whole && up then .reconciling else .degraded
  | .reconciling => if whole && up then .reconciling else .degraded

/-- The lines a member lists of a namespace at reconciliation: its committed blocks, its PREPARED ones and its drops while
DEGRADED (R377). -/
def State.reconcileLines (s : State) (n : Namespace) : List ReconcileLine :=
  (s.store.blocks.filter (fun b => b.ns == n.index && b.gen == n.gen && b.sealed)).map
    (fun b => ⟨groupName n b, b.indexed, false, false⟩) ++
  (s.grp.prepared.filter (fun p => p.block.salt == n.salt)).map (fun p => ⟨p.block, false, true, false⟩) ++
  (s.grp.localDrops.filter (fun g => g.salt == n.salt)).map (fun g => ⟨g, false, false, true⟩)

/-- The other members told that this one holds a width-8 namespace, or has deleted it (R375). -/
def State.tellNamespace (s : State) (n : Namespace) (holds : Bool) : State :=
  if n.width = 8 then s.toMembers msgNamespace (some ⟨n.salt, 0, 0, 0⟩) (b2n holds) else s

/-- A member that comes UP is told of every width-8 namespace that this device holds. -/
def State.tellHeld (s : State) (m : Nat) : State :=
  (s.store.namespaces.filter (fun n => n.width = 8 && !n.deleting)).foldl
    (fun s n => s.toMember m msgNamespace (some ⟨n.salt, 0, 0, 0⟩) 1) s

/-- What the reports on a namespace's salt say now: the holders with matching parameters; other parameters keep a FORMING namespace in
FORMING until it is deleted (R363). -/
def State.matchReports (s : State) (salt : BitVec 128) : State :=
  { s with store.namespaces := upd (fun n : Namespace => n.width = 8 && n.salt == salt) (fun n => { n with
      holders := s.holdersFor salt n.params
      mismatch := s.mismatched salt n.params || (n.mismatch && n.gstate == .forming) }) s.store.namespaces }

/-- A slot whose device has another session, or is another device: what the one before held counts for nothing (R379). -/
def State.forgetMember (s : State) (m : Nat) : State :=
  let gone := (s.grp.reports.filter (fun r => r.1 == m)).map (·.2.1)
  let s := { s with grp.reports := s.grp.reports.filter (fun r => r.1 != m) }
  gone.foldl State.matchReports s

/-- Every width-8 namespace brought to its group state; a change raises the group source.  Entering DEGRADED lets the
proposals lapse; entering RECONCILING sends the leader this member's list (R373, R375, R377). -/
def State.regroup (s : State) : State :=
  let step := fun (s : State) (n : Namespace) =>
    let g := s.nextGroupState n
    if n.width != 8 || n.deleting || g == n.gstate then s
    else
      let s := (s.updNs n.index (fun n => { n with gstate := g })).groupChanged
      match g with
      | .degraded => { s with
          grp.proposals := s.grp.proposals.filter (fun p => p.block.salt != n.salt)
          grp.lists := s.grp.lists.filter (fun l => l.2.1 != n.salt) }
      | .reconciling =>
        let n := { n with gstate := g }
        let s := s.bumpAt 0x2C5 1 (some n.partition) (some n.index)
        if s.leads n then { s with grp.lists := (s.slot, n.salt, s.reconcileLines n) :: s.grp.lists.filter (fun l => !(l.1 == s.slot && l.2.1 == n.salt)) }
        else s.toMember ((s.leader n).getD 0) msgList none (s.reconcileLines n).length
      | .forming | .active => s
  s.store.namespaces.foldl step s

end Sys2Proof.Machine
end

