-- ==== Sys2Proof/Machine/Boot.lean ====
section
/-! DEFINITION. Boot.lean: pins, cold start, calibration, ready flags, link-watch and resets (Start-up, calibration and
readiness, R31 to R54). -/
namespace Sys2Proof.Machine

/-- POR_N deasserts: the straps are sampled and the fuses sensed (R31, R34, R491). -/
def execColdStart (slot : Nat) (s : State) : Host.Outcome State Fault Refusal :=
  if s.boot.porN then
    let t := s.powerLost.senseFuses true
    .next (State.noteReady { t with boot.porN := false, boot.phase := .sensing, boot.slotStrap := slot % 8 } s.devReady)
  else .next s

/-- POR_N falls: the device is held in cold reset and loses everything that power keeps (R495). -/
def execPorNAssert (s : State) : Host.Outcome State Fault Refusal := .next s.powerLost

/-- PERST_N of a port deasserts, and training of the port begins (R32). -/
def execPerstNDeassert (port : Nat) (s : State) : Host.Outcome State Fault Refusal :=
  .next { s with boot.perst := Nat.lor s.boot.perst (2 ^ port) }

/-- The slot that the boot ROM takes: the selected one if it is accepted, else the other (R36). -/
def Boot.bootSlot (b : Boot) : Option Slot :=
  if b.accepts b.selector then some b.selector
  else if b.accepts b.selector.other then some b.selector.other
  else none

/-- The boot ROM has verified and measured the image, and the deck fabric link keys are drawn from the DRBG; the other dies then leave
reset unless HALT_N holds them.  With no accepted slot the device stays in the boot-failed state (R36 to R39). -/
def execFirmwareVerified (s : State) : Host.Outcome State Fault Refusal :=
  if s.boot.phase = .sensing && s.boot.running.isNone && s.entropyOk then
    match s.boot.bootSlot with
    | some sl =>
      let d := s.draw
      .next { d.2 with
        sec.fabricKey := some d.1
        boot.running := some sl
        boot.slotAValid := s.boot.accepts .a
        boot.slotBValid := s.boot.accepts .b
        boot.phase := if s.boot.haltN then .sensing else .verified }
    | none => .next ({ s with boot.phase := .bootFailed, boot.bootFail := true }).readyChanged
  else .next s

/-- The deck fabric links are trained, and every link takes its key: the fabric never carries traffic without one (R31, R39). -/
def execFabricLinksTrained (s : State) : Host.Outcome State Fault Refusal :=
  if s.boot.phase = .verified && s.sec.fabricKey.isSome then
    .next { s with boot.phase := .linksTrained, sec.fabricKeys := true }
  else .next s

/-- The SRAM locations of logic dies that failed their read-back, by the locus of the die: SRAM redundancy repairs them, and each is
recorded (R44, Table 2-2, Table 15-1; which fail is free: log entry 155). -/
def State.repairSram (s : State) (bad : List Nat) : State :=
  bad.foldl (fun s l => s.log (.plain .recovered 0x0122 l none)) s

/-- READY.LINK sets once the SRAM is initialised and the links are up on a port whose PERST_N is deasserted (R32, R44, R46, R49); a
fatal fault that persists repeats its record (R434). -/
def execReadyLink (s : State) : Host.Outcome State Fault Refusal :=
  if s.boot.phase = .linksTrained && s.boot.perst != 0 && !s.boot.link then
    let s := (({ s with boot.phase := .up, boot.link := true, free := s.free + 1 }).readyChanged).repairSram (Config.badSram s.free)
    .next (if s.sec.fatalPersists then s.log (.plain .fatal 0x0F04 0x6000 none) else s)
  else .next s

/-- Has the start-up released the memory dies? -/
def State.released (s : State) : Bool := s.boot.phase = .linksTrained || s.boot.phase = .up

/-- DDR5 training ends on the populated channels: 6,400 MT/s when every channel holds one DIMM, 5,600 with any channel of two;
CAUSEWAY_OK shows the channels that trained, and a channel that failed, given with 0 bytes, is left out of the causeway (R41). -/
def execDdr5CalibrationComplete (dimms : List (Nat × Nat × Nat)) (s : State) : Host.Outcome State Fault Refusal :=
  if s.released && !s.boot.ddrDone then
    let held := dimms.filter (fun d => d.1 < 8 && d.2.1 != 0)
    let used := held.filter (fun d => d.2.2 != 0)
    .next ({ s with
      boot.ddrDone := true
      boot.dimms := used
      boot.ddrRate := if held.any (fun d => 2 ≤ d.2.1) then 5600 else 6400
      boot.causewayOk := (List.range 8).foldl (fun a c => a + if used.any (·.1 == c) then 2 ^ c else 0) 0 }).readyChanged
  else .next s

/-- HBM training ends: failing lanes go onto the 4 spares of their channel, and a stack with a channel of more failing
lanes leaves service (R40). -/
def execHbmTrainingComplete (failingLanes : List (Nat × Nat × Nat)) (s : State) : Host.Outcome State Fault Refusal :=
  if s.released && !s.boot.deckTrained then
    let ok := (List.range 6).filter (fun n => !failingLanes.any (fun x => x.1 == n && 4 < x.2.2))
    let spared := failingLanes.filter (fun x => x.2.2 ≤ 4)
    let lanes := spared.map (fun x => Out.hbmLane x.1 x.2.1 x.2.2)
    .next ({ s with
      boot.deckTrained := true
      boot.stackOk := ok.foldl (fun a n => a + 2 ^ n) 0
      boot.stacksAtStart := ok.length
      ras.out := lanes ++ s.ras.out }).readyChanged
  else .next s

/-- A location of a memory that failed its read-back: it stays poisoned and is recorded as uncorrectable (R44, R421, Table 15-1). -/
def State.retireLine (s : State) (code locus addr : Nat) : State :=
  let s := if s.pool.poison.contains (addr / 64) then s else { s with pool.poison := addr / 64 :: s.pool.poison }
  s.log ⟨.dataLoss, code, locus, none, none, some addr, 0, true⟩

/-- The deck is initialised: READY.DECK and Memory_Active set; the locations that failed the read-back are retired (log entry 155).
PERST_N holds nothing of it back (R32, R44, R45, R48). -/
def execReadyDeck (s : State) : Host.Outcome State Fault Refusal :=
  if s.released && s.boot.deckTrained && !s.boot.deck && !s.sec.fatalPersists then
    let t := ({ s with boot.deck := true, boot.memoryActive := true, boot.mounted := false, free := s.free + 1 }).readyChanged
    .next ((Config.badDeck s.free).foldl (fun s x => s.retireLine 0x0102 (0x1000 + 0x100 * (x.1 % 6) + 0x13) x.2) t).fullIfBare
  else .next s

/-- NAND interface training and the parameter pages end; without a footing READY.FULL can then set (R43, R45). -/
def execNandCalibrationComplete (channels : List NandChannel) (s : State) : Host.Outcome State Fault Refusal :=
  if s.released && !s.boot.nandDone then
    .next (State.fullIfBare { s with boot.nandDone := true, foot.channels := channels })
  else .next s

/-- The causeway is written and read back; `bad` names the locations that failed, by channel and DPA (R44, R45). -/
def execCausewayScanComplete (bad : List (Nat × Nat)) (s : State) : Host.Outcome State Fault Refusal :=
  if s.boot.ddrDone && !s.boot.scanDone then
    let s := { s with boot.scanDone := true }
    .next (bad.foldl (fun s x => s.retireLine 0x0112 (0x5000 + 0x100 * (x.1 % 8 / 4) + 0x20 + x.1 % 8) x.2) s).fullIfBare
  else .next s

/-- HALT_N is asserted: the start-up holds, or the running device halts (R38, R82). -/
def execHaltNAssert (s : State) : Host.Outcome State Fault Refusal :=
  let was := s.boot.haltN
  let s := { s with boot.haltN := true }
  .next (if s.boot.link && !was then s.halt 3 (.plain .fatal 0x0F03 0x6000 none) else s)

/-- HALT_N deasserts: a held start-up resumes at its 300 ms step (R38). -/
def execHaltNDeassert (s : State) : Host.Outcome State Fault Refusal :=
  let s := { s with boot.haltN := false }
  .next (if s.boot.phase = .sensing && s.boot.running.isSome then { s with boot.phase := .verified } else s)

/-- May the device enter link-watch: no data-class operation, no active plan, no lent lease that is not closed, no namespace that it
leads and no PREPARED block (R50, R222, Table 13-6)? -/
def State.mayWatch (s : State) : Bool :=
  !(s.q.ops.any (fun o => dataClass o.opcode)) && !(s.dlv.plans.any (·.live)) &&
    !(s.tiers.leases.any (fun l => !l.borrower && l.state != .closed)) &&
    !(s.store.namespaces.any s.leads) && s.grp.prepared.isEmpty

/-- Enters link-watch with one live port, at x2, where no clamp applies (Table 17-8): the memories are in self-refresh, the NAND in
deep power-down and the other ports in L1.2.  A DEV_WAKE_AT that has passed ends it at once (R51, R479). -/
def State.watch (s : State) (port : Nat) : State :=
  let s := (s.connPortsDown (32 ≤ ·)).setSteps 0 0
  let live := fun p : SPort => p.num < 32 && p.num / 4 = port
  let down := upd (fun p : SPort => 32 ≤ p.num) (fun p => { p with linked := false }) s.dlv.ports
  let s := ({ s with
    boot.linkwatch := true, boot.waking := false, boot.livePort := port, boot.ethUp := 0
    boot.awakeDeck := false, boot.awakeCauseway := false, boot.awakePorts := false
    dlv.ports := upd live (fun p => { p with raw := max 1 (p.raw / 8) }) down }).readyChanged
  if s.clock.wakeAt != 0 && s.clock.wakeAt ≤ s.clock.now then s.wake else s

/-- ENTER_LINK_WATCH (R50, Table 3-9). -/
def bodyEnterLinkWatch (o : Op) (s : State) : BodyOut :=
  if 8 ≤ o.p 8 1 then .done .badParam 0 s
  else if !s.mayWatch then .done .retry 0 s
  else .done .ok 0 (s.watch (o.p 8 1))

/-- ENTER_LINK_WATCH from a queue pair. -/
def execEnterLinkWatch (c : Cmd) (s : State) : Host.Outcome State Fault Refusal :=
  .next (s.submit 0x05 bodyEnterLinkWatch c)

/-- A wake event of R52: the wake begins. -/
def execLinkWatchWake (source : WakeSource) (s : State) : Host.Outcome State Fault Refusal :=
  match source with
  | .linkExit port => .next (if port = s.boot.livePort then s else s.wake)
  | .transaction => .next s.wake
  | .management => .next s.wake
  | .partnerMessage => .next s.wake
  | .trayWake => .next s.wake

/-- Device time reaches DEV_WAKE_AT: the wake begins and the register clears (R52, R479). -/
def execDevWakeAtReached (s : State) : Host.Outcome State Fault Refusal :=
  .next (if s.clock.wakeAt != 0 && s.clock.wakeAt ≤ s.clock.now then s.wake else s)

/-- A scheduling port as its link first comes up; a committed gate list awaits its takeover (R268). -/
def SPort.fresh (l : List Item) (num raw : Nat) : SPort :=
  let g := gateOf l num
  ⟨num, true, true, raw, [], 0, none, if g.entries.isEmpty then none else some g, [], 0, 0⟩

/-- A scheduling port's link comes up at a raw rate. -/
def State.portUp (s : State) (num raw : Nat) : State :=
  if s.dlv.ports.any (·.num == num) then
    { s with dlv.ports := upd (·.num == num) (fun p : SPort => { p with linked := true, mem := true, raw := raw }) s.dlv.ports }
  else { s with dlv.ports := s.dlv.ports ++ [SPort.fresh s.stg.live num raw] }

/-- The Ethernet links of a mask have trained: remote access serves (R52). -/
def execEthernetLinksTrained (ports : Nat) (s : State) : Host.Outcome State Fault Refusal :=
  if s.boot.linkwatch || !s.boot.link || s.boot.halted then .next s
  else
    let s := (bitsOf ports 4).foldl (fun s e => s.portUp (32 + 2 * e) 100) s
    .next ({ s with boot.ethUp := Nat.lor s.boot.ethUp (ports % 16), boot.waking := false }).linkChanged

/-- A warm reset whose route the event does not name counts as a management command's (R53, R54, R414; log entry 19). -/
def execWarmReset (s : State) : Host.Outcome State Fault Refusal :=
  if s.boot.phase = .off || s.boot.phase = .tripped || s.boot.phase = .supplyHeld then .next s else .next (s.warmReset 6)

/-- A write of DEV_RESET: WARM with the key requests a warm reset, from a function that may write device-wide
registers, and not while RELEASING (R53, R475, R479, Table 18-9). -/
def execDevResetWarm (r : Req) (value : Nat) (s : State) : Host.Outcome State Fault Refusal :=
  if s.boot.link && s.hears r.fn r.tee && bits value 31 16 = 0xA5C3 && bit value 0 && s.mayWrite r.fn && s.sec.life != .releasing then
    .next (s.warmReset 3)
  else .next s

end Sys2Proof.Machine
end

