-- ==== Sys2Proof/Machine/MatchChain.lean ====
section
/-! DEFINITION. MatchChain.lean: the cascade of forerunner searches (The prefix index, R189 to R192): the searches pending, the frames
held, whose turn it is, and the loss of synchronisation. -/
namespace Sys2Proof.Machine

/-- The cascade searches that the device has accepted and not completed, as operations (R191). -/
def State.cascadeOps (s : State) : List Op := s.q.ops.filter (fun o => o.opcode == 0x36 && bit (o.p 10 1) 0)

/-- The result of a cascade search under the upstream hit: SHADOWED, the local match, or a miss (R189). -/
def CascadeSearch.answer (c : CascadeSearch) (up : Bool) : Nat := if up then 2 ^ 58 else if c.hit then c.result else 0

/-- The upstream hit that the next search would meet: 0 at the head, else the oldest frame held (R189, R190). -/
def Cascade.upstream (c : Cascade) : Option Bool := if c.head then some false else c.frames.head?

/-- The cascade after a search has taken its turn: its frame goes downstream and the expected number advances. -/
def State.cascadePass (s : State) (c : CascadeSearch) (up : Bool) : State :=
  let k := s.idx.cascade
  ({ s with idx.cascade := { k with
      expected := (k.expected + 1) % 65536
      frames := if k.head then k.frames else k.frames.drop 1
      waiting := k.waiting.filter (·.tag != c.tag) } }).emit (.matchFrame (up || c.hit) (c.seq % 2 = 1))

/-- Searches complete in sequence order, each once it holds its local result and its upstream frame (R189, R190); `fuel` bounds
them. -/
def State.cascadeRun (s : State) : Nat → State
  | 0 => s
  | fuel + 1 =>
    match s.idx.cascade.upstream, s.idx.cascade.waiting.find? (·.seq == s.idx.cascade.expected) with
    | some up, some c => ((s.cascadePass c up).finish c.tag .ok (c.answer up)).cascadeRun fuel
    | _, _ => s

/-- The trestle die of the region that serves cascade searches. -/
def State.cascadeDie (s : State) : Nat := (s.idx.regions.find? (·.num == s.idx.cascade.region)).elim 0 (·.die)

/-- Synchronisation lost: DESYNC, MATCH_OUT low, an error record that carries the affected operation, and every search that waits
completes with INTEGRITY_ERROR; later ones complete so as they run (R28, R191). -/
def State.desync (s : State) (cause : Nat) : State :=
  let k := s.idx.cascade
  let tags := k.waiting.map (·.tag)
  let hit := match k.waiting.find? (·.seq == k.expected) with
    | some c => some c.tag
    | none => ((s.cascadeOps.find? (fun o => o.p 12 2 == k.expected)).map (·.tag))
  let s := { s with idx.cascade := { k with desync := true, cause := cause, waiting := [], frames := [] } }
  let s := (s.bump 0x04B 1).log
    { cls := .refused, code := 0x0504, locus := 0x2000 + 0x100 * s.cascadeDie, tag := hit, object := none, addr := none, detail := cause, poison := false }
  tags.foldl (fun s t => s.finish t .integrityError 0) s

/-- Has a waiting search had its local result for 100 µs with no upstream frame (R191)? -/
def State.cascadeLate (s : State) : Bool :=
  let k := s.idx.cascade
  k.enable && !k.head && k.waiting.any (fun c =>
    decide (k.frames.length ≤ (c.seq + 65536 - k.expected) % 65536) && decide (c.since + 100000 ≤ s.clock.now))

/-- RESYNC: every pending cascade search is discarded with INTEGRITY_ERROR, also one that has not started; DESYNC clears, and the
expected number is NEXT_SEQ (Table 6-16). -/
def State.resync (s : State) : State :=
  let k := s.idx.cascade
  let tags := s.cascadeOps.map (·.tag)
  let s := { s with idx.cascade := { k with waiting := [], frames := [], desync := false, cause := 0, expected := k.nextSeq } }
  tags.foldl (fun s t => s.finish t .integrityError 0) s

end Sys2Proof.Machine
end

