-- ==== Sys2Proof/Machine/Nand.lean ====
section
/-! DEFINITION. Nand.lean: where the translation layer puts the footing's pages, and what it queues on the NAND channels
(The footing and its translation layer, R225 to R243). -/
namespace Sys2Proof.Machine

/-! ### Dies and erase blocks -/

/-- A die of the footing. -/
def State.die (s : State) (id : Nat) : Option NandDie := s.foot.dies.find? (·.id == id)

/-- An erase block. -/
def State.eraseBlock (s : State) (id : Nat) : Option EraseBlock := s.foot.blocks.find? (·.id == id)

/-- `f` on an erase block. -/
def State.updErase (s : State) (id : Nat) (f : EraseBlock → EraseBlock) : State :=
  { s with foot.blocks := upd (·.id == id) f s.foot.blocks }

/-- `f` on a die. -/
def State.updDie (s : State) (id : Nat) (f : NandDie → NandDie) : State :=
  { s with foot.dies := upd (·.id == id) f s.foot.dies }

/-- The channel of an erase block. -/
def State.channelOfErase (s : State) (b : EraseBlock) : Nat := ((s.die b.die).elim 0 (·.channel))

/-- May the erase block take data? -/
def EraseBlock.usable (b : EraseBlock) : Bool := b.retired.isNone

/-- The erase count that decides which free block is taken (R238). -/
def EraseBlock.erases (b : EraseBlock) : Nat := b.eraseSlc + b.eraseNative

/-- NAND pages of 16 KiB in an erase block: SLC mode holds a third on TLC and a quarter on QLC parts (R233). -/
def State.rows (s : State) (slc : Bool) : Nat :=
  let raw := s.foot.part.elim 0 (·.blockBytes) / 16384
  if slc then raw / (if s.qlc then 4 else 3) else raw

/-! ### Rows, parity and zones (R226, R232, R234) -/

/-- Data pages in a row of a group. -/
def FootGroup.wide (g : FootGroup) : Nat := g.blocks.length - b2n g.parity

/-- The die, by its place in the group, that holds the parity of a row: it rotates from row to row (R226). -/
def FootGroup.parityAt (g : FootGroup) (row : Nat) : Nat := row % max 1 g.blocks.length

/-- The erase blocks that hold the data of a row. -/
def FootGroup.dataAt (g : FootGroup) (row : Nat) : List Nat := if g.parity then g.blocks.eraseIdx (g.parityAt row) else g.blocks

/-- The erase block and the row of the group's data page `i`, in page order. -/
def FootGroup.slot (g : FootGroup) (i : Nat) : Option (Nat × Nat) :=
  let row := i / max 1 g.wide
  ((g.dataAt row)[i % max 1 g.wide]?).map (fun b => (b, row))

/-- Data pages of a group. -/
def State.groupPages (s : State) (g : FootGroup) : Nat := g.wide * s.rows g.slc

/-- Is a group written to its end, or closed before it? -/
def State.closed (s : State) (g : FootGroup) : Bool := decide (s.groupPages g ≤ g.next)

/-- The group of an erase block. -/
def State.groupOf (s : State) (block : Nat) : Option FootGroup := s.foot.groups.find? (·.blocks.contains block)

/-- Is the block free: in service and of no group, erased or not (R236, R237; log entry 34)? -/
def State.freeErase (s : State) (b : EraseBlock) : Bool := b.usable && (s.groupOf b.id).isNone

/-- The zones of the footing: a stripe, and one place in each of its dies (R232). -/
def State.zones (s : State) : List (List EraseBlock) :=
  let key := fun b : EraseBlock => ((s.die b.die).elim 0 (·.stripe), b.id % 2 ^ 16)
  ((s.foot.blocks.map key).eraseDups).map (fun k => s.foot.blocks.filter (fun b => key b = k))

/-- Free native blocks, or free zones, in thousandths. -/
def State.freePermille (s : State) : Nat :=
  let share := fun free all : Nat => if all = 0 then 0 else free * 1000 / all
  if s.foot.zoned then
    let z := (s.zones.map (fun l => l.filter EraseBlock.usable)).filter (!·.isEmpty)
    share (z.filter (·.all s.freeErase)).length z.length
  else
    let l := s.foot.blocks.filter (fun b => b.usable && !b.slc)
    share (l.filter s.freeErase).length l.length

/-! ### The write region (R233) -/

/-- The write region's data capacity in granules: none in ZONED mode (R233). -/
def State.regionCap (s : State) : Nat :=
  if s.foot.zoned then 0 else writeRegion s.foot.rawBytes s.foot.share s.qlc / 4096

/-- What the write region has been filled with, in granules: a page that dies leaves its place only with the fold or the erase of its
block. -/
def State.regionFill (s : State) : Nat :=
  4 * total ((s.foot.blocks.filter (fun b => b.slc && !s.freeErase b)).map (·.written))

/-! ### Where a page lies (R230, R232) -/

/-- Every page and tile that lies in the footing: its owner, its layer or tile, and its granules. -/
def State.inFooting (s : State) : List FootPage :=
  s.store.blocks.flatMap (fun b => (b.pages.filter (·.tier == 3)).map (fun p => ⟨false, b.id, p.layer, 0, granules p.stored / 4096⟩)) ++
  s.tiers.weights.flatMap (fun w => (w.tiles.filter (·.tier == 3)).map (fun t => ⟨true, w.slot, t.index, 0, granules t.stored / 4096⟩))

/-- Do two records name one page? -/
def FootPage.same (a b : FootPage) : Bool := a.tile == b.tile && a.owner == b.owner && a.part == b.part

/-- The units of four granules that a page touches. -/
def FootPage.units (p : FootPage) : List Nat := (List.range (cdiv (p.first % 4 + p.granules) 4)).map (· + p.first / 4)

/-- The granules of a page in a unit. -/
def FootPage.within (p : FootPage) (u : Nat) : Nat := min (p.first + p.granules) (4 * u + 4) - max p.first (4 * u)

/-- The erase block and the row that hold a unit: by the map in MANAGED mode, by the zone and the offset in ZONED mode. -/
def State.unitSlot (s : State) (u : Nat) : Option (Nat × Nat) :=
  if s.foot.zoned then (s.foot.groups.find? (·.id == u / 2 ^ 30)).bind (·.slot (u % 2 ^ 30))
  else (s.foot.map.find? (·.unit == u)).map (fun m => (m.block, m.row))

/-- The erase blocks and rows that hold a page. -/
def State.slots (s : State) (p : FootPage) : List (Nat × Nat) := p.units.filterMap s.unitSlot

/-- The pages with a byte in one NAND page. -/
def State.pagesAt (s : State) (block row : Nat) : List FootPage := s.foot.pages.filter (fun p => (s.slots p).contains (block, row))

/-- The pages with a byte in some erase blocks. -/
def State.pagesIn (s : State) (blocks : List Nat) : List FootPage :=
  s.foot.pages.filter (fun p => (s.slots p).any (fun x => blocks.contains x.1))

/-- Live granules of an erase block. -/
def State.liveIn (s : State) (block : Nat) : Nat :=
  if s.foot.zoned then total (s.foot.pages.map (fun p => total ((p.units.filter (fun u => (s.unitSlot u).any (·.1 == block))).map p.within)))
  else total ((s.foot.map.filter (·.block == block)).map (·.live))

/-- The physical page address of a map entry: the erase blocks in order of their dies, and the pages within them. -/
def State.physical (s : State) (m : MapUnit) : Nat :=
  ((s.foot.blocks.findIdx? (·.id == m.block)).getD 0) * s.rows false + m.row

/-- The five bytes of a map entry: the live granules above a 36-bit physical page address, and bit 39 zero (R230). -/
def State.mapEntry (s : State) (m : MapUnit) : Nat := m.live % 8 * 2 ^ 36 + s.physical m % 2 ^ 36

/-- A map unit is looked up: it comes into the girder's cache of 48 MiB (R230). -/
def State.mapTouch (s : State) (u : Nat) : State :=
  { s with foot.cache := (u :: s.foot.cache.filter (· != u)).take (48 * 2 ^ 20 / 5) }

/-- The first run of `n` free map units (R230). -/
def State.mapGap (s : State) (n : Nat) : Option Nat :=
  let used := s.foot.map.map (·.unit)
  (sortBy (fun a b => decide (a ≤ b)) (0 :: used.map (· + 1))).find? (fun u =>
    decide ((u + n) * 16384 ≤ s.foot.rawBytes) && used.all (fun v => decide (v < u) || decide (u + n ≤ v)))

/-! ### What the channels are to do (R235, R242, R243) -/

/-- A NAND operation queued behind those of its rank. -/
def State.queueNand (s : State) (rank kind block row : Nat) (rebuild : Bool) : State :=
  match s.eraseBlock block with
  | some b => { s with
      foot.queue := s.foot.queue ++ [⟨s.foot.nextOp, s.channelOfErase b, rank, kind, block, row, rebuild, false, 0⟩]
      foot.nextOp := s.foot.nextOp + 1 }
  | none => s

/-- The erase of a block, which the metadata journal records first (R242); one that waits already gets the better rank. -/
def State.eraseSoon (s : State) (rank block : Nat) : State :=
  let waits := fun x : NandOp => x.kind == 2 && x.block == block
  if s.foot.queue.any waits then { s with foot.queue := upd waits (fun x => { x with rank := min rank x.rank }) s.foot.queue }
  else { s with foot.journal := s.foot.journal ++ [block] }.queueNand rank 2 block 0 false

/-- Does the program of a NAND page still wait, its data in the device's buffers? -/
def State.unwritten (s : State) (block row : Nat) : Bool :=
  s.foot.queue.any (fun x => x.kind == 1 && x.block == block && x.row == row)

/-- The program of a NAND page is not needed any more. -/
def State.dropProgram (s : State) (block row : Nat) : State :=
  { s with foot.queue := s.foot.queue.filter (fun x => !(x.kind == 1 && x.block == block && x.row == row)) }

/-- A footing port's gate for class BACKGROUND, which is its queue 3 (R235, R263). -/
def State.footGate (s : State) (port : Nat) : Bool :=
  (s.dlv.ports.find? (·.num == port)).all (fun p => p.open_ 3 s.clock.now)

/-- May a waiting operation be issued now: gated work only while its port's gate is open, a rebuild only within its quarter of the
channel's time (R227, R235)? -/
def State.nandReady (s : State) (x : NandOp) : Bool :=
  (x.rank != 5 || s.footGate (40 + x.channel / 16)) && (!x.rebuild || decide (assoc s.foot.rebuildAt x.channel 0 ≤ s.clock.now))

/-- The operation that a channel carries out: the one it has issued, else of those that may be issued the lowest rank, in arrival
order within it (R243). -/
def State.nandHead (s : State) (channel : Nat) : Option NandOp :=
  let l := s.foot.queue.filter (·.channel == channel)
  match l.find? (·.started) with
  | some x => some x
  | none =>
    let r := l.filter s.nandReady
    r.find? (fun x => r.all (fun y => decide (x.rank ≤ y.rank)))

/-- A channel's rate in MT/s. -/
def State.nandRate (s : State) (channel : Nat) : Nat := (s.foot.channels.find? (·.channel == channel)).elim 0 (·.rate)

/-- A channel issues its next operation, in NAND that is not powered down (R51). -/
def State.nandStart (s : State) (channel : Nat) : State :=
  match s.nandHead channel with
  | none => s
  | some x =>
    if x.started || !s.memoriesAwake then s
    else { s with
      foot.queue := upd (fun y : NandOp => y.id == x.id) (fun y => { y with started := true }) s.foot.queue
      foot.rebuildAt := if x.rebuild then assocSet s.foot.rebuildAt channel (s.clock.now + 4 * 16384 * 1000 / max 1 (s.nandRate channel))
        else s.foot.rebuildAt }

/-- A read of a NAND page queued, and counted for its erase block (R239): a LATENCY read suspends a program or an erase on its die
where the part offers it, at most four times per operation, and waits behind it otherwise (R243).  A page whose program still
waits is read from the device's buffers. -/
def State.readPage (s : State) (rank : Nat) (rebuild : Bool) (x : Nat × Nat) : State :=
  if s.unwritten x.1 x.2 then s
  else
    let s := s.updErase x.1 (fun b => { b with reads := b.reads + 1 })
    let die := (s.eraseBlock x.1).elim 0 (·.die)
    match s.foot.queue.find? (fun y => y.kind != 0 && (s.eraseBlock y.block).any (·.die == die)) with
    | some y =>
      if rank != 1 then s.queueNand rank 0 x.1 x.2 rebuild
      else if s.foot.part.any (·.suspend) && y.suspends < 4 then
        let held := fun y : NandOp => { y with suspends := y.suspends + 1, started := false }
        (({ s with foot.queue := upd (fun z : NandOp => z.id == y.id) held s.foot.queue }).bump 0x0A5 1).queueNand 1 0 x.1 x.2 rebuild
      else s.queueNand (max rank y.rank) 0 x.1 x.2 rebuild
    | none => s.queueNand rank 0 x.1 x.2 rebuild

/-- Reads of a row's other pages, to rebuild one (R227). -/
def State.readRow (s : State) (rank : Nat) (x : Nat × Nat) : State :=
  match s.groupOf x.1 with
  | some g => (g.blocks.filter (· != x.1)).foldl (fun s b => s.readPage rank true (b, x.2)) s
  | none => s

/-! ### Space (R230, R232, R238, R240) -/

/-- What is dead leaves: map units without a live granule return to the free pool, and erase blocks of closed groups (in ZONED mode
whole zones) without live data await their erase. -/
def State.footFree (s : State) : State :=
  let pages := s.foot.pages
  let map := (s.foot.map.map (fun m => { m with live := total (pages.map (·.within m.unit)) })).filter (·.live != 0)
  let keeps := fun (g : FootGroup) (b : Nat) => !s.closed g ||
    (if s.foot.zoned then pages.any (fun p => p.first / 2 ^ 32 = g.id) else map.any (·.block == b))
  let groups := (s.foot.groups.map (fun g => { g with blocks := g.blocks.filter (keeps g) })).filter (fun g => !g.blocks.isEmpty)
  let dead := fun b : EraseBlock => s.foot.groups.any (·.blocks.contains b.id) && !groups.any (·.blocks.contains b.id)
  let s := { s with
    foot.map := map, foot.groups := groups
    foot.blocks := upd dead (fun b : EraseBlock => { b with written := 0, stale := b.usable }) s.foot.blocks }
  { s with foot.draining := s.foot.draining && decide (s.regionCap < 2 * s.regionFill) }

/-- Pages that left the footing are dead. -/
def State.footDead (s : State) : State :=
  let live := s.inFooting
  { s with foot.pages := s.foot.pages.filter (fun p => live.any (fun q => p.same q && p.granules == q.granules)) }.footFree

/-- No more is written into the groups of an erase block. -/
def State.closeGroups (s : State) (block : Nat) : State :=
  { s with foot.groups := upd (fun g : FootGroup => g.blocks.contains block) (fun g => { g with next := max g.next (s.groupPages g) }) s.foot.groups }

/-- The first of a list with the least `key`. -/
def leastBy {α : Type} (key : α → Nat) (l : List α) : Option α := (sortBy (fun a b => decide (key a ≤ key b)) l).head?

/-- The free blocks of a mode that a stripe's dies in service offer for a new group: in MANAGED mode each die's least erased, in ZONED
mode those of each free zone (R232, R238). -/
def State.offers (s : State) (slc : Bool) (stripe : Nat) : List (List EraseBlock) :=
  let dies := sortBy (fun a b : NandDie => decide (a.channel ≤ b.channel)) (s.foot.dies.filter (fun d => d.stripe = stripe && !d.retired))
  let own := fun d : NandDie => s.foot.blocks.filter (fun b => b.die == d.id && b.usable && b.slc == slc)
  if s.foot.zoned then
    let all := dies.flatMap own
    (((all.map (·.id % 2 ^ 16)).eraseDups).map (fun i => all.filter (fun b => b.id % 2 ^ 16 = i))).filter (·.all s.freeErase)
  else [dies.filterMap (fun d => leastBy EraseBlock.erases ((own d).filter s.freeErase))]

/-- Erase blocks for a new group, outside one stripe: on the most dies, then the least erased (R227, R238). -/
def State.offer (s : State) (slc : Bool) (avoid : Option Nat) : Option (Nat × List EraseBlock) :=
  let stripes := ((s.foot.dies.map (·.stripe)).eraseDups).filter (fun t => some t != avoid)
  let l := stripes.flatMap (fun t => (s.offers slc t).map (fun l => (t, l)))
  let most := l.foldl (fun a x => max a x.2.length) 0
  leastBy (fun x => total (x.2.map EraseBlock.erases))
    (l.filter (fun x => x.2.length = most && b2n (!slc && !s.foot.noParity) < most))

/-- The group that the next page of a mode goes into: one not written to its end, or a new one, whose blocks are erased on demand
where the background erase has not reached them (R240). -/
def State.openGroup (s : State) (rank : Nat) (slc : Bool) (avoid : Option Nat) : Option (FootGroup × State) :=
  match s.foot.groups.find? (fun g => g.slc == slc && some g.stripe != avoid && !s.closed g) with
  | some g => some (g, s)
  | none => (s.offer slc avoid).map (fun x =>
      let id := if s.foot.zoned then x.1 * 2 ^ 16 + (x.2.head?).elim 0 (·.id % 2 ^ 16) else s.foot.nextGroup
      let g : FootGroup := ⟨id, x.1, x.2.map (·.id), slc, !slc && !s.foot.noParity, 0⟩
      let s := (x.2.filter (·.stale)).foldl (fun s b => s.eraseSoon (min rank 3) b.id) s
      (g, { s with foot.groups := s.foot.groups ++ [g], foot.nextGroup := s.foot.nextGroup + 1 }))

/-- One NAND page programmed. -/
def State.program (s : State) (rank : Nat) (rebuild : Bool) (block row : Nat) : State :=
  (s.updErase block (fun b => { b with written := b.written + 1, programmedAt := s.clock.now })).queueNand rank 1 block row rebuild

/-- The next data page of a mode's group is programmed; behind the last of a row goes the row's XOR, to the die whose turn it is; in the
write region the causeway holds it (R226, R234). -/
def State.takeSlot (s : State) (rank : Nat) (slc : Bool) (avoid : Option Nat) (rebuild : Bool) : Option ((Nat × Nat) × State) :=
  (s.openGroup rank slc avoid).bind (fun r =>
    let g := r.1
    (g.slot g.next).map (fun x =>
      let s := (r.2.program rank rebuild x.1 x.2)
      let s := { s with foot.groups := upd (fun y : FootGroup => y.id == g.id) (fun y => { y with next := y.next + 1 }) s.foot.groups }
      let s := if g.parity && (g.next + 1) % max 1 g.wide = 0 then
          (g.blocks[g.parityAt x.2]?).elim s (fun b => s.program rank rebuild b x.2)
        else s
      (x, s)))

/-- How pages are written: their rank, straight into native blocks, outside a stripe, as part of a rebuild. -/
structure FootHow where
  rank : Nat
  native : Bool
  avoid : Option Nat
  rebuild : Bool

/-- The NAND page of a new map unit: in the write region while that has room, natively otherwise and until folding has emptied it to
half (R233). -/
def State.takeUnit (s : State) (how : FootHow) : Option ((Nat × Nat) × State) :=
  if how.native || s.regionCap = 0 || s.foot.draining then s.takeSlot how.rank false how.avoid how.rebuild
  else match s.takeSlot how.rank true how.avoid how.rebuild with
    | some x => some x
    | none => { s with foot.draining := true }.takeSlot how.rank false how.avoid how.rebuild

/-- New map units from `u` on. -/
def State.takeUnits (how : FootHow) : Nat → Nat → State → Option State
  | 0, _, s => some s
  | n + 1, u, s => (s.takeUnit how).bind (fun r =>
      State.takeUnits how n (u + 1) (({ r.2 with foot.map := ⟨u, r.1.1, r.1.2, 4⟩ :: r.2.foot.map } : State).mapTouch u))

/-- A page written in MANAGED mode: behind the page before it in the same map unit where the units after that are free, else in the first
run of free units (R230). -/
def State.placeMapped (s : State) (how : FootHow) (cur : Nat) (p : FootPage) : Option (Nat × State) :=
  let next := cdiv cur 4
  let more := cdiv (cur % 4 + p.granules) 4 - 1
  let joins := cur % 4 != 0 && decide ((next + more) * 16384 ≤ s.foot.rawBytes) &&
    s.foot.map.all (fun m => decide (m.unit < next) || decide (next + more ≤ m.unit))
  if joins then (State.takeUnits how more next s).map (fun t => (cur, t))
  else (s.mapGap (cdiv p.granules 4)).bind (fun u => (State.takeUnits how (cdiv p.granules 4) u s).map (fun t => (4 * u, t)))

/-- `n` data pages of the open zone. -/
def State.takeChunks (how : FootHow) : Nat → State → Option State
  | 0, s => some s
  | n + 1, s => (s.takeSlot how.rank false how.avoid how.rebuild).bind (fun r => State.takeChunks how n r.2)

/-- A page written into the open zone, in page order (R232); a zone without room for it is closed, `tries` of them. -/
def State.placeZoned (how : FootHow) (cur : Nat) (p : FootPage) : Nat → State → Option (Nat × State)
  | 0, _ => none
  | tries + 1, s => (s.openGroup how.rank false how.avoid).bind (fun r =>
    let g := r.1
    let joins := cur % 4 != 0 && cur / 2 ^ 32 = g.id && cdiv (cur % 2 ^ 32) 4 = g.next
    let at_ := if joins then cur else g.id * 2 ^ 32 + 4 * g.next
    let n := if joins then cdiv (cur % 4 + p.granules) 4 - 1 else cdiv p.granules 4
    if g.next + n ≤ s.groupPages g then (State.takeChunks how n r.2).map (fun t => (at_, t))
    else State.placeZoned how cur p tries (r.2.closeGroups ((g.blocks.head?).getD 0)))

/-- One page written into the footing behind granule `cur`; `none` without space for it: it waits (R236). -/
def State.footPlace (s : State) (how : FootHow) (cur : Nat) (p : FootPage) : Option (Nat × State) :=
  let r := if s.foot.zoned then State.placeZoned how cur p 2 s else s.placeMapped how cur p
  r.map (fun x => (x.1 + p.granules, { x.2 with foot.pages := x.2.foot.pages ++ [{ p with first := x.1 }] }))

/-- The translation layer brought to what the footing holds: dead pages leave, new pages are written, packed granule behind
granule. -/
def State.footSync (s : State) (rank : Nat) : State :=
  if !s.foot.mounted then s
  else
    let s := s.footDead
    let new := s.inFooting.filter (fun p => !s.foot.pages.any p.same)
    let put := fun (a : Nat × State) (p : FootPage) => (a.2.footPlace ⟨rank, false, none, false⟩ a.1 p).getD (0, a.2)
    if new.isEmpty then s else (new.foldl put (0, s)).2.footFree

/-- Reads of pages in the footing, queued on their channels (R239, R243). -/
def State.footRead (s : State) (rank : Nat) (pages : List FootPage) : State :=
  if pages.isEmpty || !s.foot.mounted then s
  else
    let s := s.footSync 3
    let one := fun (s : State) (u : Nat) =>
      let s := if s.foot.zoned then s else s.mapTouch u
      (s.unitSlot u).elim s (fun x => s.readPage rank false x)
    let l := s.foot.pages.filter (fun q => pages.any q.same)
    ((l.flatMap FootPage.units).eraseDups).foldl one s

/-- A block's pages of some layers that lie in the footing. -/
def Block.footPages (b : Block) (sel : Page → Bool) : List FootPage :=
  (b.pages.filter (fun p => p.tier == 3 && sel p)).map (fun p => ⟨false, b.id, p.layer, 0, granules p.stored / 4096⟩)

/-! ### Moves as they are queued (R212) -/

/-- A move of blocks, one after another or layer by layer; of one span of layers; of a tile. -/
def Move.ofBlocks (blocks : List Nat) (layered : Bool) (target reason : Nat) (latency up : Bool) : Move :=
  { id := 0, blocks := blocks, layered := layered, layer := 0, done := 0, target := target, reason := reason, latency := latency
    tile := none, upTo := 256, up := up, leave := none }
def Move.ofLayers (blocks : List Nat) (first upTo reason : Nat) : Move :=
  { Move.ofBlocks blocks true 0 reason true true with layer := first, upTo := upTo }
def Move.ofTile (slot i target reason : Nat) (latency up : Bool) : Move :=
  { Move.ofBlocks [] false target reason latency up with tile := some (slot, i) }

/-- T3 to T3 in ZONED mode: what one owner has in some erase blocks leaves them (R232, R239). -/
def Move.within (p : FootPage) (blocks : List Nat) (rank : Nat) : Move :=
  { Move.ofBlocks (if p.tile then [] else [p.owner]) false 3 0x01 false false with
    tile := if p.tile then some (p.owner, p.part) else none, leave := some (blocks, rank) }

/-- A move joins the queue under the next number. -/
def State.addMove (s : State) (m : Move) : State :=
  { s with tiers.moves := s.tiers.moves ++ [{ m with id := s.tiers.nextMove }], tiers.nextMove := s.tiers.nextMove + 1 }

/-! ### Data that changes its place (R227, R233, R237 to R239) -/

/-- What moving data off an erase block takes: from a failed die a rebuild into other stripes, from the device's buffers nothing, else a
read (R227). -/
def State.sourceOf (s : State) (rank : Nat) (x : Nat × Nat) : FootHow × State :=
  match (s.eraseBlock x.1).bind (fun b => s.die b.die) with
  | some d =>
    let how : FootHow := ⟨rank, true, if d.retired then some d.stripe else none, d.retired⟩
    (how, if s.unwritten x.1 x.2 then s.dropProgram x.1 x.2 else if d.retired then s.readRow rank x else s.readPage rank false x)
  | none => (⟨rank, true, none, false⟩, s)

/-- A map unit written anew, whole, under its address (R230). -/
def State.moveUnit (s : State) (rank : Nat) (m : MapUnit) : State :=
  let r := s.sourceOf rank (m.block, m.row)
  match r.2.takeSlot rank false r.1.avoid r.1.rebuild with
  | some (x, t) => { t with foot.map := upd (fun y : MapUnit => y.unit == m.unit) (fun y => { y with block := x.1, row := x.2 }) t.foot.map }
  | none => s

/-- A page of ZONED mode written anew, in another zone's place. -/
def State.moveFoot (s : State) (rank : Nat) (p : FootPage) : State :=
  let src := (s.slots p).foldl (fun (a : FootHow × State) x =>
    let r := a.2.sourceOf rank x
    (if a.1.avoid.isSome then a.1 else r.1, r.2)) (⟨rank, true, none, false⟩, s)
  match ({ src.2 with foot.pages := src.2.foot.pages.filter (fun q => !p.same q) }).footPlace src.1 0 { p with first := 0 } with
  | some x => x.2.footFree
  | none => s

/-- An erase block's live data moves elsewhere: map units at once, in ZONED mode by move units (R233, R237, R239). -/
def State.relocate (s : State) (rank : Nat) (id : Nat) : State :=
  let s := s.closeGroups id
  if s.foot.zoned then
    let l := ((s.pagesIn [id]).foldl (fun a p => if a.any p.same then a else a ++ [p]) []).filter (fun p =>
      !s.tiers.moves.any (fun m => m.leave.isSome && (if p.tile then m.tile == some (p.owner, p.part) else m.blocks.contains p.owner)))
    let owners := l.foldl (fun a p => if a.any (fun q => q.tile == p.tile && q.owner == p.owner && (!p.tile || q.part == p.part)) then a else a ++ [p]) []
    owners.foldl (fun s p => s.addMove (Move.within p [id] rank)) s
  else ((s.foot.map.filter (·.block == id)).foldl (fun s m => s.moveUnit rank m) s).footFree

/-- What lies on retired blocks is rebuilt or copied elsewhere, regardless of gates (R227, R236, R238). -/
def State.rescue (s : State) : State :=
  let out := (s.foot.blocks.filter (fun b => b.retired.isSome && (s.groupOf b.id).isSome)).map (·.id)
  if out.isEmpty then s
  else
    let s := out.foldl State.closeGroups s
    if s.foot.zoned then (s.pagesIn out).foldl (fun s p => s.moveFoot 4 p) s.footFree
    else ((s.foot.map.filter (fun m => out.contains m.block)).foldl (fun s m => s.moveUnit 4 m) s).footFree

/-- An erase block leaves service; its data goes elsewhere (R238). -/
def State.retireErase (s : State) (id cause : Nat) : State :=
  (s.updErase id (fun b => { b with retired := some cause, stale := false })).rescue.footingChanged

/-- The stripes of a footing with fewer than 16 usable channels of one parity carry no parity (R226; log entry 35). -/
def noParityOf (dies : List NandDie) : Bool :=
  [0, 1].any (fun p => !(List.range 16).all (fun i => dies.any (fun d => d.channel == 2 * i + p && !d.retired)))

end Sys2Proof.Machine
end

