-- ==== Sys2Proof/Machine/Index.lean ====
section
/-! DEFINITION. Index.lean: banks, searches, native entries, insertion, eviction, collisions and runs (The prefix index,
R145 to R156, R164 to R171, R179 to R181). -/
namespace Sys2Proof.Machine

/-! ### Banks and searches (R145 to R148, R154) -/

/-- Units of a bank (R145). -/
def bankUnits : Nat := 524288

/-- Entries of a bank of width `w`. -/
def bankEntries (w : Nat) : Nat := bankUnits / max 1 w

/-- A bank; one that no list names is FREE. -/
def State.bank (s : State) (n : Nat) : Bank :=
  match s.idx.banks.find? (·.num == n) with
  | some b => b
  | none => ⟨n, .free, 1, 0, 0xFF, false⟩

/-- Valid entries of a bank. -/
def State.bankList (s : State) (n : Nat) : List Entry := s.idx.entries.filter (·.bank == n)

/-- Free entries of a bank; one that has left service has none (Table 15-3). -/
def State.bankFree (s : State) (n : Nat) : Nat :=
  if (s.bank n).lost then 0 else bankEntries (s.bank n).width - (s.bankList n).length

/-- All ones over `w` units of 80 bits. -/
def unitOnes (w : Nat) : Nat := 2 ^ (80 * w) - 1

/-- `n` ones from bit `lo` up. -/
def onesAt (lo n : Nat) : Nat := 2 ^ lo * (2 ^ n - 1)

/-- A global mask at width `w` (R154). -/
def State.globalMask (s : State) (i w : Nat) : Nat :=
  (if i = 0 then unitOnes 4 else if i = 1 then unitOnes 4 - onesAt 112 32
   else if i = 2 then onesAt 64 80 else if i = 3 then onesAt 64 256
   else assoc s.idx.masks i (unitOnes 4)) % 2 ^ (80 * w)

/-- Does an entry match a key under a global mask (R146)? -/
def Entry.hits (e : Entry) (key mask : Nat) : Bool := Nat.land (Nat.land e.mask mask) (Nat.xor e.key key) = 0

/-- A bank's matches, the winner first: by priority and then by entry address in a NATIVE bank, by entry address alone
in a FORERUNNER bank (R147). -/
def State.matches (s : State) (bank key mask : Nat) : List Entry :=
  let native := (s.bank bank).mode == .native
  sortBy (fun a b : Entry => if native && a.prio != b.prio then decide (b.prio < a.prio) else decide (a.pos ≤ b.pos))
    ((s.bankList bank).filter (fun e => e.hits key mask))

/-- A search counts on its die (Table 16-2). -/
def State.searched (s : State) (bank : Nat) : State := s.bump (0x050 + bank / 64) 1

/-! ### Native entries (R152 to R156) -/

/-- The units of a native entry as one number (Table 6-2). -/
def nativeKey (n : Namespace) (key : BitVec 128) (segment digest : Nat) : Nat :=
  key.toNat % 2 ^ 64 + n.index * 2 ^ 64 +
  (if n.entryWidth = 2 then (n.adapter + segment * 2 ^ 32) * 2 ^ 80
   else if n.entryWidth = 4 then digest / 2 ^ 16 % 2 ^ 240 * 2 ^ 80 else 0)

/-- The global mask that a search by chain key names (R146, R154): mask 1 in a 2-unit bank, which ignores the segment, and mask 0
in the others.  No fixed mask leaves a 4-unit entry's digest out, so such a search presents the digest 0 and finds untagged entries
(log entry 24). -/
def keyMask (w : Nat) : Nat := if w = 2 then 1 else 0

/-- The bank list of a namespace's group. -/
def State.groupBanks (s : State) (n : Namespace) : List Nat :=
  match s.idx.groups.find? (·.num == n.group) with
  | some g => g.banks
  | none => []

/-- The bank that key bits [64 + g - 1 : 64] choose (R155); one that has left service answers no search (Table 15-3). -/
def State.bankFor (s : State) (n : Namespace) (key : BitVec 128) : Option Nat :=
  let l := s.groupBanks n
  (l[key.toNat / 2 ^ 64 % max 1 l.length]?).filter (fun b => !(s.bank b).lost)

/-- The kinds of result pointer (R153). -/
def ptrBlock (slot : Nat) : Nat := slot
def ptrRun (slot : Nat) : Nat := 2 ^ 30 + slot
def ptrCollision (slot : Nat) : Nat := 2 * 2 ^ 30 + slot

/-- The block records a result pointer leads to: the block, a run's first block, or a collision record's blocks. -/
def State.ptrBlocks (s : State) (ptr : Nat) : List Nat :=
  let slot := ptr % 2 ^ 30
  match ptr / 2 ^ 30 % 4 with
  | 0 => [slot]
  | 1 => (s.idx.runs.find? (·.slot == slot)).elim [] (fun r => r.blocks.take 1)
  | 2 => (s.idx.collisions.find? (·.slot == slot)).elim [] (·.blocks)
  | _ => []

/-- Verification of a candidate (R164), without the token check. -/
def Block.verifies (b : Block) (n : Namespace) (key : BitVec 128) : Bool :=
  b.ns == n.index && b.gen == n.gen && b.key == key

/-- The entry that a search by chain key returns, if any. -/
def State.keyEntry (s : State) (n : Namespace) (key : BitVec 128) : Option Entry :=
  (s.bankFor n key).bind (fun bank =>
    (s.matches bank (nativeKey n key 0 0) (s.globalMask (keyMask n.entryWidth) n.entryWidth)).head?)

/-- The indexed block that a chain key finds and verification passes. -/
def State.findKey (s : State) (n : Namespace) (key : BitVec 128) : Option Block :=
  (s.keyEntry n key).bind (fun e => (s.ptrBlocks e.ptr).findSome? (fun id =>
    (s.block id).bind (fun b => if b.verifies n key then some b else none)))

/-- A held sealed block by its key and position, wherever the index has it, runs' inner blocks too, or one of `kept`: what a parent
key or a sink key reaches (R120, R163, R182). -/
def State.keptBlock (s : State) (n : Namespace) (kept : List Nat) (key : BitVec 128) (k : Nat) : Option Block :=
  s.store.blocks.find? (fun b => b.sealed && (b.indexed || kept.contains b.id) && b.k == k && b.verifies n key)

/-- A held sealed block by its key and position. -/
def State.heldBlock (s : State) (n : Namespace) (key : BitVec 128) (k : Nat) : Option Block := s.keptBlock n [] key k

/-- An entry written at the lowest free location of a bank (R148; log entry 25). -/
def State.putEntry (s : State) (bank key mask prio ptr : Nat) : Option State :=
  let used := (s.bankList bank).map (·.pos)
  match lowestFree used 0 (min (bankEntries (s.bank bank).width) (used.length + 1)) with
  | some pos => some { s with idx.entries := s.idx.entries ++ [⟨bank, pos, key, mask, prio, ptr⟩] }
  | none => none

/-- An entry invalidated. -/
def State.dropEntry (s : State) (e : Entry) : State :=
  { s with idx.entries := s.idx.entries.filter (fun x => !(x.bank == e.bank && x.pos == e.pos)) }

/-- The block's native key, its tags included. -/
def Block.nativeKey (b : Block) (n : Namespace) : Nat := Sys2Proof.Machine.nativeKey n b.key b.segment b.digest

/-- The entry that holds a block on its own, or in a collision record. -/
def State.ownEntry (s : State) (id : Nat) : Option Entry :=
  s.idx.entries.find? (fun e => (s.bank e.bank).mode == .native && e.ptr / 2 ^ 30 != 1 && (s.ptrBlocks e.ptr).contains id)

/-- The run that lists a block. -/
def State.runOf (s : State) (id : Nat) : Option Run := s.idx.runs.find? (·.blocks.contains id)

/-- The entry of a run. -/
def State.runEntry (s : State) (slot : Nat) : Option Entry :=
  s.idx.entries.find? (fun e => (s.bank e.bank).mode == .native && e.ptr == ptrRun slot)

/-- Marks blocks as indexed, in a run or on their own. -/
def State.markIndexed (s : State) (ids : List Nat) (on : Bool) (run : Option Nat) : State :=
  { s with store.blocks := upd (fun b : Block => ids.contains b.id) (fun b => { b with indexed := on, run := run }) s.store.blocks }

/-- A block leaves its collision record; a record with one block left stays as it is. -/
def State.leaveCollision (s : State) (e : Entry) (id : Nat) : State :=
  let slot := e.ptr % 2 ^ 30
  let left := (s.ptrBlocks e.ptr).filter (· != id)
  if left.isEmpty then
    { s.dropEntry e with idx.collisions := s.idx.collisions.filter (·.slot != slot) }
  else
    { s with idx.collisions := upd (·.slot == slot) (fun c : Collision => { c with blocks := left }) s.idx.collisions }

/-- The own entry of a block invalidated. -/
def State.dropOwn (s : State) (id : Nat) : State :=
  let s := match s.ownEntry id with
    | some e => if e.ptr / 2 ^ 30 = 2 then s.leaveCollision e id else s.dropEntry e
    | none => s
  s.markIndexed [id] false none

/-! ### Eviction (R169) -/

/-- Does anything refer to the block, or is it prepared in a group insert? -/
def State.evictable (s : State) (id : Nat) : Bool :=
  (s.block id).any (fun b => !b.prepared) && !s.referenced id

/-- The blocks an entry would evict, with the time of its last hit; none when it is no candidate. -/
def State.candidate (s : State) (e : Entry) : Option (Nat × List Nat) :=
  let slot := e.ptr % 2 ^ 30
  let ids := match e.ptr / 2 ^ 30 with
    | 0 => [slot]
    | 1 => (s.idx.runs.find? (·.slot == slot)).elim [] (·.blocks)
    | _ => []
  if ids.isEmpty || !ids.all s.evictable then none
  else some (ids.foldl (fun a i => max a ((s.block i).elim 0 (·.lastHit))) 0, ids)

/-- Removes blocks of a run, from the run's end: the rest stays, and an empty run loses its entry (R180). -/
def State.shrinkRun (s : State) (r : Run) (gone : List Nat) : State :=
  let left := r.blocks.filter (fun i => !gone.contains i)
  let s := s.markIndexed gone false none
  if left.isEmpty then
    let s := match s.runEntry r.slot with
      | some e => s.dropEntry e
      | none => s
    { s with idx.runs := s.idx.runs.filter (·.slot != r.slot) }
  else { s with idx.runs := upd (·.slot == r.slot) (fun x : Run => { x with blocks := left }) s.idx.runs }

/-- The report of an eviction or a drop of a whole block. -/
def State.reportGone (s : State) (b : Block) (reason : Nat) : State :=
  match s.nsOf b with
  | some n =>
    s.report n.partition ⟨n.handle, b.k, 1, 0, n.geo.l, b.slowest, 0xF, reason,
      ((b.pages.head?).elim 0 (·.fmt)), total (b.pages.map (fun p => granules p.stored)) / 4096⟩
  | none => s

/-- Blocks evicted: entries gone, counted and reported, then freed (R105, R169, R203). -/
def State.evictBlocks (s : State) (ids : List Nat) : State :=
  let one := fun (s : State) (id : Nat) => match s.block id with
    | some b =>
      let s := match s.runOf id with
        | some r => s.shrinkRun r [id]
        | none => s.dropOwn id
      let s := (s.bumpAt 0x089 1 (some (s.blockPart b)) ((s.nsOf b).map (·.index))).reportGone b 0x0B
      s.updNs b.ns (fun n => { n with stats.evicted := n.stats.evicted + 1 })
    | none => s
  (ids.reverse.foldl one s).gc

/-- One entry of a bank evicted: the candidate whose last hit is oldest, the lower entry address on a tie (R169); the entries that
lead to `keep` are no candidates. -/
def State.evictEntry (s : State) (bank : Nat) (keep : List Nat) : Option State :=
  let cs := (s.bankList bank).filterMap (fun e => (s.candidate e).map (fun c => (c.1, e.pos, c.2)))
  let free := cs.filter (fun c => !c.2.2.any (fun i => keep.contains i))
  let older := fun a b : Nat × Nat × List Nat => decide (a.1 < b.1) || (a.1 == b.1 && decide (a.2.1 ≤ b.2.1))
  match (sortBy older free).head? with
  | some c => some ((s.bump 0x047 1).evictBlocks c.2.2)
  | none => none

/-! ### Writing entries (R148, R166, R168, R170) -/

/-- A new entry in a bank, evicting one when the bank is full; none when no entry can be written (R169). -/
def State.placeEntry (s : State) (bank key mask prio ptr : Nat) (evict : Bool) (keep : List Nat) : Option State :=
  match s.putEntry bank key mask prio ptr with
  | some t => some t
  | none => if evict then (s.evictEntry bank keep).bind (fun t => t.putEntry bank key mask prio ptr) else none

/-- The blocks that an entry's pointer leads to, every block of a run among them. -/
def State.entryBlocks (s : State) (e : Entry) : List Nat :=
  if e.ptr / 2 ^ 30 = 1 then (s.idx.runs.find? (·.slot == e.ptr % 2 ^ 30)).elim [] (·.blocks) else s.ptrBlocks e.ptr

/-- An entry replaced under R170: the new one in a free location, for which a full bank first evicts under R169 where `evict`
allows it; then the old one invalidated.  Where no location comes free, the old entry is invalidated first and its own location
takes the new one (R148; log entry 148). -/
def State.swapEntry (s : State) (e : Entry) (key ptr prio : Nat) (evict : Bool) : State :=
  let here := fun x : Entry => x.bank == e.bank && x.pos == e.pos
  match s.placeEntry e.bank key e.mask prio ptr evict (s.entryBlocks e) with
  | some t => t.dropEntry e
  | none => { s with idx.entries := upd here (fun x => { x with key := key, ptr := ptr, prio := prio }) s.idx.entries }

/-- A block that no entry can be written for: sealed and unindexed, and counted (R169). -/
def State.leftUnindexed (s : State) (b : Block) : State :=
  (s.markIndexed [b.id] false none).bumpAt 0x046 1 (some (s.blockPart b)) ((s.nsOf b).map (·.index))

/-- A collision record for an entry's block and a new one whose stored fields are equal: the entry's pointer changes to it (R166). -/
def State.collide (s : State) (e : Entry) (first : List Nat) (id : Nat) (evict : Bool) : State :=
  let slot := (lowestFree (s.idx.collisions.map (·.slot)) 0 (s.idx.collisions.length + 1)).getD 0
  let s := { s with idx.collisions := ⟨slot, first ++ [id]⟩ :: s.idx.collisions }
  ((s.swapEntry e e.key (ptrCollision slot) e.prio evict).markIndexed (first ++ [id]) true none).bump 0x044 1

/-- A block added to a collision record; a fifth stays unindexed and is counted (R166). -/
def State.joinCollision (s : State) (e : Entry) (id : Nat) : State :=
  if (s.ptrBlocks e.ptr).length < 4 then
    let add := fun c : Collision => { c with blocks := c.blocks ++ [id] }
    ({ s with idx.collisions := upd (·.slot == e.ptr % 2 ^ 30) add s.idx.collisions }).markIndexed [id] true none
  else (s.markIndexed [id] false none).bump 0x045 1

/-- The entry that a new entry of a block would collide with: equal stored fields in the selected bank (R166). -/
def State.clashing (s : State) (n : Namespace) (b : Block) : Option Entry :=
  (s.bankFor n b.key).bind (fun bank => (s.bankList bank).find? (fun e => e.key == b.nativeKey n))

/-- A run entry for blocks in order; where the first one's stored fields meet another entry, that block takes its place in a collision
record and the run starts behind it (R166).  Blocks that no entry can be written for stay sealed and unindexed, and a member of a
group reports them (R180, R374). -/
def State.newRun (s : State) (n : Namespace) : List Nat → State
  | [] => s
  | id :: rest =>
    match s.block id with
    | none => s.newRun n rest
    | some b =>
      match s.clashing n b with
      | some e =>
        let s := match e.ptr / 2 ^ 30 with
          | 0 => s.collide e (s.ptrBlocks e.ptr) id (n.width != 8)
          | 2 => s.joinCollision e id
          | _ => s.leftUnindexed b
        let s := if (s.block id).any (·.indexed) then s else s.reportUnindex n b
        s.newRun n rest
      | none =>
        let slot := (lowestFree (s.idx.runs.map (·.slot)) 0 (s.idx.runs.length + 1)).getD 0
        match (s.bankFor n b.key).bind (fun bank =>
            s.placeEntry bank (b.nativeKey n) (unitOnes n.entryWidth) 0x8000 (ptrRun slot) (n.width != 8) (id :: rest)) with
        | some t => ({ t with idx.runs := ⟨slot, id :: rest⟩ :: t.idx.runs }).markIndexed (id :: rest) true (some slot)
        | none => (id :: rest).foldl (fun s i => match s.block i with
            | some x => (s.leftUnindexed x).reportUnindex n x
            | none => s) s

/-- A run's entry that a new block's key meets: the run's first block goes into a collision record with it, and the blocks behind
the first form a new run (R166, R180). -/
def State.collideRun (s : State) (n : Namespace) (e : Entry) (id : Nat) (evict : Bool) : State :=
  let slot := e.ptr % 2 ^ 30
  let ids := s.entryBlocks e
  let s := { s with idx.runs := s.idx.runs.filter (·.slot != slot) }
  let s := (s.markIndexed ids true none).collide e (ids.take 1) id evict
  s.newRun n (ids.drop 1)

/-- A sealed block put in the index: a new entry, or a place in a collision record when another entry has the same stored fields
(R166, R168).  `evict` allows R169, which leaves `keep` alone. -/
def State.indexAs (s : State) (n : Namespace) (b : Block) (evict : Bool) (keep : List Nat) : State :=
  match s.bankFor n b.key, s.clashing n b with
  | none, _ => s.leftUnindexed b
  | some bank, none =>
    (match s.placeEntry bank (b.nativeKey n) (unitOnes n.entryWidth) 0x8000 (ptrBlock b.id) evict (b.id :: keep) with
    | some t => t.markIndexed [b.id] true none
    | none => s.leftUnindexed b)
  | some _, some e =>
    (match e.ptr / 2 ^ 30 with
    | 0 => s.collide e (s.ptrBlocks e.ptr) b.id evict
    | 2 => s.joinCollision e b.id
    | _ => s.collideRun n e b.id evict)

/-- A block inserted at its seal (R168). -/
def State.indexBlock (s : State) (n : Namespace) (b : Block) (evict : Bool) : State := s.indexAs n b evict []

/-! ### Runs (R179 to R181) -/

/-- A block entry for a block that leaves a run. -/
def State.soloEntry (s : State) (n : Namespace) (b : Block) (keep : List Nat) : State :=
  let t := s.indexAs n b (n.width != 8) keep
  if (t.block b.id).any (·.indexed) then t else t.reportUnindex n b

/-- A run split at a block (R180): blocks before it stay, it gets a block entry when `keep`, and the blocks after it form
a new run.  The blocks stay held by the index while the new entries are written. -/
def State.splitRun (s : State) (id : Nat) (keep : Bool) : State :=
  match s.runOf id, (s.block id).bind (fun b => (s.nsOf b).map (fun n => (b, n))) with
  | some r, some (b, n) =>
    let pre := r.blocks.takeWhile (· != id)
    let post := (r.blocks.dropWhile (· != id)).drop 1
    let s := s.shrinkRun r (id :: post)
    let s := ({ s with idx.runs := upd (·.slot == r.slot) (fun x : Run => { x with blocks := pre }) s.idx.runs })
    let s := s.markIndexed post true none
    let s := if keep then (s.markIndexed [id] true none).soloEntry n b (id :: post) else s
    s.newRun n post
  | _, _ => s

/-- The block loses its place in the index, wherever it is. -/
def State.unindex (s : State) (id : Nat) : State :=
  match s.runOf id with
  | some _ => s.splitRun id false
  | none => s.dropOwn id

/-- A footing block joins its parent's run, or starts one at its parent (R179); where the bank has no free entry to form the run,
the block is listed for another try (R180). -/
def State.joinOne (s : State) (id : Nat) : State :=
  let s := { s with idx.retry := s.idx.retry.filter (· != id) }
  match (s.block id).bind (fun b => (s.nsOf b).map (fun n => (b, n))) with
  | none => s
  | some (b, n) =>
    if !b.indexed || b.run.isSome || b.k = 0 || b.pages.any (fun p => p.tier != 3) then s
    else match s.store.blocks.find? (fun x => x.indexed && x.k + 1 == b.k && x.verifies n b.parent) with
    | none => s
    | some par =>
      match s.runOf par.id with
      | some r =>
        if r.blocks.getLast? = some par.id && r.blocks.length < 64 then
          let s := s.dropOwn id
          ({ s with idx.runs := upd (·.slot == r.slot) (fun x : Run => { x with blocks := x.blocks ++ [id] }) s.idx.runs }).markIndexed [id] true (some r.slot)
        else s
      | none =>
        if par.pages.any (fun p => p.tier != 3) || !((s.ownEntry par.id).any (fun e => e.ptr / 2 ^ 30 = 0)) then s
        else
          let slot := (lowestFree (s.idx.runs.map (·.slot)) 0 (s.idx.runs.length + 1)).getD 0
          match (s.bankFor n par.key).bind (fun bank =>
              s.putEntry bank (par.nativeKey n) (unitOnes n.entryWidth) 0x8000 (ptrRun slot)) with
          | none => { s with idx.retry := s.idx.retry ++ [id] }
          | some t =>
            let t := (t.dropOwn par.id).dropOwn id
            ({ t with idx.runs := ⟨slot, [par.id, id]⟩ :: t.idx.runs }).markIndexed [par.id, id] true (some slot)

/-- The blocks above a block in its chain, oldest first; `fuel` bounds them. -/
def State.above (s : State) (n : Namespace) (b : Block) : Nat → List Nat
  | 0 => []
  | fuel + 1 =>
    match s.store.blocks.find? (fun x => x.sealed && x.k + 1 == b.k && x.verifies n b.parent) with
    | none => []
    | some x => s.above n x fuel ++ [x.id]

/-- The last layer-page of a sealed block came to the footing: runs of its chain that an earlier placement could not form are tried
again, then its own (R179, R180). -/
def State.joinRun (s : State) (id : Nat) : State :=
  let again := if s.idx.retry.isEmpty then []
    else match (s.block id).bind (fun b => (s.nsOf b).map (fun n => (b, n))) with
      | some (b, n) => (s.above n b b.k).filter (fun i => s.idx.retry.contains i)
      | none => []
  (again ++ [id]).foldl State.joinOne s

/-! ### Bank groups (R155, R156) -/

/-- The banks that a partition may use: all, or a hard partition's own; a soft partition leaves the dedicated banks of
hard ones alone (R156, R411). -/
def State.partBankOk (s : State) (part bank : Nat) : Bool :=
  if partHard s.stg.live part then bit (partBanks s.stg.live part) bank
  else !((List.range 16).any (fun q => partHard s.stg.live q && bit (partBanks s.stg.live q) bank))

/-- Is a bank FREE, in service, and of no group or region? -/
def State.bankIsFree (s : State) (b : Nat) : Bool :=
  let x := s.bank b
  x.mode == .free && !x.lost && !(s.idx.groups.any (·.banks.contains b))

/-- The partition's FREE banks. -/
def State.freeBanks (s : State) (part : Nat) : List Nat :=
  (List.range 256).filter (fun b => s.partBankOk part b && s.bankIsFree b)

/-- The first FREE bank of search port `j` of R156's order (die `j % 4`, port `j / 4`). -/
def portBank (l : List Nat) (j : Nat) : Option Nat := l.find? (fun b => b / 64 == j % 4 && b % 2 == j / 4 % 2)

/-- `n` banks taken in rotation across dies and ports (R156); `fuel` bounds the visits. -/
def takeBanks (l : List Nat) (j n : Nat) : Nat → List Nat
  | 0 => []
  | fuel + 1 =>
    if n = 0 then []
    else match portBank l (j % 8) with
      | some b => b :: takeBanks (l.filter (· != b)) (j + 1) (n - 1) fuel
      | none => takeBanks l (j + 1) n fuel

/-- A bank group formed of FREE banks. -/
def State.formGroup (s : State) (num width part : Nat) (banks : List Nat) : State :=
  let new := banks.map (fun b => Bank.mk b .native width part num false)
  { s with
    idx.banks := new ++ s.idx.banks.filter (fun b => !banks.contains b.num)
    idx.groups := s.idx.groups ++ [⟨num, banks, width, part⟩] }

/-- A bank group dissolved and its banks FREE. -/
def State.dissolveGroup (s : State) (num : Nat) : State :=
  match s.idx.groups.find? (·.num == num) with
  | none => s
  | some g =>
    { s with
      idx.banks := s.idx.banks.filter (fun b => !(g.banks.contains b.num) || b.lost)
      idx.groups := s.idx.groups.filter (·.num != num) }

/-- The group for a new namespace: the one of its partition and width with the most free entries, the lowest-numbered on
a tie, or a new one (R156). -/
def State.chooseGroup (s : State) (part width : Nat) : Option (Nat × State) :=
  let free := fun g : BankGroup => total (g.banks.map s.bankFree)
  let better := fun a b : BankGroup => decide (free b < free a) || (free a == free b && decide (a.num ≤ b.num))
  match (sortBy better (s.idx.groups.filter (fun g => g.partition == part && g.width == width))).head? with
  | some g => some (g.num, s)
  | none =>
    let l := s.freeBanks part
    match lowestFree (s.idx.groups.map (·.num)) 0 64 with
    | none => none
    | some num =>
      if l.isEmpty then none
      else
        let half := max 1 (l.length / 2)
        let n := 2 ^ ((List.range 8).filter (fun i => 2 ^ (i + 1) ≤ half)).length
        some (num, s.formGroup num width part (takeBanks l 0 n (9 * n + 8)))

/-- A group that no namespace refers to any longer and whose banks are empty dissolves (R156). -/
def State.sweepGroup (s : State) (num : Nat) : State :=
  match s.idx.groups.find? (·.num == num) with
  | some g =>
    if s.store.namespaces.any (·.group == num) || g.banks.any (fun b => !(s.bankList b).isEmpty) then s
    else s.dissolveGroup num
  | none => s

end Sys2Proof.Machine
end

