-- ==== Sys2Proof/Machine/Directory.lean ====
section
/-! DEFINITION. Directory.lean: extents by address, the coherence directory and its recalls (The shared memory pool,
R313 to R317, R324 to R328). -/
namespace Sys2Proof.Machine

/-- The base of a DC region (Table 11-2). -/
def regionBase (r : Nat) : Nat := if r = 0 then 0 else 0x004000000000

/-- The length of a DC region. -/
def regionLength (r : Nat) : Nat := if r = 0 then 256 * 2 ^ 30 else 3840 * 2 ^ 30

/-- The extent that holds a range of device physical addresses whole. -/
def State.extentAt (s : State) (a n : Nat) : Option Extent :=
  s.pool.extents.find? (fun e => e.base ≤ a && a + n ≤ e.base + e.length)

/-- The side of a host in an extent. -/
def Extent.side (e : Extent) (h : Nat) : Option SideState := (e.sides.find? (·.1 == h)).map (·.2)

/-- Is the extent ACTIVE for a host? -/
def Extent.activeFor (e : Extent) (h : Nat) : Bool := e.side h == some .active

/-- May a host still hold lines of the extent: it was ACTIVE for it and is not yet detached? -/
def Extent.holds (e : Extent) (h : Nat) : Bool := e.sides.any (fun x => x.1 == h && x.2 != .offered)

/-- Is the extent ACTIVE for some host? -/
def Extent.isActive (e : Extent) : Bool := e.sides.any (fun x => x.2 == .active)

/-- The line group of an address (R324). -/
def lineGroup (a : Nat) : Nat := a / 256

/-- The directory entry of a group. -/
def State.dirEntry (s : State) (g : Nat) : Option DirEntry := s.pool.dir.find? (·.group == g)

/-- `f` on the directory entry of a group. -/
def State.updDir (s : State) (g : Nat) (f : DirEntry → DirEntry) : State :=
  { s with pool.dir := upd (·.group == g) f s.pool.dir }

/-- Every host index that can name a holder: the valid entries, or the bound devices in FM_TRUST. -/
def State.hostIndices (s : State) : List Nat :=
  if fmTrust s.stg.live then s.pool.bound.map trustHost else validHosts s.stg.live

/-- The hosts a recall of the group goes to (R327). -/
def State.holdersOf (s : State) (e : DirEntry) : List Nat :=
  if e.coarse then
    s.hostIndices.filter (fun h => e.holders.contains (h % 16) && (s.extentAt (e.group * 256) 256).any (·.holds h))
  else e.holders

/-- The entry that a recall leaves: SHARED after a downgrade; after an invalidation without the holders that left. -/
def State.afterRecall (s : State) (g : Nat) (downgrade : Bool) (leaving : List Nat) : State :=
  match s.dirEntry g with
  | none => s
  | some e =>
    let rest := (s.holdersOf e).filter (fun h => !leaving.contains h)
    if downgrade then s.updDir g (fun e => { e with state := .shared })
    else match rest with
      | [] => { s with pool.dir := s.pool.dir.filter (·.group != g) }
      | [h] => s.updDir g (fun e => { e with state := .shared, coarse := false, holders := [h] })
      | _ => s.updDir g (fun e => { e with state := .shared })

/-- The abutments whose recall trackers a recall of some hosts takes: those of their links. -/
def State.trackersOf (s : State) (hosts : List Nat) : List Nat := (hosts.map (fun h => ((s.fnOfHost h).elim 0 (·.link)) / 16)).eraseDups

/-- Has one of these abutments all of its 4,096 recall trackers taken (R327)? -/
def State.trackersFull (s : State) (hosts : List Nat) : Bool :=
  (s.trackersOf hosts).any (fun a => decide (4096 ≤ (s.pool.recalls.filter (fun r => (s.trackersOf r.waiting).contains a)).length))

/-- A recall of one group from some of its holders begins, once a recall tracker is free: by downgrade when memory is only read, else by invalidation.
Dead hosts are not waited for; an invalidation joins a downgrade that is under way (R327, R331, R342). -/
def State.startRecallOf (s : State) (g : Nat) (hosts : List Nat) (downgrade : Bool) : State :=
  match s.dirEntry g, s.pool.recalls.find? (·.group == g) with
  | none, _ => s
  | some _, some r =>
    if downgrade || hosts.all r.leaving.contains then s
    else
      let hs := hosts.filter (fun h => !s.hostDead h && !r.leaving.contains h)
      let s := hs.foldl (fun s h => (s.emit (.snoop h g true)).bump 0x204 1) s
      { s with pool.recalls := upd (·.group == g) (fun r : Recall => { r with
          waiting := (r.waiting ++ hs).eraseDups, leaving := (r.leaving ++ hosts).eraseDups, downgrade := false }) s.pool.recalls }
  | some e, none =>
    let hs := hosts.filter (fun h => !s.hostDead h)
    if hs.isEmpty then s.afterRecall g downgrade hosts
    else if s.trackersFull hs then { s with pool.late := s.pool.late.filter (· != (g, hosts, downgrade)) ++ [(g, hosts, downgrade)] }
    else
      let s := hs.foldl (fun s h => (s.emit (.snoop h g (!downgrade))).bump 0x204 1) s
      { s.updDir g (fun e => { e with state := .recalling }) with
        pool.recalls := s.pool.recalls ++
          [⟨g, hs, if downgrade then [] else hosts, downgrade, e.state == .owned, s.clock.now⟩] }

/-- A recall of one group from every holder. -/
def State.startRecall (s : State) (g : Nat) (downgrade : Bool) : State :=
  match s.dirEntry g with
  | some e => s.startRecallOf g (s.holdersOf e) downgrade
  | none => s

/-- Groups of a range with an entry that a recall of this kind concerns. -/
def State.groupsIn (s : State) (a n : Nat) (downgrade : Bool) : List Nat :=
  (s.pool.dir.filter (fun e => a < e.group * 256 + 256 && e.group * 256 < a + n &&
    (!downgrade || e.state == .owned))).map (·.group)

/-- Recalls a range. -/
def State.recallRange (s : State) (a n : Nat) (downgrade : Bool) : State :=
  (s.groupsIn a n downgrade).foldl (fun s g => s.startRecall g downgrade) s

/-- Is a recall under way in a range? -/
def State.recalling (s : State) (a n : Nat) : Bool :=
  let meets := fun g : Nat => decide (a < g * 256 + 256) && decide (g * 256 < a + n)
  s.pool.recalls.any (fun r => meets r.group) || s.pool.late.any (fun r => meets r.1)

/-- The recalls that found no tracker are tried again, in order. -/
def State.recallLate (s : State) : State := s.pool.late.foldl (fun s r => s.startRecallOf r.1 r.2.1 r.2.2) { s with pool.late := [] }

/-! ### Tail windows (R107 to R109, R317) -/

/-- The page size P of a window: the layer-page rounded up to 4 KiB. -/
def Namespace.pageP (n : Namespace) : Nat := n.alloc

/-- The slot size S of a window. -/
def Namespace.slotS (n : Namespace) : Nat := n.geo.l * n.pageP + 4096

/-- The size of a window. -/
def Namespace.windowBytes (n : Namespace) : Nat := 2 * n.slotS + 4096

/-- The chain, among some, whose window holds an address, with its namespace, and the offset in it. -/
def State.windowOf (s : State) (chains : List Chain) (a : Nat) : Option (Chain × Namespace × Nat) :=
  chains.findSome? (fun c => match c.window, s.nsAt c.view.ns c.view.gen with
    | some w, some n => if w.base ≤ a && a < w.base + n.windowBytes then some (c, n, a - w.base) else none
    | _, _ => none)

/-- The chain whose window holds an address now. -/
def State.windowAt (s : State) (a : Nat) : Option (Chain × Namespace × Nat) := s.windowOf s.store.chains a

/-- The namespace of the window that was mapped at an address and went with its chain (R119). -/
def State.goneAt (s : State) (a : Nat) : Option Nat :=
  (s.store.unmapped.find? (fun w => w.1 ≤ a && a < w.1 + w.2.1)).map (·.2.2)

/-! ### Admission (R48, R318, R320 to R323, R331) -/

/-- The host index that a request's source shows. -/
def State.hostOfSrc (s : State) (src : Source) : Option Nat :=
  if fmTrust s.stg.live then
    (if s.pool.bound.contains ⟨src.link, src.ld⟩ then some (trustHost ⟨src.link, src.ld⟩) else none)
  else (validHosts s.stg.live).find? (fun h =>
    hostFn s.stg.live h == ⟨src.link, src.ld⟩ && hostMem s.stg.live h &&
      (!hostPbr s.stg.live h || hostSpid s.stg.live h == src.spid))

/-- An INBOUND range of the host covers the bytes with the right, in a partition the host has (R320). -/
def rangeFor (l : List Item) (h a n : Nat) (write : Bool) : Option RangeIso :=
  (validRanges l).find? (fun r => !r.outbound && r.host == h && r.base ≤ a && a + n ≤ r.base + r.length &&
    (if write then r.write else r.read) && bit (hostParts l h) r.partition)

/-- The host that a request is admitted for, if it is admitted (R312, R320, R322, R401, R409). -/
def State.admitted (s : State) (src : Source) (a n : Nat) (write : Bool) : Option Nat :=
  match s.hostOfSrc src with
  | none => none
  | some h =>
    if (ideRequired s.stg.live && !s.linkSecure src.link) || !s.dlv.ports.any (fun p => p.num == src.link && p.linked && p.mem) then none
    else if !(s.extentAt a n).any (fun e => e.activeFor h &&
        (!partHard s.stg.live e.partition || bit (partLinks s.stg.live e.partition) src.link)) then none
    else if fmTrust s.stg.live then some h
    else if (rangeFor s.stg.live h a n write).isSome then some h else none

/-- Does the device serve memory now: after READY.DECK (R48)? -/
def State.servesMemory (s : State) : Bool := s.boot.memoryActive

/-- Is what a request needs back after link-watch: the deck, the causeway for its memory, and the port, unless it is the live one (R52,
Table 2-5)? -/
def State.poolAwake (s : State) (link a : Nat) : Bool :=
  !s.boot.linkwatch || (s.boot.waking && s.boot.awakeDeck && (a < regionBase 1 || s.boot.awakeCauseway) &&
    (link / 4 == s.boot.livePort || s.boot.awakePorts))

/-- Are a source's requests answered with poison, and its stores discarded: the device is RELEASING or halted by a fatal fault, or the
function's TDI is in ERROR, or in RUN without the IDE T bit (R388, R402, R403, R432)? -/
def State.shutOut (s : State) (src : Source) : Bool :=
  s.sec.life = .releasing || (s.boot.halted && s.ras.haltSource = 4) || s.sec.tdis.contains (⟨src.link, src.ld⟩, .error) ||
    (!src.tee && s.sec.tdis.contains (⟨src.link, src.ld⟩, .run))

/-- A refused access: counted and recorded (R320). -/
def State.refuse (s : State) (host : Option Nat) (a : Nat) : State :=
  (s.bumpAt 0x208 1 none host).log
    { cls := .refused, code := 0x0401, locus := 0x4000, tag := none, object := host, addr := some a, detail := 0, poison := false }

/-- A discarded store, or a load that only poison answers, recorded (R48, R106, R109, R110, R119). -/
def State.discardStore (s : State) (obj : Option Nat) (a : Nat) : State :=
  s.log { cls := .refused, code := 0x0302, locus := 0x4000, tag := none, object := obj, addr := some a, detail := 0, poison := false }

end Sys2Proof.Machine
end

