-- ==== Sys2Proof/Machine/Pages.lean ====
section
/-! DEFINITION. Pages.lean: reading a layer-page as values, sealing it, re-quantising it and the plane codec (R99, R100, R132,
R139 to R143, R205). -/
namespace Sys2Proof.Machine

/-- A loaded codebook set by its identifier (R134). -/
def State.codeSet (s : State) (id : Nat) : Option CodeSet := s.store.sets.find? (fun c => mkHandle 8 c.slot c.gen == id)

/-- Element `e` of codebook entry `i` (R133), decoded from the set's entry format. -/
def CodeSet.elem (c : CodeSet) (l kv h j i e : Nat) : F32 :=
  let v := c.image.nat (64 + ((((l * 2 + kv) * c.heads + h) * (c.dim / 4) + j) * 256 + i) * 8 + 2 * e) 2
  F32.of (if c.fmt = 1 then bf16.decode v else fp16.decode v)

/-- A page's reader: `n` bytes at `off`, little-endian. -/
def Page.rd (p : Page) (off n : Nat) : Nat := p.data.nat off n

/-- Channel `c` of token `t` of head `h` of sub-region `kv` of a page, decoded to FP32; KVQ through the namespace's
codebooks (R128, R132). -/
def State.chan (s : State) (n : Namespace) (p : Page) (kv h t c : Nat) : F32 :=
  if p.fmt = 0xE then
    match s.codeSet n.codebook with
    | some cs => cs.elem p.layer kv h (c / 4) (n.geo.kvqCode p.rd kv h t (c / 4)) (c % 4)
    | none => F32.zero
  else n.geo.channel p.fmt p.rd kv h t c

/-- The key summary of a page, where the namespace keeps one (R100). -/
def State.summaryOf (s : State) (n : Namespace) (p : Page) : Option (List Nat) :=
  if n.keySummary then some (n.geo.summary (fun h t c => s.chan n p 0 h t c)) else none

/-- A page as its seal leaves it: version, CRC, stored length and summary (R99, R112). -/
def State.sealPage (s : State) (n : Namespace) (p : Page) (version : Nat) : Page :=
  { p with version := version, stored := n.geo.pageBytes p.fmt, crc := p.dataCrc n.geo, summary := s.summaryOf n p }

/-- The length of one granule under the plane codec (R142). -/
def granuleLength (g : List Byte) : Nat :=
  if g.all (· == 0#8) then 16
  else if Config.codecLength g < 4096 then Config.codecLength g else g.length

/-- The stored length of a page under the plane codec: never above its length before it plus 64 bytes (R142). -/
def codecStored (data : List Byte) : Nat :=
  min (data.length + 64) (total ((chunks 4096 (cdiv data.length 4096) data).map granuleLength))

/-- A page re-quantised to another format: a new page version, its CRC and its summary (R139, R140). -/
def State.requantPage (s : State) (n : Namespace) (p : Page) (f : Nat) : Page × Nat :=
  let c := n.geo.convertPage p.fmt f p.rd
  let q := { p with
    fmt := f, requant := f != n.geo.fmt, version := p.version + 1, data := Mem.write [] 0 c.1
    stored := n.geo.pageBytes f, codec := false }
  ({ q with crc := q.dataCrc n.geo, summary := s.summaryOf n q }, c.2)

/-- What a page becomes when it leaves the deck: re-quantised, then encoded by the codec where that gains enough (R205).
Also: re-quantised, encoded, stored raw below the threshold, and NaN elements written as 0. -/
def State.transformPage (s : State) (n : Namespace) (p : Page) (profile : Nat) (mayRequant noCodec : Bool) :
    Page × Bool × Bool × Bool × Nat :=
  let f := requantTarget profile p.fmt
  let r := mayRequant && p.poison.isEmpty && f != p.fmt
  let (p, nans) := if r then s.requantPage n p f else (p, 0)
  if policyFlag s.stg.live 1 && !noCodec then
    let raw := n.geo.pageBytes p.fmt
    let st := codecStored (p.data.read 0 raw)
    if policyThreshold s.stg.live * st ≤ raw * 1000 then ({ p with codec := true, stored := st }, r, true, false, nans)
    else ({ p with stored := raw }, r, false, true, nans)
  else (p, r, false, false, nans)

/-- A page decoded from the codec, as it enters the deck (R205). -/
def Page.decoded (p : Page) (g : Geo) : Page := { p with codec := false, stored := g.pageBytes p.fmt }

end Sys2Proof.Machine
end

