-- ==== Sys2Proof/Machine/Moves.lean ====
section
/-! DEFINITION. Moves.lean: predicted next use, targets, one move of a block's pages, dropping a block, and making room
(Tiers, quotas and placement, R200 to R205, R209 to R215, R122). -/
namespace Sys2Proof.Machine

/-! ### Prediction (R203) -/

/-- The median reuse interval of a namespace in ms, inside the bin that holds the middle interval (log entry 26). -/
def NsStats.median (st : NsStats) : Nat :=
  let n := total st.hist
  let i := ((List.range 16).filter (fun i => total (st.hist.take (i + 1)) * 2 < n)).length
  let low := if i = 0 then 0 else 2 ^ (i - 1)
  let width := if i = 0 then 1 else 2 ^ (i - 1)
  if n = 0 then 0 else low + Config.medianWithin st.hist % width

/-- Is a block under a hint of a kind? -/
def State.hinted (s : State) (id kind : Nat) : Bool := s.tiers.hints.any (fun h => h.kind == kind && h.blocks.contains id)

/-- The predicted next use in ns; none for never, under a COLD hint (R203, R211). -/
def State.nextUse (s : State) (b : Block) : Option Nat :=
  if s.hinted b.id 1 then none
  else
    let iv := if 2 ≤ b.touches then b.reuse
      else match s.nsOf b with
        | some n => if total n.stats.hist = 0 then policyHorizon s.stg.live 1 * 1000000 else n.stats.median * 1000000
        | none => 0
    some (b.lastTouch + iv)

/-- Is the first time later than the second?  `none` is later than every time. -/
def later (a b : Option Nat) : Bool := match a, b with
  | none, some _ => true
  | some x, some y => decide (y < x)
  | _, none => false

/-! ### Where a block may go (R200, R203, R209, R210) -/

/-- Bytes of a block's pages that are not in a tier. -/
def Block.bytesOutside (b : Block) (t : Nat) : Nat :=
  total ((b.pages.filter (·.tier != t)).map (fun p => granules p.stored))

/-- The slowest tier that pins allow the block: the fastest of the tiers its pins name. -/
def State.pinTier (s : State) (id : Nat) : Nat :=
  (s.store.pins.filter (·.blocks.contains id)).foldl (fun a p => min a (p.tier.getD 3)) 3

/-- May the engine or a command move this block down to a tier: sealed, not below the namespace's lowest tier and not
below its pin's tier (Table 7-8)? -/
def State.mayLie (s : State) (n : Namespace) (b : Block) (t : Nat) : Bool :=
  b.sealed && t ≤ n.lowest && t ≤ s.pinTier b.id

/-- The slowest tier that WILL_NEED hints leave to the policy: the fastest of the tiers they name (R209, R211). -/
def State.wantTier (s : State) (id : Nat) : Nat :=
  (s.tiers.hints.filter (fun h => h.kind == 0 && h.blocks.contains id)).foldl (fun a h => min a h.tier) 3

/-- The slower tiers, down to `deepest`, that the engine may use for a block and that have room, fastest first; none before READY.FULL
(R47). -/
def State.lowerTiers (s : State) (n : Namespace) (b : Block) (from_ deepest : Nat) : List Nat :=
  [1, 2, 3].filter (fun t => s.boot.full && from_ < t && t ≤ deepest && s.mayLie n b t && (t != 2 || policyFlag s.stg.live 3) &&
    s.room n.partition t (b.bytesOutside t))

/-- The target of a demotion (R203): the fastest lower tier with room whose horizon covers the predicted next use, else
the slowest with room. -/
def State.demoteTarget (s : State) (n : Namespace) (b : Block) (from_ deepest : Nat) : Option Nat :=
  let l := s.lowerTiers n b from_ deepest
  let covers := fun t => t = 3 || (match s.nextUse b with
    | some u => decide (u ≤ s.clock.now + policyHorizon s.stg.live t * 1000000)
    | none => false)
  match l.find? covers with
  | some t => some t
  | none => l.getLast?

/-! ### Dropping (R122, R373) -/

/-- The record a chain keeps of a dropped block: its key, its version, and its token IDs under TOKEN_STORE (R122). -/
def Block.remains (b : Block) (n : Namespace) : BRef :=
  .dropped b.key b.parent b.topVersion b.groupVersion (if n.tokenStore then b.tokenIds n.geo.b else [])

/-- A version with a block replaced by the record of its drop. -/
def View.lose (v : View) (id : Nat) (r : BRef) : View :=
  { v with refs := v.refs.map (fun x => if x == .held id then r else x) }

/-- A block dropped: its entry goes, every version that names it keeps the record of it, and its pages are freed.  Under
`readers` the operations in flight keep their hold on it, and its pages go when they end (R118); `tell` reports the loss to
the group. -/
def State.dropWith (s : State) (id reason : Nat) (readers tell : Bool) : State :=
  match (s.block id).bind (fun b => (s.nsOf b).map (fun n => (b, n))) with
  | none => s
  | some (b, n) =>
    let s := s.unindex id
    let r := b.remains n
    let s := { s with
      store.chains := s.store.chains.map (fun c : Chain => { c with view := c.view.lose id r })
      store.snapshots := s.store.snapshots.map (fun x : Snapshot => { x with view := x.view.lose id r })
      store.pins := s.store.pins.map (fun p : Pin => { p with blocks := p.blocks.filter (· != id) }) }
    let s := if readers then s else { s with
      q.ops := s.q.ops.map (fun o : Op => { o with
        view := o.view.map (fun v : View => v.lose id r)
        work := (match o.work with
          | .listed l => .listed (l.map (fun x => (x.1.lose id r, x.2)))
          | w => w) })
      dlv.plans := s.dlv.plans.map (fun p : Plan => { p with view := p.view.map (fun v : View => v.lose id r) }) }
    let s := (s.bumpAt 0x088 1 (some n.partition) (some n.index)).reportGone b reason
    let s := s.updNs n.index (fun n => { n with stats.dropped := n.stats.dropped + 1 })
    (if tell then s.reportDrop n b else s.bumpAt 0x2C4 1 (some n.partition) (some n.index)).gc

/-- A block dropped whose bytes are gone or that nothing protects. -/
def State.dropBlock (s : State) (id reason : Nat) : State := s.dropWith id reason false true

/-- A block dropped by a fault or an order while its bytes still stand: its readers end first (R118, R373, R423). -/
def State.loseBlock (s : State) (id reason : Nat) : State := s.dropWith id reason true true

/-! ### One move (R205, R212) -/

/-- The lease that takes a page: an ACTIVE one of this borrower with room. -/
def State.leaseFor (s : State) (bytes : Nat) : Option Lease :=
  s.tiers.leases.find? (fun l => l.borrower && l.state == .active && l.used + bytes ≤ l.capacity - l.capacity / 256)

/-- Pages of the block in `[first, first + layers)`. -/
def inLayers (first layers : Nat) (p : Page) : Bool := first ≤ p.layer && p.layer < first + layers

/-- Does a move of these layers to a tier carry the page? -/
def goesTo (first layers target : Nat) (up : Bool) (p : Page) : Bool :=
  inLayers first layers p && (if up then target < p.tier else p.tier < target)

/-- A page moved to a tier: transformed on leaving the deck, decoded on entering it (R205).  It keeps its home pier also where that
pier's stack has left service, which the manual leaves open (R12; log entry 143). -/
def State.movedPage (s : State) (n : Namespace) (p : Page) (target profile : Nat) (mayRequant noCodec : Bool)
    (lease : Option Nat) : Page × Bool × Bool × Bool × Nat :=
  let at_ := fun q : Page => { q with tier := target, lease := if target = 2 then lease else none }
  if p.tier = 0 && target != 0 then
    let r := s.transformPage n p profile mayRequant noCodec
    (at_ r.1, r.2)
  else if target = 0 then (at_ (p.decoded n.geo), false, false, false, 0)
  else (at_ p, false, false, false, 0)

/-- What a move does besides its target. -/
structure MoveHow where
  up : Bool                -- a promotion: pages slower than the target; else pages faster than it
  reason : Nat
  noCodec : Bool
  profile : Option Nat
  cls : Nat                -- its buffer class: 2 LATENCY, 3 BULK, 4 BACKGROUND (R204)
  deriving DecidableEq, Repr

/-- Leases' use after pages, tiles or mirror copies left or entered them (R341). -/
def State.leaseUse (s : State) : State :=
  let used := fun i : Nat => total (s.store.blocks.map (fun b => total ((b.pages.filter (·.lease == some i)).map (fun p => granules p.stored)))) +
    total (s.tiers.weights.map (fun w => total ((w.tiles.filter (·.lease == some i)).map (fun t => granules t.stored)))) +
    total ((s.pool.extents.filter (·.mirrored == some i)).map (·.length))
  { s with tiers.leases := upd (·.borrower) (fun l : Lease => { l with used := used l.id }) s.tiers.leases }

/-- The rank of a footing read for work of a class (R243). -/
def footRank (cls : Nat) : Nat := if cls = 2 then 1 else if cls = 4 then 4 else 2

/-- The flags byte of a placement record for a page's stored form after the move (Table 7-5). -/
def Page.flags (p : Page) : Nat := p.fmt + b2n p.codec * 16 + b2n p.requant * 32

/-- A page of a sealed block as a move reads it out of a lease: where its CRC fails after decryption, its lines are poisoned (R220,
Table 7-9). -/
def Page.checked (p : Page) (g : Geo) : Page :=
  if p.tier = 2 && p.crc != p.dataCrc g then { p with poison := List.range (cdiv (g.pageBytes p.fmt) 64) } else p

/-- Viaduct traffic of some leases: their rate caps hold back what follows (R220). -/
def State.chargeLeases (s : State) (l : List (Nat × Nat)) : State :=
  let charge := fun (x : Lease) (n : Nat) => if x.rateCap = 0 then x else { x with busyUntil := max s.clock.now x.busyUntil + cdiv n x.rateCap }
  { s with tiers.leases := s.tiers.leases.map (fun x => if x.borrower then (l.filter (·.1 == x.id)).foldl (fun x c => charge x c.2) x else x) }

/-- Does the rate cap of one of these leases hold back a unit now (R220)? -/
def State.leaseBusy (s : State) (ids : List Nat) : Bool :=
  s.tiers.leases.any (fun l => l.borrower && ids.contains l.id && decide (s.clock.now < l.busyUntil))

/-- What a page's move does at its home pier: the deck read or written, and the plane codec's bytes, encoded on leaving the deck and
decoded on entering it (Table 16-2). -/
def State.moveIo (s : State) (g : Geo) (was new : Page) : State :=
  let raw := g.pageBytes was.fmt
  if was.tier = 0 then (s.pierIo was.home 0 raw).bump (0x504 + 16 * was.home) (if new.codec then raw / 64 else 0)
  else if new.tier = 0 then (s.pierIo new.home raw 0).bump (0x505 + 16 * new.home) (if was.codec then raw / 64 else 0)
  else s

/-- Moves the pages of a block's layers to a tier, without looking for room: transforms, remaps, keeps the old copy while
operations that took its location run, counts, and reports (R205, R207, R212).  A block counts as moved once its last page has. -/
def State.movePages (s : State) (id first layers target : Nat) (how : MoveHow) (reportIt : Bool) : State :=
  match (s.block id).bind (fun b => (s.nsOf b).map (fun n => (b, n))) with
  | none => s
  | some (b, n) =>
    let goes := goesTo first layers target how.up
    let moved := b.pages.filter goes
    if moved.isEmpty then s
    else
      let src := moved.foldl (fun a p => max a p.tier) 0
      let s := if b.run.isSome && src = 3 then s.splitRun id true else s
      let s := s.footRead (footRank how.cls) (b.footPages goes)
      let profile := how.profile.getD (policyProfile s.stg.live n.partition target)
      let requant := !s.guarded id && !s.hinted id 2
      let lease := (s.leaseFor (total (moved.map (·.stored)))).map (·.id)
      let read := moved.map (fun p => p.checked n.geo)
      let rs := read.map (fun p => s.movedPage n p target profile requant how.noCodec lease)
      let place := fun p : Page => if target = 1 then { p with chan := s.channelFor n.partition id p.layer } else p
      let new := fun p : Page => match rs.find? (fun r => r.1.layer == p.layer) with
        | some r => if goes p then place r.1 else p
        | none => p
      let holders := (s.q.ops.filter (fun o => !o.moves && o.holds id)).map (·.tag)
      let old := if holders.isEmpty then [] else
        [OldCopy.mk ((s.tiers.oldCopies.foldl (fun a c => max a (c.id + 1)) 0)) id n.partition src
          (total (moved.map (fun p => granules p.stored))) holders]
      let bad := (read.zip moved).any (fun x => x.1.poison != x.2.poison)
      let s := if bad then s.log { cls := .dataLoss, code := 0x0143, locus := 0x3012 + 0x100 * (n.index % 2), tag := none, object := some n.handle, addr := none, detail := b.k, poison := true } else s
      let s := { s.updBlock id (fun b => { b with pages := b.pages.map new }) with
        tiers.oldCopies := s.tiers.oldCopies ++ old }
      let count := fun (f : Page × Bool × Bool × Bool × Nat → Bool) => (rs.filter f).length
      let part := some n.partition
      let obj := some n.index
      let whole := (b.pages.map new).all (fun p => if how.up then decide (p.tier ≤ target) else decide (target ≤ p.tier))
      let s := (s.bumpAt (0x080 + target) (b2n whole) part obj).bumpAt (0x084 + src) (b2n whole) part obj
      let s := (s.bumpAt 0x08B (count (fun r => r.2.1)) part obj).bumpAt 0x08C (count (fun r => r.2.2.1)) part obj
      let s := (s.bumpAt 0x08D (count (fun r => r.2.2.2.1)) part obj).bumpAt 0x18A (total (rs.map (fun r => r.2.2.2.2))) part obj
      let enc := rs.filter (fun r => r.2.2.1)
      let s := s.updNs n.index (fun n => { n with
        stats.promoted := n.stats.promoted + b2n (whole && target < src)
        stats.demoted := n.stats.demoted + b2n (whole && src < target)
        stats.encoded := (enc.map (fun r => (n.geo.pageBytes r.1.fmt, r.1.stored)) ++ n.stats.encoded).take 4096 })
      let s := if reportIt then
          s.report n.partition ⟨n.handle, b.k, 1, first, layers, src, target, how.reason, (rs.head?).elim 0 (fun r => r.1.flags),
            total (moved.map (fun p => granules p.stored)) / 4096⟩
        else s
      let s := (read.zip rs).foldl (fun s x => s.moveIo n.geo x.1 x.2.1) s
      let s := s.chargeLeases ((moved.filterMap (fun p => p.lease.map (fun l => (l, p.stored)))) ++
        (if target = 2 then rs.filterMap (fun r => r.1.lease.map (fun l => (l, r.1.stored))) else []))
      let s := s.leaseUse
      if target = 3 then s.joinRun id else s

/-- A move whose target write failed: counted, reported with FAILED and FAULT, and an error record; the old copy stays (R207, Table
7-9). -/
def State.moveFailed (s : State) (b : Block) (n : Namespace) (first layers target : Nat) : State :=
  let p := (b.pages.find? (inLayers first layers)).getD (b.pages.headD ⟨0, 0, 0, 0, 0, false, false, 0, 0, [], none, 0, none, []⟩)
  let s := (s.bumpAt 0x08A 1 (some n.partition) (some n.index)).report n.partition
    ⟨n.handle, b.k, 1, first, layers, b.slowest, target, 0x0E, 128 + p.flags, 0⟩
  s.log { cls := .recovered, code := 0x0141, locus := tierLocus target p.home (s.channelFor n.partition b.id p.layer), tag := none, object := some n.handle, addr := none, detail := b.k, poison := false }

/-! ### The queue of moves -/

/-- Is a move of this reason a promotion (Table 7-6)? -/
def upReason (reason : Nat) : Bool := [0x04, 0x05, 0x06, 0x07, 0x08, 0x0A].contains reason

/-- The number of a move among the tasks of the device that take buffers (R84). -/
def Move.task (m : Move) : Nat := 4 * m.id

/-- A move of blocks queued, if there are any. -/
def State.queueMove (s : State) (blocks : List Nat) (layered : Bool) (target reason : Nat) (latency : Bool) : State :=
  if blocks.isEmpty then s else s.addMove (.ofBlocks blocks layered target reason latency (upReason reason))

/-- A promotion queued under any reason (R501). -/
def State.queueRaise (s : State) (blocks : List Nat) (target reason : Nat) : State :=
  if blocks.isEmpty then s else s.addMove (.ofBlocks blocks false target reason false true)

/-! ### Making room (R200) -/

/-- The blocks of a partition in a tier that may make room, latest predicted next use first: those predicted later than the block
that needs it, or every one for a tail (R121, R200). -/
def State.colder (s : State) (part t : Nat) (use : Option (Option Nat)) (carried : List Nat) : List Block :=
  let l := s.store.blocks.filter (fun b => b.sealed && !carried.contains b.id && b.pages.any (·.tier == t) &&
    (s.nsOf b).any (·.partition == part) && t < s.pinTier b.id && use.all (later (s.nextUse b)))
  sortBy (fun a b => !later (s.nextUse b) (s.nextUse a)) l

/-- One colder block moved out of a tier; in a DROP namespace a block that would go below the lowest tier is dropped. -/
def State.pushOut (s : State) (b : Block) (t reason : Nat) : State :=
  match s.nsOf b with
  | none => s
  | some n =>
    match s.demoteTarget n b t 3 with
    | some u => s.movePages b.id 0 n.geo.l u ⟨false, reason, false, none, 4⟩ true
    | none =>
      if n.dropClass && n.lowest ≤ t && !s.guarded b.id then s.dropBlock b.id 0x0C else s

/-- Colder blocks of the partition leave a tier until `n` more bytes fit (R200); `ok` says when they do. -/
def State.makeRoom (ok : State → Bool) (s : State) (part t : Nat) (use : Option (Option Nat)) (carried : List Nat) (reason : Nat) :
    State :=
  (s.colder part t use carried).foldl (fun s b => if ok s then s else s.pushOut b t reason) s

/-- Room for a move of a block into a tier: colder blocks move first where a limit stands in the way (R200). -/
def State.roomForMove (s : State) (part t n : Nat) (use : Option Nat) (carried : List Nat) : State :=
  if s.limitOk part t n then s else s.makeRoom (fun s => s.limitOk part t n) part t (some use) carried 0x03

/-- Deck room for tails and unsealed blocks of a partition: sealed blocks move down as far as they can (R121, R200). -/
def State.roomForTail (s : State) (part n : Nat) : State :=
  if s.room part 0 n then s
  else s.makeRoom (fun s => s.room part 0 n) part 0 none [] 0x03

/-! ### Absent blocks (R123) -/

/-- The RECOMPUTE result for the indices `first .. first + count - 1` that `gone` names: the first, the length of its
range, the number of ranges; none when it names none. -/
def missingOf (gone : Nat → Bool) (first count : Nat) : Option Nat :=
  let idx := (List.range count).map (· + first)
  match idx.filter gone with
  | [] => none
  | f :: _ =>
    let len := ((idx.filter (fun i => f ≤ i)).takeWhile gone).length
    let starts := (idx.filter (fun i => gone i && !(first < i && gone (i - 1)))).length
    some (f % 2 ^ 32 + min len 0xFFFFFF * 2 ^ 32 + min starts 255 * 2 ^ 56)

/-- Is the reference a dropped block? -/
def BRef.isDropped : BRef → Bool
  | .dropped .. => true
  | .held _ | .left _ => false

/-- The RECOMPUTE result for the dropped blocks of a range of a version (R123). -/
def missingResult (refs : List BRef) (first count : Nat) : Option Nat :=
  missingOf (fun i => (refs[i]?).any BRef.isDropped) first count

end Sys2Proof.Machine
end

