-- ==== Sys2Proof/Machine/Sealing.lean ====
section
/-! DEFINITION. Sealing.lean: chains, their open tails, and sealing a block: alone, or by the two-phase insert of a stripe
group (R102 to R114, R120, R370 to R372). -/
namespace Sys2Proof.Machine

/-- A chain by its slot. -/
def State.chainAt (s : State) (slot : Nat) : Option Chain := s.store.chains.find? (·.slot == slot)

/-- `f` on a chain. -/
def State.updChain (s : State) (slot : Nat) (f : Chain → Chain) : State :=
  { s with store.chains := upd (·.slot == slot) f s.store.chains }

/-- The 32-bit handle of a chain (R104). -/
def Chain.handle (c : Chain) : Nat := mkHandle 20 c.slot c.gen

/-- The chain's namespace. -/
def State.chainNs (s : State) (c : Chain) : Option Namespace := s.nsAt c.view.ns c.view.gen

/-- Bytes of one unsealed block in the deck. -/
def Namespace.blockBytes (n : Namespace) : Nat := n.geo.l * n.alloc

/-- The read-only words of a control page change: the device recalls that line first (R109). -/
def State.touchControl (s : State) (c : Chain) (n : Namespace) : State :=
  match c.window with
  | some w => s.recallRange (w.base + 2 * n.slotS) 64 false
  | none => s

/-- The chain key of the block that a reference names. -/
def State.refKey (s : State) : BRef → Option (BitVec 128)
  | .held id => (s.block id).map (·.key)
  | .dropped key .. => some key
  | .left key => key

/-- The chain key of the block before the next one to seal; 0 for the root (R150). -/
def State.lastKey (s : State) (v : View) : BitVec 128 := ((v.refs.getLast?).bind s.refKey).getD 0

/-- The chain key of a position of a version, where it is still known. -/
def State.keyAt (s : State) (v : View) (i : Nat) : Option (BitVec 128) := (v.refs[i]?).bind s.refKey

/-! ### Sealing alone (R112 to R114) -/

/-- The block of a chain that is sealed next takes its place among the references. -/
def State.chainSealed (s : State) (slot id ref : Nat) : State :=
  let s := s.updChain slot (fun c => { c with
    view.refs := c.view.refs ++ [.held ref]
    view.unsealed := c.view.unsealed.filter (· != id)
    view.version := c.view.version + 1 })
  match (s.chainAt slot).bind (fun c => (s.chainNs c).map (fun n => (c, n))) with
  | some (c, n) => s.touchControl c n
  | none => s

/-- The pages, header fields and record of a sealed block, each page with the home pier that the seal fixes (R195). -/
def State.sealRecord (s : State) (n : Namespace) (id version : Nat) : State :=
  s.updBlock id (fun b => { b with
    sealed := true
    prepared := false
    tokens := if n.tokenStore then b.tokenIds n.geo.b else []
    pages := b.pages.map (fun p => { s.sealPage n p version with home := s.homePier n b.k p.layer })
    lastHit := s.clock.now })

/-- A block in a chain is sealed: it dedups onto `dup`, or it is sealed and indexed unless the group left it out; the
block of a refill takes the place of the dropped one (R112, R114, R124, R370). -/
def State.finishSeal (s : State) (n : Namespace) (slot id : Nat) (dup : Option Nat) (index : Bool) : State :=
  match s.chainAt slot, s.block id with
  | some c, some b =>
    let keep := dup.getD id
    let version := match c.view.refs[b.k]? with
      | some (.dropped _ _ v _ _) => v + 1
      | _ => 1
    let s := match dup with
      | some _ => s.updBlock id (fun b => { b with prepared := false })
      | none =>
        let s := s.sealRecord n id version
        let s := match s.block id with
          | some b => if index then s.indexBlock n b (n.width != 8) else s.leftUnindexed b
          | none => s
        if n.initialTier = 0 then s else s.queueMove [id] false n.initialTier 0x09 false
    let s := if c.view.unsealed.contains id then s.chainSealed slot id keep
      else s.updChain slot (fun c => { c with view.refs := c.view.refs.set b.k (.held keep) })
    s.gc
  | _, some _ => (s.updBlock id (fun b => { b with prepared := false })).gc
  | _, none => s

/-- The key, parent and sink key of a block about to be sealed (R150, R164). -/
def State.keyBlock (s : State) (n : Namespace) (c : Chain) (id : Nat) (tokens : List Nat) : State :=
  let parent := s.lastKey c.view
  let key := chainKey n.salt parent tokens
  let sink := match s.block id with
    | some b => if n.window = 0 || n.sinks = 0 then none
        else if b.k + 1 = n.sinks then some key
        else if n.sinks ≤ b.k then s.keyAt c.view (n.sinks - 1) else none
    | none => none
  s.updBlock id (fun b => { b with
    parent := parent
    key := key
    sinkKey := match sink with
      | some k => some k
      | none => (c.view.refs.findSome? (fun r => r.block.bind (fun x => (s.block x).bind (·.sinkKey))))
    tokens := tokens })

/-! ### The two-phase insert (R370, R371) -/

/-- A prepared block is done with. -/
def State.unprepare (s : State) (g : GroupBlock) : State :=
  { s with grp.prepared := s.grp.prepared.filter (fun p => p.block != g) }

/-- What a seal driver answers for a list of blocks: all sealed, waiting for a vote, the group's refusal, or token IDs that are
poisoned, which no chain key takes in (R422). -/
inductive SealOut where
  | done (s : State)
  | voting (s : State)
  | degraded (result : Nat) (s : State)
  | poisoned (s : State)

/-- Phase one on this member: the block is PREPARED; the vote goes to the leader (R370). -/
def State.prepare (s : State) (n : Namespace) (slot id : Nat) (op : Option Nat) : State :=
  match s.block id with
  | none => s
  | some b =>
    let dup := (s.findKey n b.key).map (·.id)
    let full := dup.isNone && (match s.bankFor n b.key with
      | some bank => s.bankFree bank = 0
      | none => true)
    let g := groupName n b
    let p : Prepared := ⟨g, slot, id, op, dup, s.clock.now⟩
    let s := { s.updBlock id (fun b => { b with prepared := true }) with grp.prepared := s.grp.prepared ++ [p] }
    let s := s.bumpAt 0x2C0 1 (some n.partition) (some n.index)
    s.toLeader n msgVote g (b2n dup.isSome + 2 * b2n full)

/-- The ballot of a block at the leader after a member's vote; a first vote starts it. -/
def State.castVote (s : State) (m : Nat) (g : GroupBlock) (full : Bool) : State :=
  match s.grp.ballots.find? (·.block == g) with
  | some _ =>
    { s with grp.ballots := upd (·.block == g) (fun b : Ballot => { b with votes := Nat.lor b.votes (2 ^ m), full := b.full || full }) s.grp.ballots }
  | none => { s with grp.ballots := s.grp.ballots ++ [⟨g, 2 ^ m, full, s.clock.now, s.stg.epoch⟩] }

/-- The partner table of an insert's epoch (R86, Table 13-6). -/
def State.tableOf (s : State) (epoch : Nat) : List Item := if epoch < s.stg.epoch then s.stg.old else s.stg.live

/-- Does an insert that began under the epoch before take the vote of this slot by its own partner table (Table 13-6)? -/
def State.oldVote (s : State) (slot : Nat) (g : GroupBlock) : Bool :=
  s.grp.ballots.any (fun b => b.block == g && b.epoch < s.stg.epoch &&
    (trayPartners s.stg.old s.slot).any (fun i => partnerMember s.stg.old i == slot))

/-- The leader's decision goes to the members of the insert's own partner table, and its ballot is over (R370, Table 13-6). -/
def State.closeBallot (s : State) (g : GroupBlock) (kind value : Nat) : State :=
  let table := s.tableOf ((s.grp.ballots.find? (·.block == g)).elim s.stg.epoch (·.epoch))
  let s := (trayPartners table s.slot).foldl (fun s i => s.emit (.partner i kind (some g) value)) s
  { s with grp.ballots := s.grp.ballots.filter (fun x => x.block != g) }

/-- The vote of this device itself, where it leads. -/
def State.ownVote (s : State) (n : Namespace) (g : GroupBlock) : State :=
  if s.leads n then
    match s.grp.prepared.find? (·.block == g) with
    | some p => s.castVote s.slot g (p.dup.isNone && (match s.bankFor n g.key with
        | some bank => s.bankFree bank = 0
        | none => true))
    | none => s
  else s

/-- Has the leader eight matching votes?  Then the ballot's FULL flag. -/
def State.decided (s : State) (g : GroupBlock) : Option Bool :=
  match s.grp.ballots.find? (·.block == g) with
  | some b => if b.votes % 256 = 255 then some b.full else none
  | none => none

/-- Phase two on this member (R370). -/
def State.commitBlock (s : State) (g : GroupBlock) (unindexed : Bool) : State :=
  match s.grp.prepared.find? (·.block == g), s.groupNs g.salt with
  | some p, some n =>
    let s := (s.unprepare g).bumpAt 0x2C1 1 (some n.partition) (some n.index)
    let s := s.updBlock p.id (fun b => { b with groupVersion := g.version })
    s.finishSeal n p.chain p.id p.dup (!unindexed)
  | _, _ => s

/-- Does another operation already hold the block to seal it: two SEALs on one chain seal disjoint blocks (R112)? -/
def State.claimed1 (s : State) (tag id : Nat) : Bool :=
  s.q.ops.any (fun x => x.tag != tag && (match x.work with
    | .sealing _ l _ => l.contains id
    | _ => false))

/-- The block that an operation seals next: its own once it is the oldest unsealed one; the oldest where the operation that had that
one has ended without sealing it; none while it must wait its turn (R112). -/
def State.sealTurn (s : State) (tag : Nat) (c : Chain) (id : Nat) : Option Nat :=
  match c.view.unsealed with
  | [] => some id
  | first :: _ =>
    if !c.view.unsealed.contains id || first = id then some id
    else if s.claimed1 tag first then none else some first

/-- Progress of an operation that seals: one more block, deduplicated or not. -/
def Op.sealed1 (o : Op) (dup : Bool) : Op := match o.work with
  | .sealing c (_ :: rest) i => { o with work := .sealing c rest (i + 1), result := o.result + b2n dup * 2 ^ (32 + i) }
  | _ => o

/-- The blocks in an operation's hands sealed one after another; a group member stops at its vote.  `n` bounds them. -/
def sealLoop (tag : Nat) (s : State) : Nat → SealOut
  | 0 => .done s
  | fuel + 1 =>
    match s.op tag with
    | none => .done s
    | some o =>
      match o.work with
      | .sealing slot (own :: _) _ =>
        (match (s.chainAt slot).map (fun c => (c, s.sealTurn tag c own)) with
        | none => .done s
        | some (_, none) => .voting s
        | some (c, some id) =>
        match s.block id, s.chainNs c with
        | some b, some n =>
            if b.tokensBad then .poisoned s else
            let s := if c.view.unsealed.contains id then s.keyBlock n c id (b.tokenIds n.geo.b) else s
            if n.width = 8 then
              if !n.active then .degraded (s.groupResult n) s
              else
                let s := s.prepare n slot id (some tag)
                let g := (s.block id).elim ⟨n.salt, b.k, b.key, b.groupVersion⟩ (groupName n)
                let s := s.ownVote n g
                match s.decided g with
                | some full =>
                  let s := s.closeBallot g msgCommit (b2n full)
                  let dup := (s.grp.prepared.find? (·.block == g)).any (·.dup.isSome)
                  sealLoop tag ((s.commitBlock g full).setOp tag (fun o => o.sealed1 dup)) fuel
                | none => .voting s
            else
              let dup := (s.block id).bind (fun b => s.findKey n b.key)
              let s := s.finishSeal n slot id (dup.map (·.id)) true
              sealLoop tag (s.setOp tag (fun o => o.sealed1 dup.isSome)) fuel
        | _, _ => .done s)
      | _ => .done s

/-- The answer of a sealing operation: SEAL gives s, INSERT_BLOCK gives N, each with its DEDUP bits (Table 4-8). -/
def sealAnswer (o : Op) (s : State) : BodyOut :=
  match sealLoop o.tag s 3 with
  | .voting s => .wait .vote s
  | .degraded r s => .done .groupDegraded r s
  | .poisoned s => .done .poisoned 0 s
  | .done s =>
    let o := (s.op o.tag).getD o
    match o.work with
    | .sealing slot _ _ =>
      let v := (s.chainAt slot).map (·.view)
      .done .ok (o.result + v.elim 0 (fun v => if o.opcode = 0x3B then v.refs.length else v.n)) s
    | _ => .done .ok o.result s

/-- AUTOSEAL: the full blocks of a chain sealed in order, by the slot's or the record's token IDs (R113); a group member
votes for the first and waits outside ACTIVE (Table 13-5). -/
def autoseal (slot : Nat) (s : State) : Nat → State
  | 0 => s
  | fuel + 1 =>
    match (s.chainAt slot).bind (fun c => (s.chainNs c).map (fun n => (c, n))) with
    | none => s
    | some (c, n) =>
      match (if n.autoseal then c.view.unsealed else []), n.active with
      | id :: _, true =>
        (match s.block id with
        | none => s
        | some b =>
          if b.prepared || b.tokensBad then s
          else
            let s := s.keyBlock n c id (b.tokenIds n.geo.b)
            if n.width = 8 then
              let s := s.prepare n slot id none
              let g := (s.block id).elim ⟨n.salt, b.k, b.key, b.groupVersion⟩ (groupName n)
              let s := s.ownVote n g
              match s.decided g with
              | some full =>
                let s := s.closeBallot g msgCommit (b2n full)
                autoseal slot (s.commitBlock g full) fuel
              | none => s
            else
              let dup := (s.block id).bind (fun b => s.findKey n b.key)
              autoseal slot (s.finishSeal n slot id (dup.map (·.id)) true) fuel)
      | _, _ => s

/-- After a COMMIT of a block: the command that seals it goes on, or the chain's next AUTOSEAL starts (R370). -/
def State.afterCommit (s : State) (p : Prepared) : State :=
  match p.op with
  | some tag =>
    let s := s.setOp tag (fun o => o.sealed1 p.dup.isSome)
    match s.op tag with
    | some o => if o.wait == .vote then State.settle tag (sealAnswer o s) else s
    | none => s
  | none => autoseal p.chain s 3

/-- A group COMMIT carried out on this member. -/
def State.groupCommit (s : State) (g : GroupBlock) (unindexed : Bool) : State :=
  match s.grp.prepared.find? (·.block == g) with
  | some p => (s.commitBlock g unindexed).afterCommit p
  | none => s

/-- A group ABORT carried out on this member: the block stays full and unsealed, the command ends with GROUP_DEGRADED
(R371). -/
def State.groupAbort (s : State) (g : GroupBlock) : State :=
  match s.grp.prepared.find? (·.block == g) with
  | none => s
  | some p =>
    let s := (s.unprepare g).updBlock p.id (fun b => { b with prepared := false })
    let n := s.groupNs g.salt
    let s := s.bumpAt 0x2C2 1 (n.map (·.partition)) (n.map (·.index))
    let s := match p.op with
      | some tag => s.finish tag .groupDegraded (n.elim 0 s.groupResult)
      | none => s
    s.gc

/-! ### Tails (R102, R108, R110, R120, R121) -/

/-- A fresh unsealed block where the deck has room, after colder blocks have made it. -/
def State.openBlock (s : State) (n : Namespace) (k : Nat) : Option (Nat × State) :=
  let t := s.roomForTail n.partition n.blockBytes
  if t.room n.partition 0 n.blockBytes then some (t.addBlock n k) else none

/-- A fresh unsealed block for a chain's next tail: in the pages of a block that has just left a DROP namespace's chain, which stay
counted and need no room, or with room of its own (R120). -/
def State.openTail (s : State) (n : Namespace) (k : Nat) (reuse : Bool) : Option (Nat × State) :=
  if reuse then some (s.addBlock n k) else s.openBlock n k

/-- The blocks of a chain that have left its window (R120); a DROP namespace frees those that nothing else refers to.  Also: how many
of those freed had all their pages in the deck, for the chain's next tails. -/
def State.slide (s : State) (n : Namespace) (slot : Nat) : State × Nat :=
  if n.window = 0 then (s, 0)
  else match s.chainAt slot with
  | none => (s, 0)
  | some c =>
    let t := c.view.n / n.geo.b
    let out := fun i => n.sinks ≤ i && i + n.window + 1 ≤ t
    let ids := (c.view.refs.zipIdx.filter (fun x => out x.2)).filterMap (·.1.block)
    let s := s.updChain slot (fun c => { c with
      view.refs := c.view.refs.zipIdx.map (fun x => if out x.2 then .left (s.refKey x.1) else x.1) })
    let free := fun (s : State) (id : Nat) => if n.dropClass && s.evictable id && n.width != 8 then s.unindex id else s
    let t := (ids.foldl free s).gc
    let gone := fun id => (t.block id).isNone && (s.block id).any (fun b => b.slowest = 0)
    (t, if n.dropClass then (ids.filter gone).length else 0)

/-- A slot of a window begins to rebind: its lines are recalled, and it ends within 10 µs (R108). -/
def State.rebind (s : State) (slot k : Nat) : State :=
  match (s.chainAt slot).bind (fun c => (s.chainNs c).map (fun n => (c, n))) with
  | some (c, n) =>
    (match c.window with
    | some w =>
      let i := k % 2
      let s := s.recallRange (w.base + i * n.slotS) n.slotS false
      let w := { w with rebinding := (i, s.clock.now + 10000) :: w.rebinding.filter (·.1 != i) }
      s.updChain slot (fun c => { c with window := some w })
    | none => s)
  | none => s

/-- The open tail has become full: it joins the unsealed blocks, the next block becomes the tail, and with a window the
filled slot takes fresh pages for the block after it (R108). -/
def State.rollTail (s : State) (n : Namespace) (slot : Nat) (reuse : Bool) : Option State :=
  match s.chainAt slot with
  | none => none
  | some c =>
    match c.view.tail with
    | none => none
    | some full =>
      let t := c.view.refs.length + c.view.unsealed.length
      let base := fun c : Chain => { c with view.unsealed := c.view.unsealed ++ [full] }
      match c.next, c.window with
      | some nx, some _ =>
        (match s.openTail n (t + 2) reuse with
        | some (id, s) =>
          some ((s.updChain slot (fun c => { base c with view.tail := some nx, next := some id })).rebind slot t)
        | none => none)
      | some nx, none => some (s.updChain slot (fun c => { base c with view.tail := some nx, next := none }))
      | none, _ =>
        (match s.openTail n (t + 1) reuse with
        | some (id, s) => some ((s.updChain slot (fun c => { base c with view.tail := some id })).rebind slot t)
        | none => none)

/-- Tails rolled until the block of N is open, the first `reuse` of them in pages of blocks that left the window; `fuel` bounds them. -/
def rollTo (n : Namespace) (slot : Nat) (s : State) (reuse : Nat) : Nat → Option State
  | 0 => some s
  | fuel + 1 =>
    match s.chainAt slot with
    | none => none
    | some c =>
      if (c.view.refs.length + c.view.unsealed.length + 1) * n.geo.b ≤ c.view.n then
        (s.rollTail n slot (reuse != 0)).bind (fun s => rollTo n slot s (reuse - 1) fuel)
      else some s

/-- The status a new N would be refused with (R110). -/
def Chain.refusesN (c : Chain) (n : Namespace) (v : Nat) : Option Status :=
  let t := c.view.n / n.geo.b
  if v < c.view.n || (t + 2) * n.geo.b < v then some .outOfRange
  else if 2 < c.view.unsealed.length + (v / n.geo.b - t) then some .quotaExceeded
  else none

/-- N advances (R103, R108, R110, R120): the state, or the status of the refusal. -/
def State.advance (s : State) (n : Namespace) (slot v : Nat) : Except Status State :=
  match s.chainAt slot with
  | none => .error .badHandle
  | some c =>
    match c.refusesN n v with
    | some st => .error st
    | none =>
      if v = c.view.n then .ok s
      else
        let t := (s.updChain slot (fun c => { c with view.n := v, view.version := c.view.version + 1 })).slide n slot
        match rollTo n slot t.1 t.2 2 with
        | none => .error .quotaExceeded
        | some t => .ok (autoseal slot (match t.chainAt slot with
          | some c => t.touchControl c n
          | none => t) 3)

end Sys2Proof.Machine
end

