-- ==== Sys2Proof/Machine/Chains.lean ====
section
/-! DEFINITION. Chains.lean: the chain commands, tail windows, snapshots and pins (Namespaces, KV pages, chains and versions,
R102 to R125). -/
namespace Sys2Proof.Machine

/-! ### Handles (R94, R104) -/

/-- A namespace by its handle, also while its deletion runs: an operation accepted before it goes on (Table 4-6). -/
def State.nsAny (s : State) (h : Nat) : Option Namespace :=
  s.store.namespaces.find? (fun n => mkHandle 12 n.index n.gen == h)

/-- A chain of a namespace by its handle. -/
def State.chainOf (s : State) (n : Namespace) (h : Nat) : Option Chain :=
  s.store.chains.find? (fun c => c.handle == h && c.view.ns == n.index && c.view.gen == n.gen)

/-- A snapshot of a namespace by its handle. -/
def State.snapOf (s : State) (n : Namespace) (h : Nat) : Option Snapshot :=
  s.store.snapshots.find? (fun x => mkHandle 18 x.slot x.gen == h && x.view.ns == n.index && x.view.gen == n.gen)

/-- Does a long FORK still fill the chain (R116)? -/
def State.filling (s : State) (c : Chain) : Bool := c.forkWait.any (fun t => (s.op t).isSome)

/-- The version a command reads: a chain's current one or a snapshot's (R103, R104). -/
inductive Named where
  | view (v : View)
  | refused (st : Status)
  | busy
  deriving DecidableEq, Repr

/-- The version that a handle of a type names: 0 chain, 1 snapshot. -/
def State.named (s : State) (n : Namespace) (h type : Nat) : Named :=
  if type = 0 then
    match s.chainOf n h with
    | some c => if s.filling c then .busy else .view c.view
    | none => .refused .badHandle
  else if type = 1 then
    match s.snapOf n h with
    | some x => if x.expired then .refused .versionGone else .view x.view
    | none => .refused .badHandle
  else .refused .badParam

/-- The RECOMPUTE that a truncated chain gives once to the next command that names it (R419). -/
def Chain.lostOnce (c : Chain) : Option Nat :=
  c.lost.map (fun x => x.1 + min x.2 0xFFFFFF * 2 ^ 32 + 2 ^ 56)

/-- A command names a chain: it completes once with RECOMPUTE after a truncation by a fault (R419), waits while a long
FORK fills the chain, and else goes on. -/
def State.onChain (s : State) (c : Chain) (k : BodyOut) : BodyOut :=
  match c.lostOnce with
  | some r => .done .recompute r
      { s with store.chains := upd (·.slot == c.slot) (fun c => { c with lost := none }) s.store.chains }
  | none => if s.filling c then .wait .ended s else k

/-- A command that names its namespace. -/
def State.withNs (s : State) (o : Op) (k : Namespace → BodyOut) : BodyOut := match s.nsAny o.handle with
  | some n => k n
  | none => .done .badHandle 0 s

/-- A command that names a chain in bytes 8-11; it waits while a long FORK fills that chain. -/
def State.withChain (s : State) (o : Op) (k : Namespace → Chain → BodyOut) : BodyOut :=
  s.withNs o (fun n => match s.chainOf n (o.p 8 4) with
    | some c => s.onChain c (k n c)
    | none => .done .badHandle 0 s)

/-- A command that names a version: bytes 8-11 the handle, byte 12 its type. -/
def State.withView (s : State) (o : Op) (k : Namespace → View → BodyOut) : BodyOut :=
  s.withNs o (fun n =>
    let go := match o.view with
      | some v => k n v
      | none => match s.named n (o.p 8 4) (o.p 12 1) with
        | .view v => k n v
        | .refused st => .done st 0 s
        | .busy => .wait .ended s
    match (if o.p 12 1 = 0 then s.chainOf n (o.p 8 4) else none) with
    | some c => s.onChain c go
    | none => go)

/-- Blocks that a version covers, the open tail with committed tokens included. -/
def View.count (v : View) (b : Nat) : Nat := max (v.refs.length + v.unsealed.length) (cdiv v.n b)

/-- The block that a version has at a position. -/
def View.blockAt (v : View) (i : Nat) : Option Nat :=
  match v.refs[i]? with
  | some (.held b) => some b
  | some _ => none
  | none => match v.unsealed[i - v.refs.length]? with
    | some b => some b
    | none => if i = v.refs.length + v.unsealed.length then v.tail else none

/-- The committed tokens of block `k` in a version. -/
def View.tokensIn (v : View) (b k : Nat) : Nat := min b (v.n - k * b)

/-! ### Making chains -/

/-- A free chain slot with the generation it takes; none at the limit of 1,048,576 (R104). -/
def State.newChainSlot (s : State) : Option (Nat × Nat) :=
  (lowestFree (s.store.chains.map (·.slot)) 0 (min 1048576 (s.store.chains.length + 1))).map (fun i =>
    (i, nextGen 12 (assoc s.store.chainGens i 0)))

/-- A chain added. -/
def State.addChain (s : State) (slot gen : Nat) (v : View) (forkWait : Option Nat) : State :=
  { s with
    store.chains := s.store.chains ++ [⟨slot, gen, v, none, none, forkWait, none, 0⟩]
    store.chainGens := assocSet s.store.chainGens slot gen }

/-- A chain opened over references, with a fresh tail. -/
def State.openChain (s : State) (n : Namespace) (refs : List BRef) : Option (Nat × State) :=
  match s.newChainSlot, s.openBlock n refs.length with
  | some (slot, gen), some (id, t) =>
    some (mkHandle 20 slot gen,
      t.addChain slot gen ⟨n.index, n.gen, refs, [], some id, refs.length * n.geo.b, 1⟩ none)
  | _, _ => none

/-- `count` held blocks that end at the block of `key` at position `k`, walking parent keys back, in ascending order; `kept` blocks
count as held whether or not the index still holds them. -/
def walkBack (s : State) (n : Namespace) (kept : List Nat) (key : BitVec 128) (k : Nat) : Nat → Option (List Nat)
  | 0 => some []
  | count + 1 =>
    match s.keptBlock n kept key k with
    | none => none
    | some b => if k = 0 then (if count = 0 then some [b.id] else none)
      else (walkBack s n kept b.parent (k - 1) count).map (fun l => l ++ [b.id])

/-- The references of a chain opened at depth `d` behind the block `last`: every block, or in a windowed namespace the
sinks and the last W (R120).  A probe under OPEN keeps the blocks it verified (R163). -/
def State.refsAt (s : State) (n : Namespace) (kept : List Nat) (last : Block) (d : Nat) : Option (List BRef) :=
  let lowest := if n.window = 0 || d ≤ n.sinks then 0 else max n.sinks (d - n.window)
  match walkBack s n kept last.key (d - 1) (d - lowest) with
  | none => none
  | some win =>
    if lowest = 0 then some (win.map .held)
    else if n.sinks = 0 then some (List.replicate lowest (.left none) ++ win.map .held)
    else match last.sinkKey with
      | none => none
      | some k => (walkBack s n kept k (n.sinks - 1) n.sinks).map (fun l =>
          l.map .held ++ List.replicate (lowest - n.sinks) (.left none) ++ win.map .held)

/-- OPEN_CHAIN (R120, R163, Table 4-8). -/
def bodyOpenChain (o : Op) (s : State) : BodyOut :=
  s.withNs o (fun n =>
    let key := BitVec.ofNat 128 (o.p 8 16)
    let d := o.p 24 4
    if !n.active then .done .groupDegraded (s.groupResult n) s
    else if d = 0 then
      if key != 0 then .done .badParam 0 s
      else match s.openChain n [] with
        | some (h, s) => .done .ok h s
        | none => .done .quotaExceeded 0 s
    else
      let found := match s.findKey n key with
        | some b => if b.k + 1 = d then some b else none
        | none => none
      match found.bind (fun b => s.refsAt n [] b d) with
      | none => .done .versionGone 0 s
      | some refs =>
        match s.openChain n refs with
        | some (h, t) => .done .ok (h + d * 2 ^ 32) (t.touchAll (refs.filterMap BRef.block))
        | none => .done .quotaExceeded 0 s)

/-- OPEN_CHAIN from a queue pair. -/
def execOpenChain (c : Cmd) (s : State) : Host.Outcome State Fault Refusal := .next (s.submit 0x38 bodyOpenChain c)

/-! ### INSERT_BLOCK (R106, R124) -/

/-- Source bytes of layers `first ..` of a block, read over the pair's link. -/
def readLayers (o : Op) (n : Namespace) (s : State) (first layers : Nat) : Except Xfer (List (List Byte)) :=
  (List.range layers).mapM (fun i =>
    s.hostRead (s.opFn o) (s.opFn o).link (o.buf + (first + i) * n.pageP) (n.geo.pageBytes n.geo.fmt))

/-- A block's token IDs from the source of INSERT_BLOCK. -/
def readTokens (o : Op) (n : Namespace) (s : State) (from_ count : Nat) : Except Xfer (List Nat) :=
  match s.hostRead (s.opFn o) (s.opFn o).link (o.buf + n.geo.l * n.pageP + 4 * from_) (4 * count) with
  | .error e => .error e
  | .ok b => .ok ((chunks 4 count b).map leNat)

/-- The read requests of an INSERT_BLOCK's source. -/
def State.readSource (s : State) (o : Op) (n : Namespace) (from_ count first layers : Nat) : State :=
  (List.range layers).foldl (fun s i => s.readFor o (o.buf + (first + i) * n.pageP) (n.geo.pageBytes n.geo.fmt))
    (s.readFor o (o.buf + n.geo.l * n.pageP + 4 * from_) (4 * count))

/-- Bytes written to the deck at the home piers of a block's layers (Table 16-2). -/
def State.pagesWritten (s : State) (id first layers bytes : Nat) : State :=
  (((s.block id).elim [] (·.pages)).filter (fun p => p.tier = 0 && inLayers first layers p)).foldl (fun s p => s.pierIo p.home bytes 0) s

/-- The rows of the named tokens and layers written into a block. -/
def Block.insertRows (b : Block) (n : Namespace) (first from_ count : Nat) (data : List (List Byte)) (toks : List Nat) :
    Block :=
  { b.setTokens from_ n.geo.b toks with
    pages := b.pages.map (fun p => match data[p.layer - first]? with
      | some d => if first ≤ p.layer then p.copyRows n.geo d from_ count else p
      | none => p) }

/-- The block of a chain that holds writable position block `k`: the tail, or the one after it, made if need be. -/
def State.writableBlock (s : State) (n : Namespace) (c : Chain) (k : Nat) : Except Status (Nat × State) :=
  let t := c.view.refs.length + c.view.unsealed.length
  if k = t then (match c.view.tail with
    | some id => .ok (id, s)
    | none => .error .badHandle)
  else if k = t + 1 then
    match c.next with
    | some id => .ok (id, s)
    | none => match s.openBlock n k with
      | some (id, s) => .ok (id, s.updChain c.slot (fun c => { c with next := some id }))
      | none => .error .quotaExceeded
  else .error .outOfRange

/-- What follows the copy of INSERT_BLOCK: COMMIT, then SEAL_AFTER (Table 4-8). -/
def insertEnd (o : Op) (n : Namespace) (slot : Nat) (s : State) : BodyOut :=
  let last := o.p 12 4 + o.p 16 2
  match (if bit (o.p 18 1) 0 then s.advance n slot last else .ok s) with
  | .error st => .done st ((s.chainAt slot).elim 0 (·.view.n)) s
  | .ok s =>
    match s.chainAt slot with
    | none => .done .badHandle 0 s
    | some c =>
      if bit (o.p 18 1) 1 && !n.autoseal then
        match c.view.unsealed.filter (fun i => !s.claimed1 o.tag i) with
        | [] => .done .outOfRange 0 s
        | id :: _ => sealAnswer o (s.setOp o.tag (fun o => { o with work := .sealing slot [id] 0, result := 0 }))
      else .done .ok c.view.n s

/-- INSERT_BLOCK with REFILL (R124): the dropped block restored, if its recomputed key is the recorded one. -/
def refill (o : Op) (n : Namespace) (c : Chain) (s : State) : BodyOut :=
  let k := o.p 12 4 / n.geo.b
  if o.p 12 4 % n.geo.b != 0 || o.p 16 2 != n.geo.b || o.p 20 2 != 0 || !(o.p 22 2 = 0 || o.p 22 2 = n.geo.l) then
    .done .badParam 0 s
  else match c.view.refs[k]? with
  | none => .done .outOfRange 0 s
  | some (.dropped key parent _ group _) =>
    match readTokens o n s 0 n.geo.b, readLayers o n s 0 n.geo.l with
    | .ok toks, .ok data =>
      let s := s.readSource o n 0 n.geo.b 0 n.geo.l
      if chainKey n.salt parent toks != key then .done .integrityError 0 s
      else if n.width != 8 && (s.findKey n key).isSome then
        let s := s.updChain c.slot (fun c => { c with view.refs := c.view.refs.set k (match s.findKey n key with
          | some b => .held b.id
          | none => .left (some key)) })
        .done .ok (c.view.n + 2 ^ 32) s
      else match s.openBlock n k with
        | none => .done .quotaExceeded 0 s
        | some (id, s) =>
          let s := (s.pagesWritten id 0 n.geo.l (n.geo.pageBytes n.geo.fmt)).updBlock id (fun b => { b.insertRows n 0 0 n.geo.b data toks with
            key := key, parent := parent, groupVersion := group + 1, sinkKey := (c.view.refs.findSome? (fun r => r.block.bind (fun x => (s.block x).bind (·.sinkKey)))) })
          sealAnswer o (s.setOp o.tag (fun o => { o with work := .sealing c.slot [id] 0, result := 0 }))
    | .error e, _ => e.answer s
    | _, .error e => e.answer s
  | some _ => .done .immutable 0 s

/-- INSERT_BLOCK (R106, R110, R124, Table 4-8). -/
def bodyInsertBlock (o : Op) (s : State) : BodyOut :=
  match o.work with
  | .sealing .. => sealAnswer o s
  | _ => s.withChain o (fun n c =>
    let pos := o.p 12 4
    let count := o.p 16 2
    let flags := o.p 18 1
    let first := o.p 20 2
    let layers := if o.p 22 2 = 0 then n.geo.l - first else o.p 22 2
    let from_ := pos % n.geo.b
    if 8 ≤ flags || count = 0 || n.geo.b < from_ + count || (bit flags 2 && flags % 4 != 0) then .done .badParam 0 s
    else if n.geo.l ≤ first || n.geo.l < first + layers then .done .outOfRange 0 s
    else if (bit flags 1 || bit flags 2) && !n.active then .done .groupDegraded (s.groupResult n) s
    else if bit flags 2 then refill o n c s
    else if pos < c.view.n then .done .immutable 0 s
    else match s.writableBlock n c (pos / n.geo.b) with
      | .error st => .done st 0 s
      | .ok (id, s) =>
        match readTokens o n s from_ count, readLayers o n s first layers with
        | .ok toks, .ok data =>
          insertEnd o n c.slot (((s.readSource o n from_ count first layers).pagesWritten id first layers (n.geo.pageBytes n.geo.fmt * count / n.geo.b)).updBlock id (fun b => b.insertRows n first from_ count data toks))
        | .error e, _ => e.answer s
        | _, .error e => e.answer s)

/-- INSERT_BLOCK from a queue pair. -/
def execInsertBlock (c : Cmd) (s : State) : Host.Outcome State Fault Refusal := .next (s.submit 0x39 bodyInsertBlock c)

/-- APPEND_COMMIT (R110). -/
def bodyAppendCommit (o : Op) (s : State) : BodyOut :=
  s.withChain o (fun n c => match s.advance n c.slot (o.p 12 4) with
    | .ok t => .done .ok (o.p 12 4) t
    | .error st => .done st 0 s)

/-- APPEND_COMMIT from a queue pair. -/
def execAppendCommit (c : Cmd) (s : State) : Host.Outcome State Fault Refusal := .next (s.submit 0x3A bodyAppendCommit c)

/-- SEAL (R112, R113).  A count of 2 with a single full unsealed block left to seal completes with OUT_OF_RANGE and seals none, which
the manual leaves open (log entry 145). -/
def bodySeal (o : Op) (s : State) : BodyOut :=
  match o.work with
  | .sealing .. => sealAnswer o s
  | _ => s.withChain o (fun n c =>
    let count := o.p 12 1
    if count < 1 || 2 < count then .done .badParam 0 s
    else if n.autoseal then .done .denied 0 s
    else if !n.active then .done .groupDegraded (s.groupResult n) s
    else if (c.view.unsealed.filter (fun i => !s.claimed1 o.tag i)).length < count then .done .outOfRange 0 s
    else
      let ids := (c.view.unsealed.filter (fun i => !s.claimed1 o.tag i)).take count
      let go := fun s : State => sealAnswer o (s.setOp o.tag (fun o => { o with work := .sealing c.slot ids 0, result := 0 }))
      if o.buf = 0 then go s
      else s.withRead o o.buf (4 * n.geo.b * count) (fun b =>
        let toks := (chunks 4 (n.geo.b * count) b).map leNat
        go (ids.zipIdx.foldl (fun s x => s.updBlock x.1 (fun b =>
          b.setTokens 0 n.geo.b ((toks.drop (x.2 * n.geo.b)).take n.geo.b))) s)))

/-- SEAL from a queue pair. -/
def execSeal (c : Cmd) (s : State) : Host.Outcome State Fault Refusal := .next (s.submit 0x3B bodySeal c)

/-! ### Copies of tokens (R116, R117) -/

/-- A page's bytes in the namespace's own format (R141). -/
def Page.inFormat (p : Page) (g : Geo) : List Byte :=
  if p.fmt = g.fmt then p.data.read 0 (g.pageBytes g.fmt) else (g.convertPage p.fmt g.fmt p.rd).1

/-- The first `count` tokens of a block copied into a fresh one, poison with them. -/
def State.copyTokens (s : State) (n : Namespace) (src : Block) (dst count : Nat) : State :=
  let page := fun p : Page => match src.pages.find? (·.layer == p.layer) with
    | some q => { p.copyRows n.geo (q.inFormat n.geo) 0 count with poison := q.poison }
    | none => p
  s.updBlock dst (fun b => { b.setTokens 0 n.geo.b (src.tokenIds (min count src.tokens.length)) with
    tokensBad := src.tokensBad
    pages := b.pages.map page })

/-- A fresh unsealed block with the first `count` tokens of another. -/
def State.copyBlock (s : State) (n : Namespace) (src : Block) (k count : Nat) : Option (Nat × State) :=
  (s.openBlock n k).map (fun r => (r.1, r.2.copyTokens n src r.1 count))

/-- Fresh copies of blocks, in order from position `k`. -/
def copyBlocks (n : Namespace) (s : State) (k : Nat) : List (Block × Nat) → Option (List Nat × State)
  | [] => some ([], s)
  | x :: t => match s.copyBlock n x.1 k x.2 with
    | none => none
    | some (id, s) => (copyBlocks n s (k + 1) t).map (fun r => (id :: r.1, r.2))

/-! ### FORK (R116) -/

/-- What a fork copies of a version: its full unsealed blocks and its tail, each with its committed tokens; a version that
ends inside a sealed block has that block's tokens in the new tail. -/
def State.forkSource (s : State) (n : Namespace) (v : View) : List BRef × List (Block × Nat) :=
  let b := n.geo.b
  let whole := min v.refs.length (v.n / b)
  let ids := (List.range 3).filterMap (fun i => if (whole + i) * b < v.n then (v.blockAt (whole + i)).map (fun id => (id, v.tokensIn b (whole + i))) else none)
  (v.refs.take whole, ids.filterMap (fun x => (s.block x.1).map (fun bl => (bl, x.2))))

/-- The copies that a fork's last step makes, put into its chain. -/
def State.forkEnd (s : State) (n : Namespace) (v : View) (slot : Nat) : Option State :=
  let src := s.forkSource n v
  let r := src.1.length
  match copyBlocks n s r src.2 with
  | none => none
  | some (ids, t) =>
    let full := (src.2.filter (fun x => x.2 = n.geo.b)).length
    let made := if ids.length = full then (t.openBlock n (r + full)).map (fun x => (ids ++ [x.1], x.2)) else some (ids, t)
    made.map (fun m => (m.2.updChain slot (fun c => { c with
      view.refs := src.1
      view.unsealed := m.1.take full
      view.tail := m.1[full]?
      view.n := v.n
      forkWait := none })).gc)

/-- FORK (R116): short, or long above 1,024 sealed blocks. -/
def bodyFork (o : Op) (s : State) : BodyOut :=
  s.withView o (fun n v =>
    let k := v.n / n.geo.b
    if k < v.refs.length && v.n % n.geo.b != 0 && (v.blockAt k).isNone then
      .done .recompute ((missingResult v.refs k 1).getD k) s
    else
      let src := s.forkSource n v
      let s := s.setOp o.tag (fun o => { o with view := some v })
      match s.newChainSlot with
      | none => .done .quotaExceeded 0 s
      | some (slot, gen) =>
        let h := mkHandle 20 slot gen
        if src.1.length ≤ 1024 then
          let t := s.addChain slot gen ⟨n.index, n.gen, src.1, [], none, v.n, 1⟩ none
          match t.forkEnd n v slot with
          | some t => .done .ok h t
          | none => .done .quotaExceeded 0 s
        else match s.openBlock n 0 with
          | none => .done .quotaExceeded 0 s
          | some (id, s) =>
            .long (cdiv src.1.length 1024 + 1) h
              (s.addChain slot gen ⟨n.index, n.gen, [], [], some id, 0, 1⟩ (some o.tag)))

/-- A unit of a long FORK: up to 1,024 references, then the unsealed pages; at every moment the new chain is a prefix of
the source (R116). -/
def unitFork (o : Op) (s : State) : UnitOut :=
  let slot := handleSlot 20 o.result
  match o.view, (s.chainAt slot).bind (fun c => (s.chainNs c).map (fun n => (c, n))) with
  | some v, some (c, n) =>
    let src := (s.forkSource n v).1
    if o.unitsDone + 1 < o.unitsTotal then
      let r := min src.length ((o.unitsDone + 1) * 1024)
      let s := s.updChain slot (fun c => { c with view.refs := src.take r, view.n := r * n.geo.b })
      let s := match c.view.tail with
        | some id => s.updBlock id (fun b => { b with k := r })
        | none => s
      .more o.result r s
    else match s.forkEnd n v slot with
      | some s => .last .ok o.result src.length s
      | none => .cut .quotaExceeded o.result o.resume s
  | _, _ => .cut .badHandle o.result o.resume s

/-- FORK from a queue pair. -/
def execFork (c : Cmd) (s : State) : Host.Outcome State Fault Refusal := .next (s.submit 0x3C bodyFork c)

/-! ### Snapshots (R115) -/

/-- The version of a chain cut to a length. -/
def View.cut (v : View) (b len : Nat) : View :=
  let nb := cdiv len b
  let s := v.refs.length
  { v with
    refs := v.refs.take nb
    unsealed := v.unsealed.take (nb - s)
    tail := if s + v.unsealed.length < nb then v.tail else none
    n := len }

/-- A snapshot added; none at the limit of 262,144 (R104). -/
def State.addSnapshot (s : State) (v : View) (expires : Option Nat) (forRegion : Bool) : Option (Nat × State) :=
  match lowestFree (s.store.snapshots.map (·.slot)) 0 (min 262144 (s.store.snapshots.length + 1)) with
  | none => none
  | some i =>
    let gen := nextGen 14 (assoc s.store.snapGens i 0)
    some (mkHandle 18 i gen, { s with
      store.snapshots := s.store.snapshots ++ [⟨i, gen, v, expires, false, forRegion⟩]
      store.snapGens := assocSet s.store.snapGens i gen })

/-- OPEN_SNAPSHOT (R115). -/
def bodyOpenSnapshot (o : Op) (s : State) : BodyOut :=
  s.withChain o (fun n c =>
    let len := if o.p 12 4 = 0xFFFFFFFF then c.view.n else o.p 12 4
    if c.view.n < len then .done .outOfRange 0 s
    else
      let v := c.view.cut n.geo.b len
      let ttl := o.p 16 4
      match s.addSnapshot v (if ttl = 0 then none else some (s.clock.now + ttl * 1000000)) false with
      | some (h, s) => .done .ok (h + v.version % 2 ^ 32 * 2 ^ 32) (s.touchAll v.blocks)
      | none => .done .quotaExceeded 0 s)

/-- OPEN_SNAPSHOT from a queue pair. -/
def execOpenSnapshot (c : Cmd) (s : State) : Host.Outcome State Fault Refusal := .next (s.submit 0x3D bodyOpenSnapshot c)

/-- A snapshot's time to live passes: its references go, its slot stays (R115). -/
def execSnapshotExpiry (slot : Nat) (s : State) : Host.Outcome State Fault Refusal :=
  let due := fun x : Snapshot => x.slot == slot && !x.expired && x.expires.any (fun t => decide (t ≤ s.clock.now))
  .next ({ s with store.snapshots := upd due (fun x : Snapshot => { x with expired := true, view := { x.view with refs := [], unsealed := [], tail := none } }) s.store.snapshots }).gc

/-! ### TRUNCATE (R117) -/

/-- The blocks behind a list of references from the highest down: one that has left is reached by its own key, or by the parent
key of the block above it, while the device still holds it (R117, R120). -/
def State.heldDown (s : State) (n : Namespace) : List (BRef × Nat) → Option Block → List (Option Nat)
  | [], _ => []
  | (r, i) :: t, above =>
    let b := match r with
      | .held id => s.block id
      | .dropped .. => none
      | .left (some key) => s.heldBlock n key i
      | .left none => above.bind (fun x => s.heldBlock n x.parent i)
    b.map (·.id) :: s.heldDown n t b

/-- The block at each position of a chain's sealed references, where it is held. -/
def State.heldRefs (s : State) (n : Namespace) (v : View) : List (Option Nat) :=
  (s.heldDown n v.refs.zipIdx.reverse none).reverse

/-- The references of a chain cut at block `k`: in a windowed namespace the sinks and the last W must be held, as at
OPEN_CHAIN; the second component holds the blocks that are not. -/
def State.cutRefs (s : State) (n : Namespace) (v : View) (k : Nat) : List BRef × (Nat → Bool) :=
  let kept := v.refs.take k
  if n.window = 0 then (kept, fun _ => false)
  else
    let lowest := if k ≤ n.sinks then 0 else max n.sinks (k - n.window)
    let ids := s.heldRefs n v
    let at_ := fun i => (ids[i]?).bind id
    (kept.zipIdx.map (fun x => if lowest ≤ x.2 then (match at_ x.2 with
        | some id => .held id
        | none => x.1)
      else if x.2 < n.sinks then x.1 else .left (s.refKey x.1)),
     fun i => lowest ≤ i && (at_ i).isNone)

/-- The block whose first tokens a truncation inside block `k` copies. -/
def State.cutBlock (s : State) (n : Namespace) (v : View) (k : Nat) : Option Block :=
  match v.blockAt k with
  | some id => s.block id
  | none => (((s.heldRefs n v)[k]?).bind id).bind s.block

/-- Both slots of a chain's window rebind, and the slot after the tail takes fresh pages (R108, R117). -/
def State.rebindBoth (s : State) (n : Namespace) (slot k : Nat) : Option State :=
  match (s.chainAt slot).bind (·.window) with
  | none => some s
  | some _ =>
    match s.openBlock n (k + 1) with
    | none => none
    | some (id, s) => some (((s.updChain slot (fun c => { c with next := some id })).rebind slot k).rebind slot (k + 1))

/-- TRUNCATE (R117). -/
def bodyTruncate (o : Op) (s : State) : BodyOut :=
  s.withChain o (fun n c =>
    let v := c.view
    let n' := o.p 12 4
    let b := n.geo.b
    let k := n' / b
    let r := n' % b
    if v.n < n' then .done .outOfRange 0 s
    else
      let cut := s.cutRefs n v k
      let src := if r = 0 then none else s.cutBlock n v k
      let gone := fun i => (i < min k v.refs.length && cut.2 i) || (i = k && r != 0 && src.isNone)
      match missingOf gone 0 (k + 1) with
      | some res => .done .recompute res s
      | none =>
        let base := s.updChain c.slot (fun c => { c with
          view.refs := cut.1.take (min k v.refs.length)
          view.unsealed := v.unsealed.take (k - v.refs.length)
          view.tail := none
          view.n := n'
          view.version := v.version + 1
          next := none })
        let tail := match src with
          | some x => base.gc.copyBlock n x k r
          | none => base.gc.openBlock n k
        match tail.bind (fun x => (x.2.updChain c.slot (fun c => { c with view.tail := some x.1 })).rebindBoth n c.slot k) with
        | none => .done .quotaExceeded 0 s
        | some t => .done .ok (v.version + 1) (t.touchControl c n))

/-- TRUNCATE from a queue pair. -/
def execTruncate (c : Cmd) (s : State) : Host.Outcome State Fault Refusal := .next (s.submit 0x3E bodyTruncate c)

/-! ### PIN and RELEASE (R104, R115, R210) -/

/-- A partition's bytes pinned to a tier. -/
def State.pinnedBytes (s : State) (part tier : Nat) : Nat :=
  let ids := ((s.store.pins.filter (fun p => p.partition == part && p.tier == some tier)).flatMap (·.blocks)).eraseDups
  total (ids.filterMap (fun i => (s.block i).map (fun b => total (b.pages.map (fun p => granules p.stored)))))

/-- Blocks of a list with a page slower than a tier. -/
def State.slowerThan (s : State) (ids : List Nat) (t : Nat) : List Nat :=
  ids.filter (fun i => (s.block i).any (fun b => b.sealed && t < b.slowest))

/-- PIN (R210, Table 4-8).  An expert block count of 0 means to the end of the version, which the manual leaves open (log entry 144). -/
def bodyPin (o : Op) (s : State) : BodyOut :=
  s.withView o (fun n v =>
    let ttl := o.p 16 4
    let cnt := v.count n.geo.b
    let first := if o.expert then o.p 20 4 else 0
    let count := if o.expert && o.p 24 4 != 0 then o.p 24 4 else cnt - first
    let tier := if o.expert then some (o.p 28 1) else none
    if ttl < 1 || 3600000 < ttl || tier.any (fun t => 3 < t) then .done .badParam 0 s
    else if cnt < first + count then .done .outOfRange 0 s
    else
      let ids := (List.range count).filterMap (fun i => v.blockAt (first + i))
      match lowestFree (s.store.pins.map (·.slot)) 0 (min 65536 (s.store.pins.length + 1)) with
      | none => .done .quotaExceeded 0 s
      | some i =>
        let gen := nextGen 16 (assoc s.store.pinGens i 0)
        let t := { s with
          store.pins := s.store.pins ++ [⟨i, gen, ids, s.clock.now + ttl * 1000000, tier, n.partition, n.handle⟩]
          store.pinGens := assocSet s.store.pinGens i gen }
        match tier with
        | some u =>
          if s.guarantee n.partition u < t.pinnedBytes n.partition u then .done .quotaExceeded 0 s
          else .done .ok (mkHandle 16 i gen) (t.queueMove (t.slowerThan ids u) false u 0x08 true)
        | none => .done .ok (mkHandle 16 i gen) t)

/-- PIN from a queue pair. -/
def execPin (c : Cmd) (s : State) : Host.Outcome State Fault Refusal := .next (s.submit 0x3F bodyPin c)

/-- A pin's time to live passes (R125). -/
def execPinExpiry (slot : Nat) (s : State) : Host.Outcome State Fault Refusal :=
  .next ({ s with store.pins := s.store.pins.filter (fun p => !(p.slot == slot && decide (p.expires ≤ s.clock.now))) }).gc

/-- A chain's window unmapped: its lines are recalled; what was written into the block after the tail stays (R107, R317). -/
def State.unmapWindow (s : State) (c : Chain) (n : Namespace) : State :=
  match c.window with
  | none => s
  | some w => (s.recallRange w.base n.windowBytes false).updChain c.slot (fun c => { c with window := none })

/-- A window that goes with its chain or namespace: until the range is mapped again, loads of it get poisoned data and stores are
discarded, with a record each (R119). -/
def State.dropWindow (s : State) (c : Chain) (n : Namespace) : State :=
  match c.window with
  | none => s
  | some w =>
    let s := s.unmapWindow c n
    { s with store.unmapped := (w.base, n.windowBytes, n.handle) :: s.store.unmapped }

/-- A range mapped again: what it covers of the windows that went with their chains no longer counts as gone (R119). -/
def State.mapOver (s : State) (a len : Nat) : State :=
  { s with store.unmapped := s.store.unmapped.flatMap (fun w =>
      if a + len ≤ w.1 || w.1 + w.2.1 ≤ a then [w]
      else (if w.1 < a then [(w.1, a - w.1, w.2.2)] else []) ++
        (if a + len < w.1 + w.2.1 then [(a + len, w.1 + w.2.1 - (a + len), w.2.2)] else [])) }

/-- RELEASE (R115, R119). -/
def bodyRelease (o : Op) (s : State) : BodyOut :=
  let h := o.p 8 4
  s.withNs o (fun n => match o.p 12 1 with
    | 0 => (match s.chainOf n h with
      | none => .done .badHandle 0 s
      | some c => s.onChain c (
          let s := s.dropWindow c n
          .done .ok 0 ({ s with store.chains := s.store.chains.filter (fun x => x.slot != c.slot) }).gc))
    | 1 => (match s.snapOf n h with
      | none => .done .badHandle 0 s
      | some x => .done .ok 0 ({ s with store.snapshots := s.store.snapshots.filter (fun y => y.slot != x.slot) }).gc)
    | 2 => (match s.store.pins.find? (fun p => mkHandle 16 p.slot p.gen == h && p.ns == n.handle) with
      | none => .done .badHandle 0 s
      | some p => .done .ok 0 ({ s with store.pins := s.store.pins.filter (fun y => y.slot != p.slot) }).gc)
    | _ => .done .badParam 0 s)

/-- RELEASE from a queue pair. -/
def execRelease (c : Cmd) (s : State) : Host.Outcome State Fault Refusal := .next (s.submit 0x40 bodyRelease c)

/-! ### MAP_TAIL and CHAIN_QUERY (R107, Table 4-8) -/

/-- May the pair's function reach a range of the pool (R320)? -/
def State.fnCovers (s : State) (f : Fn) (a n : Nat) (write : Bool) : Bool :=
  let l := s.isoItems
  if fmTrust l then s.pool.bound.contains f
  else match hostEntry l f with
    | some h => hostMem l h && (rangeFor l h a n write).isSome
    | none => false

/-- MAP_TAIL (R107). -/
def bodyMapTail (o : Op) (s : State) : BodyOut :=
  s.withChain o (fun n c =>
    let a := o.p 16 8
    let len := n.windowBytes
    if a = 0 then .done .ok 0 (s.unmapWindow c n).gc
    else if a % 4096 != 0 then .done .badParam 0 s
    else match s.extentAt a len with
      | none => .done .outOfRange 0 s
      | some e =>
        if e.partition != n.partition || !e.isActive then .done .outOfRange 0 s
        else if !s.fnCovers (s.opFn o) a len true then .done .denied 0 s
        else if s.store.chains.any (fun x => x.slot != c.slot && (match x.window, s.chainNs x with
            | some w, some m => decide (a < w.base + m.windowBytes ∧ w.base < a + len)
            | _, _ => false)) then .done .badParam 0 s
        else
          let s := s.unmapWindow c n
          let t := c.view.refs.length + c.view.unsealed.length
          match (match c.next with
            | some id => some (id, s)
            | none => s.openBlock n (t + 1)) with
          | none => .done .quotaExceeded 0 s
          | some (id, s) =>
            .done .ok 0 (((s.recallRange a len false).mapOver a len).updChain c.slot (fun c => { c with
              window := some ⟨a, []⟩, next := some id })))

/-- MAP_TAIL from a queue pair. -/
def execMapTail (c : Cmd) (s : State) : Host.Outcome State Fault Refusal := .next (s.submit 0x41 bodyMapTail c)

/-- CHAIN_QUERY (Table 4-8). -/
def bodyChainQuery (o : Op) (s : State) : BodyOut :=
  s.withView o (fun n v =>
    s.writeThen o o.buf (leBytes 8 v.n ++ leBytes 8 (min v.refs.length (v.n / n.geo.b)) ++ leBytes 8 v.version ++
      leBytes 8 v.unsealed.length ++ leBytes 8 (v.refs.filter BRef.isDropped).length ++ List.replicate 24 0#8)
      (fun s => .done .ok 0 s))

/-- CHAIN_QUERY from a queue pair. -/
def execChainQuery (c : Cmd) (s : State) : Host.Outcome State Fault Refusal := .next (s.submit 0x42 bodyChainQuery c)

/-! ### Stores into a tail window (R106 to R111) -/

/-- A store refused by R110 or R106: recorded, and its code shown in the control page. -/
def State.windowDiscard (s : State) (c : Chain) (n : Namespace) (a : Nat) (st : Status) : State :=
  ((s.touchControl c n).updChain c.slot (fun c => { c with discard := st.code })).discardStore (some n.handle) a

/-- One byte of a store at an offset of a slot: into a page, or into the token-ID area. -/
def Block.storeByte (b : Block) (n : Namespace) (off : Nat) (v : Byte) : Block :=
  let l := off / n.pageP
  if l < n.geo.l then
    { b with pages := upd (·.layer == l) (fun p : Page => { p with data := p.data.set (off % n.pageP) v }) b.pages }
  else
    let i := (off - n.geo.l * n.pageP) / 4
    if n.geo.b ≤ i then b
    else
      let old := b.tokens.getD i 0
      let sh := 2 ^ (8 * ((off - n.geo.l * n.pageP) % 4))
      b.setTokens i n.geo.b [old - old / sh % 256 * sh + v.toNat * sh]

/-- The token that a byte of a slot belongs to, where it belongs to one. -/
def Namespace.tokenAt (n : Namespace) (off : Nat) : Option Nat :=
  if off / n.pageP < n.geo.l then
    (if off % n.pageP < n.geo.pageBytes n.geo.fmt then n.geo.tokenOfByte n.geo.fmt (off % n.pageP) else none)
  else some ((off - n.geo.l * n.pageP) / 4)

/-- The lines of a store into a layer-page or a token record take its poison, or lose theirs when it writes them whole (R421). -/
def Block.storePoison (b : Block) (n : Namespace) (off len : Nat) (poison : Bool) : Block :=
  let l := off / n.pageP
  let first := off % n.pageP
  let ls := (List.range ((first + len + 63) / 64 - first / 64)).map (· + first / 64)
  let whole := fun x => decide (first ≤ x * 64) && decide (x * 64 + 64 ≤ first + len)
  if l < n.geo.l then
    { b with pages := upd (·.layer == l) (fun p : Page => { p with
        poison := if poison then (ls ++ p.poison).eraseDups else p.poison.filter (fun x => !(ls.contains x && whole x)) }) b.pages }
  else { b with tokensBad := b.tokensBad || poison }

/-- A store to a slot of a window: bytes of uncommitted positions are written, those of committed positions and those of
a slot that rebinds are discarded (R106, R108). -/
def State.slotStore (s : State) (c : Chain) (n : Namespace) (addr slot off : Nat) (bytes : List Byte) (poison : Bool) : State :=
  let t := c.view.refs.length + c.view.unsealed.length
  let k := if t % 2 = slot then t else t + 1
  let id := if k = t then c.view.tail else c.next
  let open_ := fun i => (match n.tokenAt (off + i) with
    | some tok => decide (c.view.n ≤ k * n.geo.b + tok)
    | none => true) && !(c.window.any (fun w => w.rebinding.any (·.1 == slot)))
  let all := bytes.zipIdx.all (fun x => open_ x.2)
  let put := fun b : Block => bytes.zipIdx.foldl (fun b x => if open_ x.2 then b.storeByte n (off + x.2) x.1 else b) b
  let mark := fun b : Block => if all then b.storePoison n off bytes.length poison else b
  let s := match id with
    | some id => s.updBlock id (fun b => mark (put b))
    | none => s
  if all then s else s.windowDiscard c n addr .immutable

/-- A store of at most one line into a window: to a slot, or to a word of the control page, which discards it (R106, R109, R119);
`none` where no window is or was. -/
def State.windowStore (s : State) (a : Nat) (bytes : List Byte) (poison : Bool) : Option State :=
  match s.windowAt a, s.goneAt a with
  | some (c, n, off), _ => some (if off < 2 * n.slotS then s.slotStore c n a (off / n.slotS) (off % n.slotS) bytes poison
      else s.discardStore (some n.handle) a)
  | none, some h => some (s.discardStore (some h) a)
  | none, none => none

/-- An aligned store to N in a control page takes effect as it arrives, or is discarded with its code (R110). -/
def State.storeN (s : State) (a value : Nat) : State :=
  match s.windowAt a with
  | some (c, n, off) =>
    if off = 2 * n.slotS then
      (match s.advance n c.slot value with
      | .ok t => t
      | .error st => s.windowDiscard c n a st)
    else s.discardStore (some n.handle) a
  | none => (s.goneAt a).elim s (fun h => s.discardStore (some h) a)

/-- A slot's rebinding ends, once the recalls of its lines have, or at the latest after 10 µs (R108). -/
def execTailRebindEnd (chain slot : Nat) (s : State) : Host.Outcome State Fault Refusal :=
  match (s.chainAt chain).bind (fun c => (s.chainNs c).bind (fun n => c.window.map (fun w => (n, w)))) with
  | none => .next s
  | some (n, w) =>
    match w.rebinding.find? (·.1 == slot) with
    | none => .next s
    | some r =>
      if s.recalling (w.base + slot * n.slotS) n.slotS && s.clock.now < r.2 then .next s
      else
        let w := { w with rebinding := w.rebinding.filter (·.1 != slot) }
        .next (s.updChain chain (fun c => { c with window := some w }))

end Sys2Proof.Machine
end

