-- ==== Sys2Proof/Machine/Namespaces.lean ====
section
/-! DEFINITION. Namespaces.lean: the namespace commands and the codebook loader (R94 to R97, R501, R502, R132 to R137, R363). -/
namespace Sys2Proof.Machine

/-- Has a function rights in a partition: the partition mask of its host entry, or FM_TRUST (R318, R322, Table 3-11; log
entry 27)? -/
def State.mayPart (s : State) (f : Fn) (p : Nat) : Bool :=
  let l := s.isoItems
  if fmTrust l then s.pool.bound.contains f
  else match hostEntry l f with
    | some h => bit (hostParts l h) p
    | none => false

/-! ### CREATE_NAMESPACE (R96, R97, R137, R363) -/

/-- The geometry that CREATE_NAMESPACE names. -/
def Op.geo (o : Op) : Geo :=
  { b := 16 * 2 ^ o.p 8 1, l := o.p 10 2, h := o.p 12 1, d := 32 * o.p 13 1, fmt := o.p 9 1, latent := bit (o.p 19 1) 3 }

/-- The values of Table 4-2 and the rejections below it, settings and other objects apart. -/
def Op.nsFieldsOk (o : Op) : Bool :=
  let g := o.geo
  let flags := o.p 19 1
  let units := o.p 13 1
  let lowest := o.p 17 1
  let w := o.p 20 2
  o.p 8 1 < 5 && o.p 9 1 < 16 && 1 ≤ g.l && g.l ≤ 256 && 1 ≤ g.h && g.h ≤ 64 &&
  ((1 ≤ units && units ≤ 16) || (units = 18 && g.latent)) && (!g.latent || g.h = 1) &&
  (o.p 14 1 = 1 || o.p 14 1 = 8) && o.p 15 1 < 8 && (o.p 14 1 = 8 || o.p 15 1 = 0) &&
  o.p 16 1 < 2 && lowest < (if o.p 16 1 = 1 then 2 else 4) && o.p 18 1 < 16 && flags < 16 &&
  w != 1 && o.p 22 1 < 16 && (w != 0 || o.p 22 1 = 0) && (o.p 23 1 = 1 || o.p 23 1 = 2 || o.p 23 1 = 4) &&
  (g.fmt = 0xE || o.p 44 2 = 0) && o.p 46 1 < 64 && o.p 47 1 < 4 && o.p 47 1 ≤ lowest &&
  4096 ≤ g.allocBytes g.fmt && g.allocBytes g.fmt ≤ 4 * 2 ^ 20

/-- The codebook set of a KVQ namespace: loaded, of its geometry and its partition, when the command was accepted (R96, R137). -/
def State.codebookOk (s : State) (o : Op) : Bool :=
  o.work != .taken .badParam 0 && (o.geo.fmt != 0xE || (match s.codeSet (o.p 44 2) with
    | some c => c.layers == o.geo.l && c.heads == o.geo.h && c.dim == o.geo.d && c.partition == o.p 18 1
    | none => false))

/-- The pier mask names only piers of the partition. -/
def State.pierMaskOk (s : State) (o : Op) : Bool :=
  !partHard s.stg.live (o.p 18 1) || Nat.land (o.p 46 1) (partPiers s.stg.live (o.p 18 1)) = o.p 46 1

/-- The namespace that CREATE_NAMESPACE describes, at an index. -/
def Op.newNs (o : Op) (index gen group holders : Nat) (width8 whole : Bool) : Namespace :=
  let flags := o.p 19 1
  { index := index, gen := gen, geo := o.geo, width := o.p 14 1, member := o.p 15 1, dropClass := o.p 16 1 == 1
    lowest := o.p 17 1, partition := o.p 18 1, tokenStore := bit flags 0, keySummary := bit flags 1
    autoseal := bit flags 2, window := o.p 20 2, sinks := o.p 22 1, entryWidth := o.p 23 1
    salt := BitVec.ofNat 128 (o.p 24 16), adapter := o.p 40 4, codebook := o.p 44 2, pierMask := o.p 46 1
    initialTier := o.p 47 1, blockCode := o.p 8 1, group := group, deleting := false
    gstate := if width8 && !whole then .forming else .active, holders := holders, mismatch := false
    stats := ⟨[], 0, 0, 0, 0, 0, 0, [], []⟩ }

/-- The checks of a width-8 creation (R363). -/
def State.stripeOk (s : State) (o : Op) : Bool :=
  let n := o.newNs 0 0 0 0 true false
  o.p 15 1 = s.slot && 7 ≤ (trayPartners s.stg.live s.slot).length && (s.groupNs n.salt).isNone &&
    !s.mismatched n.salt n.params

/-- CREATE_NAMESPACE (R94, R96, R156, R363). -/
def bodyCreateNamespace (o : Op) (s : State) : BodyOut :=
  let wide := o.p 14 1 == 8
  if !o.nsFieldsOk || !partValid s.stg.live (o.p 18 1) || !s.codebookOk o || !s.pierMaskOk o || (wide && !s.stripeOk o) then
    .done .badParam 0 s
  else if (o.expert && !expertOn (s.itemsOf o) (o.p 18 1)) || !s.mayPart (s.opFn o) (o.p 18 1) then .done .denied 0 s
  else match lowestFree (s.store.namespaces.map (·.index)) 0 4096, s.chooseGroup (o.p 18 1) (o.p 23 1) with
  | some i, some (group, s) =>
    let gen := nextGen 20 (assoc s.store.nsGens i 0)
    let n := o.newNs i gen group 0 wide false
    let h := if wide then s.holdersFor n.salt n.params else 1
    let n := { n with holders := h, gstate := if wide && h % 256 != 255 then .forming else .active }
    .done .ok n.handle (({ s with
      store.namespaces := s.store.namespaces ++ [n], store.nsGens := assocSet s.store.nsGens i gen }).tellNamespace n true).regroup
  | _, _ => .done .quotaExceeded 0 s

/-! ### DELETE_NAMESPACE (R502) -/

/-- A namespace dies: commands that name it from now on complete with BAD_HANDLE (R502). -/
def State.killNs (s : State) (n : Namespace) : State :=
  ((s.updNs n.index (fun n => { n with deleting := true })).tellNamespace n false).regroup

/-- DELETE_NAMESPACE: long from its acceptance; the namespace is dead from then on.  A further deletion is accepted only
once none runs, that is, after one was aborted. -/
def bodyDeleteNamespace (o : Op) (s : State) : BodyOut :=
  s.withNs o (fun n =>
    if s.q.ops.any (fun x => x.opcode == 0x21 && x.handle == o.handle && x.tag != o.tag && !x.finished && x.order < o.order) then
      .done .badHandle 0 s
    else if !s.mayPart (s.opFn o) n.partition then .done .denied 0 s
    else .long 0xFFFFFFFF 0 (s.killNs n))

/-- Blocks of a namespace. -/
def State.nsBlocks (s : State) (n : Namespace) : List Block :=
  s.store.blocks.filter (fun b => b.ns == n.index && b.gen == n.gen)

/-- Blocks freed by a deletion: their entries go first (R171). -/
def State.freeBlocks (s : State) (ids : List Nat) : State :=
  let s := ids.foldl (fun s i => s.unindex i) s
  { s with
    store.blocks := s.store.blocks.filter (fun b => !ids.contains b.id)
    idx.releasing := s.idx.releasing ++ ids
    store.pins := s.store.pins.map (fun p : Pin => { p with blocks := p.blocks.filter (fun i => !ids.contains i) }) }

/-- The last unit of a deletion: chains, snapshots, windows and the index slot are freed. -/
def State.freeNamespace (s : State) (n : Namespace) : State :=
  let mine := fun v : View => v.ns == n.index && v.gen == n.gen
  let s := (s.store.chains.filter (fun c => mine c.view)).foldl (fun s c => s.dropWindow c n) s
  let s := { s with
    store.chains := s.store.chains.filter (fun c => !mine c.view)
    store.snapshots := s.store.snapshots.filter (fun x => !mine x.view)
    store.pins := s.store.pins.filter (fun p => p.ns != n.handle)
    store.namespaces := s.store.namespaces.filter (fun x => !(x.index == n.index && x.gen == n.gen)) }
  s.sweepGroup n.group

/-- A unit of a deletion: it waits for the operations accepted before it, frees up to 1,024 blocks, and in the end the
rest (R502). -/
def unitDeleteNamespace (o : Op) (s : State) : UnitOut :=
  match s.nsAny o.handle with
  | none => .cut .badHandle 0 0 s
  | some n =>
    if s.q.ops.any (fun x => x.handle == o.handle && x.order < o.order && handleUse x.opcode != 0) then .stay s
    else
      let l := (s.nsBlocks n).map (·.id)
      let s := if o.unitsTotal = 0xFFFFFFFF then s.setOp o.tag (fun o => { o with unitsTotal := cdiv l.length 1024 + 1 }) else s
      if l.isEmpty then .last .ok 0 0 (s.freeNamespace n)
      else .more 0 0 (s.freeBlocks (l.take 1024))

/-! ### QUERY_NAMESPACE and SET_NAMESPACE (R95, R501) -/

/-- The 128-byte record of QUERY_NAMESPACE.  Its dropped blocks are the distinct chain keys among the records of drops that the live
chains keep, since the manual does not say what it counts (log entry 146). -/
def State.nsRecord (s : State) (n : Namespace) : List Byte :=
  let mine := fun v : View => v.ns == n.index && v.gen == n.gen
  let drops := (((s.store.chains.filter (fun c => mine c.view)).flatMap (fun c => c.view.refs)).filter BRef.isDropped).map (fun r => match r with
    | .dropped k .. => k.toNat
    | .held _ | .left _ => 0)
  leBytes 1 n.blockCode ++ leBytes 1 n.geo.fmt ++ leBytes 2 n.geo.l ++ leBytes 1 n.geo.h ++ leBytes 1 (n.geo.d / 32) ++
  leBytes 1 n.width ++ leBytes 1 n.member ++ leBytes 1 (b2n n.dropClass) ++ leBytes 1 n.lowest ++
  leBytes 1 n.partition ++
  leBytes 1 (b2n n.tokenStore + 2 * b2n n.keySummary + 4 * b2n n.autoseal + 8 * b2n n.geo.latent) ++
  leBytes 2 n.window ++ leBytes 1 n.sinks ++ leBytes 1 n.entryWidth ++ leBytes 16 n.salt.toNat ++
  leBytes 4 n.adapter ++ leBytes 2 n.codebook ++ leBytes 1 n.pierMask ++ leBytes 1 n.initialTier ++
  List.replicate 24 0#8 ++
  leBytes 8 (s.store.chains.filter (fun c => mine c.view)).length ++
  leBytes 8 ((s.nsBlocks n).filter (·.sealed)).length ++
  leBytes 8 (s.store.snapshots.filter (fun x => mine x.view && !x.expired)).length ++
  leBytes 8 drops.eraseDups.length ++ List.replicate 32 0#8

/-- QUERY_NAMESPACE (R95). -/
def bodyQueryNamespace (o : Op) (s : State) : BodyOut :=
  s.withNs o (fun n => s.writeThen o o.buf (s.nsRecord n) (fun s => .done .ok 0 s))

/-- QUERY_NAMESPACE from a queue pair. -/
def execQueryNamespace (c : Cmd) (s : State) : Host.Outcome State Fault Refusal :=
  .next (s.submit 0x22 bodyQueryNamespace c)

/-- The tier that a block below a new lowest tier goes up to: that tier, or the next faster one with room (R501). -/
def State.limitTarget (s : State) (n : Namespace) (b : Block) : Option Nat :=
  ((List.range (n.lowest + 1)).reverse).find? (fun t => s.room n.partition t (b.bytesOutside t))

/-- The namespace's sealed blocks that lie below a tier are promoted to it, in the background (R501). -/
def State.raiseBelow (s : State) (n : Namespace) (lowest : Nat) : State :=
  ((s.nsBlocks n).filter (fun b => b.sealed && lowest < b.slowest)).foldl (fun s b => s.queueRaise [b.id] lowest 0x03) s

/-- Every chain of the namespace seals what AUTOSEAL lets it (R112, R501). -/
def State.sealChains (s : State) (n : Namespace) : State :=
  (s.store.chains.filter (fun c => c.view.ns == n.index)).foldl (fun s c => autoseal c.slot s 3) s

/-- SET_NAMESPACE (R501): blocks below a faster lowest tier are promoted, in the background, as room comes to be. -/
def bodySetNamespace (o : Op) (s : State) : BodyOut :=
  match o.work with
  | .taken st r => .done st r s
  | _ => s.withNs o (fun n =>
    let loss := o.p 8 1
    let lowest := o.p 9 1
    if 2 ≤ loss || (if loss = 1 then 2 else 4) ≤ lowest || 2 ≤ o.p 10 1 then .done .badParam 0 s
    else if !s.mayPart (s.opFn o) n.partition then .done .denied 0 s
    else
      let n' := { n with dropClass := loss == 1, lowest := lowest, autoseal := o.p 10 1 == 1, initialTier := min n.initialTier lowest }
      .done .ok 0 (((s.updNs n.index (fun _ => n')).raiseBelow n lowest).sealChains n))

/-- What a command that waits for its start has of its effect at its acceptance: CREATE_NAMESPACE finds its codebook set loaded or
not (R137), DELETE_NAMESPACE kills its namespace (R502), SET_NAMESPACE takes effect (R501), a near-memory operation takes the chains whose
windows it may read (R103). -/
def State.atAcceptance (s : State) (tag : Nat) : State :=
  match s.op tag with
  | none => s
  | some o =>
    if o.started then s
    else match o.opcode with
    | 0x20 => if s.codebookOk o then s else s.setOp tag (fun o => { o with work := .taken .badParam 0 })
    | 0x21 => (match bodyDeleteNamespace o s with
      | .long _ _ t => t
      | .done .. | .wait .. => s)
    | 0x23 => (match bodySetNamespace o s with
      | .done st r t => t.setOp tag (fun o => { o with work := .taken st r })
      | .long .. | .wait .. => s)
    | 0x80 | 0x81 | 0x82 | 0x83 => s.setOp tag (fun o => { o with tails := some (s.store.chains.filter (·.window.isSome)) })
    | _ => s

/-- A command row whose command has part of its effect at acceptance (R137, R501, R502). -/
def State.submitTaking (op : Nat) (body : Op → State → BodyOut) (c : Cmd) (s : State) : State :=
  match s.wake.accept c.qp op c.pkt with
  | (some tag, s) => (s.start body tag).atAcceptance tag
  | (none, s) => s

/-- CREATE_NAMESPACE from a queue pair. -/
def execCreateNamespace (c : Cmd) (s : State) : Host.Outcome State Fault Refusal :=
  .next (s.submitTaking 0x20 bodyCreateNamespace c)

/-- DELETE_NAMESPACE from a queue pair. -/
def execDeleteNamespace (c : Cmd) (s : State) : Host.Outcome State Fault Refusal :=
  .next (s.submitTaking 0x21 bodyDeleteNamespace c)

/-- SET_NAMESPACE from a queue pair. -/
def execSetNamespace (c : Cmd) (s : State) : Host.Outcome State Fault Refusal := .next (s.submitTaking 0x23 bodySetNamespace c)

/-! ### The codebook loader (R133 to R137) -/

/-- A function's loader registers. -/
def State.loader (s : State) (f : Fn) : Loader := match s.store.loaders.find? (·.fn == f) with
  | some l => l
  | none => ⟨f, 0, false, 0, 0, 0, false, false, .ok, 0⟩

/-- A function's loader registers stored back. -/
def State.setLoader (s : State) (l : Loader) : State :=
  { s with store.loaders := l :: s.store.loaders.filter (fun x => x.fn != l.fn) }

/-- The end of a loader action: GO and BUSY clear, DONE and CODE show it (Tables 5-8 to 5-10). -/
def State.loaderEnd (s : State) (f : Fn) (code : Status) (result : Option Nat) : State :=
  let l := s.loader f
  ({ s with store.loads := s.store.loads.filter (· != f) }).setLoader
    { l with go := false, busy := false, done := true, code := code, result := result.getD l.result }

/-- The checks that both actions share, in the order of Table 5-11. -/
def State.loaderRefuses (s : State) (l : Loader) : Option Status :=
  if !s.claimed then some .notClaimed
  else if !s.mayPart l.fn l.partition then some .denied
  else if 2 ≤ l.action then some .badParam
  else none

/-- Is a header as Table 5-5 says, its length that of R133? -/
def cbHeaderOk (h : List Byte) : Bool :=
  let f := fld (leNat h)
  f 0 2 = 1 && 1 ≤ f 2 2 && f 2 2 ≤ 256 && 1 ≤ f 4 1 && f 4 1 ≤ 64 && 1 ≤ f 5 1 && f 5 1 ≤ 16 &&
  (f 6 1 = 1 || f 6 1 = 2) && f 7 1 = 0 && f 16 48 = 0 && f 8 4 = 64 + 1024 * f 2 2 * f 4 1 * (32 * f 5 1)

/-- Is every entry element finite? -/
def cbFinite (fmt : Nat) (b : List Byte) : Bool :=
  (chunks 2 (b.length / 2) b).all (fun e => match (if fmt = 1 then bf16.decode (leNat e) else fp16.decode (leNat e)) with
    | .fin .. => true
    | .nan | .inf _ => false)

/-- The outcome of a LOAD, and the state with the set on success (Table 5-11). -/
def State.loadSet (s : State) (l : Loader) : Status × Option Nat × State :=
  let a := l.addr / 4096 * 4096
  match s.hostRead l.fn l.fn.link a 64 with
  | .error _ => (.outOfRange, none, s)
  | .ok h =>
    if !cbHeaderOk h then (.badParam, none, s)
    else
      let f := fld (leNat h)
      match s.hostRead l.fn l.fn.link a (f 8 4) with
      | .error _ => (.outOfRange, none, s)
      | .ok img =>
        let body := img.drop 64
        if !cbFinite (f 6 1) body then (.badParam, none, s)
        else if (crc32c body).toNat != f 12 4 then (.integrityError, none, s)
        else
          let held := total (s.store.sets.map (·.bytes))
          match lowestFree (s.store.sets.map (·.slot)) 0 256 with
          | none => (.quotaExceeded, none, s)
          | some slot =>
            if 512 * 2 ^ 20 < held + f 8 4 || !s.room l.partition 0 (6 * granules (f 8 4)) then (.quotaExceeded, none, s)
            else
              let gen := nextGen 8 (assoc s.store.setGens slot 0)
              let c : CodeSet := ⟨slot, gen, l.partition, f 2 2, f 4 1, 32 * f 5 1, f 6 1, Mem.write [] 0 img⟩
              (.ok, some (mkHandle 8 slot gen), { s with
                store.sets := s.store.sets ++ [c], store.setGens := assocSet s.store.setGens slot gen })

/-- The outcome of an UNLOAD (Table 5-11). -/
def State.unloadSet (s : State) (l : Loader) : Status × State :=
  match s.codeSet l.setId with
  | none => (.badHandle, s)
  | some c =>
    if c.partition != l.partition then (.badHandle, s)
    else if s.store.namespaces.any (fun n => n.geo.fmt == 0xE && n.codebook == l.setId) then (.denied, s)
    else (.ok, { s with store.sets := s.store.sets.filter (·.slot != c.slot) })

/-- A write of ATT_CB_CTRL with GO: the loader's fields taken; none while GO reads 1 or without GO (Table 5-8). -/
def State.loaderGo (s : State) (f : Fn) (value : Nat) : Option Loader :=
  let l := s.loader f
  if l.go || !bit value 31 then none
  else some { l with go := true, action := bits value 30 28, partition := bits value 19 16, setId := bits value 15 0, busy := true }

/-- GO with ACTION LOAD: the load waits its turn, in the order of the GO writes (R135). -/
def execCodebookLoad (r : Req) (value : Nat) (s : State) : Host.Outcome State Fault Refusal :=
  let s := s.wake
  match (if s.hears r.fn r.tee then s.loaderGo r.fn value else none) with
  | none => .next s
  | some l =>
    match s.loaderRefuses l with
    | some st => .next ((s.setLoader l).loaderEnd r.fn st none)
    | none => .next { s.setLoader l with store.loads := s.store.loads ++ [r.fn] }

/-- GO with ACTION UNLOAD removes a loaded set (R136). -/
def execCodebookUnload (r : Req) (value : Nat) (s : State) : Host.Outcome State Fault Refusal :=
  let s := s.wake
  match (if s.hears r.fn r.tee then s.loaderGo r.fn value else none) with
  | none => .next s
  | some l =>
    match s.loaderRefuses l with
    | some st => .next ((s.setLoader l).loaderEnd r.fn st none)
    | none =>
      let u := (s.setLoader l).unloadSet l
      .next (u.2.loaderEnd r.fn u.1 none)

/-- The load at the head of the order ends (R135, R136). -/
def execCodebookLoadEnd (s : State) : Host.Outcome State Fault Refusal :=
  match s.store.loads with
  | [] => .next s
  | f :: _ =>
    let l := s.loader f
    match s.loaderRefuses l with
    | some st => .next (s.loaderEnd f st none)
    | none =>
      let r := s.loadSet l
      .next (r.2.2.loaderEnd f r.1 r.2.1)

/-! ### Fetching (R62) -/

/-- The entry at a pair's head fetched and accepted; `true` while more may follow.  An entry for a span whose table is full stays queued
(R20, R27). -/
def State.fetchOne (s : State) (i : Nat) : Bool × State :=
  match s.pair i with
  | none => (false, s)
  | some q =>
    if !s.fetchable q then (false, s)
    else match s.hostRead q.owner q.owner.link (q.sqBase + 64 * q.sqHead) 64 with
      | .ok b =>
        let pkt := BitVec.ofNat 512 (leNat b)
        if !s.tableRoom (s.spanOf i (pf pkt 0 1) pkt) q.ctl then (false, s)
        else
          let s := s.charge q.owner.link q.partition (if q.ctl then 0 else 1)
            (readUnits q.owner.link (q.sqBase + 64 * q.sqHead) 64)
          let s := s.setPair { q with sqHead := if q.sqHead + 1 = q.sqDepth then 0 else q.sqHead + 1 }
          match s.accept i (pf pkt 0 1) pkt with
          | (some tag, s) => (true, s.atAcceptance tag)
          | (none, s) => (true, s)
      | .error (.waits _) => (false, s)
      | .error _ => (false, s.queueError q 1)

/-- Up to `n` entries fetched from a pair and accepted. -/
def State.fetchFrom (s : State) (i n : Nat) : State :=
  ((List.range n).foldl (fun (a : Bool × State) _ => if a.1 then a.2.fetchOne i else a) (true, s)).2

/-- A turn of a DATA pair: at most 8 entries; a pair whose SQ runs out gives up its other turns of the round. -/
def State.dataTurn (s : State) (q : QPair) : State :=
  let s := (s.setPair { q with turns := q.turns - 1 }).fetchFrom q.index 8
  match s.pair q.index with
  | some q' => if q'.sqHead = q'.sqTail then s.setPair { q' with turns := 0 } else s
  | none => s

/-- One fetch of a span: a CTL pair first; else a turn of a DATA pair that has turns left, in index order, and a new
round when no fetchable pair has any (R62; log entry 20). -/
def execCommandFetch (span : Nat) (s : State) : Host.Outcome State Fault Refusal :=
  let l := s.q.pairs.filter (fun q => q.index % 2 == span && s.fetchable q)
  match l.find? (·.ctl) with
  | some q => .next (s.fetchFrom q.index 8)
  | none =>
    match l.find? (fun q => q.turns != 0) with
    | some q => .next (s.dataTurn q)
    | none =>
      let mine := fun q : QPair => q.index % 2 == span
      let s := { s with q.pairs := upd mine (fun q => { q with turns := q.weight }) s.q.pairs }
      match l.head? with
      | some q => .next (s.dataTurn { q with turns := q.weight })
      | none => .next s

end Sys2Proof.Machine
end

