-- ==== Sys2Proof/Machine/Probe.lean ====
section
/-! DEFINITION. Probe.lean: the commands that search the native index: PROBE, LOOKUP, INDEX_TAG and INDEX_EVICT (The
prefix index, R157 to R165, R182). -/
namespace Sys2Proof.Machine

/-! ### Parameters of PROBE (Table 6-3) -/

def Op.verifyTokens (o : Op) : Bool := bit (o.p 32 1) 0
def Op.probeOpens (o : Op) : Bool := bit (o.p 32 1) 1
def Op.givesKeys (o : Op) : Bool := bit (o.p 33 1) 0
def Op.noVerify (o : Op) : Bool := bit (o.p 33 1) 1
def Op.noPrefetch (o : Op) : Bool := bit (o.p 33 1) 2

/-- The blocks that the source of a PROBE covers. -/
def Op.probeBlocks (o : Op) (b : Nat) : Nat := if o.givesKeys then o.p 8 4 else o.p 8 4 / b

/-- The blocks that it may process: no more than the block limit, which counts from f (Table 6-3). -/
def Op.probeCap (o : Op) (b : Nat) : Nat :=
  if o.p 48 4 = 0 then o.probeBlocks b else min (o.p 48 4) (o.probeBlocks b)

/-- Bytes of the source for one block. -/
def Op.probeStep (o : Op) (b : Nat) : Nat := if o.givesKeys then 16 else 4 * b

/-- Is the PROBE rejected with BAD_PARAM (R157, R158)? -/
def Op.probeBad (o : Op) (n : Namespace) : Bool :=
  let cnt := o.p 8 4
  4 ≤ o.p 32 1 || 8 ≤ o.p 33 1 || 64 < o.p 34 2 || cnt = 0 || (if o.givesKeys then 65536 else 1048576) < cnt ||
  (o.verifyTokens && (!n.tokenStore || o.givesKeys)) || (o.probeOpens && o.noVerify) ||
  (n.window != 0 && o.p 12 4 != 0) || (!o.givesKeys && cnt < n.geo.b) || (o.p 12 4 = 0 && o.p 16 16 != 0) ||
  (n.entryWidth != 2 && o.p 36 4 != 0) || o.p 40 8 % 8 != 0 || (!o.givesKeys && o.buf % 4 != 0)

/-! ### Searching and verifying (R159, R164, R165) -/

/-- The winner of one search by chain key: in a 2-unit namespace under the given segment, or any. -/
def State.seek (s : State) (n : Namespace) (key : BitVec 128) (segment : Nat) : Option Entry × State :=
  let any := n.entryWidth != 2 || segment = 0xFFFFFFFF
  match s.bankFor n key with
  | none => (none, s)
  | some bank =>
    ((s.matches bank (nativeKey n key (if any then 0 else segment) 0)
      (s.globalMask (if any then keyMask n.entryWidth else 0) n.entryWidth)).head?, s.searched bank)

/-- Does a candidate pass at position `k`, with the probe's token IDs where they are verified? -/
def Block.passes (b : Block) (n : Namespace) (key : BitVec 128) (k : Nat) (toks : Option (List Nat)) : Bool :=
  b.verifies n key && b.k == k && (match toks with
    | some l => b.tokenIds n.geo.b == l
    | none => true)

/-- The location entry of a block (Table 6-5). -/
def State.locationEntry (s : State) (n : Namespace) (b : Block) (viaRun : Bool) : Nat :=
  let deck := (b.pages.filter (·.tier == 0)).length
  b.fastest + b.slowest * 4 + 16 + b2n viaRun * 32 + b2n (b.pages.any (·.codec)) * 64 +
  b2n (b.pages.any (·.requant)) * 128 + b2n (s.store.pins.any (·.blocks.contains b.id)) * 2 ^ 8 +
  b2n (n.window != 0 && b.k < n.sinks) * 2 ^ 9 + (255 * deck / max 1 n.geo.l) * 2 ^ 16 + b.lowVersion % 2 ^ 32 * 2 ^ 32

/-- A probe hit: the entry's last hit, and under OPEN a reference (R163, R169).  A verified block is touched, and may start a
promotion, unless the probe carries NO_PREFETCH (R158, R202, R203). -/
def State.probeHit (s : State) (o : Op) (id : Nat) : State :=
  let s := if o.noPrefetch || o.noVerify then s
    else { s.touch id with tiers.probeHits := id :: s.tiers.probeHits.filter (· != id) }
  let s := s.updBlock id (fun b => { b with lastHit := s.clock.now })
  let s := s.bump 0x042 1
  if o.probeOpens then
    let hold := fun v : Option View => match v with
      | some v => some { v with refs := v.refs ++ [.held id] }
      | none => some ⟨0, 0, [.held id], [], none, 0, 0⟩
    s.setOp o.tag (fun o => { o with view := hold o.view })
  else s

/-- A block that the probe did not find: it stops there, unless the namespace slides a window (R159, R160). -/
def ProbeRun.miss (r : ProbeRun) (n : Namespace) (key : BitVec 128) (cause falseHit : Nat) : ProbeRun :=
  { r with
    found := r.found ++ [⟨none, key, cause, 0⟩], key := key, falseHits := r.falseHits + falseHit, run := []
    stop := if n.window = 0 then some cause else none }

/-- A block that the probe found. -/
def State.found (s : State) (o : Op) (n : Namespace) (r : ProbeRun) (key : BitVec 128) (id : Nat) (viaRun : Bool)
    (rest : List Nat) : ProbeRun × State :=
  let e := (s.block id).elim 0 (fun b => s.locationEntry n b viaRun)
  ({ r with found := r.found ++ [⟨some id, key, 0, e⟩], key := key, run := rest }, s.probeHit o id)

/-- The blocks of a run after its first, where an entry's pointer names a run (R179). -/
def State.runRest (s : State) (ptr : Nat) : List Nat :=
  if ptr / 2 ^ 30 = 1 then ((s.idx.runs.find? (·.slot == ptr % 2 ^ 30)).elim [] (·.blocks)).drop 1 else []

/-- Can verification not read what it compares: the block record, or the token record where token IDs are compared (Table 6-6)? -/
def Block.unreadable (b : Block) (tokens : Bool) : Bool := b.recordBad || (tokens && b.tokensBad)

/-- The error record of a record that cannot be read (Table 15-6): on the die of its memory. -/
def State.recordLost (s : State) (b : Block) (tag : Option Nat) : State :=
  s.log { cls := .dataLoss, code := 0x0142, locus := b.recordLocus, tag := tag, object := (s.nsOf b).map (·.handle), addr := none, detail := b.k, poison := false }

/-- The first of some blocks whose record verification cannot read. -/
def State.firstBad (s : State) (ids : List Nat) (tokens : Bool) : Option Block :=
  ids.findSome? (fun i => (s.block i).filter (fun b => b.unreadable tokens))

/-- The blocks behind one in the run that lists it now (R172: a run formed, split or shrunk meanwhile gives the same depth). -/
def State.runBehind (s : State) (id : Nat) : List Nat :=
  match s.runOf id with
  | some r => (r.blocks.dropWhile (· != id)).drop 1
  | none => []

/-- The search and verification of one block. -/
def State.probeSearch (s : State) (o : Op) (n : Namespace) (r : ProbeRun) (key : BitVec 128) (k : Nat)
    (toks : Option (List Nat)) : ProbeRun × State :=
  match s.seek n key (o.p 36 4) with
  | (none, s) => (r.miss n key 1 0, s)
  | (some e, s) =>
    let ids := s.ptrBlocks e.ptr
    let run := e.ptr / 2 ^ 30 = 1
    if o.noVerify then s.found o n r key (ids.headD 0) run []
    else match s.firstBad ids toks.isSome with
    | some b => (r.miss n key 7 0, s.recordLost b (some o.tag))
    | none =>
      match ids.find? (fun i => (s.block i).any (fun b => b.passes n key k toks)) with
      | some id =>
        s.found o n r key id run (s.runRest e.ptr)
      | none =>
        let only := ids.any (fun i => (s.block i).any (fun b => b.passes n key k none))
        (r.miss n key (if only then 3 else 2) 1, s.bump 0x043 1)

/-- What a probe does with one block: inside a verified run its key is compared with the run's, else it is searched (R159). -/
def State.probeStep (o : Op) (n : Namespace) (x : ProbeRun × State) (src : List Byte) : ProbeRun × State :=
  let r := x.1
  let s := x.2
    let k := o.p 12 4 + r.found.length
    let l := (chunks 4 n.geo.b src).map leNat
    let key := if o.givesKeys then BitVec.ofNat 128 (leNat src) else chainKey n.salt r.key l
    let toks := if o.verifyTokens then some l else none
    let s := s.bump 0x041 1
    let inside := match r.run, (r.found.getLast?).elim r.parent (·.block) with
      | [], some last => if o.noVerify then [] else s.runBehind last
      | l, _ => l
    match inside with
    | id :: rest =>
      if (s.block id).any (fun b => b.unreadable toks.isSome) then
        (r.miss n key 7 0, ((s.block id).elim s (fun b => s.recordLost b (some o.tag))))
      else if (s.block id).any (fun b => b.passes n key k toks) then s.found o n r key id true rest
      else if n.window = 0 then (r.miss n key (if (s.block id).any (fun b => b.passes n key k none) then 3 else 2) 0, s)
      else s.probeSearch o n { r with run := [] } key k toks
    | [] => s.probeSearch o n r key k toks

/-- One block of a probe that has not stopped, counted in the namespace's statistics (Table 7-3). -/
def State.probeOne (o : Op) (n : Namespace) (x : ProbeRun × State) (src : List Byte) : ProbeRun × State :=
  if x.1.stop.isSome then x
  else
    let y := State.probeStep o n x src
    let hit := !o.noVerify && (y.1.found.getLast?).any (·.block.isSome)
    (y.1, y.2.updNs n.index (fun n => { n with stats := n.stats.probe hit }))

/-- The start of a probe: block f - 1 is found and verified, or the probe stops with PARENT_MISS. -/
def State.probeStart (s : State) (o : Op) (n : Namespace) : ProbeRun × State :=
  let parent := BitVec.ofNat 128 (o.p 16 16)
  let r : ProbeRun := ⟨[], parent, none, 0, [], none⟩
  if o.p 12 4 = 0 then (r, s)
  else match s.seek n parent (o.p 36 4) with
    | (none, s) => ({ r with stop := some 4 }, s)
    | (some e, s) =>
      let ids := s.ptrBlocks e.ptr
      match (if o.noVerify then none else s.firstBad ids false) with
      | some b => ({ r with stop := some 4 }, s.recordLost b (some o.tag))
      | none =>
      match (if o.noVerify then ids.head? else ids.find? (fun i => (s.block i).any (fun b => b.passes n parent (o.p 12 4 - 1) none))) with
      | some id =>
        let x := if o.probeOpens then s.probeHit o id else s
        ({ r with parent := some id, run := if o.noVerify then [] else s.runRest e.ptr }, x)
      | none => ({ r with stop := some 4, falseHits := 1 }, s.bump 0x043 1)

/-! ### The answer (R160, R161) -/

/-- Is the block at index `i` (from 0) present? -/
def ProbeRun.has (r : ProbeRun) (i : Nat) : Bool := (r.found[i]?).any (fun h => h.block.isSome)

/-- The blocks that a windowed depth needs: the sinks, and the last W below it (R160). -/
def windowNeeds (n : Namespace) (d : Nat) : List Nat :=
  (List.range d).filter (fun i => i < n.sinks || d ≤ i + n.window)

/-- The verified depth. -/
def ProbeRun.depth (r : ProbeRun) (n : Namespace) (f : Nat) : Nat :=
  if r.stop = some 4 then 0
  else if n.window = 0 then f + (r.found.takeWhile (fun h => h.block.isSome)).length
  else (((List.range (r.found.length + 1)).filter (fun d => (windowNeeds n d).all r.has)).getLast?).getD 0

/-- The stop cause: why the probe stopped, or in a sliding window what keeps depth d + 1 away; at the end of its blocks
END, or LIMIT (Table 6-6). -/
def ProbeRun.cause (r : ProbeRun) (o : Op) (n : Namespace) (d : Nat) : Nat :=
  match r.stop with
  | some c => c
  | none =>
    if d < r.found.length then
      (((windowNeeds n (d + 1)).findSome? (fun i => if r.has i then none else r.found[i]?)).elim 1 (·.cause))
    else if o.probeCap n.geo.b < o.probeBlocks n.geo.b then 5 else 0

/-- The slowest tier among the reported blocks. -/
def ProbeRun.slowest (r : ProbeRun) (f d : Nat) : Nat :=
  (r.found.take (d - f)).foldl (fun a h => if h.block.isSome then max a (h.entry / 4 % 4) else a) 0

/-- The result of a probe without OPEN. -/
def probeResult (d cause slow falseHits : Nat) : Nat :=
  d + cause * 2 ^ 32 + slow * 2 ^ 36 + min falseHits 0xFFFF * 2 ^ 48

/-- The entries that follow the header: one for each block hashed or read.  The engine hashes up to the in-flight limit
ahead of verification, and it stops hashing at the stop; the blocks past the stop have all-zero entries. -/
def ProbeRun.entries (r : ProbeRun) (o : Op) (n : Namespace) : List Nat :=
  let flight := if o.p 34 2 = 0 then 16 else o.p 34 2
  let cap := o.probeCap n.geo.b
  let count := if r.stop = some 4 then 0 else if r.stop.isSome then min cap (r.found.length - 1 + flight) else r.found.length
  (List.range count).map (fun i => (r.found[i]?).elim 0 (·.entry))

/-- The chain key of block d - 1. -/
def ProbeRun.keyAt (r : ProbeRun) (o : Op) (d : Nat) : BitVec 128 :=
  if d = o.p 12 4 then BitVec.ofNat 128 (o.p 16 16) else (r.found[d - o.p 12 4 - 1]?).elim 0 (·.key)

/-- The block at depth d - 1. -/
def ProbeRun.last (r : ProbeRun) (s : State) (f d : Nat) : Option Block :=
  (if d = f then r.parent else (r.found[d - f - 1]?).bind (·.block)).bind s.block

/-- The location buffer written, then the completion. -/
def probeWrite (o : Op) (r : ProbeRun) (n : Namespace) (st : Status) (d cause handle : Nat) (s back : State) : BodyOut :=
  let slow := r.slowest (o.p 12 4) d
  let res := if o.probeOpens then d + handle * 2 ^ 32 else probeResult d cause slow r.falseHits
  if o.p 40 8 = 0 then .done st res s
  else match s.hostWrite (s.opFn o) (s.opFn o).link (o.p 40 8)
      (probeBytes d (o.p 12 4) r.falseHits cause slow handle (r.keyAt o d) (r.entries o n)) with
    | .ok s => .done st res (s.wroteFor o (s.opFn o).link
        (probeBytes d (o.p 12 4) r.falseHits cause slow handle (r.keyAt o d) (r.entries o n)).length)
    | .error x => x.answer back

/-- The end of a probe: the chain under OPEN, the location buffer, the completion (R161 to R163). -/
def probeEnd (o : Op) (n : Namespace) (r : ProbeRun) (s : State) : BodyOut :=
  let d := r.depth n (o.p 12 4)
  let cause := r.cause o n d
  if !o.probeOpens then probeWrite o r n .ok d cause 0 s s
  else
    let refs := if d = 0 then some [] else (r.last s (o.p 12 4) d).bind (fun b =>
      s.refsAt n (r.parent.toList ++ r.found.filterMap (·.block)) b d)
    match refs with
    | none => .done .versionGone d s
    | some refs => match s.openChain n refs with
      | some (h, t) => probeWrite o r n .ok d cause h t s
      | none => .done .quotaExceeded d s

/-- A probe capped by the stripe group's state (Table 13-5). -/
def probeCapped (o : Op) (n : Namespace) (s : State) : BodyOut :=
  let st := if n.gstate == .forming then Status.ok else .groupDegraded
  probeWrite o ⟨[], 0, none, 0, [], some 4⟩ n st 0 6 0 s s

/-- Up to 256 blocks, read from the source and processed (R162). -/
def probeUnit (o : Op) (n : Namespace) (r : ProbeRun) (s : State) : Except Xfer (ProbeRun × State) :=
  let at_ := r.found.length
  let c := min 256 (o.probeCap n.geo.b - at_)
  let w := o.probeStep n.geo.b
  match s.hostRead (s.opFn o) (s.opFn o).link (o.buf + at_ * w) (c * w) with
  | .error x => .error x
  | .ok b => .ok ((chunks w c b).foldl (State.probeOne o n) (r, s.readFor o (o.buf + at_ * w) (c * w)))

/-- PROBE (R157 to R163); long above 256 blocks. -/
def bodyProbe (o : Op) (s : State) : BodyOut :=
  s.withNs o (fun n =>
    if o.probeBad n then .done .badParam 0 s
    else if !n.active then probeCapped o n s
    else
      let s := s.bumpAt 0x040 1 (some n.partition) (some n.index)
      let x := s.probeStart o n
      if 256 < o.probeBlocks n.geo.b then
        .long (cdiv (o.probeCap n.geo.b) 256) 0 (x.2.setOp o.tag (fun o => { o with work := .probe x.1 }))
      else if x.1.stop.isSome then probeEnd o n x.1 x.2
      else match probeUnit o n x.1 x.2 with
        | .ok y => probeEnd o n y.1 y.2
        | .error e => e.answer s)

/-- A unit of a long PROBE. -/
def unitProbe (o : Op) (s : State) : UnitOut :=
  match o.work, s.nsAny o.handle with
  | .probe r, some n =>
    let close := fun b : BodyOut => match b with
      | .done st res t => UnitOut.last st res (res % 2 ^ 32) t
      | .long .. | .wait .. => .stay s
    if !n.active then close (probeCapped o n s)
    else if r.stop.isSome then close (probeEnd o n r s)
    else match probeUnit o n r s with
      | .error (.waits _) => .stay s
      | .error .denied => .cut .denied o.result o.resume s
      | .error .failed => .cut .outOfRange o.result o.resume s
      | .ok (r, t) =>
        if r.stop.isSome || o.probeCap n.geo.b ≤ r.found.length then close (probeEnd o n r t)
        else
          let d := r.depth n (o.p 12 4)
          let res := if o.probeOpens then d else probeResult d 0 (r.slowest (o.p 12 4) d) r.falseHits
          .more res d (t.setOp o.tag (fun o => { o with work := .probe r }))
  | _, _ => .cut .badHandle o.result o.resume s

/-- PROBE from a queue pair. -/
def execProbe (c : Cmd) (s : State) : Host.Outcome State Fault Refusal := .next (s.submit 0x30 bodyProbe c)

/-! ### LOOKUP (R182) -/

/-- The winners of a search of every bank of the group, in list order, and their match counts (R147, R182). -/
def State.searchGroup (s : State) (n : Namespace) (key mask : Nat) : List Entry × Nat × State :=
  (s.groupBanks n).foldl (fun a bank =>
    let l := a.2.2.matches bank key mask
    (a.1 ++ l.take 1, a.2.1 + min 3 l.length, a.2.2.searched bank)) ([], 0, s)

/-- The chain key search of LOOKUP: one bank, under mask 0. -/
def State.searchKey (s : State) (n : Namespace) (key : BitVec 128) (segment digest : Nat) : List Entry × Nat × State :=
  match s.bankFor n key with
  | none => ([], 0, s)
  | some bank =>
    let l := s.matches bank (nativeKey n key segment digest) (s.globalMask 0 n.entryWidth)
    (l.take 1, min 3 l.length, s.searched bank)

/-- Does a LOOKUP's candidate verify: the full key, the namespace and segment, or the full digest? -/
def lookupPasses (o : Op) (n : Namespace) (digest : Nat) (b : Block) : Bool :=
  b.ns == n.index && b.gen == n.gen && (match o.p 24 1 with
    | 0 => b.key == BitVec.ofNat 128 (o.p 8 16)
    | 1 => b.segment == o.p 28 4
    | _ => b.digest == digest)

/-- LOOKUP once its digest has been read. -/
def lookup (o : Op) (n : Namespace) (digest : Nat) (s : State) : BodyOut :=
  let r := match o.p 24 1 with
    | 0 => s.searchKey n (BitVec.ofNat 128 (o.p 8 16)) (if n.entryWidth = 2 then o.p 28 4 else 0) digest
    | 1 => s.searchGroup n (nativeKey n 0 (o.p 28 4) 0) (s.globalMask 2 n.entryWidth)
    | _ => s.searchGroup n (nativeKey n 0 0 digest) (s.globalMask 3 n.entryWidth)
  let s := r.2.2.bumpAt 0x04F 1 (some n.partition) (some n.index)
  let best := (sortBy (fun a b : Entry => decide (b.prio ≤ a.prio)) r.1).head?
  match best with
  | none => .done .ok 0 s
  | some e =>
    match s.firstBad (s.ptrBlocks e.ptr) false with
    | some b => .done .ok 0 (s.recordLost b (some o.tag))
    | none =>
    match ((s.ptrBlocks e.ptr).filterMap s.block).find? (lookupPasses o n digest) with
    | none => .done .ok 0 (s.bump 0x043 1)
    | some b =>
      let s := (s.touch b.id).updBlock b.id (fun b => { b with lastHit := s.clock.now })
      if bit (o.p 25 1) 0 then
        match s.refsAt n [] b (b.k + 1) with
        | none => .done .versionGone 0 s
        | some refs => match s.openChain n refs with
          | some (h, t) => .done .ok (b.k + 1 + h * 2 ^ 32) t
          | none => .done .quotaExceeded 0 s
      else .done .ok (b.k + 1 + b.slowest * 2 ^ 32 + min 255 r.2.1 * 2 ^ 40) s

/-- LOOKUP (R182, Table 6-12). -/
def bodyLookup (o : Op) (s : State) : BodyOut :=
  s.withNs o (fun n =>
    let mode := o.p 24 1
    if 2 < mode || 2 ≤ o.p 25 1 || (mode = 1 && n.entryWidth != 2) || (mode = 2 && n.entryWidth != 4) then
      .done .badParam 0 s
    else if bit (o.p 25 1) 0 && !n.active then .done .groupDegraded (s.groupResult n) s
    else if mode = 2 || (mode = 0 && n.entryWidth = 4 && o.buf != 0) then
      s.withRead o o.buf 32 (fun l => if leNat l = 0 then .done .badParam 0 s else lookup o n (leNat l) s)
    else lookup o n 0 s)

/-- LOOKUP from a queue pair. -/
def execLookup (c : Cmd) (s : State) : Host.Outcome State Fault Refusal := .next (s.submit 0x31 bodyLookup c)

/-! ### INDEX_TAG and INDEX_EVICT (R182) -/

/-- The entry whose key is this block's: its own, or its run's where it is the first. -/
def State.entryOf (s : State) (b : Block) : Option Entry :=
  match s.runOf b.id with
  | some r => if r.blocks.head? = some b.id then s.runEntry r.slot else none
  | none => s.ownEntry b.id

/-- INDEX_TAG once its digest has been read: the record takes the tags, the entry is replaced under R170. -/
def indexTag (o : Op) (n : Namespace) (id digest : Nat) (s : State) : BodyOut :=
  match (s.block id).bind (fun b => (s.entryOf b).map (fun e => (b, e))) with
  | none => .done .versionGone 0 s
  | some (b, e) =>
    let fl := o.p 16 1
    let b' := { b with
      segment := if bit fl 0 then o.p 20 4 else b.segment
      digest := if bit fl 1 then digest else b.digest }
    .done .ok 0 ((s.updBlock id (fun _ => b')).swapEntry e (b'.nativeKey n) e.ptr (if bit fl 2 then o.p 24 2 else e.prio)
      (n.width != 8))

/-- INDEX_TAG (R182). -/
def bodyIndexTag (o : Op) (s : State) : BodyOut :=
  s.withChain o (fun n c =>
    let fl := o.p 16 1
    if 8 ≤ fl || (bit fl 2 && !o.expert) || (bit fl 0 && n.entryWidth != 2) || (bit fl 1 && n.entryWidth != 4) then
      .done .badParam 0 s
    else match c.view.refs[o.p 12 4]? with
    | none => .done .outOfRange 0 s
    | some (.held id) =>
      if bit fl 1 then
        s.withRead o o.buf 32 (fun l => if leNat l = 0 then .done .badParam 0 s else indexTag o n id (leNat l) s)
      else indexTag o n id 0 s
    | some _ => .done .versionGone 0 s)

/-- INDEX_TAG from a queue pair. -/
def execIndexTag (c : Cmd) (s : State) : Host.Outcome State Fault Refusal := .next (s.submit 0x32 bodyIndexTag c)

/-- One block of INDEX_EVICT: the entries removed, and the state.  In a width-8 namespace the member reports the block
and the leader orders a group unindex (R373, R374). -/
def State.evictOne (s : State) (n : Namespace) (id : Nat) : Nat × State :=
  match s.block id with
  | none => (0, s)
  | some b =>
    if !b.indexed then (0, s)
    else
      let cnt := b2n (s.entryOf b).isSome
      if n.width != 8 then (cnt, s.unindex id)
      else (cnt, (if s.leads n && n.gstate == .active then s.unindex id else s).reportUnindex n b)

/-- Blocks of an INDEX_EVICT, the last first. -/
def State.evictRange (s : State) (n : Namespace) (ids : List Nat) : Nat × State :=
  ids.reverse.foldl (fun a id =>
    let r := a.2.evictOne n id
    (a.1 + r.1, r.2)) (0, s)

/-- The blocks that an INDEX_EVICT names: none when they do not lie in the chain's current version. -/
def evictNames (o : Op) (n : Namespace) (v : View) : Option (Nat × Nat) :=
  let all := v.count n.geo.b
  let first := o.p 12 4
  let count := if o.p 16 4 = 0 then all - first else o.p 16 4
  if all < first + count || all < first then none else some (first, count)

/-- Held blocks at positions of a version. -/
def View.heldIn (v : View) (first count : Nat) : List Nat :=
  ((v.refs.drop first).take count).filterMap BRef.block

/-- INDEX_EVICT (R182): long above 1,024 blocks. -/
def bodyIndexEvict (o : Op) (s : State) : BodyOut :=
  s.withChain o (fun n c => match evictNames o n c.view with
    | none => .done .outOfRange 0 s
    | some (first, count) =>
      if 1024 < count then .long (cdiv count 1024) 0 (s.setOp o.tag (fun o => { o with view := some c.view }))
      else
        let r := s.evictRange n (c.view.heldIn first count)
        .done .ok r.1 r.2)

/-- A unit of a long INDEX_EVICT: 1,024 blocks. -/
def unitIndexEvict (o : Op) (s : State) : UnitOut :=
  match s.nsAny o.handle, o.view with
  | some n, some v =>
    (match evictNames o n v with
    | some (first, count) =>
      let done := 1024 * o.unitsDone
      let r := s.evictRange n (v.heldIn (first + done) (min 1024 (count - done)))
      let res := o.result + r.1
      let next := first + min count (done + 1024)
      if o.unitsDone + 1 < o.unitsTotal then .more res next r.2 else .last .ok res next r.2
    | none => .cut .outOfRange o.result o.resume s)
  | _, _ => .cut .badHandle o.result o.resume s

/-- INDEX_EVICT from a queue pair. -/
def execIndexEvict (c : Cmd) (s : State) : Host.Outcome State Fault Refusal := .next (s.submit 0x33 bodyIndexEvict c)

end Sys2Proof.Machine
end

