-- ==== Sys2Proof/Machine/Forerunner.lean ====
section
/-! DEFINITION. Forerunner.lean: forerunner regions and the cascade, INDEX_BANKS, and the events of the trestle dies (The
prefix index, R167, R174 to R178, R182 to R192; Faults, Table 15-1, Table 15-3). -/
namespace Sys2Proof.Machine

/-! ### Regions by position (R183) -/

/-- The 16-bit handle of a region: slot in bits [3:0], generation above (log entry 28). -/
def Region.handle (r : Region) : Nat := mkHandle 4 r.num r.gen

/-- A region by its handle. -/
def State.regionOf (s : State) (h : Nat) : Option Region := s.idx.regions.find? (fun r => r.handle == h)

/-- Positions of a region. -/
def Region.size (r : Region) : Nat := r.banks * bankEntries r.width

/-- The first bank of a region. -/
def Region.base (r : Region) : Nat := 64 * r.die + r.first

/-- Is the bank one of the region's? -/
def Region.holds (r : Region) (b : Nat) : Bool := r.base ≤ b && b < r.base + r.banks

/-- The position of an entry of the region. -/
def Region.posOf (r : Region) (e : Entry) : Nat := (e.bank - r.base) * bankEntries r.width + e.pos

/-- An entry put at a position of the region. -/
def Region.place (r : Region) (e : Entry) (p : Nat) : Entry :=
  { e with bank := r.base + p / bankEntries r.width, pos := p % bankEntries r.width }

/-- The region's valid entries, lowest position first. -/
def State.regionList (s : State) (r : Region) : List Entry :=
  sortBy (fun a b => decide (r.posOf a ≤ r.posOf b)) (s.idx.entries.filter (fun e => r.holds e.bank))

/-- The region's entries replaced. -/
def State.setRegionList (s : State) (r : Region) (l : List Entry) : State :=
  { s with idx.entries := s.idx.entries.filter (fun e => !r.holds e.bank) ++ l }

/-- The most entries a region may hold (R184). -/
def Region.cap (r : Region) : Nat := r.size / r.gap * (r.gap - 1)

/-- The target position of an insert: behind the last entry of its rank or lower, or of a lower rank for INSERT_FIRST
(R184, R185). -/
def Region.target (r : Region) (l : List Entry) (rank : Nat) (first : Bool) : Nat :=
  l.foldl (fun t e => if e.prio < rank || (!first && e.prio = rank) then r.posOf e + 1 else t) 0

/-- The hole nearest to a position, the higher one on a tie; `fuel` bounds the distance. -/
def Region.nearHole (r : Region) (used : List Nat) (t d : Nat) : Nat → Option Nat
  | 0 => none
  | fuel + 1 =>
    if t + d < r.size && !used.contains (t + d) then some (t + d)
    else if d ≤ t && t - d < r.size && !used.contains (t - d) then some (t - d)
    else r.nearHole used t (d + 1) fuel

/-- Entries in `[a, b)` moved up by one position, or in `(b, a]` moved down. -/
def Region.shift (r : Region) (l : List Entry) (from_ to_ : Nat) (up : Bool) : List Entry :=
  l.map (fun e =>
    let p := r.posOf e
    if from_ ≤ p && p < to_ then r.place e (if up then p + 1 else p - 1) else e)

/-- Entries in a range of positions. -/
def Region.countIn (r : Region) (l : List Entry) (a b : Nat) : Nat :=
  (l.filter (fun e => a ≤ r.posOf e && r.posOf e < b)).length

/-- An insert under R185: the entries, the position written and the entries moved. -/
def Region.insertAt (r : Region) (l : List Entry) (e : Entry) (t h : Nat) : List Entry × Nat × Nat :=
  if t ≤ h then (r.place e t :: r.shift l t h true, t, r.countIn l t h)
  else (r.place e (t - 1) :: r.shift l (h + 1) t false, t - 1, r.countIn l (h + 1) t)

/-! ### The hole keeper (R187) -/

/-- Holes in the group of positions `g`. -/
def Region.holesIn (r : Region) (l : List Entry) (g : Nat) : Nat := r.gap - r.countIn l (g * r.gap) (g * r.gap + r.gap)

/-- The group left without a hole. -/
def Region.fullGroup (r : Region) (l : List Entry) : Option Nat :=
  (l.map (fun e => r.posOf e / r.gap)).find? (fun g => r.holesIn l g = 0)

/-- The nearest group with two or more holes, the higher one on a tie. -/
def Region.donor (r : Region) (l : List Entry) (g d : Nat) : Nat → Option Nat
  | 0 => none
  | fuel + 1 =>
    if (g + d) * r.gap < r.size && 2 ≤ r.holesIn l (g + d) then some (g + d)
    else if d ≤ g && 2 ≤ r.holesIn l (g - d) then some (g - d)
    else r.donor l g (d + 1) fuel

/-- The hole of group `x` that lies nearest to group `g`. -/
def Region.edgeHole (r : Region) (l : List Entry) (x g : Nat) : Option Nat :=
  let used := l.map r.posOf
  let ps := (List.range r.gap).map (fun i => x * r.gap + i)
  (if g < x then ps else ps.reverse).find? (fun p => !used.contains p)

/-- The keeper: groups without a hole take one each from the nearest group with two or more; the entries, and the
entries moved.  `fuel` bounds the groups it mends. -/
def Region.keep (r : Region) (l : List Entry) (moved : Nat) : Nat → List Entry × Nat
  | 0 => (l, moved)
  | fuel + 1 =>
    match r.fullGroup l with
    | none => (l, moved)
    | some g =>
      match (r.donor l g 1 (l.length + 2)).bind (fun x => (r.edgeHole l x g).map (fun h => (x, h))) with
      | none => (l, moved)
      | some (x, h) =>
        if g < x then
          let a := g * r.gap + r.gap - 1
          r.keep (r.shift l a h true) (moved + r.countIn l a h) fuel
        else
          let b := g * r.gap + 1
          r.keep (r.shift l (h + 1) b false) (moved + r.countIn l (h + 1) b) fuel

/-! ### FR_REGION (R183, Table 6-13) -/

/-- The first of `n` contiguous FREE banks of a die for a partition. -/
def State.freeRun (s : State) (die first n part : Nat) : Option Nat :=
  let ok := fun f => f + n ≤ 64 && (List.range n).all (fun i =>
    s.partBankOk part (64 * die + f + i) && s.bankIsFree (64 * die + f + i))
  if first = 0xFF then (List.range 64).find? ok else if ok first then some first else none

/-- The die and first bank of a new region: the lowest that fit, where the host leaves them open. -/
def State.regionPlace (s : State) (die first n part : Nat) : Option (Nat × Nat) :=
  (if die = 0xFF then List.range 4 else [die]).findSome? (fun d => (s.freeRun d first n part).map (fun f => (d, f)))

/-- FR_REGION CREATE. -/
def frCreate (o : Op) (s : State) : BodyOut :=
  let num := o.p 9 1
  let n := o.p 12 1
  let w := o.p 13 1
  let part := o.p 15 1
  let die := o.p 10 1
  let first := o.p 11 1
  if 16 ≤ num || s.idx.regions.any (·.num == num) || n = 0 || 64 < n || !(w = 1 || w = 2 || w = 4) ||
      o.p 14 1 < 3 || 8 < o.p 14 1 || !(die < 4 || die = 0xFF) || !(first + n ≤ 64 || first = 0xFF) ||
      !partValid (s.itemsOf o) part then .done .badParam 0 s
  else if !s.mayPart (s.opFn o) part then .done .denied 0 s
  else match s.regionPlace die first n part with
  | none => .done .quotaExceeded 0 s
  | some (d, f) =>
    let gen := nextGen 12 (assoc s.idx.regionGens num 0)
    let r : Region := ⟨num, gen, d, f, n, w, 2 ^ o.p 14 1, part⟩
    let new := (List.range n).map (fun i => Bank.mk (r.base + i) .forerunner w part num false)
    .done .ok r.handle { s with
      idx.banks := new ++ s.idx.banks.filter (fun b => !r.holds b.num)
      idx.regions := s.idx.regions ++ [r]
      idx.regionGens := assocSet s.idx.regionGens num gen }

/-- The 64 bytes of FR_REGION QUERY: ten 4-byte values in the order Table 6-13 names them, then 0 (log entry 29). -/
def State.regionRecord (s : State) (r : Region) : List Byte :=
  let valid := (s.regionList r).length
  ([r.banks, r.width, r.gap, valid, r.size - valid, r.first, r.banks, r.width,
    ((List.range 9).find? (fun c => 2 ^ c = r.gap)).getD 0, r.partition].flatMap (leBytes 4)) ++ leBytes 24 0

/-- FR_REGION. -/
def bodyFrRegion (o : Op) (s : State) : BodyOut :=
  match o.p 8 1, s.idx.regions.find? (·.num == o.p 9 1) with
  | 0, _ => frCreate o s
  | 1, some r =>
    if !s.mayPart (s.opFn o) r.partition then .done .denied 0 s
    else .long r.banks r.handle ({ s with idx.regions := s.idx.regions.filter (·.num != r.num) }.setOp o.tag
      (fun o => { o with work := .slots ((List.range r.banks).map (fun i => r.base + i)) }))
  | 2, some r =>
    if !s.mayPart (s.opFn o) r.partition then .done .denied 0 s
    else s.writeThen o o.buf (s.regionRecord r) (fun s => .done .ok r.handle s)
  | 1, none | 2, none => .done .badHandle 0 s
  | _, _ => .done .badParam 0 s

/-- A unit of FR_REGION DELETE: one bank, its entries invalidated and the bank FREE. -/
def unitFrRegion (o : Op) (s : State) : UnitOut :=
  match o.work with
  | .slots (b :: rest) =>
    let s := { s with
      idx.entries := s.idx.entries.filter (·.bank != b)
      idx.banks := s.idx.banks.filter (fun x => x.num != b || x.lost) }
    let s := s.setOp o.tag (fun o => { o with work := .slots rest })
    if rest.isEmpty then .last .ok o.result (o.unitsDone + 1) s else .more o.result (o.unitsDone + 1) s
  | _ => .last .ok o.result o.resume s

/-- FR_REGION from a queue pair. -/
def execFrRegion (c : Cmd) (s : State) : Host.Outcome State Fault Refusal := .next (s.submit 0x34 bodyFrRegion c)

/-! ### FR_WRITE (R184 to R187, Table 6-14) -/

/-- Key and mask of an image of `w` units, each 10 key bytes then 10 mask bytes. -/
def frImage (w : Nat) (b : List Byte) : Nat × Nat :=
  ((chunks 20 w b).zipIdx).foldl (fun a x =>
    (a.1 + leNat (x.1.take 10) * 2 ^ (80 * x.2), a.2 + leNat (x.1.drop 10) * 2 ^ (80 * x.2))) (0, 0)

/-- An insert and its restoration (R185 to R187).  A region that has lost a bank takes no insert (log entry 30). -/
def frInsert (o : Op) (r : Region) (key mask : Nat) (s : State) : BodyOut :=
  let l := s.regionList r
  let lost := (List.range r.banks).any (fun i => (s.bank (r.base + i)).lost)
  if r.cap ≤ l.length || lost then .done .quotaExceeded 0 s
  else
    let t := r.target l (o.p 16 2) (o.p 10 1 = 1)
    match r.nearHole (l.map r.posOf) t 0 (l.length + 2) with
    | none => .done .quotaExceeded 0 s
    | some h =>
      let x := r.insertAt l ⟨0, 0, key, mask, o.p 16 2, o.p 20 4⟩ t h
      let k := r.keep x.1 x.2.2 (l.length + 2)
      .done .ok (x.2.1 + x.2.2 % 2 ^ 16 * 2 ^ 32) ((s.setRegionList r k.1).bump 0x049 k.2)

/-- FR_WRITE. -/
def bodyFrWrite (o : Op) (s : State) : BodyOut :=
  match s.regionOf (o.p 8 2) with
  | none => .done .badHandle 0 s
  | some r =>
    let l := s.regionList r
    let p := o.p 12 4
    let act := o.p 10 1
    if act < 2 then s.withRead o o.buf (20 * r.width) (fun b => frInsert o r (frImage r.width b).1 (frImage r.width b).2 s)
    else if act = 2 then
      if l.any (fun e => r.posOf e == p) then .done .ok p (s.setRegionList r (l.filter (fun e => r.posOf e != p)))
      else .done .outOfRange 0 s
    else if act = 3 then
      if l.any (fun e => r.posOf e == p) then
        .done .ok p (s.setRegionList r (upd (fun e => r.posOf e == p) (fun e => { e with ptr := o.p 20 4 }) l))
      else .done .outOfRange 0 s
    else if act = 4 then
      s.withRead o o.buf (20 * r.width) (fun b =>
        let im := frImage r.width b
        match l.find? (fun e => e.hits im.1 im.2) with
        | some e => .done .ok (r.posOf e) (s.setRegionList r (l.filter (fun x => r.posOf x != r.posOf e)))
        | none => .done .outOfRange 0 s)
    else .done .badParam 0 s

/-- FR_WRITE from a queue pair. -/
def execFrWrite (c : Cmd) (s : State) : Host.Outcome State Fault Refusal := .next (s.submit 0x35 bodyFrWrite c)

/-! ### FR_SEARCH and the cascade (R188 to R192) -/

/-- A region's search: a hit, and the result word of R188. -/
def State.frFind (s : State) (r : Region) (key mask : Nat) : Bool × Nat :=
  match (s.regionList r).filter (fun e => e.hits key mask) with
  | [] => (false, 0)
  | e :: t => (true, e.ptr + r.posOf e * 2 ^ 32 + 2 ^ 57 + b2n (!t.isEmpty) * 2 ^ 59)

/-- FR_SEARCH once its key is whole. -/
def frSearch (o : Op) (r : Region) (key : Nat) (s : State) : BodyOut :=
  let s := (List.range r.banks).foldl (fun s i => s.searched (r.base + i)) s
  let s := s.bump 0x048 1
  let f := s.frFind r key (s.globalMask (o.p 11 1) r.width)
  if !bit (o.p 10 1) 0 then .done .ok f.2 s
  else
    let s := s.bump 0x04A 1
    let k := s.idx.cascade
    let c : CascadeSearch := ⟨o.tag, o.p 12 2, f.1, f.2, s.clock.now⟩
    if k.desync then .done .integrityError 0 s
    else match (if c.seq = k.expected then k.upstream else none) with
      | some up => .done .ok (c.answer up) (s.cascadePass c up)
      | none => .wait (.cascade c.seq) { s with idx.cascade := { k with waiting := k.waiting ++ [c] } }

/-- FR_SEARCH (R188): with CASCADE it waits for its turn. -/
def bodyFrSearch (o : Op) (s : State) : BodyOut :=
  match s.regionOf (o.p 8 2) with
  | none => .done .badHandle 0 s
  | some r =>
    let casc := bit (o.p 10 1) 0
    if s.idx.cascade.waiting.any (·.tag == o.tag) then .wait (.cascade (o.p 12 2)) s
    else if 2 ≤ o.p 10 1 || 8 ≤ o.p 11 1 || (r.width = 1 && o.buf != 0) || (r.width != 1 && o.buf = 0) ||
        (casc && (!s.idx.cascade.enable || s.idx.cascade.region != r.num)) then .done .badParam 0 s
    else if r.width = 1 then frSearch o r (o.p 16 10) s
    else s.withRead o o.buf (10 * (r.width - 1)) (fun b => frSearch o r (o.p 16 10 + leNat b * 2 ^ 80) s)

/-- FR_SEARCH from a queue pair; the searches whose turn has come behind it complete. -/
def execFrSearch (c : Cmd) (s : State) : Host.Outcome State Fault Refusal :=
  let s := s.submit 0x36 bodyFrSearch c
  .next (s.cascadeRun s.idx.cascade.waiting.length)

/-- An upstream frame on MATCH_IN (R189 to R191): it is held until the search it belongs to has its local result. -/
def execCascadeFrameReceived (hit seqBit guard : Bool) (s : State) : Host.Outcome State Fault Refusal :=
  let c := s.idx.cascade
  if !c.enable || c.head || c.desync then .next s
  else if guard then .next (s.desync 4)
  else if s.cascadeOps.length ≤ c.frames.length then .next (s.desync 3)
  else if seqBit != ((c.expected + c.frames.length) % 2 == 1) then .next (s.desync 2)
  else
    let s := { s with idx.cascade := { c with frames := c.frames ++ [hit] } }
    .next (s.cascadeRun s.idx.cascade.waiting.length)

/-- No upstream frame within 100 µs of the local result (R191). -/
def execCascadeTimeout (s : State) : Host.Outcome State Fault Refusal := .next (if s.cascadeLate then s.desync 1 else s)

/-- A write of IDX_CASCADE_CTRL (R192, Table 6-16): its fields, and RESYNC. -/
def State.cascadeWrite (s : State) (f : Fn) (value : Nat) : State :=
  if !s.boot.link || !s.mayWrite f then s
  else
    let c := { s.idx.cascade with
      enable := bit value 30, head := bit value 29, region := bits value 19 16, nextSeq := bits value 15 0 }
    let s := { s with idx.cascade := c }
    if bit value 31 then s.resync else s.cascadeRun c.waiting.length

/-- A write of IDX_CASCADE_CTRL with RESYNC. -/
def execCascadeResync (r : Req) (value : Nat) (s : State) : Host.Outcome State Fault Refusal :=
  .next (if s.hears r.fn r.tee then s.wake.cascadeWrite r.fn value else s)

/-! ### INDEX_BANKS (R154, R156, R182) -/

/-- One 16-byte entry of INDEX_BANKS QUERY. -/
def State.bankRecord (s : State) (n : Nat) : List Byte :=
  let b := s.bank n
  leBytes 1 (match b.mode with
    | .free => 0
    | .native => 1
    | .forerunner => 2) ++ leBytes 1 b.width ++ leBytes 1 b.partition ++
  leBytes 1 (if b.mode == .free || b.lost then 0xFF else b.owner) ++ leBytes 4 (s.bankList n).length ++
  leBytes 4 (s.bankFree n) ++ leBytes 4 0

/-- FORM_GROUP: the group of the banks that the buffer lists. -/
def formGroup (o : Op) (banks : List Nat) (s : State) : BodyOut :=
  let part := o.p 12 1
  if banks.any (fun b => decide (256 ≤ b)) || banks.eraseDups.length != banks.length then .done .outOfRange 0 s
  else if banks.any (fun b => !s.partBankOk part b) then .done .denied 0 s
  else if banks.any (fun b => !s.bankIsFree b) then .done .quotaExceeded 0 s
  else match lowestFree (s.idx.groups.map (·.num)) 0 64 with
    | none => .done .quotaExceeded 0 s
    | some num => .done .ok num (s.formGroup num (o.p 10 1) part banks)

/-- INDEX_BANKS (R182). -/
def bodyIndexBanks (o : Op) (s : State) : BodyOut :=
  if !o.expert then .done .badParam 0 s
  else match o.p 8 1 with
  | 0 => s.writeThen o o.buf ((List.range 256).flatMap s.bankRecord) (fun s => .done .ok 0 s)
  | 1 =>
    let i := o.p 9 1
    if i < 4 || 7 < i then .done .badParam 0 s
    else s.withRead o o.buf 40 (fun b => .done .ok 0 { s with idx.masks := assocSet s.idx.masks i (leNat b) })
  | 2 =>
    let w := o.p 10 1
    let g := o.p 11 1
    if !(w = 1 || w = 2 || w = 4) || 8 < g || !partValid (s.itemsOf o) (o.p 12 1) then .done .badParam 0 s
    else if !s.mayPart (s.opFn o) (o.p 12 1) then .done .denied 0 s
    else s.withRead o o.buf (2 * 2 ^ g) (fun b => formGroup o ((chunks 2 (2 ^ g) b).map leNat) s)
  | 3 =>
    (match s.idx.groups.find? (·.num == o.p 13 1) with
    | none => .done .outOfRange 0 s
    | some g =>
      if !s.mayPart (s.opFn o) g.partition || s.store.namespaces.any (·.group == g.num) ||
          g.banks.any (fun b => !(s.bankList b).isEmpty) then .done .denied 0 s
      else .done .ok 0 (s.dissolveGroup g.num))
  | _ => .done .badParam 0 s

/-- INDEX_BANKS from a queue pair. -/
def execIndexBanks (c : Cmd) (s : State) : Host.Outcome State Fault Refusal := .next (s.submit 0x37 bodyIndexBanks c)

/-! ### Ports, bands, parity and records (R167, R174, R176, R177, R415) -/

/-- A write that waited 2 µs takes the next cycle: it is counted (R174). -/
def execForcedWrite (port : Nat) (s : State) : Host.Outcome State Fault Refusal :=
  .next (s.event ⟨0x04C, 1, none, 0x2000 + 0x100 * (port / 2) + 0x40 + port % 2, none⟩)

/-- Where each band is entered and left, in °C (Table 6-10). -/
def bandEnter (b : Nat) : Nat := [0, 75, 88, 98].getD b 0
def bandLeave (b : Nat) : Nat := [0, 72, 85, 95].getD b 0

/-- The band after a sample: the highest one entered, or as far down as the temperature leaves (R176). -/
def nextBand (b t : Nat) : Nat :=
  let up := ((List.range 4).filter (fun x => bandEnter x ≤ t)).foldl max 0
  let stay := ((List.range (b + 1)).filter (fun x => bandLeave x ≤ t)).foldl max 0
  max up stay

/-- A trestle die's temperature is sampled (R177). -/
def execTrestleTempSample (die temperature : Nat) (s : State) : Host.Outcome State Fault Refusal :=
  let b := assoc s.idx.bands die 0
  let b' := nextBand b temperature
  let s := { s with idx.temps := assocSet s.idx.temps die temperature, idx.bands := assocSet s.idx.bands die b' }
  .next (if b = b' then s else s.event ⟨0x04D, 1, none, 0x2000 + 0x100 * die, none⟩)

/-- A block loses its entry to a fault: it stays in its chains, sealed and unindexed, and a member of a group reports it
(R169, R374). -/
def State.loseEntryOf (s : State) (id : Nat) : State :=
  match s.block id with
  | none => s
  | some b =>
    let s := (s.markIndexed [id] false none).bumpAt 0x046 1 (some (s.blockPart b)) ((s.nsOf b).map (·.index))
    match s.nsOf b with
    | some n => s.reportUnindex n b
    | none => s

/-- An entry invalidated by a fault: every block it leads to becomes unindexed (Table 15-1). -/
def State.loseEntry (s : State) (e : Entry) : State :=
  let slot := e.ptr % 2 ^ 30
  if (s.bank e.bank).mode != .native then s.dropEntry e
  else
    let ids := if e.ptr / 2 ^ 30 = 1 then (s.idx.runs.find? (·.slot == slot)).elim [] (·.blocks) else s.ptrBlocks e.ptr
    let s := s.dropEntry e
    let s := { s with
      idx.runs := s.idx.runs.filter (fun r => !(e.ptr / 2 ^ 30 = 1 && r.slot == slot))
      idx.collisions := s.idx.collisions.filter (fun c => !(e.ptr / 2 ^ 30 = 2 && c.slot == slot)) }
    (ids.foldl State.loseEntryOf s).gc

/-- A trestle bank leaves service: its entries are lost, and searches that select it miss (Table 15-3). -/
def State.loseBank (s : State) (n : Nat) : State :=
  if (s.bank n).lost then s
  else
    let s := (s.bankList n).foldl State.loseEntry s
    let b := s.bank n
    ({ s with idx.banks := { b with lost := true } :: s.idx.banks.filter (·.num != n) }).log
      (.plain .degraded 0x0124 (0x2000 + 0x100 * (n / 64) + n % 64) none)

/-- The background scan finds bad units in a bank: their entries are invalidated; four parity errors within 1 s take the
bank out of service (R415, Table 15-3). -/
def execIndexParityScan (bank : Nat) (bad : List Nat) (s : State) : Host.Outcome State Fault Refusal :=
  let w := max 1 (s.bank bank).width
  let es := ((bad.map (· / w)).eraseDups).filterMap (fun p => (s.bankList bank).find? (·.pos == p))
  let one := fun (s : State) (e : Entry) =>
    (s.loseEntry e).log { cls := .dataLoss, code := 0x0123, locus := 0x2000 + 0x100 * (bank / 64) + bank % 64, tag := none, object := none, addr := some (e.pos * w), detail := 0, poison := false }
  let s := es.foldl one s
  let recent := s.idx.parity.filter (fun x => s.clock.now < x.2 + 1000000000)
  let all := es.map (fun _ => (bank, s.clock.now)) ++ recent
  let s := { s with idx.parity := all }
  .next (if 4 ≤ (all.filter (fun x => x.1 == bank)).length then s.loseBank bank else s)

/-- A block record is freed: every search issued before its invalidation has returned (R167). -/
def execBlockRecordFree (record : Nat) (s : State) : Host.Outcome State Fault Refusal :=
  .next { s with idx.releasing := s.idx.releasing.filter (· != record) }

end Sys2Proof.Machine
end

