-- ==== Sys2Proof/Machine/Placement.lean ====
section
/-! DEFINITION. Placement.lean: the placement engine's decisions and its move units, and the movement commands (Tiers,
quotas and placement, R200 to R218). -/
namespace Sys2Proof.Machine

/-! ### One unit of a move (R200, R212) -/

/-- A block as it stands after a move of layers to a tier. -/
def Block.after (b : Block) (first layers target : Nat) (up : Bool) : Block :=
  { b with pages := b.pages.map (fun p => if goesTo first layers target up p then { p with tier := target } else p) }

/-- Bytes that a move of layers to a tier brings into it: decoded in the deck, stored lengths elsewhere; and the token record and
the summaries where the block record comes along (R198). -/
def Block.moveBytes (b : Block) (n : Namespace) (first layers target : Nat) (up : Bool) : Nat :=
  total ((b.pages.filter (goesTo first layers target up)).map (fun p =>
    granules (if target = 0 then n.geo.pageBytes p.fmt else p.stored))) +
  (if (b.after first layers target up).recordTier = target && b.recordTier != target then b.recordBytes n else 0)

/-- Has the tier that takes the block's records room for them, where it is not the target itself? -/
def State.recordRoom (s : State) (n : Namespace) (b : Block) (first layers target : Nat) (up : Bool) : Bool :=
  let t := (b.after first layers target up).recordTier
  t = b.recordTier || t = target || s.room n.partition t (b.recordBytes n)

/-- Does a host still hold lines of the block's pages: its slot of a tail window is rebinding, and the recall has not ended (R108,
R212, step 2)? -/
def State.slotRecalled (s : State) (b : Block) : Bool :=
  s.store.chains.any (fun c => c.window.any (fun w => w.rebinding.any (·.1 == b.k % 2)) &&
    (c.view.refs.drop (c.view.refs.length - 2)).contains (.held b.id))

/-- What a move unit answers: carried out, no room for it, nothing yet, or a target write that failed. -/
inductive Moved where
  | done (s : State)
  | full
  | waits
  | failed (s : State)

/-- A block's pages moved where they fit, after colder blocks of the partition have made room (R200, R212); it waits for a recall
and for a lease's rate cap (R220); the target's write may fail (Table 7-9; log entry 149). -/
def State.fitMove (s : State) (n : Namespace) (b : Block) (first layers target : Nat) (how : MoveHow) (carried : List Nat)
    (reportIt : Bool) : Moved :=
  let moved := b.pages.filter (goesTo first layers target how.up)
  let need := b.moveBytes n first layers target how.up
  if moved.isEmpty then .done s
  else if s.slotRecalled b then .waits
  else
    let t := s.roomForMove n.partition target need (s.nextUse b) carried
    let to_ := if target = 2 then (t.leaseFor need).map (·.id) else none
    if !t.room n.partition target need || !t.recordRoom n b first layers target how.up || (target = 2 && to_.isNone) then .full
    else if t.leaseBusy (to_.toList ++ moved.filterMap (·.lease)) then .waits
    else if Config.targetFails b.id target s.clock.now then .failed (t.moveFailed b n first layers target)
    else .done (t.movePages b.id first layers target how reportIt)

/-- May a move carry the block now: sealed, not in a group insert, and its pages readable (R47, Table 7-8)? -/
def State.carries (s : State) (b : Block) : Bool := b.sealed && !b.prepared && (s.boot.full || b.slowest = 0)

/-- Blocks from an index on, as many as hold at most 4 MiB of one layer, and at least one (R212). -/
def takeLayer (layer : Nat) (room : Nat) : List Block → List Block
  | [] => []
  | b :: t =>
    let sz := total ((b.pages.filter (·.layer == layer)).map (·.stored))
    if room < sz then [] else b :: takeLayer layer (room - sz) t

/-- The blocks of one layer-ordered unit. -/
def layerUnit (layer : Nat) (l : List Block) : List Block :=
  match takeLayer layer (4 * 2 ^ 20) l with
  | [] => l.take 1
  | u => u

/-- What a layer-ordered unit moved of one block: its index, the source tier, the granules' bytes, the stored form after the move. -/
structure LayerMove where
  k : Nat
  src : Nat
  bytes : Nat
  flags : Nat

/-- Runs of consecutive blocks from one source tier, each with its count, its bytes and its first block's form (R207). -/
def consecutive (l : List LayerMove) : List (LayerMove × Nat) :=
  (l.foldl (fun a x => match a with
    | (r, c) :: rest => if r.k + c = x.k && r.src = x.src then ({ r with bytes := r.bytes + x.bytes }, c + 1) :: rest else (x, 1) :: a
    | [] => [(x, 1)]) []).reverse

/-- One block of a layer-ordered unit, behind the blocks before it. -/
def State.moveLayerOne (n : Namespace) (layer target : Nat) (how : MoveHow) (carried : List Nat) (a : Moved × List LayerMove)
    (b : Block) : Moved × List LayerMove :=
  match a.1 with
  | .done s =>
    let pages := b.pages.filter (goesTo layer 1 target true)
    (match s.fitMove n b layer 1 target how carried false with
    | .done t =>
      let form := fun p : Page => (((t.block b.id).bind (fun x => x.pages.find? (·.layer == p.layer))).getD p).flags
      (.done t, a.2 ++ pages.map (fun p => ⟨b.k, p.tier, granules p.stored, form p⟩))
    | x => (x, a.2))
  | _ => a

/-- One layer over a list of blocks moved up, with one record for each run of consecutive blocks (R207, R212). -/
def State.moveLayer (s : State) (n : Namespace) (l : List Block) (layer target : Nat) (how : MoveHow) : Moved :=
  let r := l.foldl (State.moveLayerOne n layer target how (l.map (·.id))) (.done s, [])
  match r.1 with
  | .done s =>
    let rec1 := fun (s : State) (x : LayerMove × Nat) => s.report n.partition
      ⟨n.handle, x.1.k, x.2, layer, 1, x.1.src, target, how.reason, x.1.flags, x.1.bytes / 4096⟩
    .done ((consecutive r.2).foldl rec1 s)
  | x => x

/-! ### Weight tiles (R223) -/

/-- A weight object by its slot. -/
def State.weight (s : State) (slot : Nat) : Option WeightObj := s.tiers.weights.find? (·.slot == slot)

/-- `f` on a tile. -/
def State.updTile (s : State) (slot i : Nat) (f : Tile → Tile) : State :=
  { s with tiers.weights := upd (·.slot == slot) (fun w : WeightObj => { w with tiles := upd (·.index == i) f w.tiles }) s.tiers.weights }

/-- A tile's predicted next use: its reuse estimate, or the causeway's horizon, since a tile has no namespace (R203). -/
def State.tileUse (s : State) (t : Tile) : Nat :=
  t.lastTouch + (if 2 ≤ t.touches then t.reuse else policyHorizon s.stg.live 1 * 1000000)

/-- A touch of a tile (R202). -/
def State.touchTile (s : State) (slot i : Nat) : State :=
  let one := fun t : Tile =>
    if t.touches != 0 && s.clock.now < t.lastTouch + 100000 then t
    else
      let iv := s.clock.now - t.lastTouch
      { t with
        lastTouch := s.clock.now, touches := min 15 (t.touches + 1)
        reuse := if t.touches = 0 then 0 else ((t.reuse : Int) + (iv - (t.reuse : Int)) / 4).toNat }
  (s.updTile slot i one).bump 0x08F 1

/-- The lower tier a tile of a tier goes to (R203). -/
def State.tileTarget (s : State) (w : WeightObj) (t : Tile) (deepest : Nat) : Option Nat :=
  let l := [1, 2, 3].filter (fun u => s.boot.full && t.tier < u && u ≤ deepest && (u != 2 || policyFlag s.stg.live 3) &&
    s.room w.partition u (granules t.stored))
  match l.find? (fun u => u = 3 || s.tileUse t ≤ s.clock.now + policyHorizon s.stg.live u * 1000000) with
  | some u => some u
  | none => l.getLast?

/-- A tile as it leaves for a tier: encoded where it leaves the deck and gains enough, decoded where it enters it, never re-quantised
(R205, R223). -/
def State.movedTile (s : State) (w : WeightObj) (t : Tile) (target : Nat) : Tile :=
  let st := codecStored (t.data.read 0 w.tileSize)
  let enc := t.tier = 0 && policyFlag s.stg.live 1 && policyThreshold s.stg.live * st ≤ w.tileSize * 1000
  { t with
    tier := target
    chan := if target = 1 then s.channelFor w.partition (2 ^ 32 + w.slot) t.index else t.chan
    stored := if target = 0 then w.tileSize else if t.tier = 0 then (if enc then st else w.tileSize) else t.stored
    codec := if target = 0 then false else if t.tier = 0 then enc else t.codec }

/-- The record of a tile's move (Table 7-5). -/
def tileRecord (w : WeightObj) (t : Tile) (target reason flags granules : Nat) : PlaceRec :=
  ⟨mkHandle 12 w.slot w.gen, t.index, 1, 0, 0, t.tier, target, reason, 64 + flags + b2n t.codec * 16 + w.fmt, granules⟩

/-- A tile moved to a tier where it fits, after colder blocks have made room (R200). -/
def State.moveTile (s : State) (slot i target reason cls : Nat) : Moved :=
  match (s.weight slot).bind (fun w => (w.tiles.find? (·.index == i)).map (fun t => (w, t))) with
  | none => .done s
  | some (w, t) =>
    let x := s.movedTile w t target
    let need := granules x.stored
    if t.tier = target then .done s
    else
      let r := s.roomForMove w.partition target need (some (s.tileUse t)) []
      let to_ := if target = 2 then (r.leaseFor need).map (·.id) else none
      if !r.room w.partition target need || (target = 2 && to_.isNone) then .full
      else if r.leaseBusy (to_.toList ++ t.lease.toList) then .waits
      else if Config.targetFails (2 ^ 32 + slot) target s.clock.now then
        let r := (r.bump 0x08A 1).report w.partition (tileRecord w t target 0x0E 128 0)
        .failed (r.log { cls := .recovered, code := 0x0141, locus := tierLocus target t.home x.chan, tag := none, object := some (mkHandle 12 w.slot w.gen), addr := none, detail := i, poison := false })
      else
        let r := if t.tier = 3 then r.footRead (footRank cls) [⟨true, slot, i, 0, granules t.stored / 4096⟩] else r
        let r := r.updTile slot i (fun _ => { x with lease := to_ })
        let r := r.report w.partition (tileRecord w { x with tier := t.tier } target reason 0 (need / 4096))
        .done (r.chargeLeases (t.lease.toList.map (fun l => (l, t.stored)) ++ to_.toList.map (fun l => (l, x.stored)))).leaseUse

/-! ### MOVE_UNIT (R212, R215) -/

/-- A move taken off the queue. -/
def State.endMove (s : State) (m : Move) : State :=
  ({ s with tiers.moves := s.tiers.moves.filter (·.id != m.id) }).dropTask m.task

/-- `f` on a queued move. -/
def State.updMove (s : State) (id : Nat) (f : Move → Move) : State :=
  { s with tiers.moves := upd (·.id == id) f s.tiers.moves }

/-- A plain move is past its first block. -/
def State.passBlock (s : State) (m : Move) : State :=
  if m.blocks.length ≤ 1 then s.endMove m else s.updMove m.id (fun m => { m with blocks := m.blocks.drop 1 })

/-- Does a move that finds no room wait until room exists: a promotion to a namespace's new lowest tier (R501), or a way out of a
lease (Table 7-12)?  Any other policy move is skipped (R200). -/
def Move.holdsOut (m : Move) : Bool := (m.reason = 0x03 && m.up) || m.reason = 0x0D

/-- A move's buffer class (R204). -/
def Move.cls (m : Move) : Nat := if m.latency then 2 else 4

/-- The tiers that a plain move tries, in order: its target; or the lowest tier that its namespace now has, then the next faster ones
(R501); or the other tiers that take what a lease held. -/
def Move.tries (m : Move) (n : Namespace) (b : Block) : List Nat :=
  if m.reason = 0x03 && m.up then ((List.range (n.lowest + 1)).reverse).filter (fun t => decide (t < b.slowest))
  else if m.reason = 0x0D then m.target :: [1, 0, 3].filter (fun t => t != m.target && t ≤ n.lowest)
  else [m.target]

/-- The first tier of a list that takes the block. -/
def State.firstFit (s : State) (m : Move) (n : Namespace) (b : Block) : List Nat → Moved
  | [] => .full
  | t :: rest =>
    match s.fitMove n b 0 n.geo.l t ⟨decide (t < b.slowest) && m.up || (m.reason = 0x0D && t < 2), m.reason, false, none, m.cls⟩ [b.id] true with
    | .full => s.firstFit m n b rest
    | x => x

/-- The unit of a plain move: its first block, decided again at the unit's start (R215); a move that does not fit, or that
structure or a pin forbids, is skipped, unless it holds out for room. -/
def State.plainUnit (s : State) (m : Move) (id : Nat) : State :=
  match (s.block id).bind (fun b => (s.nsOf b).map (fun n => (b, n))) with
  | none => s.passBlock m
  | some (b, n) =>
    if !s.carries b || !(m.up || m.reason = 0x0D || s.mayLie n b m.target) then s.passBlock m
    else match s.firstFit m n b (m.tries n b) with
      | .done t | .failed t => t.passBlock m
      | .waits => s
      | .full => if m.holdsOut then s else s.passBlock m

/-- The unit of a layer-ordered promotion: one layer over a part of its blocks (R203, R212). -/
def State.layeredUnit (s : State) (m : Move) : State :=
  let l := (m.blocks.filterMap s.block).filter s.carries
  match l.head?.bind s.nsOf with
  | none => s.endMove m
  | some n =>
    let u := layerUnit m.layer (l.drop m.done)
    match s.moveLayer n u m.layer m.target ⟨true, m.reason, false, none, m.cls⟩ with
    | .waits => s
    | .full => s.endMove m
    | .failed t => t.endMove m
    | .done t =>
      let done := m.done + u.length
      if done < l.length then t.updMove m.id (fun m => { m with done := done })
      else if m.layer + 1 < min n.geo.l m.upTo then t.updMove m.id (fun m => { m with layer := m.layer + 1, done := 0 })
      else t.endMove m

/-- The unit of a tile's move. -/
def State.tileUnit (s : State) (m : Move) (slot i : Nat) : State :=
  match s.moveTile slot i m.target m.reason m.cls with
  | .done t | .failed t => t.endMove m
  | .waits => s
  | .full => if m.holdsOut then s else s.endMove m

/-- The unit of a move from T3 to T3: what its owner has in the erase blocks is written anew in ZONED mode, with a report for each
layer-page and the tile (R207, R232, R239; log entry 151). -/
def State.leaveUnit (s : State) (m : Move) (blocks : List Nat) (rank : Nat) : State :=
  let mine := fun p : FootPage => match m.tile with
    | some x => p.tile && p.owner = x.1 && p.part = x.2
    | none => !p.tile && m.blocks.contains p.owner
  let tile := fun p : FootPage => (s.weight p.owner).bind (fun w => (w.tiles.find? (·.index == p.part)).map (fun t => (w.partition, tileRecord w t 3 m.reason 0 p.granules)))
  let page := fun p : FootPage => (s.block p.owner).bind (fun b => (s.nsOf b).map (fun n => (n.partition,
    (⟨n.handle, b.k, 1, p.part, 1, 3, 3, m.reason, (b.pages.find? (·.layer == p.part)).elim 0 Page.flags, p.granules⟩ : PlaceRec))))
  let say := fun (s : State) (p : FootPage) => (if p.tile then tile p else page p).elim s (fun x => s.report x.1 x.2)
  (((s.pagesIn blocks).filter mine).foldl (fun s p => say (s.moveFoot rank p) p) s).endMove m

/-- The pier whose staging buffer a move's unit takes: the home pier of its first page. -/
def State.moveHome (s : State) (m : Move) : Nat :=
  match m.tile with
  | some (slot, i) => ((s.weight slot).bind (fun w => w.tiles.find? (·.index == i))).elim 0 (·.home)
  | none => (((m.blocks.head?).bind s.block).bind (fun b => b.pages.head?)).elim 0 (·.home)

/-- One unit of a queued move, with a staging buffer in its class; work in BACKGROUND yields to foreground work (R70, R79, R204).
None runs in a halted device (Table 15-7), before READY.FULL (R47), or while the memories are in self-refresh (R51). -/
def execMoveUnit (task : Nat) (s : State) : Host.Outcome State Fault Refusal :=
  match s.tiers.moves.find? (·.id == task) with
  | none => .next s
  | some m =>
    if s.boot.halted || !s.boot.full || !s.memoriesAwake then .next s
    else .next (s.forTask m.task m.cls 0x3012 (.staging (s.moveHome m)) (fun s =>
      match m.leave, m.tile, m.layered, m.blocks with
      | some (blocks, rank), _, _, _ => s.leaveUnit m blocks rank
      | none, some (slot, i), _, _ => s.tileUnit m slot i
      | none, none, true, _ => s.layeredUnit m
      | none, none, false, id :: _ => s.plainUnit m id
      | none, none, false, [] => s.endMove m))

/-- An old copy is released once no operation holds its location any more (R212). -/
def execOldCopyRelease (copy : Nat) (s : State) : Host.Outcome State Fault Refusal :=
  .next { s with tiers.oldCopies := s.tiers.oldCopies.filter (fun c => !(c.id == copy && c.holders.isEmpty)) }

/-- Every 60 s each namespace's histogram is halved (Table 7-3). -/
def execHistogramHalve (s : State) : Host.Outcome State Fault Refusal :=
  .next { s with store.namespaces := s.store.namespaces.map (fun n => { n with stats.hist := n.stats.hist.map (· / 2) }) }

/-! ### The policy (R199, R203) -/

/-- Something the engine may demote: a block, or a tile by its object's slot and index. -/
inductive Cand where
  | block (b : Block) (n : Namespace)
  | tile (w : WeightObj) (t : Tile)

/-- Its partition, its bytes in a tier, and its predicted next use. -/
def Cand.part : Cand → Nat
  | .block _ n => n.partition
  | .tile w _ => w.partition
def Cand.bytes (t : Nat) : Cand → Nat
  | .block b _ => total ((b.pages.filter (·.tier == t)).map (fun p => granules p.stored))
  | .tile _ x => granules x.stored
def State.candUse (s : State) : Cand → Option Nat
  | .block b _ => s.nextUse b
  | .tile _ x => some (s.tileUse x)

/-- Is a move of the block or the tile queued already? -/
def State.queued (s : State) : Cand → Bool
  | .block b _ => s.tiers.moves.any (fun m => m.blocks.contains b.id)
  | .tile w x => s.tiers.moves.any (fun m => m.tile == some (w.slot, x.index))

/-- Every block and tile with bytes in a tier. -/
def State.inTier (s : State) (t : Nat) : List Cand :=
  (s.store.blocks.filter (fun b => b.sealed && !b.prepared && b.pages.any (·.tier == t))).filterMap
    (fun b => (s.nsOf b).map (fun n => Cand.block b n)) ++
  s.tiers.weights.flatMap (fun w => (w.tiles.filter (·.tier == t)).map (fun x => Cand.tile w x))

/-- What the engine may demote out of a tier, the latest predicted next use first. -/
def State.cands (s : State) (t : Nat) : List Cand :=
  sortBy (fun a b => !later (s.candUse b) (s.candUse a)) ((s.inTier t).filter (fun c => !s.queued c))

/-- Is a move queued that takes it out of a tier, to a slower one? -/
def State.leaving (s : State) (t : Nat) : Cand → Bool
  | .block b _ => s.tiers.moves.any (fun m => !m.up && m.leave.isNone && t < m.target && m.blocks.contains b.id)
  | .tile w x => s.tiers.moves.any (fun m => !m.up && m.leave.isNone && t < m.target && m.tile == some (w.slot, x.index))

/-- A partition's use of a tier without what queued moves already take out of it. -/
def State.staying (s : State) (p t : Nat) : Nat :=
  s.use p t - total (((s.inTier t).filter (fun c => c.part = p && s.leaving t c)).map (Cand.bytes t))

/-- Every partition's use without what queued moves take out. -/
def State.stayingAll (s : State) (t : Nat) : Nat := total ((List.range 16).map (fun p => s.staying p t))

/-- One candidate demoted: a queued move to its target, or the drop of a block of a DROP namespace that would go below
its lowest tier.  The policy's own reasons stand behind WILL_NEED hints (R209); a limit stands before them. -/
def State.demote (s : State) (t reason : Nat) : Cand → State
  | .block b n =>
    let deepest := if reason ≤ 0x02 then s.wantTier b.id else 3
    (match s.demoteTarget n b t deepest with
    | some u => s.queueMove [b.id] false u reason false
    | none => if n.dropClass && n.lowest ≤ t && t < deepest && !s.guarded b.id then s.dropBlock b.id 0x0C else s)
  | .tile w x =>
    (match s.tileTarget w x 3 with
    | some u => s.addMove (.ofTile w.slot x.index u reason false false)
    | none => s)

/-- Candidates demoted one after another while there is more to take out, each if it may go. -/
def State.demoteWhile (s : State) (t reason : Nat) (more : State → Bool) (ok : State → Cand → Bool) (l : List Cand) : State :=
  l.foldl (fun s c => if more s && ok s c then s.demote t reason c else s) s

/-- A tier passes its high watermark, device-wide or by a partition against its limit (R203).  A candidate of a partition that
uses no more than its guarantee stays out of the device-wide demotion (R199). -/
def execPlacementDemoteWatermark (tier : Nat) (s : State) : Host.Outcome State Fault Refusal :=
  let hi := policyHigh s.stg.live tier
  let lo := policyLow s.stg.live tier
  if s.boot.halted then .next s
  else
    let one := fun (s : State) (p : Nat) =>
      let lim := quotaLimit s.stg.live p tier
      if lim = 2 ^ 64 - 1 || s.use p tier * 100 ≤ lim * hi then s
      else s.demoteWhile tier 0x01 (fun s => lim * lo / 100 < s.staying p tier) (fun _ _ => true)
        ((s.cands tier).filter (fun c => c.part = p))
    let s := (List.range 16).foldl one s
    let cap := s.usable tier
    if s.useAll tier * 100 ≤ cap * hi then .next s
    else .next (s.demoteWhile tier 0x01 (fun s => cap * lo / 100 < s.stayingAll tier)
      (fun s c => s.guarantee c.part tier < s.staying c.part tier) (s.cands tier))

/-- Blocks and tiles whose predicted next use lies beyond the tier's horizon leave it (R203); the footing has none. -/
def execPlacementDemoteHorizon (tier : Nat) (s : State) : Host.Outcome State Fault Refusal :=
  if s.boot.halted || 3 ≤ tier then .next s
  else
    let edge := s.clock.now + policyHorizon s.stg.live tier * 1000000
    let far := fun c : Cand => match s.candUse c with
      | some u => decide (edge < u)
      | none => true
    .next (((s.cands tier).filter far).foldl (fun s c => s.demote tier 0x02 c) s)

/-- The block that an eviction at a block's place takes: inside a run the run's last block (R180). -/
def State.evictAt (s : State) (id : Nat) : Nat := (s.runOf id).elim id (fun r => (r.blocks.getLast?).getD id)

/-- Unreferenced indexed blocks with pages in a tier evicted, latest predicted next use first, until `ok`; a member of a
group proposes the eviction (R203, R373). -/
def State.evictUntil (ok : State → Bool) (s : State) (l : List (Block × Namespace)) : State :=
  l.foldl (fun s x =>
    if ok s then s
    else if x.2.width = 8 then s.proposeEviction x.2 x.1
    else
      let id := s.evictAt x.1.id
      if s.evictable id then s.evictBlocks [id] else s) s

/-- The footing passes its high watermark, or a tier that is the lowest of a namespace is full: the engine evicts (R203), but no
block that a WILL_NEED hint asks for (R209). -/
def execPlacementEvict (tier : Nat) (s : State) : Host.Outcome State Fault Refusal :=
  let order := fun a b : Block × Namespace => !later (s.nextUse b.1) (s.nextUse a.1)
  let all := sortBy order ((s.store.blocks.filter (fun b => b.indexed && s.evictable b.id && b.slowest = tier && !s.hinted b.id 0)).filterMap
    (fun b => (s.nsOf b).map (fun n => (b, n))))
  if s.boot.halted then .next s
  else if tier = 3 && s.usable 3 * policyHigh s.stg.live 3 < s.useAll 3 * 100 then
    .next (s.evictUntil (fun s => s.useAll 3 * 100 ≤ s.usable 3 * policyLow s.stg.live 3) all)
  else
    let one := fun (s : State) (n : Namespace) =>
      if n.lowest != tier then s
      else s.evictUntil (fun s => s.room n.partition tier n.blockBytes) (all.filter (fun x => x.2.index = n.index))
    .next (s.store.namespaces.foldl one s)

/-- The reason code of a promotion (Table 7-6). -/
def whyReason : PromoteWhy → Nat
  | .probeHit => 0x04
  | .plan => 0x05
  | .predicted => 0x06
  | .hint => 0x07
  | .pin => 0x08
  | .reader => 0x0A
  | .limit => 0x0F

/-- Is a predicted next use within one eighth of the deck horizon, with PREDICT set (R203)? -/
def State.soonAt (s : State) (use : Option Nat) : Bool :=
  policyFlag s.stg.live 0 && (match use with
    | some u => decide (u ≤ s.clock.now + policyHorizon s.stg.live 0 * 1000000 / 8)
    | none => false)

/-- Does the engine predict a use of the block so soon, with no COLD hint on it (R203, R209)? -/
def State.soon (s : State) (b : Block) : Bool := !s.hinted b.id 1 && s.soonAt (s.nextUse b)

/-- The use above a new limit moves down, one block's or tile's move at a time, as long as what stays passes the limit (R201). -/
def State.limitMove (s : State) (t : Nat) (c : Cand) : State :=
  if s.staying c.part t ≤ quotaLimit s.stg.live c.part t || s.queued c then s else s.demote t 0x0F c

/-- A named tile, with its object. -/
def State.tileAt (s : State) (x : Nat × Nat) : Option (WeightObj × Tile) :=
  (s.weight x.1).bind (fun w => (w.tiles.find? (·.index == x.2)).map (fun t => (w, t)))

/-- A promotion starts (R203, R204, R210, R211, R214): to the deck, or to the tier of the pin or hint; the blocks of a probe hit are
those that a probe without NO_PREFETCH verified. -/
def execPlacementPromote (why : PromoteWhy) (picks : Picks) (s : State) :
    Host.Outcome State Fault Refusal :=
  let bs := (picks.blocks.filterMap s.block).filter (fun b => b.sealed)
  let below := fun t : Nat => (bs.filter (fun b => decide (t < b.slowest) && !s.tiers.moves.any (fun m => m.blocks.contains b.id))).map (·.id)
  let ts := (picks.tiles.filterMap s.tileAt).filter (fun x => !s.queued (.tile x.1 x.2))
  let raise := fun (s : State) (x : WeightObj × Tile) => s.addMove (.ofTile x.1.slot x.2.index 0 (whyReason why) (why != .predicted) true)
  if s.boot.halted then .next s
  else match why with
    | .probeHit =>
      let ids := (below 0).filter s.tiers.probeHits.contains
      .next { s.queueMove ids true 0 0x04 true with tiers.probeHits := s.tiers.probeHits.filter (fun i => !ids.contains i) }
    | .predicted =>
      let s := s.queueMove ((bs.filter s.soon).map (·.id) |>.filter (below 0).contains) false 0 0x06 false
      .next ((ts.filter (fun x => x.2.tier != 0 && s.soonAt (some (s.tileUse x.2)))).foldl raise s)
    | .pin => .next (bs.foldl (fun s b => if s.pinTier b.id < b.slowest then s.queueMove [b.id] false (s.pinTier b.id) 0x08 true else s) s)
    | .hint =>
      .next (s.tiers.hints.foldl (fun s h => if h.kind = 0 then
        s.queueMove ((s.slowerThan h.blocks h.tier).filter (bs.map (·.id)).contains) false h.tier 0x07 true else s) s)
    | .limit =>
      let s := bs.foldl (fun s b => match s.nsOf b with
        | some n => s.limitMove b.slowest (.block b n)
        | none => s) s
      .next (ts.foldl (fun s x => s.limitMove x.2.tier (.tile x.1 x.2)) s)
    | .plan | .reader => .next ((ts.filter (fun x => x.2.tier != 0)).foldl raise (s.queueMove (below 0) false 0 (whyReason why) true))

/-! ### The block selector (Table 7-11) -/

/-- First block and count of a selector in a version; none when it reaches beyond the version. -/
def Op.selects (o : Op) (n : Namespace) (v : View) : Option (Nat × Nat) :=
  let all := v.count n.geo.b
  let first := o.p 16 4
  let count := if o.p 20 4 = 0 then all - first else o.p 20 4
  if all < first || all < first + count then none else some (first, count)

/-- First layer and count; none when they reach beyond the namespace's layers. -/
def Op.layersOf (o : Op) (n : Namespace) : Option (Nat × Nat) :=
  let first := o.p 24 1
  let count := if o.p 25 1 = 0 then n.geo.l - first else o.p 25 1
  if n.geo.l ≤ first || n.geo.l < first + count then none else some (first, count)

/-! ### FETCH (R217) -/

/-- How far a FETCH has come: bytes and layer-pages written, as its result. -/
def fetchResult (bytes pages : Nat) : Nat := bytes + pages * 2 ^ 32

/-- What one block of a FETCH does. -/
inductive Fetched where
  | go (bytes pages : Nat) (s : State)
  | stop (st : Status) (result : Nat) (s : State)
  | waits (link : Nat)

/-- One layer-page as FETCH writes it: its header, if asked for, and its bytes padded to 64. -/
def State.fetchBytes (s : State) (o : Op) (n : Namespace) (b : Block) (p : Page) (count : Nat) : List Byte × State :=
  let r := (if p.tier = 0 then s.pierIo p.home 0 (n.geo.pageBytes p.fmt) else s).pageBytes n b p count
  let pad := List.replicate (roundUp r.1.length 64 - r.1.length) 0#8
  ((if bit (o.p 28 1) 0 then pageHeader n b p (if b.sealed then n.geo.b else count) else []) ++ r.1 ++ pad, r.2)

/-- One layer-page written, if the buffer holds it whole. -/
def fetchPage (o : Op) (n : Namespace) (b : Block) (count : Nat) (a : Fetched) (p : Page) : Fetched :=
  match a with
  | .go bytes pages s =>
    let r := s.fetchBytes o n b p count
    if !p.poison.isEmpty then
      .stop .poisoned (fetchResult bytes pages) (if b.sealed then s.loseBlock b.id 0x0E else s)
    else if b.sealed && p.crc != p.dataCrc n.geo then .stop .integrityError (fetchResult bytes pages) s
    else if o.p 32 8 < bytes + r.1.length then .stop .partialDone (fetchResult bytes pages) s
    else match r.2.hostWrite (s.opFn o) (s.opFn o).link (o.buf + bytes) r.1 with
      | .ok t => .go (bytes + r.1.length) (pages + 1) (t.wroteFor o (s.opFn o).link r.1.length)
      | .error (.waits l) => .waits l
      | .error .denied => .stop .denied (fetchResult bytes pages) s
      | .error .failed => .stop .outOfRange (fetchResult bytes pages) s
  | x => x

/-- One block of a FETCH: a dropped one ends it with RECOMPUTE; a position that left a sliding window writes nothing. -/
def fetchBlock (o : Op) (n : Namespace) (v : View) (first count lay layers : Nat) (a : Fetched) (i : Nat) : Fetched :=
  match a with
  | .go _ _ s =>
    (match v.refs[i]? with
    | some (.dropped ..) => .stop .recompute ((missingResult v.refs first count).getD i) s
    | _ => match (v.blockAt i).bind s.block with
      | none => a
      | some b =>
        let s := if bit (o.p 28 1) 1 then s else s.touch b.id
        let s := s.footRead (footRank (bufferClass false o.opcode)) (b.footPages (inLayers lay layers))
        let c := v.tokensIn n.geo.b i
        (b.pages.filter (inLayers lay layers)).foldl (fetchPage o n b c) (match a with
          | .go x y _ => .go x y s
          | x => x))
  | x => x

/-- Is some selected page below the deck before READY.FULL (R47), or in the footing while SANITISE runs (R241)? -/
def State.tooEarly (s : State) (v : View) (first count : Nat) : Bool :=
  let at_ := fun f : Block → Bool => (List.range count).any (fun i => ((v.blockAt (first + i)).bind s.block).any f)
  (!s.boot.full && at_ (fun b => b.slowest != 0)) || (s.foot.sanitising && at_ (fun b => b.slowest = 3))

/-- FETCH: long above 64 blocks. -/
def bodyFetch (o : Op) (s : State) : BodyOut :=
  s.withView o (fun n v => match o.selects n v, o.layersOf n with
    | none, _ | _, none => .done .outOfRange 0 s
    | some (first, count), some (lay, layers) =>
      if 4 ≤ o.p 28 1 || o.buf % 64 != 0 then .done .badParam 0 s
      else if s.tooEarly v first count then .done .retry 2 s
      else if 64 < count then .long count 0 (s.setOp o.tag (fun o => { o with view := some v }))
      else
        let s' := s.setOp o.tag (fun o => { o with view := some v })
        match (List.range count).foldl (fun a i => fetchBlock o n v first count lay layers a (first + i)) (.go 0 0 s') with
        | .go b p s => .done .ok (fetchResult b p) s
        | .stop st r s => .done st r s
        | .waits l => .wait (.link l) s)

/-- A unit of a long FETCH: one block. -/
def unitFetch (o : Op) (s : State) : UnitOut :=
  match s.nsAny o.handle, o.view with
  | some n, some v =>
    (match o.selects n v, o.layersOf n with
    | some (first, count), some (lay, layers) =>
      (match fetchBlock o n v first count lay layers (.go (o.result % 2 ^ 32) (o.result / 2 ^ 32) s) (first + o.unitsDone) with
      | .go b p s =>
        if o.unitsDone + 1 < count then .more (fetchResult b p) (first + o.unitsDone + 1) s
        else .last .ok (fetchResult b p) (first + count) s
      | .stop st r s => .cut st r (first + o.unitsDone) s
      | .waits _ => .stay s)
    | _, _ => .cut .outOfRange o.result o.resume s)
  | _, _ => .cut .badHandle o.result o.resume s

/-- FETCH from a queue pair. -/
def execFetch (c : Cmd) (s : State) : Host.Outcome State Fault Refusal := .next (s.submit 0x50 bodyFetch c)

/-! ### SPILL and PROMOTE (R218) -/

/-- Does the device hold an ACTIVE lease as borrower? -/
def State.hasLease (s : State) : Bool := s.tiers.leases.any (fun l => l.borrower && l.state == .active)

/-- SPILL: always long, one block a unit. -/
def bodySpill (o : Op) (s : State) : BodyOut :=
  s.withView o (fun n v => match o.selects n v with
    | none => .done .outOfRange 0 s
    | some (_, count) =>
      let t := o.p 28 1
      if t < 1 || 3 < t || 2 ≤ o.p 29 1 || n.lowest < t || (o.expert && !(o.p 30 1 < 4 || o.p 30 1 = 0xFF)) then
        .done .badParam 0 s
      else if !s.boot.full || (t = 2 && !s.hasLease) || (t = 3 && s.foot.sanitising) then
        .done .retry (if s.boot.full then 0 else 2) s
      else .long count 0 (s.setOp o.tag (fun o => { o with view := some { v with unsealed := [], tail := none } })))

/-- The count of a version's blocks that a long command covers, kept in its unit total. -/
def Op.unitAt (o : Op) : Nat := o.p 16 4 + o.unitsDone

/-- A unit of SPILL: one block moved down, or counted as left. -/
def unitSpill (o : Op) (s : State) : UnitOut :=
  match s.nsAny o.handle, o.view with
  | some n, some v =>
    let i := o.unitAt
    let t := o.p 28 1
    let end_ := fun (r : Nat) (s : State) =>
      if o.unitsDone + 1 < o.unitsTotal then UnitOut.more r (i + 1) s else .last .ok r (i + 1) s
    if o.unitsTotal = 0 then .cut .ok 0 i s
    else (match (match v.refs[i]? with
        | some (.held id) => s.block id
        | _ => none) with
      | none => end_ o.result s
      | some b =>
        if b.fastest = t && b.slowest = t then end_ (o.result + 1) s
        else if t < b.fastest || !s.mayLie n b t || !s.carries b then end_ (o.result + 2 ^ 32) s
        else
          let prof := if o.expert && o.p 30 1 != 0xFF then some (o.p 30 1) else none
          match s.fitMove n b 0 n.geo.l t ⟨false, 0x09, bit (o.p 29 1) 0, prof, 3⟩ [b.id] true with
          | .done s => end_ (o.result + 1) s
          | .waits => .stay s
          | .failed s => .cut .mediaError (o.result + 2 ^ 32) (i + 1) s
          | .full => .cut .partialDone o.result i s)
  | _, _ => .cut .badHandle o.result o.resume s

/-- SPILL from a queue pair. -/
def execSpill (c : Cmd) (s : State) : Host.Outcome State Fault Refusal := .next (s.submit 0x52 bodySpill c)

/-- The units that one layer of a layer-ordered promotion takes over a list of blocks, on the block count as fuel. -/
def layerUnits (layer : Nat) : Nat → List Block → Nat
  | _, [] => 0
  | 0, _ => 0
  | fuel + 1, l => 1 + layerUnits layer fuel (l.drop (layerUnit layer l).length)

/-- The blocks of a version that a promotion carries, of a range. -/
def State.promotable (s : State) (v : View) (first count : Nat) : List Block :=
  ((v.heldIn first count).filterMap s.block).filter s.carries

/-- The units of a PROMOTE: one a block, or in layer order the units of every layer (R212). -/
def State.promoteUnits (s : State) (o : Op) (v : View) (first count lay layers : Nat) : Nat :=
  if bit (o.p 29 1) 0 then
    let l := s.promotable v first count
    total ((List.range layers).map (fun i => if count = 0 then 0 else max 1 (layerUnits (lay + i) l.length l)))
  else count

/-- PROMOTE: always long. -/
def bodyPromote (o : Op) (s : State) : BodyOut :=
  s.withView o (fun n v => match o.selects n v, o.layersOf n with
    | none, _ | _, none => .done .outOfRange 0 s
    | some (first, count), some (lay, layers) =>
      let t := o.p 28 1
      if 2 < t || 2 ≤ o.p 29 1 then .done .badParam 0 s
      else if !s.boot.full || (t = 2 && !s.hasLease) then .done .retry (if s.boot.full then 0 else 2) s
      else
        let gone := ((v.refs.drop first).take count).filter BRef.isDropped
        .long (s.promoteUnits o v first count lay layers) (gone.length * 2 ^ 32)
          (s.setOp o.tag (fun o => { o with
            view := some { v with unsealed := [], tail := none }
            resume := first + (if bit (o.p 29 1) 0 then lay else 0) * 2 ^ 32 })))

/-- Layer-pages of a block among layers. -/
def Block.pagesIn (b : Block) (lay layers : Nat) : Nat := (b.pages.filter (inLayers lay layers)).length

/-- A unit of PROMOTE in block order: one block. -/
def unitPromoteBlock (o : Op) (n : Namespace) (v : View) (lay layers : Nat) (s : State) : UnitOut :=
  let i := o.unitAt
  let end_ := fun (r : Nat) (s : State) =>
    if o.unitsDone + 1 < o.unitsTotal then UnitOut.more r (i + 1) s else .last .ok r (i + 1) s
  match (match v.refs[i]? with
      | some (.held id) => s.block id
      | _ => none) with
  | none => end_ o.result s
  | some b =>
    if !s.carries b then end_ o.result s
    else match s.fitMove n b lay layers (o.p 28 1) ⟨true, 0x09, false, none, 3⟩ [b.id] true with
      | .done s => end_ (o.result + b.pagesIn lay layers) s
      | .waits => .stay s
      | .failed s => .cut .mediaError o.result (i + 1) s
      | .full => .cut .partialDone o.result i s

/-- A unit of PROMOTE in layer order: one layer over blocks of at most 4 MiB. -/
def unitPromoteLayer (o : Op) (n : Namespace) (v : View) (first count lay layers : Nat) (s : State) : UnitOut :=
  let i := o.resume % 2 ^ 32
  let l := o.resume / 2 ^ 32
  let here := (s.promotable v first count).filter (fun b => i ≤ b.k)
  let u := layerUnit l here
  match s.moveLayer n u l (o.p 28 1) ⟨true, 0x09, false, none, 3⟩ with
  | .full => .cut .partialDone o.result o.resume s
  | .waits => .stay s
  | .failed t => .cut .mediaError o.result o.resume t
  | .done t =>
    let r := o.result + u.length
    if u.length < here.length then .more r ((here[u.length]?).elim i (·.k) + l * 2 ^ 32) t
    else if l + 1 < lay + layers then .more r (first + (l + 1) * 2 ^ 32) t
    else .last .ok r (first + count + l * 2 ^ 32) t

/-- A unit of PROMOTE. -/
def unitPromote (o : Op) (s : State) : UnitOut :=
  match s.nsAny o.handle, o.view with
  | some n, some v =>
    (match o.layersOf n with
    | some (lay, layers) =>
      let count := if o.p 20 4 = 0 then v.refs.length - o.p 16 4 else o.p 20 4
      if count = 0 || o.unitsTotal = 0 then .cut .ok o.result o.resume s
      else if bit (o.p 29 1) 0 then unitPromoteLayer o n v (o.p 16 4) count lay layers s
      else unitPromoteBlock o n v lay layers s
    | none => .cut .badParam o.result o.resume s)
  | _, _ => .cut .badHandle o.result o.resume s

/-- PROMOTE from a queue pair. -/
def execPromote (c : Cmd) (s : State) : Host.Outcome State Fault Refusal := .next (s.submit 0x53 bodyPromote c)

/-! ### DROP (R118, R122, R218) -/

/-- Blocks of a list dropped; dropped and skipped as the result counts them. -/
def State.dropList (s : State) (ids : List Nat) : Nat × State :=
  ids.foldl (fun a id =>
    if (a.2.block id).any (·.sealed) && !a.2.guarded id then (a.1 + 1, a.2.dropBlock id 0x0C)
    else if (a.2.block id).isSome then (a.1 + 2 ^ 32, a.2) else a) (0, s)

/-- Does a SPILL or PROMOTE that the device accepted before still carry one of these blocks?  What was accepted first runs first (Table
7-9). -/
def State.movedFirst (s : State) (o : Op) (ids : List Nat) : Bool :=
  s.q.ops.any (fun x => x.moves && x.order < o.order && !x.finished && ids.any x.holds)

/-- DROP: long above 1,024 blocks. -/
def bodyDrop (o : Op) (s : State) : BodyOut :=
  s.withView o (fun n v => match o.selects n v with
    | none => .done .outOfRange 0 s
    | some (first, count) =>
      if !n.dropClass then .done .denied 0 s
      else
        let ids := (List.range count).filterMap (fun i => v.blockAt (first + i))
        if 1024 < count then .long (cdiv count 1024) 0 (s.setOp o.tag (fun o => { o with work := .slots ids }))
        else if s.movedFirst o ids then .wait .ended s
        else
          let r := s.dropList ids
          .done .ok r.1 r.2)

/-- A unit of a long DROP: 1,024 blocks. -/
def unitDrop (o : Op) (s : State) : UnitOut :=
  match o.work with
  | .slots ids =>
    if s.movedFirst o (ids.take 1024) then .stay s else
    let r := s.dropList (ids.take 1024)
    let t := r.2.setOp o.tag (fun o => { o with work := .slots (ids.drop 1024) })
    let next := o.p 16 4 + (o.unitsDone + 1) * 1024
    if o.unitsDone + 1 < o.unitsTotal then .more (o.result + r.1) next t else .last .ok (o.result + r.1) next t
  | _ => .last .ok o.result o.resume s

/-- DROP from a queue pair. -/
def execDrop (c : Cmd) (s : State) : Host.Outcome State Fault Refusal := .next (s.submit 0x54 bodyDrop c)

/-! ### Hints and reports (R207, R208, R211) -/

/-- Blocks of a range leave the hints that `sel` selects. -/
def State.unhint (s : State) (sel : Hint → Bool) (ids : List Nat) : State :=
  let l := s.tiers.hints.map (fun h => if sel h then { h with blocks := h.blocks.filter (fun i => !ids.contains i) } else h)
  { s with tiers.hints := l.filter (fun h => !h.blocks.isEmpty) }

/-- PLACE_HINT (R211). -/
def bodyPlaceHint (o : Op) (s : State) : BodyOut :=
  if !o.expert then .done .badParam 0 s
  else s.withView o (fun n v => match o.selects n v with
    | none => .done .outOfRange 0 s
    | some (first, count) =>
      let kind := o.p 28 1
      let ttl := o.p 40 4
      let ids := (List.range count).filterMap (fun i => v.blockAt (first + i))
      if 3 < kind || 3 < o.p 29 1 || (kind != 3 && (ttl < 1 || 3600000 < ttl)) then .done .badParam 0 s
      else if kind = 3 then .done .ok ids.length (s.unhint (fun _ => true) ids)
      else
        let s' := s.unhint (fun h => h.kind != kind) ids
        if 65536 ≤ s'.tiers.hints.length then .done .quotaExceeded 0 s
        else
          let h : Hint := ⟨s.tiers.nextHint, kind, ids, o.p 29 1, o.p 32 8, s.clock.now + ttl * 1000000⟩
          let t := { s' with tiers.hints := s'.tiers.hints ++ [h], tiers.nextHint := s.tiers.nextHint + 1 }
          .done .ok ids.length (if kind = 0 then t.queueMove (t.slowerThan ids h.tier) false h.tier 0x07 true else t))

/-- PLACE_HINT from a queue pair. -/
def execPlaceHint (c : Cmd) (s : State) : Host.Outcome State Fault Refusal := .next (s.submit 0x55 bodyPlaceHint c)

/-- A hint's time to live passes (R211). -/
def execHintExpiry (hint : Nat) (s : State) : Host.Outcome State Fault Refusal :=
  .next { s with tiers.hints := s.tiers.hints.filter (fun h => !(h.id == hint && decide (h.expires ≤ s.clock.now))) }

/-- The 256 bytes of NS_STATS (Table 7-7); the codec ratio reads 0 while no page has been encoded. -/
def State.nsStats (s : State) (n : Namespace) : List Byte :=
  let bs := s.store.blocks.filter (fun b => b.ns == n.index && b.gen == n.gen)
  let st := n.stats
  let stored := total (st.encoded.map (·.2))
  (List.range 4).flatMap (fun t => leBytes 8 (total (bs.map (fun b => b.use n t)))) ++
  (List.range 4).flatMap (fun t => leBytes 8 (bs.filter (fun b => b.slowest == t)).length) ++
  leBytes 8 st.probed ++ leBytes 8 st.verified ++ leBytes 8 st.promoted ++ leBytes 8 st.demoted ++
  leBytes 8 st.dropped ++ leBytes 8 st.evicted ++ leBytes 4 st.median ++
  leBytes 2 (if stored = 0 then 0 else total (st.encoded.map (·.1)) * 1000 / stored) ++ leBytes 138 0

/-- PLACE_REPORT (R207, R208). -/
def bodyPlaceReport (o : Op) (s : State) : BodyOut :=
  let act := o.p 8 1
  let p := o.p 9 1
  if act = 2 then
    match s.nsAny o.handle with
    | none => .done .badHandle 0 s
    | some n =>
      if !s.mayPart (s.opFn o) n.partition then .done .denied 0 s
      else s.writeThen o o.buf (s.nsStats n) (fun s => .done .ok 0 s)
  else if 2 < act || o.handle != 0 || !partValid (s.itemsOf o) p then .done .badParam 0 s
  else if !s.mayPart (s.opFn o) p then .done .denied 0 s
  else
    let rest := s.tiers.rings.filter (·.partition != p)
    let n := o.p 12 4
    if act = 1 then .done .ok 0 { s with tiers.rings := rest }
    else if n < 64 || 65536 < n || !(List.range 17).any (fun i => 2 ^ i = n) || o.buf % 32 != 0 then .done .badParam 0 s
    else .done .ok 0 { s with tiers.rings := rest ++ [⟨p, s.opFn o, o.buf, n, 0⟩] }

/-- PLACE_REPORT from a queue pair. -/
def execPlaceReport (c : Cmd) (s : State) : Host.Outcome State Fault Refusal := .next (s.submit 0x56 bodyPlaceReport c)

end Sys2Proof.Machine
end

