-- ==== Sys2Proof/Machine/Footing.lean ====
section
/-! DEFINITION. Footing.lean: the footing's mount, its background work, what ends on its NAND dies, and its registers
(The footing and its translation layer, R225 to R245). -/
namespace Sys2Proof.Machine

/-! ### The mount (R42, R45, R225, R226, R229, R231) -/

/-- The chip-enables that carry a qualified part: channel and part. -/
def State.qualified (s : State) : List (Nat × NandPart) :=
  (s.foot.channels.filter (·.rate != 0)).flatMap (fun c => (c.parts.filter (·.code != 0)).map (fun p => (c.channel, p)))

/-- The part on the most chip-enables, the lowest code on a tie (R225; log entry 35). -/
def State.commonPart (s : State) : Option NandPart :=
  let l := (s.qualified).map (·.2)
  let count := fun c : Nat => (l.filter (·.code == c)).length
  let better := fun (a : Option NandPart) (p : NandPart) => match a with
    | some q => if count q.code < count p.code || (count q.code = count p.code && p.code < q.code) then some p else a
    | none => some p
  l.foldl better none

/-- The dies of a part in service: every LUN of its chip-enables, and the stripe of each, one die on each channel of one parity
(R226; log entry 35).  A die keeps its wear, and stays retired (R242). -/
def State.diesOf (s : State) (part : NandPart) : List NandDie :=
  let ces := (s.qualified).filter (fun x => x.2.code = part.code)
  let all := ces.flatMap (fun x => (List.range x.2.luns).map (fun l => (x.1, x.2.ce * 4 + l)))
  let gone := fun x : Nat × Nat => (s.die (x.1 * 32 + x.2)).any (·.retired)
  all.map (fun x =>
    let id := x.1 * 32 + x.2
    let stripe := x.1 % 2 + 2 * ((all.filter (fun y => y.1 == x.1 && y.2 < x.2 && !gone y)).length)
    match s.die id with
    | some d => { d with channel := x.1, part := part.code, stripe := stripe, recent := [] }
    | none => ⟨id, x.1, part.code, stripe, false, 0, 0, [], 0, 0, 0⟩)

/-- May `raw` bytes mount: 64 TB for each trained DIMM, and a reserve of at most half the smallest trained DIMM on each
(R42, R231)? -/
def State.mayMount (s : State) (part : NandPart) (zoned : Bool) (share raw : Nat) : Bool :=
  let n := total (s.boot.dimms.map (·.2.1))
  let smallest := (s.boot.dimms.filter (·.2.1 != 0)).foldl (fun a d => if a = 0 then d.2.2 else min a d.2.2) 0
  raw ≤ 64 * 10 ^ 12 * n && n != 0 &&
    (if zoned then 2 ^ 30 else mapReserve raw share n false part.qlc / n) ≤ smallest / 2

/-- The most erase blocks on each die that may mount. -/
def State.mountBlocks (s : State) (part : NandPart) (zoned : Bool) (share dies : Nat) : Nat :=
  (List.range 24).reverse.foldl (fun a k =>
    let x := a + 2 ^ k
    if x ≤ part.blocks && s.mayMount part zoned share (x * dies * part.blockBytes) then x else a) 0

/-- Is erase block `i` of the `j`th of `n` dies in the write region: the configured share of the raw blocks, their first ones, spread over
the dies (R233)? -/
def inRegion (share n per j i : Nat) : Bool := share != 0 && decide (i * n + j < n * per / share)

/-- Erase block `i` of a die as it mounts: its wear kept, its data unreadable (R45, R242). -/
def State.mountedBlock (s : State) (region : Bool) (d : NandDie) (i : Nat) : EraseBlock :=
  let id := d.id * 2 ^ 16 + i
  match (s.foot.blocks ++ s.foot.others).find? (·.id == id) with
  | some b => { b with slc := region, written := 0, reads := 0, stale := b.retired.isNone }
  | none => ⟨id, d.id, region, 0, 0, 0, 0, 0, true, if d.retired then some 3 else none⟩

/-- The dies that take the two copies of the persistent metadata: on different channels and different abutments (R242). -/
def copyDies (l : List NandDie) : List Nat :=
  [0, 1].filterMap (fun a => (l.find? (fun d => d.channel / 16 = a && !d.retired)).map (·.id))

/-- The footing mounts in the mode and with the write-region share that management last set. -/
def State.mount (s : State) : State :=
  match s.commonPart with
  | none => s
  | some part =>
    let dies := s.diesOf part
    let zoned := s.foot.setZoned
    let share := if zoned then 0 else s.foot.setShare
    let n := s.mountBlocks part zoned share dies.length
    let blocks := dies.flatMap (fun d => (List.range n).map (fun i =>
      s.mountedBlock (inRegion share dies.length n (dies.findIdx (·.id == d.id)) i) d i))
    let rate := fun a => total ((s.foot.channels.filter (fun c => c.channel / 16 = a)).map (·.rate))
    if n = 0 then s
    else
      let s := { s with
        foot.dies := dies ++ s.foot.dies.filter (fun d : NandDie => !dies.any (·.id == d.id))
        foot.others := (s.foot.blocks ++ s.foot.others).filter (fun b : EraseBlock => !blocks.any (·.id == b.id))
        foot.blocks := blocks
        foot.mounted := true
        foot.part := some part
        foot.rawBytes := n * dies.length * part.blockBytes
        foot.zoned := zoned
        foot.share := share
        foot.noParity := noParityOf dies
        foot.copies := copyDies dies
        boot.mounted := true }
      ((s.portUp 40 (rate 0 / 1000)).portUp 41 (rate 1 / 1000)).footingChanged

/-- The footing mount ends and READY.FULL sets (R45, R49). -/
def execFootingMountComplete (s : State) : Host.Outcome State Fault Refusal :=
  if s.boot.deck && !s.boot.full && !s.foot.mounted && !s.noFooting && s.boot.scanDone && s.boot.nandDone then
    .next ({ s.mount with boot.full := true }).readyChanged
  else .next s

/-! ### Background work (R232, R233, R235 to R239) -/

/-- A block of an abutment's channels. -/
def State.onAbutment (s : State) (a : Nat) (b : EraseBlock) : Bool := s.channelOfErase b / 16 = a

/-- FORCED follows the free native blocks, or free zones: set below 1 % (R236). -/
def State.footForced (s : State) : State :=
  let f := s.foot.mounted && s.freePermille < 10
  if f == s.foot.forced then s else ({ s with foot.forced := f }).footingChanged

/-- Collection and compaction run from their start to their end: MANAGED from 5 % to 8 % free, ZONED from 2 % to 4 %
(R232, R237). -/
def State.footCollecting (s : State) : State :=
  let lo := if s.foot.zoned then 20 else 50
  let hi := if s.foot.zoned then 40 else 80
  { s with foot.collecting := if s.freePermille < lo then true else if hi ≤ s.freePermille then false else s.foot.collecting }

/-- The translation layer brought up to date before it decides. -/
def State.footNow (s : State) : State := (((s.footSync 3).rescue).footForced).footCollecting

/-- Is the erase block written and not written to any more? -/
def State.settledErase (s : State) (b : EraseBlock) : Bool := (s.groupOf b.id).any s.closed

/-- The first of the blocks with the least `key`, among equals the oldest last program (R237). -/
def victim (key : EraseBlock → Nat) (l : List EraseBlock) : Option EraseBlock :=
  (sortBy (fun a b => key a < key b || (key a = key b && a.programmedAt ≤ b.programmedAt)) l).head?

/-- The pages of a zone. -/
def State.zonePages (s : State) (g : FootGroup) : List FootPage := s.foot.pages.filter (fun p => p.first / 2 ^ 32 = g.id)

/-- A compaction: unreferenced indexed blocks are evicted from the zone with the fewest live pages that holds one; once no zone does,
the pages that remain in the zone with the fewest leave it in move units (R232). -/
def State.compact (s : State) : State :=
  let zones := sortBy (fun a b => decide ((s.zonePages a).length ≤ (s.zonePages b).length)) (s.foot.groups.filter s.closed)
  let evictable := fun g => (((s.zonePages g).filter (fun p => !p.tile)).map (·.owner)).filter s.evictable
  match zones.find? (fun g => !(evictable g).isEmpty), zones.head? with
  | some g, _ => ((evictable g).eraseDups.foldl (fun s id => if s.evictable id then s.evictBlocks [s.evictAt id] else s) s).footNow
  | none, some g => g.blocks.foldl (fun s b => s.relocate (if s.foot.forced then 4 else 5) b) s
  | none, none => s

/-- Does a hard trigger of Table 8-3 hold of a block: reads, or age? -/
def State.hardDue (s : State) (b : EraseBlock) : Bool :=
  200000 ≤ b.reads || (b.written != 0 && b.programmedAt + 30 * 86400 * 10 ^ 9 ≤ s.clock.now)

/-- Does a soft trigger hold? -/
def State.softDue (s : State) (b : EraseBlock) : Bool :=
  100000 ≤ b.reads || (b.written != 0 && b.programmedAt + 14 * 86400 * 10 ^ 9 ≤ s.clock.now)

/-- A hard relocation: ungated (R236, R239). -/
def State.hardRelocate (s : State) (id : Nat) : State := (s.relocate 4 id).bump 0x0A8 1

/-- Static wear levelling (R238): the data of the least-erased native block that holds data moves into the most-erased free block when the
spread passes 10 % of the rated endurance; in ZONED mode by move units (R239). -/
def State.levelWear (s : State) (a : Nat) : State :=
  let l := s.foot.blocks.filter (fun b => b.usable && !b.slc)
  let hi := l.foldl (fun x b => max x b.eraseNative) 0
  let lo := l.foldl (fun x b => min x b.eraseNative) hi
  let rated := s.foot.part.elim 0 (·.endurance)
  if (hi - lo) * 10 ≤ rated then s
  else match (victim (·.eraseNative) (l.filter s.settledErase)).filter (s.onAbutment a), (sortBy (fun x y : EraseBlock => y.eraseNative ≤ x.eraseNative) (l.filter s.freeErase)).head? with
    | some b, some t =>
      if s.foot.zoned then (s.relocate 5 b.id).bump 0x0A7 1
      else
        let rows := (s.foot.map.filter (·.block == b.id)).map (·.row)
        let s := if t.stale then s.eraseSoon 3 t.id else s
        let s := rows.foldl (fun (s : State) r => (s.readPage 5 false (b.id, r)).program 5 false t.id r) s
        let swap := fun x : Nat => if x = b.id then t.id else x
        let s := { s with
          foot.map := s.foot.map.map (fun m : MapUnit => { m with block := swap m.block })
          foot.groups := s.foot.groups.map (fun g : FootGroup => { g with blocks := g.blocks.map swap }) }
        (s.updErase b.id (fun b => { b with written := 0, stale := true })).bump 0x0A7 1
    | _, _ => s

/-- One background operation of an abutment. -/
def State.ftlWork (s : State) (a : Nat) : FtlWork → State
  | .fold =>
    (match victim (·.programmedAt) (s.foot.blocks.filter (fun b => b.slc && s.settledErase b && s.onAbutment a b)) with
    | some b => s.relocate 5 b.id
    | none => s)
  | .collect =>
    (match s.foot.zoned || !s.foot.collecting,
        victim (fun b => s.liveIn b.id) (s.foot.blocks.filter (fun b => !b.slc && s.settledErase b && s.onAbutment a b)) with
    | false, some b => (s.relocate (if s.foot.forced then 4 else 5) b.id).bump 0x0A6 (b2n s.foot.forced)
    | _, _ => s)
  | .compact => if s.foot.zoned && s.foot.collecting then s.compact.bump 0x0A6 (b2n s.foot.forced) else s
  | .levelWear => s.levelWear a
  | .softRelocate id => if (s.eraseBlock id).any (fun b => s.onAbutment a b && s.softDue b) then (s.relocate 5 id).bump 0x0A7 1 else s
  | .hardRelocate id => if (s.eraseBlock id).any (fun b => s.onAbutment a b && s.hardDue b) then s.hardRelocate id else s
  | .eraseStale =>
    (match s.foot.blocks.find? (fun b => b.stale && s.freeErase b && s.onAbutment a b && !s.foot.queue.any (fun x => x.kind = 2 && x.block = b.id)) with
    | some b => s.eraseSoon 5 b.id
    | none => s)

/-- Does the work run regardless of the gate lists (R236)? -/
def State.ungated (s : State) : FtlWork → Bool
  | .collect | .compact => s.foot.forced
  | .hardRelocate _ => true
  | .fold | .levelWear | .softRelocate _ | .eraseStale => false

/-- The translation layer takes up background work on FOOT0 or FOOT1 while its gate is open, or regardless of it; what the work queues in
rank 5 is issued only while the gate of the channel's port is open (R235, R236).  NAND in deep power-down does none (R51). -/
def execFtlBackgroundOp (port : Nat) (work : FtlWork) (s : State) : Host.Outcome State Fault Refusal :=
  if s.foot.mounted && !s.foot.sanitising && !s.boot.halted && s.memoriesAwake && (port = 40 || port = 41) then
    let s := s.footNow
    .next (if s.ungated work || s.footGate port then (s.ftlWork (port - 40) work).footForced else s)
  else .next s

/-! ### NAND operations (R227, R228, R238, R239, R243) -/

/-- An operation taken off its channel's queue. -/
def State.nandDone (s : State) (x : NandOp) : State :=
  { s with foot.queue := s.foot.queue.filter (·.id != x.id) }

/-- The locus of a NAND channel (Table 1-3). -/
def nandLocus (channel : Nat) : Nat := 0x5000 + 0x100 * (channel / 16) + 0x40 + channel

/-- What the pages of a lost row held is gone: blocks are dropped, in SPILL namespaces as well, and tiles are poisoned
(R228). -/
def State.losePages (s : State) (l : List FootPage) : State :=
  l.foldl (fun s p =>
    if p.tile then s.updTile p.owner p.part (fun t => { t with poisoned := true })
    else s.dropBlock p.owner 0x0E) s

/-- A die leaves service: its live pages are rebuilt into other stripes; without parity they are lost (R226 to R228).  What its channel had
queued for it is void; a page whose program still waited is written elsewhere. -/
def State.retireDie (s : State) (d : NandDie) : State :=
  let mine := fun b : EraseBlock => b.die == d.id
  let ids := (s.foot.blocks.filter mine).map (·.id)
  let lost := if s.foot.noParity then (s.pagesIn ids).filter (fun p => (s.slots p).any (fun x => ids.contains x.1 && !s.unwritten x.1 x.2)) else []
  let s := (s.updDie d.id (fun d => { d with retired := true })).log
    ⟨.degraded, 0x0133, nandLocus d.channel, none, none, some d.id, 0, false⟩
  let s := (s.losePages lost).footDead
  let leave := fun b : EraseBlock => if mine b && b.usable then { b with retired := some 3, stale := false } else b
  let s := { s with foot.blocks := s.foot.blocks.map leave }
  let s := s.rescue
  let s := { s with
    foot.queue := s.foot.queue.filter (fun x => !(ids.contains x.block && !s.unwritten x.block x.row) && !(ids.contains x.block && x.kind = 2))
    foot.noParity := noParityOf (s.foot.dies.filter (fun x => s.foot.blocks.any (·.die == x.id)))
    foot.copies := copyDies s.foot.dies }
  s.footingChanged

/-- An uncorrectable read of a page of a die: counted, and more than 64 pages within 1 s retire the die (R227). -/
def State.uncorrectable (s : State) (die page : Nat) (rebuilt : Bool) : State :=
  let once := fun d : NandDie => { d with
    uncorrectable := d.uncorrectable + 1, rebuilds := d.rebuilds + b2n rebuilt
    recent := (s.clock.now, page) :: d.recent.filter (fun t => decide (s.clock.now < t.1 + 10 ^ 9) && t.2 != page) }
  let s := s.updDie die once
  match s.die die with
  | some d => if 64 < d.recent.length && !d.retired then s.retireDie d else s
  | none => s

/-- A NAND row address: the erase block and the row. -/
def rowAddr (block row : Nat) : Nat := block * 2 ^ 16 + row

/-- One read more of a NAND page, which no queue carried. -/
def State.countRead (s : State) (block : Nat) : State :=
  let s := s.updErase block (fun b => { b with reads := b.reads + 1 })
  ((s.eraseBlock block).elim s (fun b => s.updDie b.die (fun d => { d with bytesRead := d.bytesRead + 16384 }))).bump 0x0A0 1

/-- A read ends (R227, R228, R239): a rebuild has read the row's other pages; a row that two pages of have gone takes with it every page
that holds a byte of either. -/
def State.readEnds (s : State) (b : EraseBlock) (row : Nat) : NandEnd → State
  | .readOk near => if near then s.hardRelocate b.id else s
  | .readRetried => (s.bump 0x0A3 1).hardRelocate b.id
  | .readRebuilt =>
    let s := (s.bump 0x0A3 1).bump 0x0A4 1
    let s := ((s.groupOf b.id).elim [] (fun g => g.blocks.filter (· != b.id))).foldl State.countRead s
    let s := s.log ⟨.recovered, 0x0131, nandLocus (s.channelOfErase b), none, none, some (rowAddr b.id row), 0, false⟩
    (s.uncorrectable b.die (rowAddr b.id row) true).hardRelocate b.id
  | .rowLost other =>
    let s := s.log ⟨.dataLoss, 0x0132, nandLocus (s.channelOfErase b), none, none, some (rowAddr b.id row), 0, false⟩
    let l := s.pagesAt b.id row
    let l := l ++ (s.pagesAt other row).filter (fun q => !l.any q.same)
    (s.losePages l).uncorrectable b.die (rowAddr b.id row) false
  | .programOk | .programFailed | .eraseOk | .eraseFailed | .dieFailed => s

/-- The erase that ended counts in the mode the block had; 110 % of the rated endurance retires the block (R238). -/
def State.eraseEnds (s : State) (b : EraseBlock) : State :=
  let once := fun b : EraseBlock => { b with
    stale := false, eraseSlc := b.eraseSlc + b2n b.slc, eraseNative := b.eraseNative + b2n (!b.slc)
    reads := if b.stale then 0 else b.reads }
  let s := s.updErase b.id once
  let worn := fun b : EraseBlock => s.foot.part.any (fun p => p.endurance * 110 ≤ b.eraseNative * 100 || p.slcEndurance * 110 ≤ b.eraseSlc * 100)
  match s.eraseBlock b.id with
  | some b => if worn b then s.retireErase b.id 2 else s
  | none => s

/-- A NAND operation ends on a channel, and the next of its queue takes its place (R243).  A program that failed is made elsewhere, from
the device's buffers. -/
def execNandOpComplete (channel : Nat) (ended : NandEnd) (s : State) : Host.Outcome State Fault Refusal :=
  let s := s.nandStart channel
  match ((s.nandHead channel).filter (·.started)).bind (fun x => (s.eraseBlock x.block).map (fun b => (x, b))) with
  | none => .next s
  | some (x, b) =>
    let s' := s.nandDone x
    let t := fun t : State => Host.Outcome.next (t.nandStart channel)
    match ended, x.kind with
    | .dieFailed, _ => t (match s.die b.die with
      | some d => if d.retired then s' else (s.retireDie d).footForced
      | none => s')
    | .eraseOk, 2 =>
      let size := s.foot.part.elim 0 (·.blockBytes)
      t ((((s'.bump 0x0A2 1).updDie b.die (fun d => { d with bytesErased := d.bytesErased + size })).eraseEnds b).footingChanged)
    | .eraseFailed, 2 => t ((s'.bump 0x0A2 1).retireErase b.id 1)
    | .programOk, 1 =>
      t ((s'.bump 0x0A1 1).updDie b.die (fun d => { d with bytesProgrammed := d.bytesProgrammed + 16384 })).footForced
    | .programFailed, 1 => t ((s.bump 0x0A1 1).retireErase b.id 0).footForced
    | .readOk near, 0 =>
      let s := (s'.bump 0x0A0 1).updDie b.die (fun d => { d with bytesRead := d.bytesRead + 16384 })
      t (if s.hardDue b && !near then s.hardRelocate b.id else s.readEnds b x.row (.readOk near))
    | .readRetried, 0 => t ((s'.bump 0x0A0 1).readEnds b x.row .readRetried)
    | .readRebuilt, 0 => t ((s'.bump 0x0A0 1).readEnds b x.row .readRebuilt)
    | .rowLost other, 0 => t ((s'.bump 0x0A0 1).readEnds b x.row (.rowLost other))
    | _, _ => t s

/-- A block reaches the age of a relocation: hard at 30 days; soft at 14, in an open gate (R239). -/
def execRelocationAgeTrigger (block : Nat) (s : State) : Host.Outcome State Fault Refusal :=
  match s.eraseBlock block with
  | some b =>
    let age := s.clock.now - b.programmedAt
    .next (if s.freeErase b || s.boot.halted then s
      else if 30 * 86400 * 10 ^ 9 ≤ age then s.hardRelocate block
      else if 14 * 86400 * 10 ^ 9 ≤ age && s.footGate (40 + s.channelOfErase b / 16) then (s.relocate 5 block).bump 0x0A7 1
      else s)
  | none => .next s

/-- Every 60 s the erase journal goes into the two metadata copies (R242). -/
def execMetadataJournalCompact (s : State) : Host.Outcome State Fault Refusal :=
  if s.foot.mounted && s.foot.lastCompact + 60 * 10 ^ 9 ≤ s.clock.now then
    .next { s with foot.journal := [], foot.lastCompact := s.clock.now }
  else .next s

/-- SANITISE from management, in UNCLAIMED: every block of the mounted footing is erased, regardless of gates (R241, R459,
Table 17-2). -/
def execSanitise (s : State) : Host.Outcome State Fault Refusal :=
  if s.managed && s.foot.mounted && s.sec.life = .unclaimed && !s.foot.sanitising then
    let ids := (s.foot.blocks.filter EraseBlock.usable).map (·.id)
    let s := { s with
      foot.sanitising := true, foot.queue := [], foot.pages := [], foot.map := [], foot.cache := [], foot.groups := []
      foot.blocks := s.foot.blocks.map (fun b : EraseBlock => { b with written := 0, stale := b.usable }) }
    .next (((ids.foldl (fun s id => s.eraseSoon 4 id) s).footingChanged).emit (.mgmt true []))
  else .next (s.emit (.mgmt false []))

/-- The last erase of SANITISE has ended and footing service resumes (R241). -/
def execSanitiseEnd (s : State) : Host.Outcome State Fault Refusal :=
  if s.foot.sanitising && !s.foot.queue.any (·.kind == 2) then .next ({ s with foot.sanitising := false }).footingChanged
  else .next s

/-! ### Registers (R245) -/

/-- A part of a whole in percent. -/
def percent (a b : Nat) : Nat := if b = 0 then 0 else min 255 (a * 100 / b)

/-- PLC_FOOT_STATUS (Table 8-7). -/
def State.footStatus (s : State) : Nat :=
  let s := s.footSync 3
  let f := s.foot
  b2n f.mounted * 2 ^ 31 + b2n (f.mounted && f.zoned) * 2 ^ 30 + b2n f.forced * 2 ^ 29 + b2n f.sanitising * 2 ^ 28 +
  b2n (f.mounted && f.noParity) * 2 ^ 27 + (if f.mounted then s.freePermille / 10 else 0) * 2 ^ 16 +
  percent s.regionFill s.regionCap * 2 ^ 8 + percent (f.blocks.filter (fun b => b.stale && s.freeErase b)).length f.blocks.length

/-- PLC_FOOT_HEALTH (Table 8-8): the spare is what Table 8-2 holds back of the blocks (log entry 36). -/
def State.footHealth (s : State) : Nat :=
  let f := s.foot
  let n := f.blocks.length
  let used := total (f.blocks.map (·.eraseNative))
  let rated := f.part.elim 0 (·.endurance)
  let spare := n * (if f.zoned then 3 else 10) / 100
  let gone := (f.blocks.filter (fun b => b.retired.isSome)).length
  let slow := (f.channels.filter (fun c => c.rate != 0 && c.rate < 3600)).length
  (if n * rated = 0 then 0 else min 255 (used * 100 / (n * rated))) * 2 ^ 24 + percent (spare - gone) spare * 2 ^ 16 +
  min 255 (f.dies.filter (·.retired)).length * 2 ^ 8 + min 63 slow

end Sys2Proof.Machine
end

