-- ==== Sys2Proof/Machine/Sched.lean ====
section
/-! DEFINITION. Sched.lean: scheduling ports, weighted fair queueing, time-gate lists and toll buckets (Just-in-time
delivery and traffic scheduling, R262 to R275). -/
namespace Sys2Proof.Machine

/-- A scheduling port. -/
def State.port (s : State) (k : Nat) : Option SPort := s.dlv.ports.find? (·.num == k)

/-- A scheduling port stored back. -/
def State.setPort (s : State) (p : SPort) : State := { s with dlv.ports := upd (·.num == p.num) (fun _ => p) s.dlv.ports }

/-- The unit at a queue's head: units with a deadline go first, in order of deadline, the others in arrival order (R251). -/
def SQueue.head (q : SQueue) : Option SUnit :=
  let better := fun (a : Option SUnit) (u : SUnit) => match a, u.deadline with
    | none, _ => some u
    | some x, some d => (match x.deadline with
      | some e => if d < e then some u else a
      | none => some u)
    | some _, none => a
  q.units.foldl better none

/-- What the head sends next: one write of at most the port's payload (R265). -/
def SUnit.piece (u : SUnit) (port : Nat) : Nat := min (min (maxPayload port) u.pay) (u.size - u.off)

/-- The head's tag computed, where none stands. -/
def SQueue.tagged (q : SQueue) (l : List Item) (port v : Nat) (wasEmpty : Bool) : SQueue :=
  match q.headTag, q.head with
  | none, some u =>
    let t := finishTag v q.finish (u.piece port + schedOverhead l port) (schedWeight l port q.num) wasEmpty
    { q with finish := t, headTag := some t }
  | _, _ => q

/-- A unit joins a queue of a port. -/
def SPort.enqueue (p : SPort) (l : List Item) (num now : Nat) (u : SUnit) : SPort :=
  let p := p.withQueue l num now
  let add := fun q : SQueue =>
    ({ q with units := q.units ++ [u] } : SQueue).tagged l p.num p.vtime q.units.isEmpty
  { p with queues := upd (·.num == num) add p.queues }

/-- A unit joins a queue of port `k`. -/
def State.enqueue (s : State) (k num : Nat) (u : SUnit) : State :=
  match s.port k with
  | some p => s.setPort (p.enqueue s.stg.live num s.clock.now u)
  | none => s

/-! ### Gates (R268 to R270) -/

/-- The entries of a list from the one in force on, that one shortened to what is left of it. -/
def GateList.ahead (g : GateList) (now : Nat) : List (Nat × Nat) :=
  let x := gateSpan g.entries ((now - g.takeover) % max 1 g.cycle) 0
  match g.entries.drop x.1 with
  | e :: t => (x.2, e.2) :: (t ++ g.entries.take x.1)
  | [] => []

/-- How long a queue's gate stays open from now; none for ever.  Adjacent entries that keep it open are one span (R270). -/
def SPort.openFor (p : SPort) (q now : Nat) : Option Nat :=
  match p.active with
  | none => none
  | some g =>
    if q = 0 || g.entries.all (fun e => bit e.2 q) then none
    else some (total (((g.ahead now).takeWhile (fun e => bit e.2 q)).map (·.1)))

/-- The length of the whole open span that holds now. -/
def SPort.span (p : SPort) (q now : Nat) : Nat :=
  match p.active with
  | none => 0
  | some g =>
    let x := gateSpan g.entries ((now - g.takeover) % max 1 g.cycle) 0
    let before := (g.entries.take x.1).reverse ++ (g.entries.drop x.1).reverse
    let here := (g.entries.getD x.1 (0, 0)).1 - x.2
    here + total ((before.takeWhile (fun e => bit e.2 q)).map (·.1)) + (p.openFor q now).getD 0

/-- May a unit of counted length `c` start under the queue's gate: the gate is open and the unit ends before it closes, or
the span is too short for the port's largest unit and has not sent its one (R270)? -/
def SPort.fits (p : SPort) (q c ovr now : Nat) : Bool :=
  p.open_ q now && (match p.openFor q now with
    | none => true
    | some t => c ≤ t * p.raw || (p.span q now * p.raw < largestUnit p.num + ovr && !p.spanDone.contains q))

/-- A pending list replaces the active one at its takeover time; a list of no entries is no list (R268, R269). -/
def execGateTakeover (port : Nat) (s : State) : Host.Outcome State Fault Refusal :=
  match s.port port with
  | some p => (match p.pending with
    | some g => .next (if g.takeover ≤ s.clock.now then
        s.setPort { p with active := if g.entries.isEmpty then none else some g, pending := none, spanDone := [] } else s)
    | none => .next s)
  | none => .next s

/-- A gate entry ends and the next entry's mask takes force: a queue whose gate was closed begins a new open span (R269,
R270). -/
def execGateEntryChange (port : Nat) (s : State) : Host.Outcome State Fault Refusal :=
  match s.port port with
  | some p =>
    (match p.active with
    | some g =>
      let i := g.entry s.clock.now
      let prev := (if i = 0 then g.entries.getLast? else g.entries[i - 1]?).elim 0xFFFF (·.2)
      .next (s.setPort { p with spanDone := p.spanDone.filter (fun q => bit prev q) })
    | none => .next s)
  | none => .next s

/-! ### Toll buckets (R272, R273) -/

/-- The device colours a red-held head again once its peak bucket holds enough (R273). -/
def execTollRecolour (port queue : Nat) (s : State) : Host.Outcome State Fault Refusal :=
  match s.port port with
  | some p =>
    let t := tollOf s.stg.live port queue
    let one := fun q : SQueue =>
      let q := q.fill t s.clock.now
      { q with red := q.red && (match q.head with
        | some u => q.colour t (u.piece port + schedOverhead s.stg.live port) == .red
        | none => false) }
    .next (s.setPort { p with queues := upd (·.num == queue) one p.queues })
  | none => .next s

/-! ### The next unit of a port (R267) -/

/-- A head that may be started: queue, tag, unit, counted length, colour, and whether DEFER puts it last. -/
structure Head where
  queue : SQueue
  tag : Nat
  unit : SUnit
  counted : Nat
  colour : Colour
  deferred : Bool

/-- The heads of a port whose gates are open, that fit and that no earlier red holds, coloured now. -/
def SPort.heads (p : SPort) (l : List Item) (now : Nat) : List Head :=
  let ovr := schedOverhead l p.num
  p.queues.filterMap (fun q => match q.headTag, q.head with
    | some tag, some u =>
      let c := u.piece p.num + ovr
      let t := tollOf l p.num q.num
      let q := q.fill t now
      let col := q.colour t c
      if q.red || !p.fits q.num c ovr now then none
      else some ⟨q, tag, u, c, col, col = .yellow && t.action = 1⟩
    | _, _ => none)

/-- The head to start: queue 0 first; then the lowest tag, the lower queue on a tie; a deferred yellow head only when no
other is eligible (R267). -/
def pickHead (l : List Head) : Option Head :=
  let ok := l.filter (fun h => h.colour != .red)
  let now := ok.filter (fun h => !h.deferred)
  let better := fun (a : Option Head) (h : Head) => match a with
    | none => some h
    | some x => if x.queue.num != 0 && (h.queue.num = 0 || h.tag < x.tag) then some h else a
  (if now.isEmpty then ok else now).foldl better none

/-- The port after a unit of a head starts: tokens, virtual time, the span's one unit, the unit in transmission (R266,
R270, R272). -/
def SPort.started (p : SPort) (l : List Item) (h : Head) (n now : Nat) : SPort :=
  let t := tollOf l p.num h.queue.num
  let left := h.unit.size - h.unit.off - n
  let sent := fun u : SUnit => if u.src == h.unit.src && u.unit == h.unit.unit then { u with off := u.off + n } else u
  let units := ((h.queue.units.map sent).filter (fun u => left != 0 || !(u.src == h.unit.src && u.unit == h.unit.unit)))
  let q := { (h.queue.pay t h.counted h.colour) with units := units, headTag := none }
  let short := match p.openFor h.queue.num now with
    | some x => decide (x * p.raw < h.counted)
    | none => false
  let p := { p with
    vtime := h.tag
    spanDone := if short then h.queue.num :: p.spanDone else p.spanDone
    sending := h.counted
    sentUntil := now + cdiv h.counted (max 1 p.raw) }
  let q := q.tagged l p.num p.vtime false
  { p with queues := upd (·.num == q.num) (fun _ => q) p.queues }

/-- Heads that the port finds red are held (R273). -/
def SPort.hold (p : SPort) (l : List Head) : SPort :=
  let red := (l.filter (fun h => h.colour = .red)).map (fun h => h.queue.num)
  { p with queues := upd (fun q : SQueue => red.contains q.num) (fun q => { q with red := true }) p.queues }

/-! ### Registers (R275) -/

/-- DLV_LINK_STATUS (Table 9-16). -/
def State.linkStatus (s : State) (k : Nat) : Nat :=
  match s.port k with
  | some p => b2n p.active.isSome * 2 ^ 31 + b2n p.pending.isSome * 2 ^ 30 +
      (p.active.elim 0 (fun g => g.entry s.clock.now)) * 2 ^ 16 + p.mask s.clock.now
  | none => 0xFFFF

/-- DLV_LINK_LOAD (Table 9-17). -/
def State.linkLoad (s : State) (k : Nat) : Nat :=
  match s.port k with
  | some p => s.portLoad k * 2 ^ 28 + min (2 ^ 28 - 1) (p.backlog s.clock.now (schedOverhead s.stg.live k) / 64)
  | none => 0

/-- DLV_VTIME, DLV_GATE_BASE and DLV_GATE_NEXT (Table 9-18). -/
def State.linkTimes (s : State) (k : Nat) : Nat × Nat × Nat :=
  match s.port k with
  | some p => (p.vtime % 2 ^ 64, p.active.elim 0 (·.takeover), p.pending.elim 0 (·.takeover))
  | none => (0, 0, 0)

end Sys2Proof.Machine
end

