-- ==== Sys2Proof/Machine/Leases.lean ====
section
/-! DEFINITION. Leases.lean: lending and borrowing causeway (Tiers, quotas and placement, R219 to R222). -/
namespace Sys2Proof.Machine

/-- A lease by its identifier. -/
def State.lease (s : State) (id : Nat) : Option Lease := s.tiers.leases.find? (·.id == id)

/-- `f` on a lease. -/
def State.updLease (s : State) (id : Nat) (f : Lease → Lease) : State :=
  { s with tiers.leases := upd (·.id == id) f s.tiers.leases }

/-- A lease enters a state; it keeps the time of its last state change.  Capacity that comes or goes counts for guarantees (R199). -/
def State.leaseTo (s : State) (id : Nat) (st : LeaseState) : State :=
  (s.updLease id (fun l => { l with state := st, changed := s.clock.now })).leaseChanged.noteShort

/-- A lease is CLOSED: its slot is free. -/
def State.closeLease (s : State) (id : Nat) : State :=
  ({ s with tiers.leases := s.tiers.leases.filter (·.id != id) }).leaseChanged

/-- A LEASE command that waits for an answer ends. -/
def State.answerLease (s : State) (id : Nat) (st : Status) : State :=
  (s.q.ops.filter (fun o => o.wait == .lease id)).foldl (fun s o => s.finish o.tag st id) s

/-- The identifiers of leases: 16 bits, the next one that no lease has. -/
def State.freshLease (s : State) : Nat :=
  (lowestFree (s.tiers.leases.map (·.id)) s.tiers.nextLease (s.tiers.leases.length + 1)).getD s.tiers.nextLease

/-- May this device lend to or borrow from the partner: a valid LEND entry that has completed attestation (R219)? -/
def State.lendsWith (s : State) (partner : Nat) : Bool :=
  partnerValid s.stg.live partner && partnerLend s.stg.live partner &&
    s.grp.partners.any (fun p => p.entry == partner && p.attested)

/-- Leases not CLOSED in a role. -/
def State.leaseCount (s : State) (borrower : Bool) : Nat := (s.tiers.leases.filter (·.borrower == borrower)).length

/-- A request as the borrower: the lease in REQUESTED, and the message to the lender. -/
def State.requestLease (s : State) (partner capacity rateCap notice term : Nat) : Nat × State :=
  let id := s.freshLease
  let now := s.clock.now
  let l : Lease := ⟨id, true, .requested, partner, capacity, rateCap, notice, term, 0, now, now, now, 0⟩
  (id, (({ s with tiers.leases := s.tiers.leases ++ [l], tiers.nextLease := (id + 1) % 65536 }).emit
    (.partner partner msgLease none id)).leaseChanged)

/-- The lendable causeway: usable, less its guarantees, less its high-watermark headroom (R219). -/
def State.lendable (s : State) : Nat :=
  let whole := s.usable 1 + s.lent
  whole - guarSum s.stg.live 1 - whole * (100 - policyHigh s.stg.live 1) / 100

/-- Pages and tiles in a lease move out (Table 7-12). -/
def State.emptyLease (s : State) (id : Nat) (latency : Bool) : State :=
  let bs := s.store.blocks.filter (fun b => b.pages.any (·.lease == some id))
  let one := fun (s : State) (b : Block) => match s.nsOf b with
    | some n =>
      let t := (s.demoteTarget n b 2 3).getD 1
      s.addMove (.ofBlocks [b.id] false t 0x0D latency (decide (t < 2)))
    | none => s
  let s := bs.foldl one s
  let ts := s.tiers.weights.flatMap (fun w => (w.tiles.filter (·.lease == some id)).map (fun t => (w, t)))
  ts.foldl (fun s x =>
    let t := (s.tileTarget x.1 x.2 3).getD 1
    s.addMove (.ofTile x.1.slot x.2.index t 0x0D latency (decide (t < 2)))) s

/-- Extents whose mirror copy lay in a lease run unmirrored, with one record each; stores that waited for the partner
are then complete (R341). -/
def State.unmirror (s : State) (id : Nat) : State :=
  (s.pool.extents.filter (·.mirrored == some id)).foldl (fun s e =>
    let plain := fun e : Extent => { e with mirrored := none }
    let s := { s with
      pool.extents := upd (fun x : Extent => x.id == e.id) plain s.pool.extents
      pool.unmirrored := s.pool.unmirrored ++ [e.id] }
    let mine := fun w : MirrorWait => e.base ≤ w.addr && w.addr < e.base + e.length
    let s := { (s.pool.mirrorWaits.filter mine).foldl (fun s w => s.emit (.cxlDone w.host w.addr (s.devLoad w.link))) s with
      pool.mirrorWaits := s.pool.mirrorWaits.filter (fun w => !mine w) }
    s.log ⟨.degraded, 0x0403, 0x4000, none, some id, some e.base, 0, false⟩) s

/-- A lease enters RECLAIMING; the borrower empties it at class LATENCY. -/
def State.reclaim (s : State) (l : Lease) : State :=
  let s := ((s.leaseTo l.id .reclaiming).bump 0x091 1).unmirror l.id
  if l.borrower then s.emptyLease l.id true else s

/-- A lease is LOST. -/
def State.loseLease (s : State) (id : Nat) : State := ((s.leaseTo id .lost).bump 0x093 1).unmirror id

/-- The code of a lease state, in the order of Table 7-12. -/
def LeaseState.code : LeaseState → Nat
  | .requested => 0
  | .active => 1
  | .reclaiming => 2
  | .returning => 3
  | .lost => 4
  | .closed => 5

/-- One entry of LEASE QUERY at a time; what the borrower uses of a lent lease is free (log entry 150). -/
def Lease.bytes (now : Nat) (l : Lease) : List Byte :=
  leBytes 2 l.id ++ leBytes 1 (b2n (!l.borrower)) ++ leBytes 1 l.state.code ++ leBytes 2 l.partner ++ leBytes 2 0 ++
  leBytes 8 l.capacity ++ leBytes 8 (if l.borrower then l.used else Config.lenderUsed l.id now % (l.capacity + 1)) ++ leBytes 8 l.changed

/-- LEASE REQUEST. -/
def leaseRequest (o : Op) (s : State) : BodyOut :=
  let p := o.p 10 2
  let cap := o.p 16 4
  let notice := o.p 22 2
  if 1024 ≤ p || cap < 1 || 65535 < cap || notice < 1 || 60 < notice then .done .badParam 0 s
  else if !s.lendsWith p then .done .denied 0 s
  else if 8 ≤ s.leaseCount true || s.tiers.leases.any (fun l => l.borrower && l.partner == p) then .done .quotaExceeded 0 s
  else
    let r := s.requestLease p (cap * 2 ^ 30) (o.p 20 2) notice (o.p 24 4)
    .wait (.lease r.1) r.2

/-- LEASE (R221, Table 7-13).  REQUEST waits for the lender's answer. -/
def bodyLease (o : Op) (s : State) : BodyOut :=
  let act := o.p 8 1
  match o.wait with
  | .lease id => .wait (.lease id) s
  | _ =>
    if act = 0 then
      s.writeThen o o.buf (((s.tiers.leases.take 16).flatMap (Lease.bytes s.clock.now)) ++
        leBytes (32 * (16 - s.tiers.leases.length)) 0) (fun s => .done .ok 0 s)
    else if !o.expert || 3 < act then .done .badParam 0 s
    else if act = 1 then leaseRequest o s
    else match s.lease (o.p 12 4) with
    | none => .done .badHandle 0 s
    | some l =>
      if l.state != .active || l.borrower != (act == 3) then .done .denied 0 s
      else if act = 2 then .done .ok l.id ((s.reclaim l).emit (.partner l.partner msgLease none l.id))
      else .done .ok l.id (((s.leaseTo l.id .returning).emit (.partner l.partner msgLease none l.id)).emptyLease l.id false)

/-- LEASE from a queue pair. -/
def execLease (c : Cmd) (s : State) : Host.Outcome State Fault Refusal := .next (s.submit 0x57 bodyLease c)

/-- The lender whose turn it is: the first attested one with which this device has no lease, from the entry behind the last one asked
(R221). -/
def State.lenderTurn (s : State) : Option Nat :=
  let l := sortBy (fun a b : Nat => decide (a ≤ b)) ((s.grp.partners.map (·.entry)).filter (fun p =>
    s.lendsWith p && !s.tiers.leases.any (fun l => l.borrower && l.partner == p)))
  match l.find? (fun p => decide (s.tiers.nextLender ≤ p)) with
  | some p => some p
  | none => l.head?

/-- Under BORROW a causeway above its high watermark for 1 s, with a footing that cannot take the demotions, makes the
device request a lease step from each attested lender in turn (R221). -/
def execLeaseAutoRequest (partner : Nat) (s : State) : Host.Outcome State Fault Refusal :=
  let high := s.tiers.highSince.any (fun t => decide (t + 1000000000 ≤ s.clock.now))
  let full := s.usable 3 * policyHigh s.stg.live 3 ≤ s.useAll 3 * 100
  if policyFlag s.stg.live 3 && high && full && s.claimed && !s.boot.halted && s.lenderTurn = some partner &&
      s.leaseCount true < 8 then
    .next { (s.requestLease partner (policyStep s.stg.live * 2 ^ 30) 0 5 0).2 with tiers.nextLender := partner + 1 }
  else .next s

/-- A lender receives a request: under LEND it grants what R219 allows, else it refuses. -/
def execLeaseRequestReceived (partner id capacity rateCap notice term : Nat) (s : State) :
    Host.Outcome State Fault Refusal :=
  let bytes := capacity * 2 ^ 30
  let ok := policyFlag s.stg.live 2 && s.claimed && !s.boot.halted && s.lendsWith partner && s.leaseCount false < 8 &&
    s.lent + bytes ≤ s.lendable * policyShare s.stg.live / 256
  if ok then
    let l : Lease := ⟨id, false, .active, partner, bytes, rateCap, notice, term, 0, s.clock.now, s.clock.now, s.clock.now, 0⟩
    .next ((({ s with tiers.leases := s.tiers.leases ++ [l] }).bump 0x090 1).emit
      (.partner partner msgLease none (id + 2 ^ 32))).leaseChanged.noteShort
  else .next (s.emit (.partner partner msgLease none id))

/-- The lender's answer reaches the borrower (Table 7-12). -/
def execLeaseAnswerReceived (id : Nat) (granted : Bool) (s : State) : Host.Outcome State Fault Refusal :=
  match s.lease id with
  | some l =>
    if !l.borrower || l.state != .requested then .next s
    else if granted then
      .next ((((s.leaseTo id .active).updLease id (fun l => { l with since := s.clock.now, lastBeat := s.clock.now })).bump
        0x090 1).answerLease id .ok)
    else .next ((s.closeLease id).answerLease id .denied)
  | none => .next s

/-- No answer within 10 ms (Table 7-12). -/
def execLeaseRequestTimeout (id : Nat) (s : State) : Host.Outcome State Fault Refusal :=
  match s.lease id with
  | some l =>
    if l.borrower && l.state == .requested && l.changed + 10000000 ≤ s.clock.now then
      .next ((s.closeLease id).answerLease id .denied)
    else .next s
  | none => .next s

/-- The lender's RECLAIM reaches the borrower. -/
def execLeaseReclaimReceived (id : Nat) (s : State) : Host.Outcome State Fault Refusal :=
  match s.lease id with
  | some l => .next (if l.borrower && l.state == .active then s.reclaim l else s)
  | none => .next s

/-- The lease's term ends. -/
def execLeaseTermEnd (id : Nat) (s : State) : Host.Outcome State Fault Refusal :=
  match s.lease id with
  | some l =>
    .next (if l.state == .active && l.term != 0 && l.since + l.term * 1000000000 ≤ s.clock.now then s.reclaim l else s)
  | none => .next s

/-- The notice of a reclaiming lease expires. -/
def execLeaseNoticeExpiry (id : Nat) (s : State) : Host.Outcome State Fault Refusal :=
  match s.lease id with
  | some l =>
    .next (if l.state == .reclaiming && l.changed + l.notice * 1000000000 ≤ s.clock.now then s.loseLease id else s)
  | none => .next s

/-- Is the lease in a state in which both sides exchange heartbeats? -/
def LeaseState.beats : LeaseState → Bool
  | .active | .reclaiming | .returning => true
  | .requested | .lost | .closed => false

/-- No heartbeat for 10 ms. -/
def execLeaseHeartbeatTimeout (id : Nat) (s : State) : Host.Outcome State Fault Refusal :=
  match s.lease id with
  | some l => .next (if l.state.beats && l.lastBeat + 10000000 ≤ s.clock.now then s.loseLease id else s)
  | none => .next s

/-- A reclaiming or returning lease is empty: it closes, and the other side hears of it. -/
def execLeaseEmpty (id : Nat) (s : State) : Host.Outcome State Fault Refusal :=
  match s.lease id with
  | some l =>
    if l.used = 0 && (l.state == .reclaiming || l.state == .returning) then
      .next (((s.closeLease id).bump 0x092 1).emit (.partner l.partner msgLease none id))
    else .next s
  | none => .next s

/-- What lay in a lost lease: its blocks are dropped, and its tiles' bytes are gone. -/
def State.dropLease (s : State) (id : Nat) : State :=
  let ids := (s.store.blocks.filter (fun b => b.pages.any (·.lease == some id))).map (·.id)
  let s := ids.foldl (fun s i => s.dropBlock i 0x0D) s
  let gone := fun w : WeightObj => { w with tiles := upd (·.lease == some id) (fun t : Tile => { t with poisoned := true, lease := none }) w.tiles }
  { s with tiers.weights := s.tiers.weights.map gone }

/-- After a lease is LOST its blocks are recorded as dropped, one error record is written, and it closes. -/
def execLeaseLostBookkeeping (id : Nat) (s : State) : Host.Outcome State Fault Refusal :=
  match s.lease id with
  | some l =>
    if l.state != .lost then .next s
    else
      let s := if l.borrower then s.dropLease id else s
      .next (((s.log (.plain .dataLoss 0x0501 0x3000 (some id))).closeLease id).answerLease id .denied)
  | none => .next s

end Sys2Proof.Machine
end

