-- ==== Sys2Proof/Machine/Weights.lean ====
section
/-! DEFINITION. Weights.lean: weight objects and their tiles (Tiers, quotas and placement, R223; Tenancy, R405, R407). -/
namespace Sys2Proof.Machine

/-- A weight binding by its handle. -/
def State.binding (s : State) (h : Nat) : Option Binding := s.sec.bindings.find? (fun b => mkHandle 8 b.slot b.gen == h)

/-- Tiles of every object. -/
def State.tileCount (s : State) : Nat := total (s.tiers.weights.map (·.count))

/-- WEIGHT_OBJECT CREATE (Table 7-14). -/
def weightCreate (o : Op) (s : State) : BodyOut :=
  let f := o.p 9 1
  let part := o.p 10 1
  let cnt := o.p 12 4
  let size := o.p 16 4
  if 15 < f || f = 0xE || 15 < part || !partValid (s.itemsOf o) part || 3 < o.p 11 1 || cnt < 1 || 16777216 < cnt || size < 4096 ||
      4 * 2 ^ 20 < size || size % 4096 != 0 then .done .badParam 0 s
  else if (s.binding (o.p 20 4)).isNone then .done .badHandle 0 s
  else if !s.mayPart (s.opFn o) part then .done .denied 0 s
  else match lowestFree (s.tiers.weights.map (·.slot)) 0 (min 4096 (s.tiers.weights.length + 1)) with
  | none => .done .quotaExceeded 0 s
  | some i =>
    if 16777216 < s.tileCount + cnt then .done .quotaExceeded 0 s
    else
      let gen := nextGen 20 (assoc s.tiers.weightGens i 0)
      .done .ok (mkHandle 12 i gen) { s with
        tiers.weights := s.tiers.weights ++ [⟨i, gen, f, part, o.p 11 1, cnt, size, o.p 20 4, [], false⟩]
        tiers.weightGens := assocSet s.tiers.weightGens i gen }

/-- Does an operation or a plan accepted before still use the object? -/
def State.weightUsed (s : State) (w : WeightObj) (tag : Nat) : Bool :=
  s.dlv.plans.any (fun p => p.live && p.kind = 2 && p.weight = w.slot) ||
  s.q.ops.any (fun x => x.tag != tag && x.started && ((x.opcode = 0x59 && x.p 8 4 = w.handle) ||
    (x.opcode = 0x51 && bit (x.p 29 1) 0 && x.p 8 4 = w.handle)))

/-- An object gone, its tiles with it. -/
def State.freeWeight (s : State) (slot : Nat) : State :=
  let mine := fun m : Move => m.tile.any (fun t : Nat × Nat => t.1 == slot)
  let s := { s with tiers.weights := s.tiers.weights.filter (·.slot != slot) }
  ((s.tiers.moves.filter mine).foldl State.endMove s).leaseUse

/-- WEIGHT_OBJECT DELETE: the operations accepted before it end on the tiles they hold (R223). -/
def weightDelete (o : Op) (s : State) : BodyOut :=
  let h := o.p 24 4
  match s.tiers.weights.find? (fun w => w.handle == h && (!w.deleting || o.wait == .ended)) with
  | none => .done .badHandle 0 s
  | some w =>
    if !s.mayPart (s.opFn o) w.partition then .done .denied 0 s
    else
      let s := { s with tiers.weights := upd (·.slot == w.slot) (fun w : WeightObj => { w with deleting := true }) s.tiers.weights }
      if 1024 < w.count then .long (cdiv w.count 1024) h s
      else if s.weightUsed w o.tag then .wait .ended s
      else .done .ok h (s.freeWeight w.slot)

/-- A unit of a long DELETE: 1,024 tiles. -/
def unitWeightDelete (o : Op) (s : State) : UnitOut :=
  match s.tiers.weights.find? (fun w => w.handle == o.p 24 4) with
  | none => .last .ok o.result o.resume s
  | some w =>
    if s.weightUsed w o.tag then .stay s
    else
      let next := (o.unitsDone + 1) * 1024
      let cut := fun w : WeightObj => { w with tiles := w.tiles.filter (fun t => decide (next ≤ t.index)) }
      if o.unitsDone + 1 < o.unitsTotal then
        .more o.result next ({ s with tiers.weights := upd (·.slot == w.slot) cut s.tiers.weights }).leaseUse
      else .last .ok o.result next (s.freeWeight w.slot)

/-- The 64 bytes of WEIGHT_OBJECT QUERY: the fields of Table 7-14 from byte 9 on, at offset 0, then the tiles per tier
(log entry 32). -/
def WeightObj.record (w : WeightObj) : List Byte :=
  leBytes 1 w.fmt ++ leBytes 1 w.partition ++ leBytes 1 w.tier ++ leBytes 4 w.count ++ leBytes 4 w.tileSize ++
  leBytes 4 w.binding ++ leBytes 4 w.handle ++
  (List.range 4).flatMap (fun t => leBytes 4 (w.tiles.filter (·.tier == t)).length) ++ leBytes 29 0

/-- WEIGHT_OBJECT (R223). -/
def bodyWeightObject (o : Op) (s : State) : BodyOut :=
  match o.p 8 1 with
  | 0 => weightCreate o s
  | 1 => weightDelete o s
  | 2 => (match s.weightOf (o.p 24 4) with
    | none => .done .badHandle 0 s
    | some w => if !s.mayPart (s.opFn o) w.partition then .done .denied 0 s
      else s.writeThen o o.buf w.record (fun s => .done .ok w.handle s))
  | _ => .done .badParam 0 s

/-- WEIGHT_OBJECT from a queue pair. -/
def execWeightObject (c : Cmd) (s : State) : Host.Outcome State Fault Refusal := .next (s.submit 0x58 bodyWeightObject c)

/-! ### WEIGHT_WRITE (R223, R405, R407) -/

/-- What one tile of a WEIGHT_WRITE answers. -/
inductive TileOut where
  | ok (s : State)
  | stop (st : Status) (s : State)
  | waits (link : Nat)

/-- One tile read, decrypted under its object's binding, and placed in the object's initial tier. -/
def State.writeTile (s : State) (o : Op) (w : WeightObj) (b : Binding) (i : Nat) : TileOut :=
  let a := o.buf + (i - o.p 12 4) * (w.tileSize + 64)
  match s.hostRead (s.opFn o) (s.opFn o).link a (w.tileSize + 16) with
  | .error (.waits l) => .waits l
  | .error .denied => .stop .denied s
  | .error .failed => .stop .outOfRange s
  | .ok raw =>
    let s := s.readFor o a (w.tileSize + 16)
    match Config.gcmOpen b.key (b.iv + i * 2 ^ 64) [] (raw.take w.tileSize) (leNat (raw.drop w.tileSize)) with
    | none => .stop .integrityError s
    | some plain =>
      let data := Mem.write [] 0 plain
      let st := codecStored (data.read 0 w.tileSize)
      let enc := w.tier != 0 && policyFlag s.stg.live 1 && policyThreshold s.stg.live * st ≤ w.tileSize * 1000
      let stored := if enc then st else w.tileSize
      let t := s.roomForMove w.partition w.tier (granules stored) none []
      let piers := s.piersFor 0 w.partition
      if !t.room w.partition w.tier (granules stored) || (w.tier = 2 && (t.leaseFor (granules stored)).isNone) then
        .stop .quotaExceeded s
      else
        let lease := if w.tier = 2 then (t.leaseFor (granules stored)).map (·.id) else none
        let tile : Tile := ⟨i, w.tier, homeAt piers (w.slot + i), s.channelFor w.partition (2 ^ 32 + w.slot) i, true, false, enc, stored, s.clock.now, 0, 0, lease, data⟩
        .ok ({ t with tiers.weights := upd (·.slot == w.slot) (fun w : WeightObj => { w with tiles := w.tiles ++ [tile] }) t.tiers.weights }).leaseUse

/-- The next tile of a WEIGHT_WRITE, unless an earlier one has stopped it: a tile is written once (R223). -/
def writeNext (o : Op) (b : Binding) (slot : Nat) (a : TileOut × Nat) (i : Nat) : TileOut × Nat :=
  match a.1 with
  | .ok s =>
    (match s.weight slot with
    | none => (.stop .badHandle s, a.2)
    | some w =>
      if w.tiles.any (·.index == i) then (.stop .immutable s, a.2)
      else match s.writeTile o w b i with
        | .ok s => (.ok s, a.2 + 1)
        | .stop st s => (.stop st s, a.2)
        | .waits l => (.waits l, a.2))
  | .stop .. | .waits _ => a

/-- Tiles of a WEIGHT_WRITE written one after another, and how many. -/
def writeTiles (o : Op) (b : Binding) (slot first count n : Nat) (s : State) : TileOut × Nat :=
  (List.range count).foldl (fun a i => writeNext o b slot a (first + i)) (.ok s, n)

/-- WEIGHT_WRITE: long above 64 tiles. -/
def bodyWeightWrite (o : Op) (s : State) : BodyOut :=
  match (s.weightOf (o.p 8 4)).bind (fun w => (s.binding w.binding).map (fun b => (w, b))) with
  | none => .done .badHandle 0 s
  | some (w, b) =>
    let first := o.p 12 4
    let cnt := o.p 16 4
    if cnt = 0 then .done .badParam 0 s
    else if w.count < first + cnt then .done .outOfRange 0 s
    else if !s.mayPart (s.opFn o) w.partition then .done .denied 0 s
    else if w.tier = 3 && s.foot.sanitising then .done .retry 0 s
    else if 64 < cnt then .long cnt 0 s
    else match writeTiles o b w.slot first cnt 0 s with
      | (.ok s, n) => .done .ok n s
      | (.stop st s, n) => .done st n s
      | (.waits l, _) => .wait (.link l) s

/-- A unit of a long WEIGHT_WRITE: one tile. -/
def unitWeightWrite (o : Op) (s : State) : UnitOut :=
  match (s.tiers.weights.find? (fun w => w.handle == o.p 8 4)).bind (fun w => (s.binding w.binding).map (fun b => (w, b))) with
  | none => .cut .badHandle o.result o.resume s
  | some (w, b) =>
    match writeTiles o b w.slot (o.p 12 4 + o.unitsDone) 1 0 s with
    | (.ok s, n) =>
      if o.unitsDone + 1 < o.unitsTotal then .more (o.result + n) (o.p 12 4 + o.unitsDone + 1) s
      else .last .ok (o.result + n) (o.p 12 4 + o.unitsDone + 1) s
    | (.stop st s, _) => .cut st o.result (o.p 12 4 + o.unitsDone) s
    | (.waits _, _) => .stay s

/-- WEIGHT_WRITE from a queue pair. -/
def execWeightWrite (c : Cmd) (s : State) : Host.Outcome State Fault Refusal := .next (s.submit 0x59 bodyWeightWrite c)

end Sys2Proof.Machine
end

