-- ==== Sys2Proof/Machine/Delivery.lean ====
section
/-! DEFINITION. Delivery.lean: DELIVER, prefetch plans and their ticks, and what the scheduling ports send (Just-in-time
delivery and traffic scheduling, R246 to R261, R265, R267). -/
namespace Sys2Proof.Machine

/-! ### What a delivered layer looks like (R246, R248) -/

/-- What is delivered: a version's blocks, or tiles of a weight object. -/
inductive Source2 where
  | kv (n : Namespace) (v : View) (first count : Nat)
  | tiles (w : WeightObj) (first count : Nat)

/-- The unit size of a port: what its raw rate carries in 64 µs, as R248 rounds it. -/
def SPort.unitSize (p : SPort) : Nat := (if 100 ≤ p.raw then 4 else if 50 ≤ p.raw then 2 else 1) * 2 ^ 20

/-- Bytes Q of one layer-page, or of one tile. -/
def Source2.q : Source2 → Nat
  | .kv n _ _ _ => n.geo.deliveredBytes n.geo.fmt
  | .tiles w _ _ => w.tileSize

/-- Bytes Y of one layer. -/
def Source2.y : Source2 → Nat
  | .kv n _ _ c => c * n.geo.deliveredBytes n.geo.fmt
  | .tiles w _ c => c * w.tileSize

/-- Blocks in one unit, and the units of one layer; for weights the parts of a tile and the units of the layer's tiles. -/
def Source2.perUnit (x : Source2) (size : Nat) : Nat := match x with
  | .kv .. => max 1 (size / max 1 x.q)
  | .tiles .. => max 1 (cdiv x.q size)
def Source2.unitsPerLayer (x : Source2) (size : Nat) : Nat := match x with
  | .kv _ _ _ c => cdiv c (x.perUnit size)
  | .tiles _ _ c => c * x.perUnit size

/-- The delivered bytes of one layer-page: element region, padding, side data padded to 64 bytes, in the namespace's
format; rows beyond the token count are free values (R98, R246). -/
def State.pageImage (s : State) (n : Namespace) (b : Block) (p : Page) (tokens : Nat) : List Byte :=
  let raw := p.inFormat n.geo
  let raw := if b.sealed || n.geo.b ≤ tokens then raw else
    raw.zipIdx.map (fun x => match n.geo.tokenOfByte n.geo.fmt x.2 with
      | some t => if tokens ≤ t then Config.freeByte (s.free + x.2) else x.1
      | none => x.1)
  raw ++ List.replicate (n.geo.deliveredBytes n.geo.fmt - raw.length) 0#8

/-- Where a block's page lies in the layer of `cnt` blocks, as (offset, bytes) segments (Table 9-1). -/
def pageSegs (g : Geo) (layout cnt i : Nat) (img : List Byte) : List (Nat × List Byte) :=
  let qq := g.deliveredBytes g.fmt
  if layout = 0 then [(i * qq, img)]
  else
    let hb := g.b * (g.d / 32) * 4 * elemWidth g.fmt
    let heads := g.subs * g.h
    let side := qq - g.sideBase g.fmt
    (List.range heads).map (fun h => (h * cnt * hb + i * hb, (img.drop (h * hb)).take hb)) ++
    (if side = 0 then [] else [(heads * cnt * hb + i * side, img.drop (g.sideBase g.fmt))])

/-- Why a unit cannot be read: a block lost, or the statuses of R217. -/
def State.unreadable (s : State) (x : Source2) (layer from_ cnt : Nat) : Option Status :=
  match x with
  | .kv n v first _ =>
    (List.range cnt).foldl (fun a i => match a with
      | some st => some st
      | none => (match v.refs[first + from_ + i]? with
        | some (.dropped ..) => some Status.recompute
        | _ => match (v.blockAt (first + from_ + i)).bind s.block with
          | none => none
          | some b => match b.pages.find? (·.layer == layer) with
            | none => none
            | some p => if !p.poison.isEmpty then some .poisoned
              else if b.sealed && p.crc != p.dataCrc n.geo then some .integrityError else none)) none
  | .tiles w first _ =>
    match (s.weight w.slot).bind (fun w => w.tiles.find? (·.index == first + from_)) with
    | some t => if t.poisoned then some .poisoned else none
    | none => none

/-- The (offset in the layer, bytes) segments of a unit: `from_` and `cnt` its blocks within the selection, or its tile and
one part of it. -/
def State.unitSegs (s : State) (x : Source2) (layout layer from_ cnt part size : Nat) : List (Nat × List Byte) :=
  match x with
  | .kv n v first count =>
    (List.range cnt).flatMap (fun i =>
      match (v.blockAt (first + from_ + i)).bind s.block with
      | none => []
      | some b => match b.pages.find? (·.layer == layer) with
        | none => []
        | some p => pageSegs n.geo layout count (from_ + i) (s.pageImage n b p (v.tokensIn n.geo.b (first + from_ + i))))
  | .tiles w first _ =>
    let img := match (s.weight w.slot).bind (fun w => w.tiles.find? (·.index == first + from_)) with
      | some t => t.data.read 0 w.tileSize
      | none => (List.range w.tileSize).map (fun i => Config.freeByte (s.free + i))
    [(from_ * w.tileSize + part * size, (img.drop (part * size)).take size)]

/-- Bytes `[off, off + n)` of a list of segments, as segments. -/
def sliceSegs : List (Nat × List Byte) → Nat → Nat → List (Nat × List Byte)
  | [], _, _ => []
  | (a, b) :: t, off, n =>
    if n = 0 then []
    else if b.length ≤ off then sliceSegs t (off - b.length) n
    else
      let piece := (b.drop off).take n
      (a + off, piece) :: sliceSegs t 0 (n - piece.length)

/-- Total bytes of segments. -/
def segBytes (l : List (Nat × List Byte)) : Nat := total (l.map (fun x => x.2.length))

/-- Unit `u` of a layer: its first block or tile within the selection, how many, and its part. -/
def Source2.place (x : Source2) (size u : Nat) : Nat × Nat × Nat :=
  let k := x.perUnit size
  match x with
  | .kv _ _ _ c => (u * k, min k (c - u * k), 0)
  | .tiles .. => (u / k, 1, u % k)

/-- Bytes of unit `u` of a layer. -/
def Source2.unitBytes (x : Source2) (size u : Nat) : Nat :=
  let pl := x.place size u
  match x with
  | .kv .. => pl.2.1 * x.q
  | .tiles .. => min size (x.q - pl.2.2 * size)

/-- The blocks of a unit, which the delivery touches (R202). -/
def State.unitBlocks (s : State) (x : Source2) (size u : Nat) : List Nat := match x with
  | .kv _ v first _ => ((List.range (x.place size u).2.1).filterMap (fun i => v.blockAt (first + (x.place size u).1 + i))).filter (fun id => (s.block id).isSome)
  | .tiles .. => []

/-! ### DELIVER (R247, R248) -/

/-- The port that a field names; 0xFF is the port that fetched the command (R262). -/
def State.portOf (s : State) (o : Op) (f : Nat) : Nat := if f = 0xFF then (s.opFn o).link else f

/-- The function whose host entry judges destinations on a port: the command's own on its own link, else the lowest valid
entry of that link (R247; log entry 37). -/
def State.portFn (s : State) (o : Op) (k : Nat) : Fn :=
  if k = (s.opFn o).link then s.opFn o
  else match (validHosts s.stg.live).find? (fun h => (hostFn s.stg.live h).link == k) with
    | some h => hostFn s.stg.live h
    | none => ⟨k, 0⟩

/-- The scheduling queue of an operation's traffic on a port, class 1 LATENCY or 2 BULK; a field other than 0 overrides the map (R263). -/
def State.queueOf (s : State) (o : Op) (k part c override : Nat) : Nat :=
  if override = 0 then schedQueue (s.itemsOf o) k part c else override

/-- Is some tile of a range below the deck before READY.FULL (R47), or in the footing while SANITISE runs (R241)? -/
def State.tilesEarly (s : State) (w : WeightObj) (first count : Nat) : Bool :=
  w.tiles.any (fun t => first ≤ t.index && t.index < first + count &&
    ((!s.boot.full && t.tier != 0) || (s.foot.sanitising && t.tier = 3)))

/-- What a DELIVER delivers, with its first layer and layers. -/
def State.deliverSource (s : State) (o : Op) : Option (Source2 × Nat × Nat) :=
  if bit (o.p 29 1) 0 then
    (s.tiers.weights.find? (fun w => w.handle == o.p 8 4)).map (fun w => (.tiles w (o.p 16 4) (o.p 20 4), 0, 1))
  else match s.nsAny o.handle, o.view with
    | some n, some v => (match o.selects n v, o.layersOf n with
      | some (first, count), some (lay, layers) => some (.kv n v first count, lay, layers)
      | _, _ => none)
    | _, _ => none

/-- The units of a DELIVER queued at its port. -/
def State.queueDeliver (s : State) (o : Op) (x : Source2) (layers k q size : Nat) : State :=
  let per := x.unitsPerLayer size
  let dl := if o.p 32 8 = 0 then none else some (o.p 32 8)
  (List.range (layers * per)).foldl (fun s u => s.enqueue k q ⟨.op o.tag, u, x.unitBytes size (u % per), 0, dl, 4096⟩) s

/-- A DELIVER whose arguments are good: DENIED destinations refused, its units queued; long above one unit. -/
def State.startDeliver (s : State) (o : Op) (x : Source2) (layers part : Nat) : BodyOut :=
  let k := s.portOf o (o.p 30 1)
  let stride := if o.p 40 4 = 0 then x.y else o.p 40 4
  let ovr := if o.expert then o.p 31 1 else 0
  if (o.p 30 1 != 0xFF && 32 ≤ o.p 30 1) || 16 ≤ ovr || o.p 40 4 % 64 != 0 || stride < x.y || o.buf % 64 != 0 then .done .badParam 0 s
  else if outboundDenied (s.itemsOf o) (s.portFn o k) o.buf ((layers - 1) * stride + x.y) then .done .denied 0 s
  else match s.port k with
    | none => .done .outOfRange 0 s
    | some p =>
      let units := layers * x.unitsPerLayer p.unitSize
      if !p.linked then .done .outOfRange 0 s
      else if units = 0 then .done .ok 0 s
      else
        let s := s.setOp o.tag (fun o => { o with work := .sent [] })
        let s := s.queueDeliver o x layers k (s.queueOf o k part 1 ovr) p.unitSize
        if units = 1 then .wait .none s else .long units 0 s

/-- DELIVER.  A wait of an unfinished short DELIVER answers the same wait again. -/
def bodyDeliver (o : Op) (s : State) : BodyOut :=
  match o.work with
  | .sent _ => .wait .none s
  | _ =>
    if 4 ≤ o.p 29 1 || 2 ≤ o.p 28 1 then .done .badParam 0 s
    else if bit (o.p 29 1) 0 then
      if o.handle != 0 || o.p 28 1 != 0 || o.p 12 1 != 0 || o.p 24 2 != 0 then .done .badParam 0 s
      else match s.weightOf (o.p 8 4) with
        | none => .done .badHandle 0 s
        | some w =>
          if w.count < o.p 16 4 + o.p 20 4 then .done .outOfRange 0 s
          else if !s.mayPart (s.opFn o) w.partition then .done .denied 0 s
          else if s.tilesEarly w (o.p 16 4) (o.p 20 4) then .done .retry 2 s
          else s.startDeliver o (.tiles w (o.p 16 4) (o.p 20 4)) 1 w.partition
    else s.withView o (fun n v => match o.selects n v, o.layersOf n with
      | none, _ | _, none => .done .outOfRange 0 s
      | some (first, count), some (_, layers) =>
        if s.tooEarly v first count then .done .retry 2 s
        else if !n.active && first < v.refs.length && count != 0 then .done .groupDegraded (s.groupResult n) s
        else match missingResult v.refs first count with
          | some r => .done .recompute r s
          | none => (s.setOp o.tag (fun o => { o with view := some v })).startDeliver o (.kv n v first count) layers n.partition)

/-- DELIVER from a queue pair. -/
def execDeliver (c : Cmd) (s : State) : Host.Outcome State Fault Refusal := .next (s.submit 0x51 bodyDeliver c)

/-- What a finished DELIVER unit adds to the result: 64-byte units, and layer-pages or tiles. -/
def Source2.credit (x : Source2) (size u : Nat) : Nat :=
  let pl := x.place size u
  x.unitBytes size u / 64 + (match x with
    | .kv .. => pl.2.1
    | .tiles .. => b2n (pl.2.2 + 1 = x.perUnit size)) * 2 ^ 32

/-- The final status of a DELIVER whose last write left at `t`: DEADLINE_MISSED after a non-zero deadline. -/
def Op.deliverStatus (o : Op) (t : Nat) : Status := if o.p 32 8 != 0 && o.p 32 8 < t then .deadlineMissed else .ok

/-- A DELIVER stops with a status: its waiting units leave the queue. -/
def State.stopDeliver (s : State) (o : Op) (st : Status) (result : Nat) : State :=
  let s := s.purge (fun u => u.src == .op o.tag)
  let s := s.bump 0x107 (b2n (st = .deadlineMissed))
  if o.long then s.updOp o.tag (fun o => { o with status := st, result := result, finished := true })
  else s.finish o.tag st result

/-- A unit of a long DELIVER ends once its last write has left; with DROP_LATE it is the last after the deadline. -/
def unitDeliver (o : Op) (s : State) : UnitOut :=
  match o.work, s.deliverSource o, s.port (s.portOf o (o.p 30 1)) with
  | .sent l, some (x, _, _), some p =>
    (match l.find? (fun a => a.1 == o.unitsDone && decide (a.2 ≤ s.clock.now)) with
    | none => .stay s
    | some (u, t) =>
      let r := o.result + x.credit p.unitSize (u % max 1 (x.unitsPerLayer p.unitSize))
      let s := s.setOp o.tag (fun o => { o with work := .sent (l.filter (·.1 != u)) })
      if o.unitsDone + 1 = o.unitsTotal then
        .last (o.deliverStatus t) r (u + 1) (s.bump 0x107 (b2n (o.deliverStatus t = .deadlineMissed)))
      else if bit (o.p 29 1) 1 && o.deliverStatus s.clock.now = .deadlineMissed then
        .last .deadlineMissed r (u + 1) ((s.purge (fun u => u.src == .op o.tag)).bump 0x107 1)
      else .more r (u + 1) s)
  | _, _, _ => .stay s

/-! ### Plans (R249 to R259) -/

/-- A plan by its operation's tag. -/
def State.planOf (s : State) (tag : Nat) : Option Plan := s.dlv.plans.find? (fun p => p.tag == tag && p.live)

/-- A plan by its handle. -/
def State.plan (s : State) (h : Nat) : Option Plan := s.dlv.plans.find? (fun p => mkHandle 12 p.slot p.gen == h)

/-- A live plan by its handle. -/
def State.livePlan (s : State) (h : Nat) : Option Plan := s.dlv.plans.find? (fun p => mkHandle 12 p.slot p.gen == h && p.live)

/-- A plan stored back. -/
def State.setPlan (s : State) (p : Plan) : State :=
  { s with dlv.plans := upd (fun q : Plan => q.slot == p.slot && q.gen == p.gen) (fun _ => p) s.dlv.plans }

/-- The sequences of a plan; none until cancelled. -/
def Plan.total (p : Plan) : Option Nat := if p.passes = 0 then none else some (p.passes * p.layers)

/-- The current n. -/
def Plan.n (p : Plan) : Nat := p.tick.elim 0 (·.2)

/-- What sequence `m` delivers, and its layer. -/
def State.planSource (s : State) (p : Plan) (m : Nat) : Option (Source2 × Nat) :=
  if p.kind = 2 then (s.weight p.weight).map (fun w => (.tiles w (p.first + m % p.layers * p.count) p.count, 0))
  else match s.store.namespaces.find? (·.index == p.ns), p.view with
    | some n, some v => some (.kv n v p.first p.count, p.firstLayer + m % p.layers)
    | _, _ => none

/-- The deadline of sequence `m` under the current tick (R255); the period is in 1/1,048,576 ns. -/
def Plan.deadline (p : Plan) (m : Nat) : Option Nat :=
  p.tick.bind (fun t => if m < t.2 then none
    else some ((t.1 : Int) + ((m - t.2 : Nat) : Int) * p.period / 2 ^ 20 - p.guard).toNat)

/-- The record of a plan's operation (R259). -/
def Plan.result (p : Plan) : Nat :=
  min p.gapless (2 ^ 32 - 1) + min p.misses 0xFFFF * 2 ^ 32 + min p.skips 0xFFFF * 2 ^ 48

/-- The plan's operation record brought up to date. -/
def State.planRecord (s : State) (p : Plan) : State :=
  s.updOp p.tag (fun o => { o with result := p.result, resume := p.firstOut })

/-- A plan ends (Table 9-4): its state, its version released, its operation final. -/
def State.endPlan (s : State) (p : Plan) (st : PlanState) (code : Status) : State :=
  let s := s.setPlan { p with state := st, ending := some code, view := none }
  let s := s.updOp p.tag (fun o => { o with status := code, result := p.result, resume := p.firstOut, finished := true })
  (s.finalise p.tag).gc

/-- The units of a sequence queued at the plan's port, with its deadline (R251). -/
def State.queueSeq (s : State) (p : Plan) (m : Nat) : State :=
  match s.planSource p m, s.port p.port with
  | some (x, _), some k =>
    let per := x.unitsPerLayer k.unitSize
    (List.range per).foldl (fun s u => s.enqueue p.port p.queue ⟨.plan p.tag m, u, x.unitBytes k.unitSize u, 0, p.deadline m, 4096⟩) s
  | _, _ => s

/-- May sequence `issued` be issued (R251, R256, R257)? -/
def Plan.mayIssue (p : Plan) : Bool :=
  (p.state = .armed || p.state = .running) && p.ending.isNone && p.finishTo.isNone &&
    p.issued < p.n + p.lookahead && p.issued < p.n + p.slots && p.total.all (fun t => p.issued < t)

/-- Sequences issued while R251 lets them be; at most `k` of them. -/
def State.issue (s : State) (tag : Nat) : Nat → State
  | 0 => s
  | k + 1 =>
    match s.planOf tag with
    | some p => if p.mayIssue then ((s.queueSeq p p.issued).setPlan { p with issued := p.issued + 1 }).issue tag k else s
    | none => s

/-- The promotions of sequences `[from_, to_)` queued: one layer each, in class LATENCY, with reason PLAN (R252). -/
def State.planPromote (s : State) (p : Plan) (from_ to_ : Nat) : State :=
  if p.noPromote then s
  else (List.range (min 256 (to_ - from_))).foldl (fun s i =>
    let m := from_ + i
    if !(p.total.all (fun t => m < t)) then s
    else match s.planSource p m with
      | some (.kv _ v first count, layer) =>
        let ids := (v.heldIn first count).filter (fun id => (s.block id).any (fun b => b.pages.any (fun q => q.layer == layer && q.tier != 0)))
        if ids.isEmpty then s else s.addMove (.ofLayers ids layer (layer + 1) 0x05)
      | some (.tiles w first count, _) =>
        (w.tiles.filter (fun t => first ≤ t.index && t.index < first + count && t.tier != 0)).foldl
          (fun s t => s.addMove (.ofTile w.slot t.index 0 0x05 true true)) s
      | none => s) s

/-- First sequence not landed, and the sequences landed without a gap, after the landed and skipped lists changed. -/
def Plan.advance (p : Plan) : Nat → Plan
  | 0 => p
  | k + 1 =>
    if p.landed.contains p.firstOut then
      ({ p with
        gapless := if p.gapless = p.firstOut then p.gapless + 1 else p.gapless
        landed := p.landed.filter (· != p.firstOut), missed := p.missed.filter (· != p.firstOut)
        firstOut := p.firstOut + 1 }).advance k
    else if p.skipped.contains p.firstOut then
      ({ p with
        skipped := p.skipped.filter (· != p.firstOut), missed := p.missed.filter (· != p.firstOut)
        firstOut := p.firstOut + 1 }).advance k
    else p

/-- The lists settled. -/
def Plan.settle (p : Plan) : Plan := p.advance (p.landed.length + p.skipped.length)

/-- A plan that runs and has nothing left to deliver is DONE; one whose miss or cancellation waited for its issued units
ends then (R250, R256, R258). -/
def State.planCheck (s : State) (tag : Nat) : State :=
  match s.planOf tag with
  | none => s
  | some p =>
    let s := s.planRecord p
    if p.ending = some .deadlineMissed then (if s.planOpen p then s else s.endPlan p .failed .deadlineMissed)
    else if p.ending.isSome then (if s.planOpen p then s else s.endPlan p .aborted (p.ending.getD .aborted))
    else if p.finishTo.any (fun n => n < p.firstOut) then (if s.planOpen p then s else s.endPlan p .aborted .aborted)
    else if p.state = .running && p.total.any (fun t => t ≤ p.firstOut) then s.endPlan p .done .ok
    else s

/-- The handle of a new plan's slot: the lowest without a live plan. -/
def State.planSlot (s : State) : Option Nat := lowestFree ((s.dlv.plans.filter (·.live)).map (·.slot)) 0 4096

/-- The fields of Table 9-3 judged; what the version or object decides is judged apart. -/
def Op.planBad (o : Op) (layers r a ap guard stall idle q : Nat) : Bool :=
  2 < o.p 12 1 || 1 < o.p 13 1 || (o.p 14 1 != 0xFF && 32 ≤ o.p 14 1) || 8 ≤ o.p 15 1 || 256 < layers || r < 1 || 256 < r ||
    o.p 28 4 % 64 != 0 || o.p 32 4 < 1 || 10 ^ 9 < o.p 32 4 || a < 1 || r < a || ap < a || 256 < ap || 10 ^ 8 < guard ||
    stall < 1 || 60000 < stall || idle < 1 || 255 < idle || 15 < q || o.buf % 64 != 0

/-- A plan created, its first sequences issued, and its promotions started. -/
def State.startPlan (s : State) (o : Op) (p : Plan) : BodyOut :=
  let s := { s with
    dlv.plans := s.dlv.plans.filter (fun x : Plan => x.live || (x.slot != p.slot && x.tag != p.tag)) ++ [p]
    dlv.planGens := assocSet s.dlv.planGens p.slot p.gen }
  let units := match p.total, s.planSource p 0, s.port p.port with
    | some t, some (x, _), some k => t * x.unitsPerLayer k.unitSize
    | _, _, _ => 0xFFFFFFFF
  let s := (s.setOp o.tag (fun o => { o with view := p.view })).bump 0x100 1
  .long units (mkHandle 12 p.slot p.gen) ((s.planPromote p 0 p.promoteAhead).issue o.tag 256)

/-- PREFETCH_PLAN for a source: layer bytes `y`, the version's view and namespace or the weight object. -/
def State.makePlan (s : State) (o : Op) (y part : Nat) (ns weight : Nat) (v : Option View) (count : Nat) : BodyOut :=
  let x := o.expert
  let r := o.p 26 2
  let a := o.p 40 2
  let ap := if x then o.p 42 2 else min (2 * a) 256
  let guard := if x then o.p 44 4 else 5000
  let stall := if x then o.p 48 2 else 100
  let idle := if x then o.p 50 1 else 1
  let q := if x then o.p 51 1 else 0
  let layers := if o.p 25 1 = 0 then 256 else o.p 25 1
  let k := s.portOf o (o.p 14 1)
  let stride := if o.p 28 4 = 0 then y else o.p 28 4
  if o.planBad layers r a ap guard stall idle q || stride < y then .done .badParam 0 s
  else if outboundDenied (s.itemsOf o) (s.portFn o k) o.buf (r * stride + 8 * r) then .done .denied 0 s
  else match s.planSlot with
    | none => .done .quotaExceeded 0 s
    | some i =>
      let gen := nextGen 20 (assoc s.dlv.planGens i 0)
      let p : Plan :=
        { slot := i, gen := gen, tag := o.tag, qp := o.qp, ns := ns, kind := o.p 12 1, view := v, weight := weight
          layout := o.p 13 1, port := k, missFail := bit (o.p 15 1) 0, noPromote := bit (o.p 15 1) 1
          fixedPeriod := bit (o.p 15 1) 2, first := o.p 16 4, count := count, firstLayer := o.p 24 1, layers := layers
          slots := r, stride := stride, nominal := o.p 32 4, passes := o.p 36 4, lookahead := a, promoteAhead := ap
          guard := guard, stallMs := stall, idleS := idle, queue := s.queueOf o k part 1 q, base := o.buf, state := .armed
          tick := none, afterStall := false, period := (o.p 32 4 : Int) * 2 ^ 20, issued := 0, landed := [], skipped := []
          missed := [], cut := [], firstOut := 0, gapless := 0, misses := 0, skips := 0, late := 0, ignored := 0, stalls := 0
          lastTick := s.clock.now, stalledAt := 0, finishTo := none, ending := none }
      s.startPlan o p

/-- PREFETCH_PLAN (R249): always long. -/
def bodyPrefetchPlan (o : Op) (s : State) : BodyOut :=
  if o.p 12 1 = 2 then
    if o.handle != 0 || o.p 13 1 != 0 || o.p 24 1 != 0 then .done .badParam 0 s
    else match s.weightOf (o.p 8 4) with
      | none => .done .badHandle 0 s
      | some w =>
        let layers := if o.p 25 1 = 0 then 256 else o.p 25 1
        if o.p 20 4 = 0 then .done .badParam 0 s
        else if w.count < o.p 16 4 + layers * o.p 20 4 then .done .outOfRange 0 s
        else if !s.mayPart (s.opFn o) w.partition then .done .denied 0 s
        else if s.tilesEarly w (o.p 16 4) (layers * o.p 20 4) then .done .retry 2 s
        else s.makePlan o (o.p 20 4 * w.tileSize) w.partition 0 w.slot none (o.p 20 4)
  else s.withView o (fun n v =>
    let layers := if o.p 25 1 = 0 then 256 else o.p 25 1
    match o.selects n v with
    | none => .done .outOfRange 0 s
    | some (first, count) =>
      if n.geo.l < o.p 24 1 + layers || count = 0 then .done .badParam 0 s
      else if s.tooEarly v first count then .done .retry 2 s
      else match missingResult v.refs first count with
        | some r => .done .recompute r s
        | none => s.makePlan o (count * n.geo.deliveredBytes n.geo.fmt) n.partition n.index 0 (some v) count)

/-- PREFETCH_PLAN from a queue pair. -/
def execPrefetchPlan (c : Cmd) (s : State) : Host.Outcome State Fault Refusal := .next (s.submit 0x60 bodyPrefetchPlan c)

/-! ### Ticks (R253 to R257) -/

/-- Units of skipped sequences leave the queue at their boundaries: those not started (R254). -/
def State.dropSkipped (s : State) (tag n : Nat) : State :=
  s.purge (fun u => u.off = 0 && (match u.src with
    | .plan t m => t == tag && decide (m < n)
    | .op _ | .msg .. => false))

/-- Deadlines of waiting units under a new tick (R255). -/
def State.retime (s : State) (p : Plan) : State :=
  let one := fun u : SUnit => match u.src with
    | .plan t m => if t == p.tag then { u with deadline := p.deadline m } else u
    | .op _ | .msg .. => u
  { s with dlv.ports := s.dlv.ports.map (fun k : SPort => { k with queues := k.queues.map (fun q : SQueue => { q with units := q.units.map one }) }) }

/-- The period after a tick (R255): P moves an eighth of the way to the interval per sequence; not after a stall. -/
def Plan.nextPeriod (p : Plan) (t n : Nat) : Int :=
  match p.tick with
  | some (t0, n0) =>
    if p.fixedPeriod || p.afterStall || n ≤ n0 then p.period
    else p.period + ((((t : Int) - t0) * 2 ^ 20 / ((n - n0 : Nat) : Int)) - p.period) / 8
  | none => p.period

/-- A tick that the device ignores: n is not above the current n (R254); before any tick, n = 0 is taken. -/
def Plan.ignores (p : Plan) (n : Nat) : Bool := p.tick.isSome && n ≤ p.n

/-- A tick on a live plan: whether it was ignored, and the state after it. -/
def State.tickPlan (s : State) (p : Plan) (t n : Nat) : Bool × State :=
  if p.ignores n then (true, (s.bump 0x105 1).setPlan { p with ignored := p.ignored + 1 })
  else
    let late := match p.tick with
      | some (t0, n0) => decide ((t0 : Int) * 2 ^ 20 + ((n - n0 : Nat) : Int) * p.period < (s.clock.now : Int) * 2 ^ 20)
      | none => false
    let skip := ((List.range (n - p.firstOut)).map (· + p.firstOut)).filter (fun m => !p.landed.contains m && !p.skipped.contains m)
    let p' : Plan := { p with
      period := p.nextPeriod t n, tick := some (t, n), afterStall := false, state := .running, lastTick := s.clock.now
      late := p.late + b2n late, skipped := p.skipped ++ skip, skips := p.skips + skip.length
      issued := max p.issued n }
    let q := p'.settle
    let s := ((s.bump 0x104 (b2n late)).bump 0x103 skip.length).setPlan q
    let s := ((s.dropSkipped p.tag n).retime q).planPromote q (p.n + p.promoteAhead) (n + q.promoteAhead)
    (false, (s.issue p.tag 256).planCheck p.tag)

/-- LAYER_TICK (R253). -/
def bodyLayerTick (o : Op) (s : State) : BodyOut :=
  match s.livePlan (o.p 8 4) with
  | none => .done .badHandle 0 s
  | some p =>
    let t := if o.p 24 8 = 0 then s.clock.now else o.p 24 8
    if s.clock.now < t || p.total.any (fun k => k < o.p 16 8) then .done .badParam 0 s
    else
      let r := s.tickPlan p t (o.p 16 8)
      .done .ok (b2n r.1) r.2

/-- LAYER_TICK from a queue pair. -/
def execLayerTick (c : Cmd) (s : State) : Host.Outcome State Fault Refusal := .next (s.submit 0x61 bodyLayerTick c)

/-- A write to a tick doorbell: a wrong width or generation is ignored and counted (R253, R401). -/
def execTickDoorbell (r : Req) (slot width value : Nat) (s : State) : Host.Outcome State Fault Refusal :=
  if !s.hears r.fn r.tee || s.boot.halted then .next s
  else match s.dlv.plans.find? (fun p => p.slot == slot && p.live && p.gen == value / 2 ^ 44 % 2 ^ 20) with
    | some p =>
      let n := value % 2 ^ 44
      if width != 8 || p.total.any (fun k => k < n) then .next (s.bump 0x105 1) else .next (s.tickPlan p s.clock.now n).2
    | none => .next (s.bump 0x105 1)

/-- Every write of a sequence is sent: its flag word is written behind them, and the plan goes on (R250). -/
def execSequenceLanded (plan : Nat) (s : State) : Host.Outcome State Fault Refusal :=
  match s.livePlan plan with
  | none => .next s
  | some p =>
    match s.unflagged p with
    | none => .next s
    | some m =>
      let f := (s.op p.tag).elim (⟨p.port, 0⟩ : Fn) (fun o => s.portFn o p.port)
      let flag := p.base + p.slots * p.stride + 8 * (m % p.slots)
      match ((s.op p.tag).elim s s.actFor).hostWrite f p.port flag (leBytes 8 (m + 1)) with
      | .error (.waits _) => .next s
      | .error .denied => .next (s.endPlan p .failed .denied)
      | .error .failed => .next (s.endPlan p .failed .outOfRange)
      | .ok t =>
        let q := ({ p with landed := p.landed ++ [m] } : Plan).settle
        let t := t.rested.pass p.port p.queue (writeUnits p.port 8)
        .next ((((t.bump 0x101 1).setPlan q).issue p.tag 256).planCheck p.tag)

/-- Device time passes a sequence's deadline before it lands (R256). -/
def execDeadlineMiss (plan seq : Nat) (s : State) : Host.Outcome State Fault Refusal :=
  match s.livePlan plan with
  | none => .next s
  | some p =>
    let ovr := (p.deadline seq).any (fun d => decide (d < s.clock.now))
    if p.state = .stalled || !ovr || seq < p.firstOut || p.landed.contains seq || p.skipped.contains seq ||
        p.missed.contains seq || p.total.any (fun t => t ≤ seq) then .next s
    else
      let q := { p with
        misses := p.misses + 1, missed := p.missed ++ [seq]
        ending := if p.missFail then some .deadlineMissed else p.ending }
      let s := ({ s with dlv.planMisses := min 0xFFFF (s.dlv.planMisses + 1) }).bump 0x102 1
      .next (((s.setPlan q).raiseSrc 3).planCheck p.tag)

/-- No tick within the stall timeout: the plan stalls (R257). -/
def execPlanStallTimeout (plan : Nat) (s : State) : Host.Outcome State Fault Refusal :=
  match s.livePlan plan with
  | some p =>
    if p.state != .stalled && p.lastTick + p.stallMs * 10 ^ 6 ≤ s.clock.now then
      .next ((s.setPlan { p with state := .stalled, afterStall := true, stalls := p.stalls + 1, stalledAt := s.clock.now }).bump 0x106 1)
    else .next s
  | none => .next s

/-- A stalled plan passes its idle limit and fails (R257). -/
def execPlanIdleLimit (plan : Nat) (s : State) : Host.Outcome State Fault Refusal :=
  match s.livePlan plan with
  | some p =>
    if p.state = .stalled && p.stalledAt + p.idleS * 10 ^ 9 ≤ s.clock.now then .next (s.endPlan p .failed .deadlineMissed)
    else .next s
  | none => .next s

/-! ### CANCEL_PLAN and PLAN_QUERY (R258, R260) -/

/-- CANCEL_PLAN: it completes once the plan shows ABORTED, with the sequences landed without a gap. -/
def bodyCancelPlan (o : Op) (s : State) : BodyOut :=
  if o.started && o.wait = .ended then
    match s.livePlan (o.p 8 4), s.plan (o.p 8 4) with
    | some _, _ => .wait .ended s
    | none, some p => .done .ok p.gapless s
    | none, none => .done .ok o.result s
  else match s.livePlan (o.p 8 4) with
  | none => .done .badHandle 0 s
  | some p =>
    if 1 < o.p 12 1 then .done .badParam 0 s
    else
      let stop := o.p 12 1 = 0
      let n := p.n
      let sel := fun u : SUnit => u.off = 0 && (match u.src with
        | .plan t m => t == p.tag && (stop || decide (n < m))
        | .op _ | .msg .. => false)
      let part := ((List.range (p.issued - p.firstOut)).map (· + p.firstOut)).filter (fun m => (stop || n < m) && s.planUnits p.tag m != 0)
      let s := s.purge sel
      let q := if stop then { p with ending := some .aborted, cut := part } else { p with finishTo := some n, cut := part }
      let s := if !stop && p.issued ≤ n then ((List.range (n + 1 - p.issued)).foldl (fun s i => s.queueSeq p (p.issued + i)) s).setPlan { q with issued := n + 1 }
        else s.setPlan q
      let s := s.planCheck p.tag
      match s.livePlan (o.p 8 4), s.plan (o.p 8 4) with
      | none, some p => .done .ok p.gapless s
      | _, _ => .wait .ended s

/-- CANCEL_PLAN from a queue pair. -/
def execCancelPlan (c : Cmd) (s : State) : Host.Outcome State Fault Refusal := .next (s.submit 0x62 bodyCancelPlan c)

/-- The code of a plan state (Table 9-5). -/
def PlanState.code : PlanState → Nat
  | .armed => 0
  | .running => 1
  | .stalled => 2
  | .done => 3
  | .aborted => 4
  | .failed => 5

/-- The 64 bytes of PLAN_QUERY (Table 9-5). -/
def Plan.record (p : Plan) : List Byte :=
  leBytes 1 p.state.code ++ leBytes 1 (b2n (p.misses != 0)) ++ leBytes 2 p.slots ++ leBytes 4 0 ++ leBytes 8 p.n ++
  leBytes 8 (p.tick.elim 0 (·.1)) ++ leBytes 8 p.firstOut ++ leBytes 4 (p.period / 2 ^ 20).toNat ++ leBytes 4 p.misses ++
  leBytes 4 p.skips ++ leBytes 4 p.late ++ leBytes 4 p.ignored ++ leBytes 4 p.stalls ++
  leBytes 8 ((p.deadline p.firstOut).getD 0)

/-- PLAN_QUERY: BAD_HANDLE once the plan's tag has been assigned again. -/
def bodyPlanQuery (o : Op) (s : State) : BodyOut :=
  match s.plan (o.p 8 4) with
  | none => .done .badHandle 0 s
  | some p =>
    if !p.live && s.q.ops.any (fun x => x.tag == p.tag) then .done .badHandle 0 s
    else s.writeThen o o.buf p.record (fun s => .done .ok 0 s)

/-- PLAN_QUERY from a queue pair. -/
def execPlanQuery (c : Cmd) (s : State) : Host.Outcome State Fault Refusal := .next (s.submit 0x63 bodyPlanQuery c)

/-! ### What a port sends (R265, R267) -/

/-- Where a piece of a unit goes: the function and link, the layer's base address, the source, layer, layout, unit index. -/
structure Sending where
  fn : Fn
  link : Nat
  base : Nat
  src : Source2
  layer : Nat
  layout : Nat
  unit : Nat

/-- What a queued unit carries, found from its operation or plan. -/
def State.sending (s : State) (u : SUnit) (k : Nat) (size : Nat) : Option Sending :=
  match u.src with
  | .op tag =>
    (s.op tag).bind (fun o => (s.deliverSource o).map (fun x =>
      let per := max 1 (x.1.unitsPerLayer size)
      let stride := if o.p 40 4 = 0 then x.1.y else o.p 40 4
      ⟨s.portFn o k, k, o.buf + u.unit / per * stride, x.1, x.2.1 + u.unit / per, o.p 28 1, u.unit % per⟩))
  | .plan tag m =>
    (s.planOf tag).bind (fun p => (s.planSource p m).map (fun x =>
      let f := (s.op tag).elim (⟨k, 0⟩ : Fn) (fun o => s.portFn o k)
      ⟨f, k, p.base + m % p.slots * p.stride, x.1, x.2, p.layout, u.unit⟩))
  | .msg .. => none

/-- A unit's source stops with a status: a DELIVER ends, a plan fails (R248, Table 9-4). -/
def State.stopUnit (s : State) (u : SUnit) (st : Status) : State :=
  match u.src with
  | .op tag => (s.op tag).elim s (fun o => s.stopDeliver o st o.result)
  | .plan tag _ => (s.planOf tag).elim s (fun p =>
      (s.purge (fun u => match u.src with
        | .plan t _ => t == tag
        | .op _ | .msg .. => false)).endPlan p .failed st)
  | .msg .. => s

/-- A unit's last write has left at `t` (R248, R259). -/
def State.unitLeft (s : State) (u : SUnit) (x : Sending) (size t : Nat) : State :=
  let s := s.touchAll (s.unitBlocks x.src size x.unit)
  let s := match x.src with
    | .tiles w first _ => s.touchTile w.slot (first + (x.src.place size x.unit).1)
    | .kv .. => s
  match u.src with
  | .op tag =>
    (match s.op tag with
    | none => s
    | some o =>
      if o.long then s.setOp tag (fun o => { o with work := (match o.work with
        | .sent l => .sent (l ++ [(u.unit, t)])
        | w => w) })
      else s.stopDeliver o (o.deliverStatus t) (x.src.credit size x.unit))
  | .plan tag _ => (s.updOp tag (fun o => { o with unitsDone := o.unitsDone + 1 })).planCheck tag
  | .msg .. => s

/-- The bytes of a piece written to memory behind the port. -/
def State.writePiece (s : State) (x : Sending) (segs : List (Nat × List Byte)) : Except Xfer State :=
  segs.foldl (fun a g => match a with
    | .ok s => s.hostWrite x.fn x.link (x.base + g.1) g.2
    | .error e => .error e) (.ok s)

/-- A port after it has sent `n` payload bytes of a head: tokens and tags, counters, and the frame's colour (R266, R272,
R273). -/
def State.portSent (s : State) (p : SPort) (h : Head) (n : Nat) : State :=
  let p := p.started s.stg.live h n s.clock.now
  let s := ((s.setPort p).bump (0x400 + 4 * p.num) (h.counted / 64)).bump (0x401 + 4 * p.num) 1
  let s := s.bump (0x402 + 4 * p.num) (b2n (h.colour = .yellow))
  let toll := tollOf s.stg.live p.num h.queue.num
  let mark := if h.colour = .yellow && toll.action = 2 && 32 ≤ p.num then toll.mark else 0
  s.emit (.unitSent p.num h.queue.num h.counted (if h.colour = .yellow then 1 else 0) mark)

/-- The operation that a queued unit belongs to. -/
def State.unitOp (s : State) (u : SUnit) : Option Op := match u.src with
  | .op tag | .plan tag _ => s.op tag
  | .msg .. => none

/-- Does the new epoch withdraw an OUTBOUND range that a unit's writes need, under REVOKE (R90)? -/
def State.unitWithdrawn (s : State) (u : SUnit) (x : Sending) (segs : List (Nat × List Byte)) : Bool :=
  (s.unitOp u).any s.revokes && segs.any (fun g => outboundDenied s.permItems x.fn (x.base + g.1) g.2.length &&
    !outboundDenied s.stg.old x.fn (x.base + g.1) g.2.length)

/-- The reads of a unit through its pages' home piers: of the deck, and of the footing as NAND reads (R214, R239, Table 16-2). -/
def State.readUnit (s : State) (x : Sending) (size rank : Nat) : State :=
  let io := fun (s : State) (tier home n : Nat) => if tier = 0 then s.pierIo home 0 n else s
  let n := x.src.unitBytes size x.unit
  match x.src with
  | .kv .. =>
    let ids := s.unitBlocks x.src size x.unit
    ids.foldl (fun s id => match s.block id with
      | none => s
      | some b =>
        let s := s.footRead rank (b.footPages (inLayers x.layer 1))
        (b.pages.filter (inLayers x.layer 1)).foldl (fun s p => io s p.tier p.home (n / ids.length)) s) s
  | .tiles w first _ =>
    let i := first + (x.src.place size x.unit).1
    match w.tiles.find? (·.index == i) with
    | none => s
    | some t => io (if t.tier = 3 && x.unit % max 1 (x.src.unitsPerLayer size) = 0 then
        s.footRead rank [⟨true, w.slot, i, 0, granules t.stored / 4096⟩] else s) t.tier t.home n

/-- The next write of a DELIVER's or a plan's unit leaves a port under its operation's settings, and at the unit's last write what
follows from it. -/
def State.sendPiece (s : State) (p : SPort) (h : Head) : State :=
  let s := (s.unitOp h.unit).elim s s.actFor
  let n := h.unit.piece p.num
  match s.sending h.unit p.num p.unitSize with
  | none => s.rested.purge (fun u => u.src == h.unit.src)
  | some x =>
    let pl := x.src.place p.unitSize x.unit
    match (if h.unit.off = 0 then s.unreadable x.src x.layer pl.1 pl.2.1 else none) with
    | some st => s.rested.stopUnit h.unit st
    | none =>
      let all := s.unitSegs x.src x.layout x.layer pl.1 pl.2.1 pl.2.2 p.unitSize
      if h.unit.off = 0 && s.unitWithdrawn h.unit x all then s.rested.stopUnit h.unit .staleEpoch
      else
      let s := if h.unit.off = 0 then s.readUnit x p.unitSize (footRank ((s.unitOp h.unit).elim 3 (fun o => bufferClass false o.opcode))) else s
      match s.writePiece x (sliceSegs all h.unit.off n) with
      | .error (.waits _) => s.rested
      | .error .denied => s.rested.stopUnit h.unit .denied
      | .error .failed => s.rested.stopUnit h.unit .outOfRange
      | .ok s =>
        let s := s.rested.portSent p h n
        if h.unit.off + n = h.unit.size then
          s.unitLeft h.unit x p.unitSize ((s.port p.num).elim s.clock.now (·.sentUntil)) else s

end Sys2Proof.Machine
end

