-- ==== Sys2Proof/Machine/Engine.lean ====
section
/-! DEFINITION. Engine.lean: the attention engine's arithmetic: descriptors, the score pipeline, masks, one page's partial
and its combination, and the bounds of key summaries (The attention engine, R276 to R279, R285 to R289, R297 to R306). -/
namespace Sys2Proof.Machine

/-! ### Descriptors (Tables 10-2 and 10-3) -/

/-- Fields of a descriptor's 1,024 bytes. -/
def descH (d : Mem) : Nat := d.nat 2 1
def descG (d : Mem) : Nat := d.nat 3 1
def descD (d : Mem) : Nat := d.nat 4 2
def descDv (d : Mem) : Nat := d.nat 6 2
def descQ (d : Mem) : Nat := d.nat 8 1
def descLatent (d : Mem) : Bool := d.nat 9 1 = 1
/-- CAUSAL 0, WINDOW 1, TREE 2. -/
def descMask (d : Mem) (i : Nat) : Bool := bit (d.nat 10 1) i
/-- ALIBI 0, SOFTCAP 1, PIECEWISE 2. -/
def descMod (d : Mem) (i : Nat) : Bool := bit (d.nat 11 1) i
def descF (d : Mem) (off : Nat) : F32 := BitVec.ofNat 32 (d.nat off 4)
def descRope (d : Mem) : Nat := d.nat 34 1
def descSegs (d : Mem) : Nat := d.nat 41 1
def descOrder (d : Mem) : Bool := bit (d.nat 42 1) 0

/-- Finite, and finite above 0. -/
def F32.finite (x : F32) : Bool := x.toNat / 2 ^ 23 % 256 != 255
def F32.positive (x : F32) : Bool := F32.finite x && F32.lt .zero x

/-- ATT_DESC WRITE judges a descriptor (R285); fields of a disabled mask, modifier or RoPE are not judged beyond their
reserved bytes (log entry 38). -/
def descOk (d : Mem) : Bool :=
  let h := descH d
  let g := descG d
  let dd := descD d
  let dv := descDv d
  let rope := descRope d
  let dr := d.nat 36 2
  let segs := descSegs d
  let start := fun i => descF d (640 + 16 * i)
  d.nat 0 2 = 1 && 1 ≤ h && h ≤ 64 && 1 ≤ g && h * g ≤ 128 &&
    ((32 ≤ dd && dd ≤ 512 && dd % 32 = 0) || (descLatent d && dd = 576)) &&
    (if descLatent d then h = 1 && dv % 32 = 0 && 32 ≤ dv && dv ≤ dd else dv = dd) &&
    descQ d < 3 && d.nat 9 1 < 2 && d.nat 10 1 < 8 && d.nat 11 1 < 8 &&
    (d.nat 12 4 = 0 || F32.positive (descF d 12)) && (!descMask d 1 || d.nat 16 4 != 0) &&
    (!descMod d 1 || F32.positive (descF d 24)) &&
    (!descMod d 0 || (d.nat 28 1 < 2 &&
      (if d.nat 28 1 = 1 then 1 ≤ d.nat 29 1 && d.nat 29 1 ≤ 64 && 1 ≤ d.nat 30 2 && d.nat 30 2 ≤ 4096
       else (List.range (h * g)).all (fun k => F32.finite (descF d (128 + 4 * k)))))) &&
    rope < 3 && (rope = 0 || (d.nat 35 1 < 2 && 2 ≤ dr && dr % 2 = 0 && d.nat 38 2 + dr ≤ dd && d.nat 40 1 < 2 &&
      (if d.nat 40 1 = 1 then dr ≤ 128 && (List.range (dr / 2)).all (fun i => F32.finite (descF d (768 + 4 * i)))
       else F32.finite (descF d 44) && F32.lt .one (descF d 44)) &&
      (d.nat 48 4 = 0 || F32.positive (descF d 48)))) &&
    (!descMod d 2 || (1 ≤ segs && segs ≤ 8 &&
      (List.range segs).all (fun i => (i = 0 || F32.finite (start i)) && F32.finite (descF d (644 + 16 * i)) &&
        F32.finite (descF d (648 + 16 * i)) && d.nat (652 + 16 * i) 4 = 0) &&
      (List.range (segs - 1)).all (fun i => i = 0 || F32.lt (start i) (start (i + 1))))) &&
    d.nat 42 1 < 2 && d.nat 43 1 = 0 && (List.range 72).all (fun i => d.byte (56 + i) = 0#8)

/-! ### Queries (R277, R282, R289) -/

/-- Bytes of one query element. -/
def queryWidth (d : Mem) : Nat := if descQ d = 0 then 4 else 2

/-- Rows of a command of `tq` tokens, and the bytes of its query, with the tree records. -/
def queryRows (d : Mem) (tq : Nat) : Nat := tq * descH d * descG d
def queryBytes (d : Mem) (tq : Nat) : Nat :=
  let n := queryRows d tq * descD d * queryWidth d
  if descMask d 2 then roundUp n 64 + 64 * tq else n

/-- Element `c` of query row `r` in FP32. -/
def queryElem (d q : Mem) (r c : Nat) : F32 :=
  let w := queryWidth d
  let v := q.nat ((r * descD d + c) * w) w
  match descQ d with
  | 0 => BitVec.ofNat 32 v
  | 1 => F32.of (bf16.decode v)
  | _ => F32.of (fp16.decode v)

/-- The tree record of token `t` of a command of `tq` tokens: where it lies in the query. -/
def treeAt (d : Mem) (tq t : Nat) : Nat := roundUp (queryRows d tq * descD d * queryWidth d) 64 + 64 * t

/-- The rotary pairs: the two channels of pair `i` (R289). -/
def ropePair (d : Mem) (i : Nat) : Nat × Nat :=
  let first := d.nat 38 2
  if d.nat 35 1 = 0 then (first + 2 * i, first + 2 * i + 1) else (first + i, first + i + d.nat 36 2 / 2)

/-- The inverse frequency of pair `i` (R289); θ to the power 0 is 1. -/
def ropeFreqOf (d : Mem) (i : Nat) : F32 :=
  if d.nat 40 1 = 1 then descF d (768 + 4 * i)
  else if i = 0 then .one else Config.ropeFreq (descF d 44) i (d.nat 36 2)

/-- A vector of channels rotated at a position (R289). -/
def ropeRotate (d : Mem) (pos : Nat) (v : List F32) : List F32 :=
  let off : Int := sint 32 (d.nat 52 4)
  let ps : F32 := if d.nat 48 4 = 0 then .one else descF d 48
  let p := F32.mul (F32.ofInt ((pos : Int) + off)) ps
  let pairs := (List.range (d.nat 36 2 / 2)).map (fun i =>
    let ch := ropePair d i
    let phi := F32.mul p (ropeFreqOf d i)
    let cs := Config.cosValue phi
    let sn := Config.sinValue phi
    let a := v.getD ch.1 .zero
    let b := v.getD ch.2 .zero
    (ch.1, F32.sub (F32.mul a cs) (F32.mul b sn), ch.2, F32.add (F32.mul a sn) (F32.mul b cs)))
  v.zipIdx.map (fun x => match pairs.find? (fun y => y.1 == x.2 || y.2.2.1 == x.2) with
    | some y => if y.1 = x.2 then y.2.1 else y.2.2.2
    | none => x.1)

/-! ### Dot products (R297, R305) -/

/-- Significand width of a decoded element of a format, 24 where it can need them all (R305). -/
def keySig (f : Nat) : Nat := match f with
  | 0x1 => 8
  | 0x2 => 11
  | 0x3 => 4
  | 0x4 => 3
  | 0x5 => 3
  | 0x6 => 4
  | 0x7 => 2
  | 0x8 => 4
  | 0x9 => 4
  | 0xA => 2
  | 0xB => 8
  | 0xC => 19
  | 0xF => 11
  | _ => 24

/-- Significand width of a query element; 24 once it is rotated. -/
def querySig (d : Mem) : Nat := if descRope d != 0 then 24 else match descQ d with
  | 0 => 24
  | 1 => 8
  | _ => 11

/-- One product: exact where the widths allow, rounded otherwise. -/
def product (exact : Bool) (x y : F32) : FVal := if exact then .mul x.val y.val else (F32.mul x y).val

/-- Adjacent data added, one level of the pairwise tree. -/
def addPairs : List FVal → List FVal
  | a :: b :: t => (F32.of (.add .nearestEven a b)).val :: addPairs t
  | l => l

/-- The pairwise tree over at most 32 data. -/
def tree (l : List FVal) : F32 :=
  match addPairs (addPairs (addPairs (addPairs (addPairs l)))) with
  | x :: _ => F32.of x
  | [] => .zero

/-- Block sums added in ascending order. -/
def sumBlocks : List F32 → F32
  | [] => .zero
  | a :: t => t.foldl F32.add a

/-- The dot product of two channel vectors (R305). -/
def dot (exact : Bool) (q k : List F32) : F32 :=
  sumBlocks ((chunks 32 q.length (List.zipWith (product exact) q k)).map tree)

/-- A KVQ score: the lookups of a row's tables, 8 to a block of 32 channels (R297). -/
def State.kvqScore (s : State) (n : Namespace) (p : Page) (h t : Nat) (q : List F32) : F32 :=
  match s.codeSet n.codebook with
  | none => .zero
  | some cs =>
    let look := fun j : Nat =>
      let i := n.geo.kvqCode p.rd 0 h t j
      (List.range 4).foldl (fun a e => F32.fma (q.getD (4 * j + e) .zero) (cs.elem p.layer 0 h j i e) a) F32.zero
    sumBlocks ((chunks 8 (n.geo.d / 4) ((List.range (n.geo.d / 4)).map (fun j => (look j).val))).map tree)

/-! ### The score pipeline (R277, R286 to R288) -/

/-- The ALiBi slope of device query head `k` (R286). -/
def slopeOf (d : Mem) (k : Nat) : F32 :=
  if d.nat 28 1 = 1 then F32.pow2Neg (d.nat 29 1 * (d.nat 32 2 + k + 1)) (d.nat 30 2) else descF d (128 + 4 * k)

/-- f of R288: the segment that covers the score; an infinite score maps by the sign of the segment's slope (log entry
39). -/
def piecewise (d : Mem) (x : F32) : F32 :=
  if x.isNan then .qnan
  else
    let i := ((List.range (descSegs d)).filter (fun i => i != 0 && !(F32.lt x (descF d (640 + 16 * i))))).length
    let a := descF d (644 + 16 * i)
    let c := descF d (648 + 16 * i)
    if x = .posInf ∨ x = .negInf then (if a.toNat % 2 ^ 31 = 0 then c else F32.mul a x) else F32.fma a x c

/-- The scale of step 3. -/
def scaleOf (d : Mem) : F32 := if d.nat 12 4 = 0 then F32.rsqrt (descD d) else descF d 12

/-- Steps 5 and 6. -/
def capAndPiece (d : Mem) (x : F32) : F32 :=
  let x := if descMod d 1 then F32.mul (descF d 24) (F32.tanh (F32.div x (descF d 24))) else x
  if descMod d 2 then piecewise d x else x

/-- Steps 3 to 6 on s0, for head `k` at key `j` and position `p`. -/
def pipeline (d : Mem) (k j p : Nat) (s0 : F32) : F32 :=
  let x := F32.mul s0 (scaleOf d)
  let x := if descMod d 0 then F32.add x (F32.mul (slopeOf d k) (F32.ofInt ((j : Int) - p))) else x
  capAndPiece d x

/-! ### One command's view of its keys -/

/-- What an attention command works on: descriptor, query, namespace, version, key length, position of token 0, tree base,
layer, query tokens, SCORES_ONLY. -/
structure AttCtx where
  d : Mem
  q : Mem
  n : Namespace
  v : View
  nk : Nat
  p0 : Nat
  base : Nat
  layer : Nat
  tq : Nat
  so : Bool

/-- Row `r`'s token, head and KV head. -/
def AttCtx.token (c : AttCtx) (r : Nat) : Nat := r / (descH c.d * descG c.d)
def AttCtx.head (c : AttCtx) (r : Nat) : Nat := r % (descH c.d * descG c.d)
def AttCtx.kv (c : AttCtx) (r : Nat) : Nat := c.head r / descG c.d

/-- p_t of a token. -/
def AttCtx.pos (c : AttCtx) (t : Nat) : Nat :=
  if descMask c.d 2 then c.q.nat (treeAt c.d c.tq t + 32) 4 else c.p0 + t

/-- Bit `b` of a token's tree bitmap. -/
def AttCtx.treeBit (c : AttCtx) (t b : Nat) : Bool := bit (c.q.nat (treeAt c.d c.tq t) 32) b

/-- The masks of R278 for key `j` and the row's token. -/
def AttCtx.masks (c : AttCtx) (t j : Nat) : Bool :=
  let p := c.pos t
  if descMask c.d 2 && c.base ≤ j then j < c.base + 256 && c.treeBit t (j - c.base)
  else (!descMask c.d 0 || j ≤ p) && (!descMask c.d 1 || p < j + c.d.nat 16 4 || j < c.d.nat 20 4)

/-- The query row in FP32, rotated under RoPE. -/
def AttCtx.row (c : AttCtx) (r : Nat) : List F32 :=
  let v := (List.range (descD c.d)).map (queryElem c.d c.q r)
  if descRope c.d = 0 then v else ropeRotate c.d (c.pos (c.token r)) v

/-- Keys of block `i` that lie in the range: how many tokens of it. -/
def AttCtx.tokens (c : AttCtx) (i : Nat) : Nat := min c.n.geo.b (c.nk - i * c.n.geo.b)

/-- Blocks of the key range. -/
def AttCtx.blocks (c : AttCtx) : Nat := cdiv c.nk c.n.geo.b

/-- The block and the page at position `i` of the key range, where the version holds it. -/
def State.attPage (s : State) (c : AttCtx) (i : Nat) : Option (Block × Page) :=
  ((c.v.blockAt i).bind s.block).bind (fun b => (b.pages.find? (·.layer == c.layer)).map (fun p => (b, p)))

/-- The score of one key. -/
def State.score (s : State) (c : AttCtx) (r i t : Nat) (p : Page) (row : List F32) : F32 :=
  let h := c.kv r
  let j := i * c.n.geo.b + t
  let s0 := if p.fmt = 0xE then s.kvqScore c.n p h t row
    else
      let k := (List.range (descD c.d)).map (fun ch => s.chan c.n p 0 h t ch)
      let k := if descRope c.d = 2 then ropeRotate c.d j k else k
      dot (querySig c.d + keySig p.fmt ≤ 24) row k
  pipeline c.d (c.head r) j (c.pos (c.token r)) s0

/-- The included keys of a row in one tile, with their scores: masked ones and those scored -infinity are left out (R278). -/
def State.tileKeys (s : State) (c : AttCtx) (r i tile : Nat) (p : Page) (row : List F32) : List (Nat × F32) :=
  let ts := ((List.range 16).map (· + 16 * tile)).filter (fun t =>
    t < c.tokens i && c.masks (c.token r) (i * c.n.geo.b + t))
  (ts.map (fun t => (t, s.score c r i t p row))).filter (fun x => x.2 != .negInf)

/-! ### Partials (R276, R279, R306) -/

/-- A partial before normalisation: largest score, sum of weights, weighted sums; `any` when it includes a key. -/
structure Partial where
  m : F32
  l : F32
  o : List F32
  any : Bool
  deriving DecidableEq, Repr

/-- The identity: no key included. -/
def Partial.empty (dv : Nat) : Partial := ⟨.negInf, .zero, List.replicate dv .zero, false⟩

/-- The value channels of a token: the first Dv of the latent vector, or the V row of the head (R276, R296). -/
def State.values (s : State) (c : AttCtx) (r t : Nat) (p : Page) : List F32 :=
  if c.so then [] else (List.range (descDv c.d)).map (fun ch =>
    s.chan c.n p (if c.n.geo.latent then 0 else 1) (c.kv r) t ch)

/-- The partial of one tile: the largest included score, then l and O by fma in ascending token order (R306, step 1); the
first key's product starts the sums, so that one key alone gives its values bit for bit (R279). -/
def State.tilePartial (s : State) (c : AttCtx) (r i tile : Nat) (p : Page) (row : List F32) : Partial :=
  let dv := if c.so then 0 else descDv c.d
  match s.tileKeys c r i tile p row with
  | [] => .empty dv
  | k :: ks =>
    let m := ks.foldl (fun a x => F32.max a x.2) k.2
    let w0 := F32.expDiff k.2 m
    let o0 := (s.values c r k.1 p).map (F32.mul w0)
    ks.foldl (fun a x =>
      let w := F32.expDiff x.2 m
      { a with l := F32.fma w .one a.l, o := List.zipWith (fun v o => F32.fma w v o) (s.values c r x.1 p) a.o })
      ⟨m, w0, o0, true⟩

/-- Two partials combined (R306, step 2); an empty operand is skipped. -/
def Partial.join (a b : Partial) : Partial :=
  if !b.any then a
  else if !a.any then b
  else
    let m := F32.max a.m b.m
    let x := F32.expDiff a.m m
    let y := F32.expDiff b.m m
    ⟨m, F32.fma b.l y (F32.mul a.l x), List.zipWith (fun o o' => F32.fma o' y (F32.mul o x)) a.o b.o, true⟩

/-- The partial of one layer-page: its tiles in ascending token order. -/
def State.pagePartial (s : State) (c : AttCtx) (r i : Nat) (row : List F32) : Partial :=
  let none_ := Partial.empty (if c.so then 0 else descDv c.d)
  match s.attPage c i with
  | none => none_
  | some (_, p) => (List.range (cdiv (c.tokens i) 16)).foldl (fun a t => a.join (s.tilePartial c r i t p row)) none_

/-- One row over chosen blocks: pages on a pier in ascending block order, piers in ascending index; under BLOCK_ORDER the
pages in ascending block order (R306). -/
def State.rowPartial (s : State) (c : AttCtx) (r : Nat) (blocks : List Nat) : Partial :=
  let none_ := Partial.empty (if c.so then 0 else descDv c.d)
  let row := c.row r
  let ovr := fun l : List Nat => l.foldl (fun a i => a.join (s.pagePartial c r i row)) none_
  if descOrder c.d then ovr blocks
  else (List.range 6).foldl (fun a k =>
    a.join (ovr (blocks.filter (fun i => (s.attPage c i).any (fun x => x.2.home == k))))) none_

/-- o of the result: O / l, rounded once; 0 for an EMPTY row. -/
def Partial.out (a : Partial) : List F32 := if a.any then a.o.map (fun x => F32.div x a.l) else a.o

/-- The flags of a row (Table 10-6), without DROPPED. -/
def Partial.flags (a : Partial) : Nat :=
  b2n (!a.any) + 2 * b2n (a.m.isNan || a.l.isNan || (a.out).any F32.isNan) + 4 * b2n (a.any && a.m = .posInf)

/-- An FP32 value as four bytes. -/
def F32.bytes (x : F32) : List Byte := leBytes 4 x.toNat

/-- The record of a row (R292). -/
def Partial.bytes (a : Partial) : List Byte := (a.out).flatMap F32.bytes ++ F32.bytes a.m ++ F32.bytes a.l

/-! ### Bounds (R298 to R301) -/

/-- Rounded towards +infinity. -/
def F32.mulUp (x y : F32) : F32 := F32.ofUp (.mul x.val y.val)
def F32.addUp (x y : F32) : F32 := F32.ofUp (.add .up x.val y.val)

/-- Positions of a page that the row's masks include: their keys. -/
def AttCtx.keysIn (c : AttCtx) (r i : Nat) : List Nat :=
  ((List.range (c.tokens i)).map (· + i * c.n.geo.b)).filter (fun j => c.masks (c.token r) j)

/-- The sum of a bound: block sums in the tree order of R305, rounded towards +infinity (log entry 40). -/
def sumUp (l : List F32) : F32 := match l with
  | [] => .zero
  | a :: t => t.foldl F32.addUp a

/-- The bound of a row at a candidate page (R299). -/
def AttCtx.bound (c : AttCtx) (r i : Nat) (sm : List Nat) : F32 :=
  let d := descD c.d
  let at_ := fun k : Nat => F32.of (bf16.decode (sm.getD k 0))
  let lo := fun ch => at_ (c.kv r * 2 * d + ch)
  let hi := fun ch => at_ (c.kv r * 2 * d + d + ch)
  let q := c.row r
  if (List.range d).any (fun ch => !F32.finite (lo ch) || !F32.finite (hi ch)) then .posInf
  else
    let qc := fun ch => q.getD ch .zero
    let abs := fun x : F32 => x &&& 0x7FFFFFFF#32
    let a := sumUp ((List.range d).map (fun ch => F32.max (F32.mulUp (qc ch) (lo ch)) (F32.mulUp (qc ch) (hi ch))))
    let b := sumUp ((List.range d).map (fun ch => F32.mulUp (abs (qc ch)) (F32.max (abs (lo ch)) (abs (hi ch)))))
    let x := F32.addUp a (F32.mulUp (F32.of (.fin false 1 (-18))) b)
    let x := F32.mulUp x (scaleOf c.d)
    let keys := c.keysIn r i
    let bias := fun j => F32.mul (slopeOf c.d (c.head r)) (F32.ofInt ((j : Int) - c.pos (c.token r)))
    let x := if descMod c.d 0 then (match keys.head?, keys.getLast? with
      | some e, some f => F32.addUp x (F32.max (bias e) (bias f))
      | _, _ => x) else x
    let x := capAndPiece c.d x
    if x.isNan then .posInf else x

/-- Does the modifier forbid bounds: a segment slope is negative, or f falls at a segment start (R299)? -/
def pieceFalls (d : Mem) : Bool :=
  descMod d 2 && (List.range (descSegs d)).any (fun i =>
    F32.lt (descF d (644 + 16 * i)) .zero ||
    (i != 0 &&
      let st := descF d (640 + 16 * i)
      let f := fun k : Nat => F32.fma (descF d (644 + 16 * k)) st (descF d (648 + 16 * k))
      F32.lt (f i) (f (i - 1))))

/-- Does the block hold an included key of some row? -/
def AttCtx.touches (c : AttCtx) (rows i : Nat) : Bool := (List.range rows).any (fun r => !(c.keysIn r i).isEmpty)

/-- Is the block always included: a sink block, one with a token below St, one of the last `recent` below Nk, or one
without a valid summary (R298)? -/
def State.always (s : State) (c : AttCtx) (recent i : Nat) : Bool :=
  (c.n.window != 0 && i < c.n.sinks) || (descMask c.d 1 && i * c.n.geo.b < c.d.nat 20 4) ||
    c.blocks ≤ i + recent || !(s.attPage c i).any (fun x => x.1.sealed && x.2.summary.isSome)

/-- The bound of a row at block `i`: none where the row includes no key of it. -/
def State.boundAt (s : State) (c : AttCtx) (r i : Nat) : Option F32 :=
  if (c.keysIn r i).isEmpty then none
  else (s.attPage c i).bind (fun x => x.2.summary.map (c.bound r i))

/-- The larger of two optional data. -/
def maxF (a b : Option F32) : Option F32 := match a, b with
  | some x, some y => some (F32.max x y)
  | some x, none => some x
  | none, b => b

/-- A candidate's rank: the largest bound over the rows that include keys of it (R300). -/
def State.rank (s : State) (c : AttCtx) (rows i : Nat) : F32 :=
  ((List.range rows).foldl (fun a r => maxF a (s.boundAt c r i)) none).getD .negInf

end Sys2Proof.Machine
end

