-- ==== Sys2Proof/Machine/Attention.lean ====
section
/-! DEFINITION. Attention.lean: ATTEND, ATTEND_SPARSE, descriptors and query windows (The attention engine, R280 to R284,
R290 to R303, R308). -/
namespace Sys2Proof.Machine

/-! ### Descriptors (R284, R285, R290) -/

/-- A descriptor slot, when it is not empty. -/
def State.desc (s : State) (slot : Nat) : Option Desc := s.att.descs.find? (·.slot == slot)

/-- ATT_DESC. -/
def bodyAttDesc (o : Op) (s : State) : BodyOut :=
  let slot := o.p 8 2
  let act := o.p 10 1
  let p := o.p 11 1
  if 4096 ≤ slot || 3 ≤ act || !partValid (s.itemsOf o) p || (act != 1 && o.buf % 64 != 0) then .done .badParam 0 s
  else if !s.mayPart (s.opFn o) p || (s.desc slot).any (·.partition != p) then .done .denied 0 s
  else match act, s.desc slot with
    | 0, _ => s.withRead o o.buf 1024 (fun b =>
        let d := Mem.write [] 0 b
        if descOk d then .done .ok 0 { s with att.descs := ⟨slot, p, d⟩ :: s.att.descs.filter (·.slot != slot) }
        else .done .badParam 0 s)
    | _, none => .done .badHandle 0 s
    | 1, some _ => .done .ok 0 { s with att.descs := s.att.descs.filter (·.slot != slot) }
    | _, some d => s.writeThen o o.buf (d.bytes.read 0 1024) (fun s => .done .ok 0 s)

/-- ATT_DESC from a queue pair. -/
def execAttDesc (c : Cmd) (s : State) : Host.Outcome State Fault Refusal := .next (s.submit 0x72 bodyAttDesc c)

/-! ### Query windows (R280, R281) -/

/-- The windows that an attention command's query takes, none with QUERY_ADDR. -/
def State.queryWindows (s : State) (o : Op) : List Nat :=
  if !(o.opcode = 0x70 || o.opcode = 0x71) || (o.opcode = 0x70 && bit (o.p 13 1) 0) then []
  else match s.att.copies.find? (·.tag == o.tag) with
    | some c => (List.range (cdiv (queryBytes c.desc (o.p 18 2)) 16384)).map (· + o.p 28 4)
    | none => []

/-- Does an accepted command that names one of these windows still await its query copy (R281)? -/
def State.queryPending (s : State) (l : List Nat) : Bool :=
  s.q.ops.any (fun o => s.att.copies.any (fun c => c.tag == o.tag && c.query.isNone) &&
    (s.queryWindows o).any l.contains)

/-- The lowest run of `n` free windows of an abutment. -/
def State.windowRun (s : State) (ab n : Nat) : Option Nat :=
  (List.range (1025 - n)).find? (fun i => (List.range n).all (fun j =>
    !s.att.windows.any (fun w => w.1 == 1024 * ab + i + j))) |>.map (· + 1024 * ab)

/-- ATT_WINDOWS; "either" looks in abutment 0 first. -/
def bodyAttWindows (o : Op) (s : State) : BodyOut :=
  let act := o.p 8 1
  let ab := o.p 9 1
  let n := o.p 10 2
  let first := o.p 12 2
  if 2 ≤ act || !(ab = 0 || ab = 1 || ab = 0xFF) || n = 0 || 16 < n then .done .badParam 0 s
  else if act = 0 then
    if 64 < (s.att.windows.filter (·.2 == o.qp)).length + n then .done .quotaExceeded 0 s
    else match (if ab = 1 then none else s.windowRun 0 n), (if ab = 0 then none else s.windowRun 1 n) with
      | some w, _ | none, some w =>
        .done .ok w { s with att.windows := s.att.windows ++ (List.range n).map (fun i => (w + i, o.qp)) }
      | none, none => .done .quotaExceeded 0 s
  else
    let l := (List.range n).map (· + first)
    if !l.all (fun w => s.att.windows.contains (w, o.qp)) then .done .badHandle 0 s
    else if s.queryPending l then .wait .ended s
    else .done .ok first { s with att.windows := s.att.windows.filter (fun w => !l.contains w.1) }

/-- ATT_WINDOWS from a queue pair. -/
def execAttWindows (c : Cmd) (s : State) : Host.Outcome State Fault Refusal := .next (s.submit 0x73 bodyAttWindows c)

/-- Is a window bound to a pair that the function owns? -/
def State.windowOwned (s : State) (f : Fn) (w : Nat) : Bool :=
  s.att.windows.any (fun x => x.1 == w && (s.pair x.2).any (·.owner == f))

/-- The part of a store to BAR4 that falls into one window: taken from the owner of the pair the window is bound to, else discarded
with a record; one that came through a port of the other abutment crosses a span die (R280).  A store into a window that an accepted
command names, before that command's first completion, leaves the command's rows undefined (R283). -/
def State.queryStore (s : State) (f : Fn) (w offset : Nat) (bytes : List Byte) : State :=
  let s := s.fabricSend .bulk (.store w) (abutmentDie (portAbutment f.link)) (abutmentDie (w / 1024))
  if s.windowOwned f w && (!ideRequired s.stg.live || s.linkSecure f.link) then
    let named := fun c : AttCopy => (s.op c.tag).any (fun o => !o.long && !o.announced && (s.queryWindows o).contains w)
    { s with
      att.content := s.att.content.write offset bytes
      att.copies := upd named (fun c => { c with undefined := true }) s.att.copies }
  else
    (s.bump 0x189 1).log
      { cls := .refused, code := 0x0303, locus := 0x5000 + 0x100 * (w / 1024), tag := none
        object := s.hostOf f, addr := some offset, detail := 0, poison := false }

/-- A store to BAR4, window by window. -/
def execQueryWindowStore (r : Req) (offset : Nat) (bytes : List Byte) (s : State) : Host.Outcome State Fault Refusal :=
  let first := offset / 16384
  let at_ := fun w : Nat => if w = first then offset else w * 16384
  let part := fun w : Nat => ((bytes.drop (at_ w - offset)).take (16384 - at_ w % 16384))
  let ws := if bytes.isEmpty then [] else (List.range (cdiv (offset % 16384 + bytes.length) 16384)).map (· + first)
  .next (if s.hears r.fn r.tee then ws.foldl (fun s w => s.queryStore r.fn w (at_ w) (part w)) s.wake else s)

/-! ### What a command attends -/

/-- Fields that both layouts share are in range (Tables 10-5 and 10-7). -/
def Op.attFieldsOk (o : Op) : Bool :=
  let sparse := o.opcode = 0x71
  let list := sparse && o.p 12 1 = 2
  o.p 12 1 < (if sparse then 3 else 2) && o.p 13 1 < 4 && o.p 14 2 < 4096 && 1 ≤ o.p 18 2 && o.p 18 2 ≤ 64 &&
    (o.p 48 1 < 32 || o.p 48 1 = 0xFF) && (!o.expert || o.p 49 1 < 16) && o.buf % 64 = 0 &&
    (if sparse then
      1 ≤ o.p 32 4 && o.p 32 4 ≤ 65536 &&
        (if list then 1 ≤ o.p 8 4 && o.p 8 4 ≤ 1024 && o.p 20 4 = 0 && o.p 24 4 = 0 && o.p 40 8 % 16 = 0
         else o.p 40 8 = 0)
     else o.p 40 8 % 64 = 0 && (bit (o.p 13 1) 0 || o.p 40 8 = 0) && (!o.expert || o.p 50 1 < 4))

/-- Does the descriptor suit the namespace and the command (R289, R291, R296, R297, R299, R302, Table 10-8)? -/
def Op.attFits (o : Op) (d : Mem) (n : Namespace) : Bool :=
  let sparse := o.opcode = 0x71
  let tree := descMask d 2
  let host := !sparse && bit (o.p 13 1) 0
  descH d = n.geo.h && descD d = n.geo.d && descLatent d = n.geo.latent && (n.geo.latent || descDv d = n.geo.d) &&
    queryRows d (o.p 18 2) ≤ 1024 && queryBytes d (o.p 18 2) ≤ (if host then 4 * 2 ^ 20 else 256 * 2 ^ 10) &&
    (host || o.p 28 4 + cdiv (queryBytes d (o.p 18 2)) 16384 ≤ 2048) &&
    (sparse || tree || o.p 32 4 = 0) && !(n.geo.fmt = 0xE && descRope d = 2) &&
    (!sparse || (n.keySummary && !tree && descRope d != 2 && !pieceFalls d))

/-- Scores only? -/
def Op.scoresOnly (o : Op) : Bool := if o.opcode = 0x71 then bit (o.p 13 1) 0 else bit (o.p 13 1) 1

/-- The context of one entry: the query bytes that the command works on. -/
def Op.ctx (o : Op) (d q : Mem) (n : Namespace) (e : View × Nat × Nat) : AttCtx :=
  ⟨d, q, n, e.1, e.2.1, e.2.2, o.p 32 4, o.p 16 2, o.p 18 2, o.scoresOnly⟩

/-- The entries of a command: the list it has read, or its one version with Nk and p0. -/
def Op.entries (o : Op) : List (View × Nat × Nat) :=
  match o.work, o.view with
  | .listed l, _ => l
  | _, some v => [(v, if o.p 20 4 = 0 then v.n else o.p 20 4, o.p 24 4)]
  | _, none => []

/-- The RECOMPUTE result for the key range of an entry. -/
def AttCtx.missing (c : AttCtx) : Option Nat := missingResult c.v.refs 0 c.blocks

/-- Blocks of the key range that the version holds, by position. -/
def State.heldAt (s : State) (c : AttCtx) : List Nat := (List.range c.blocks).filter (fun i => (s.attPage c i).isSome)

/-- The query of a command: its copy, or free bytes once a store met it (R283). -/
def State.queryOf (s : State) (a : AttCopy) (tq : Nat) : Mem :=
  if a.undefined then Mem.write [] 0 ((List.range (queryBytes a.desc tq)).map (fun i => Config.freeByte (s.free + i)))
  else a.query.getD []

/-- The always-included blocks and the candidates of one entry (R298). -/
def State.split (s : State) (o : Op) (c : AttCtx) : List Nat × List Nat :=
  let rows := queryRows c.d c.tq
  let l := (s.heldAt c).filter (c.touches rows)
  (l.filter (s.always c (o.p 36 1)), l.filter (fun i => !s.always c (o.p 36 1) i))

/-- The selection: list index, block and whether it is always included, in the order of the report: always-included pages,
then selected ones by rank (R300, R302). -/
def State.selection (s : State) (o : Op) (cs : List AttCtx) : List (Nat × Nat × Bool) :=
  let live := cs.zipIdx.filter (fun x => x.1.missing.isNone)
  let al := live.flatMap (fun x => (s.split o x.1).1.map (fun i => (x.2, i, true)))
  let cand := live.flatMap (fun x => (s.split o x.1).2.map (fun i => (s.rank x.1 (queryRows x.1.d x.1.tq) i, x.2, i)))
  al ++ ((sortBy (fun a b => !F32.lt a.1 b.1) cand).take (o.p 32 4)).map (fun x => (x.2.1, x.2.2, false))

/-- The pages a command attends, as (list index, block position). -/
def State.attended (s : State) (o : Op) (cs : List AttCtx) : List (Nat × Nat × Bool) :=
  if o.opcode = 0x71 then s.selection o cs
  else match cs with
    | c :: _ => (s.heldAt c).map (fun i => (0, i, true))
    | [] => []

/-! ### Promotion (R214, R294) -/

/-- The block records of attended pages that lie below the deck, with their positions. -/
def State.belowDeck (s : State) (cs : List AttCtx) (l : List (Nat × Nat × Bool)) : List (Nat × Nat) :=
  l.filterMap (fun x => (cs[x.1]?).bind (fun c => (s.attPage c x.2.1).bind (fun y =>
    if y.2.tier = 0 then none else some (y.1.id, x.2.1))))

/-- A layered promotion of one span of layers queued for a waiting reader. -/
def State.queueLayers (s : State) (ids : List Nat) (first upTo : Nat) : State :=
  if ids.isEmpty || upTo ≤ first then s else s.addMove (.ofLayers ids first upTo 0x0A)

/-- Is a promotion of the block's layer already queued? -/
def State.promoting (s : State) (id layer : Nat) : Bool :=
  s.tiers.moves.any (fun m => m.target = 0 && m.blocks.contains id && (!m.layered || (m.layer ≤ layer && layer < m.upTo)))

/-- Promotions for the attended pages below the deck: the command's layer first; none when the partition's deck cannot
take them. -/
def State.promoteFor (s : State) (n : Namespace) (ids : List Nat) (layer : Nat) : Option State :=
  let new := (ids.filter (fun id => !s.promoting id layer)).eraseDups
  if new.isEmpty then some s
  else
    let need := total ((new.filterMap s.block).map (fun b => b.moveBytes n layer 1 0 true))
    let t := s.roomForMove n.partition 0 need none new
    if !t.room n.partition 0 need then none
    else some ((t.queueLayers new layer (layer + 1)).queueLayers new 0 256)

/-! ### Results (R292, R302) -/

/-- Lines of a page that the command reads, among the poisoned ones: side data is read whole, V's elements not under
SCORES_ONLY. -/
def AttCtx.poisonRead (c : AttCtx) (p : Page) : Bool :=
  p.poison.any (fun l => !c.so || c.n.geo.latent || 64 * l < c.n.geo.elemBytes p.fmt / 2 || c.n.geo.sideBase p.fmt ≤ 64 * l)

/-- The first failure among the attended pages (R217), with the block. -/
def State.pageFault (s : State) (cs : List AttCtx) (l : List (Nat × Nat × Bool)) : Option (Status × Nat) :=
  l.findSome? (fun x => (cs[x.1]?).bind (fun c => (s.attPage c x.2.1).bind (fun y =>
    if c.poisonRead y.2 then some (.poisoned, y.1.id)
    else if y.1.sealed && y.2.crc != y.2.dataCrc c.n.geo then some (.integrityError, y.1.id) else none)))

/-- β and x of a row: the largest bound and the included keys of the excluded candidates (R301). -/
def State.excluded (s : State) (c : AttCtx) (r : Nat) (l : List Nat) : F32 × Nat :=
  ((l.foldl (fun a i => maxF a (s.boundAt c r i)) none).getD .negInf, total (l.map (fun i => (c.keysIn r i).length)))

/-- One row's record and flags. -/
def State.rowOut (s : State) (o : Op) (c : AttCtx) (r : Nat) (att out : List Nat) : List Byte × Nat :=
  let dropped := o.opcode = 0x71 && c.missing.isSome
  let a := if dropped then Partial.empty (if c.so then 0 else descDv c.d) else s.rowPartial c r att
  let e := s.excluded c r out
  (a.bytes ++ (if o.opcode = 0x71 then F32.bytes e.1 ++ leBytes 4 e.2 else []), a.flags + 8 * b2n dropped)

/-- Padding to 64 bytes. -/
def pad64 (b : List Byte) : List Byte := b ++ List.replicate (roundUp b.length 64 - b.length) 0#8

/-- Every row of every entry: records and flags. -/
def State.attRows (s : State) (o : Op) (cs : List AttCtx) (l : List (Nat × Nat × Bool)) : List (List Byte × Nat) :=
  cs.zipIdx.flatMap (fun x =>
    let att := sortBy (fun a b : Nat => a ≤ b) ((l.filter (·.1 == x.2)).map (·.2.1))
    let out := if o.opcode = 0x71 && x.1.missing.isNone then (s.split o x.1).2.filter (fun i => !att.contains i) else []
    (List.range (queryRows x.1.d x.1.tq)).map (fun r => s.rowOut o x.1 r att out))

/-- The bytes of a result: records, flags and, under REPORT_PAGES, the attended pages. -/
def attBytes (o : Op) (rows : List (List Byte × Nat)) (l : List (Nat × Nat × Bool)) : List Byte :=
  let body := pad64 (rows.flatMap (·.1)) ++ pad64 (rows.map (fun x => BitVec.ofNat 8 x.2))
  if o.opcode = 0x71 && bit (o.p 13 1) 1 then
    body ++ l.flatMap (fun x => leBytes 8 (x.2.1 + x.1 % 2 ^ 16 * 2 ^ 32 + b2n x.2.2 * 2 ^ 48))
  else body

/-- Bytes of elements read from one attended page: K, and V except under SCORES_ONLY or in LATENT mode (R295, R296). -/
def AttCtx.readBytes (c : AttCtx) (i : Nat) (p : Page) : Nat :=
  (if c.so || c.n.geo.latent then 1 else 2) * c.tokens i * c.n.geo.h * (c.n.geo.d / 32 * 4 * elemWidth p.fmt)

/-- Counters of a finished command (Table 16-2). -/
def State.attCount (s : State) (o : Op) (n : Namespace) (cs : List AttCtx) (l : List (Nat × Nat × Bool))
    (rows : List (List Byte × Nat)) : State :=
  let one := fun (s : State) (i k : Nat) => s.bumpAt i k (some n.partition) (some n.index)
  let has := fun i => (rows.filter (fun x => bit x.2 i)).length
  let s := one (one s 0x182 l.length) 0x183 rows.length
  let s := one (one (one s 0x184 (has 0)) 0x185 (has 1)) 0x186 (has 2)
  let tables := total (cs.map (fun c => if n.geo.fmt = 0xE then cdiv (queryRows c.d c.tq * 256 * descD c.d) (2 ^ 20) - 1 else 0))
  let s := one s 0x188 tables
  let at_ := fun k => total (l.map (fun x => match (cs[x.1]?).bind (fun c => (s.attPage c x.2.1).map (fun y => (c, y.2))) with
    | some (c, p) => if p.home = k then c.readBytes x.2.1 p else 0
    | none => 0))
  let units := fun k => (l.filter (fun x => ((cs[x.1]?).bind (fun c => s.attPage c x.2.1)).any (fun y => y.2.home = k))).length
  let s := (List.range 6).foldl (fun s k => ((one s (0x190 + k) (at_ k / 64)).bump (0x500 + 16 * k) (units k)).pierIo k 0 (at_ k)) s
  if o.opcode = 0x70 && o.expert && bit (o.p 50 1) 0 then s
  else s.touchAll (l.filterMap (fun x => (cs[x.1]?).bind (fun c => (s.attPage c x.2.1).map (·.1.id)))).eraseDups

/-- The contexts of a started command. -/
def State.attCtxs (s : State) (o : Op) (n : Namespace) : List AttCtx :=
  match s.att.copies.find? (·.tag == o.tag) with
  | some a => o.entries.map (o.ctx a.desc (s.queryOf a (o.p 18 2)) n)
  | none => []

/-- The result written and counted (R292, R302): the state, or the answer of a failed write. -/
def State.attWrite (s : State) (o : Op) (n : Namespace) (cs : List AttCtx) (l : List (Nat × Nat × Bool)) :
    Except BodyOut (Nat × State) :=
  match s.pageFault cs l with
  | some (.poisoned, id) =>
    .error (.done .poisoned 0 (if (s.block id).any (·.sealed) then s.loseBlock id 0x0E else s))
  | some (st, _) => .error (.done st 0 s)
  | none =>
    let rows := s.attRows o cs l
    let k := s.portOf o (o.p 48 1)
    match s.hostWrite (s.portFn o k) k o.buf (attBytes o rows l) with
    | .error x => .error (x.answer s)
    | .ok t =>
      let t := t.pass k (s.queueOf o k n.partition 1 (if o.expert then o.p 49 1 else 0)) (writeUnits k (attBytes o rows l).length)
      let empty := min 0xFFFF (rows.filter (fun x => bit x.2 0)).length
      let used := match s.att.copies.find? (·.tag == o.tag) with
        | some a => if a.undefined then queryBytes a.desc (o.p 18 2) else 0
        | none => 0
      .ok (l.length + rows.length % 2 ^ 16 * 2 ^ 32 + empty * 2 ^ 48, { t.attCount o n cs l rows with free := t.free + used })

/-! ### The commands -/

/-- The descriptor copy, judged with the namespace and the windows (Table 10-8). -/
def State.attJudge (s : State) (o : Op) (n : Namespace) : Except Status Mem :=
  if !o.attFieldsOk then .error .badParam
  else match s.att.copies.find? (·.tag == o.tag) with
    | none => .error .badHandle
    | some a =>
      if a.partition != n.partition then .error .denied
      else if !o.attFits a.desc n then .error .badParam
      else if n.geo.l ≤ o.p 16 2 then .error .outOfRange
      else
        let ws := s.queryWindows o
        if a.query.isSome then .ok a.desc
        else if ws.any (fun w => s.att.windows.any (fun x => x.1 == w && x.2 != o.qp)) then .error .denied
        else if ws.any (fun w => !s.att.windows.contains (w, o.qp)) then .error .badHandle
        else .ok a.desc

/-- The partition of a namespace handle; 0 when nothing holds it. -/
def State.handlePart (s : State) (h : Nat) : Nat := (s.nsAny h).elim 0 (·.partition)

/-- The query copied once and the command counted, from its windows or from host memory (R283). -/
def State.withQuery (s : State) (o : Op) (d : Mem) (k : State → BodyOut) : BodyOut :=
  let n := queryBytes d (o.p 18 2)
  let keep := fun (q : Mem) (s : State) =>
    let s := s.bumpAt (if o.opcode = 0x70 then 0x180 else 0x181) 1 (some (s.handlePart o.handle)) (some (o.handle % 2 ^ 12))
    { s with att.copies := upd (·.tag == o.tag) (fun c : AttCopy => { c with query := some q }) s.att.copies }
  if s.att.copies.any (fun c => c.tag == o.tag && c.query.isSome) then k s
  else if o.opcode = 0x70 && bit (o.p 13 1) 0 then s.withRead o (o.p 40 8) n (fun b => k (keep (Mem.write [] 0 b) s))
  else k (keep (Mem.write [] 0 (s.att.content.read (16384 * o.p 28 4) n)) s)

/-- Is a page of the command's layer below the deck before READY.FULL, or in the footing while SANITISE runs (R47, R241)? -/
def State.attEarly (s : State) (c : AttCtx) : Bool :=
  (s.heldAt c).any (fun i => (s.attPage c i).any (fun x =>
    (!s.boot.full && x.2.tier != 0) || (s.foot.sanitising && x.2.tier = 3)))

/-- The piers' work units of a command: each takes one of its pier's 2,048 page-engine contexts until the merge; while a pier has none
free, the command waits (R27, R30, R283). -/
def State.attPass (s : State) (o : Op) (cs : List AttCtx) (l : List (Nat × Nat × Bool)) : BodyOut :=
  let piers := (l.filterMap (fun x => (cs[x.1]?).bind (fun c => (s.attPage c x.2.1).map (fun y => y.2.home)))).eraseDups
  if piers.any (fun p => 2048 ≤ s.ctxUsed p && !o.contexts.contains p) then .wait .context s
  else .wait .merge (s.setOp o.tag (fun o => { o with contexts := piers }))

/-- Waits for promoted pages, or goes on to the piers. -/
def State.attPromote (s : State) (o : Op) (n : Namespace) (cs : List AttCtx) (l : List (Nat × Nat × Bool)) : BodyOut :=
  let below := s.belowDeck cs l
  match below with
  | [] => s.attPass o cs l
  | x :: _ =>
    if o.opcode = 0x70 && o.expert && bit (o.p 50 1) 1 then .done .retry (2 ^ 63 + x.2) s
    else match s.promoteFor n (below.map (·.1)) (o.p 16 2) with
      | none => .done .quotaExceeded 0 s
      | some t => .wait .promotion (if o.wait = .promotion then t else t.bumpAt 0x187 1 (some n.partition) (some n.index))

/-- ATTEND, up to the point where every page it needs lies in the deck. -/
def bodyAttend (o : Op) (s : State) : BodyOut :=
  s.withView o (fun n v => match s.attJudge o n with
    | .error st => .done st 0 s
    | .ok d =>
      let o := { o with view := some v }
      let cs := o.entries.map (o.ctx d [] n)
      match cs with
      | [] => .done .badHandle 0 s
      | c :: _ =>
        if v.n < c.nk then .done .outOfRange 0 s
        else if s.attEarly c then .done .retry 2 s
        else if !n.active && !v.refs.isEmpty && c.nk != 0 then .done .groupDegraded (s.groupResult n) s
        else match c.missing with
          | some r => .done .recompute r s
          | none =>
            let s := s.setOp o.tag (fun o => { o with view := some v })
            s.withQuery o d (fun s =>
              s.attPromote o n cs (s.attended o cs)))

/-- ATTEND from a queue pair. -/
def execAttend (c : Cmd) (s : State) : Host.Outcome State Fault Refusal := .next (s.submit 0x70 bodyAttend c)

/-- The list of an ATTEND_SPARSE, entry by entry (R302). -/
def State.readList (s : State) (n : Namespace) (b : Mem) : Nat → Nat → Except Status (List (View × Nat × Nat))
  | _, 0 => .ok []
  | i, k + 1 =>
    let at_ := 16 * i
    if 2 ≤ b.nat (at_ + 4) 1 || b.nat (at_ + 5) 3 != 0 then .error .badParam
    else match s.named n (b.nat at_ 4) (b.nat (at_ + 4) 1) with
      | .refused st => .error st
      | .busy => .error .badHandle
      | .view v =>
        let nk := if b.nat (at_ + 8) 4 = 0 then v.n else b.nat (at_ + 8) 4
        if v.n < nk then .error .outOfRange
        else match s.readList n b (i + 1) k with
          | .ok l => .ok ((v, nk, b.nat (at_ + 12) 4) :: l)
          | .error st => .error st

/-- The units of a long ATTEND_SPARSE (R303): bounding, selection, attending, writing. -/
def sparseUnits (entries pages : Nat) : Nat := cdiv entries 64 + 1 + cdiv pages 256 + 1

/-- ATTEND_SPARSE with its entries known: selection, then promotion and merge, or the units of a long one. -/
def State.sparseRun (s : State) (o : Op) (n : Namespace) (d : Mem) : BodyOut :=
  let l := o.entries
  let plain := l.map (o.ctx d [] n)
  if plain.any s.attEarly then .done .retry 2 s
  else if !n.active && l.any (fun e => !e.1.refs.isEmpty && e.2.1 != 0) then .done .groupDegraded (s.groupResult n) s
  else match (if o.p 12 1 = 2 then none else plain.head?.bind AttCtx.missing) with
    | some r => .done .recompute r s
    | none =>
      s.withQuery o d (fun s =>
        let cs := s.attCtxs o n
        let sel := s.attended o cs
        if 64 < l.length then .long (sparseUnits l.length sel.length) 0 s else s.attPromote o n cs sel)

/-- ATTEND_SPARSE; under LIST its list is read once. -/
def bodyAttendSparse (o : Op) (s : State) : BodyOut :=
  let single := o.p 12 1 != 2
  let run := fun (n : Namespace) (v : Option View) => match s.attJudge o n with
    | .error st => .done st 0 s
    | .ok d => match v, o.work with
      | some v, _ =>
        let o := { o with view := some v }
        if o.entries.any (fun e => v.n < e.2.1) then .done .outOfRange 0 s
        else (s.setOp o.tag (fun o => { o with view := some v })).sparseRun o n d
      | none, .listed _ => s.sparseRun o n d
      | none, _ => s.withRead o (o.p 40 8) (16 * o.p 8 4) (fun b =>
          match s.readList n (Mem.write [] 0 b) 0 (o.p 8 4) with
          | .error st => .done st 0 s
          | .ok l => (s.setOp o.tag (fun o => { o with work := .listed l })).sparseRun { o with work := .listed l } n d)
  if single then s.withView o (fun n v => run n (some v)) else s.withNs o (fun n => run n none)

/-- ATTEND_SPARSE from a queue pair. -/
def execAttendSparse (c : Cmd) (s : State) : Host.Outcome State Fault Refusal := .next (s.submit 0x71 bodyAttendSparse c)

/-- The unit of a long ATTEND_SPARSE: the bounding units, the selection, which starts the promotions, the attend units,
each of which waits for its pages, and the unit that writes the result. -/
def unitAttendSparse (o : Op) (s : State) : UnitOut :=
  match s.nsAny o.handle with
  | none => .cut .badHandle 0 o.unitsDone s
  | some n =>
    let bounding := cdiv o.entries.length 64
    let cs := s.attCtxs o n
    let sel := s.attended o cs
    let next := o.unitsDone + 1
    let promote := fun (l : List (Nat × Nat × Bool)) (k : State → UnitOut) =>
      match s.promoteFor n ((s.belowDeck cs l).map (·.1)) (o.p 16 2) with
      | none => .cut .quotaExceeded 0 o.unitsDone s
      | some t => k t
    if o.unitsDone < bounding then .more 0 next s
    else if o.unitsDone = bounding then promote sel (fun s => .more 0 next s)
    else if next < o.unitsTotal then
      let part := (sel.drop (256 * (o.unitsDone - bounding - 1))).take 256
      if (s.belowDeck cs part).isEmpty then .more 0 next s else promote part .stay
    else if !(s.belowDeck cs sel).isEmpty then promote sel .stay
    else match s.attWrite o n cs sel with
      | .ok (r, t) => .last .ok r next t
      | .error (.done st r t) => .cut st r o.unitsDone t
      | .error _ => .stay s

/-- ATTEND_RESUME: a waiting attention command goes on once its pages are remapped (R294). -/
def execAttendResume (tag : Nat) (s : State) : Host.Outcome State Fault Refusal :=
  match s.op tag with
  | some o =>
    if !o.started then .next s
    else if o.opcode = 0x70 then .next (s.start bodyAttend tag)
    else if o.opcode = 0x71 then .next (s.start bodyAttendSparse tag) else .next s
  | none => .next s

/-- The span merges the piers' partials and the device writes the result (R292, R306). -/
def State.attMerge (s : State) (o : Op) : BodyOut :=
  match s.nsAny o.handle with
  | none => .done .badHandle 0 s
  | some n =>
    let cs := s.attCtxs o n
    let sel := s.attended o cs
    let gone := if o.opcode = 0x70 || o.p 12 1 != 2 then cs.findSome? AttCtx.missing else none
    match gone with
    | some r => .done .recompute r s
    | none =>
      if !(s.belowDeck cs sel).isEmpty then s.attPromote o n cs sel
      else match s.attWrite o n cs sel with
        | .ok (r, t) => .done .ok r t
        | .error x => x

/-- ATTEND_PARTIAL_MERGE. -/
def execAttendPartialMerge (tag : Nat) (s : State) : Host.Outcome State Fault Refusal :=
  match s.op tag with
  | some o => .next (if o.wait = .merge && !o.long then State.settle tag (s.attMerge o) else s)
  | none => .next s

end Sys2Proof.Machine
end

