-- ==== Sys2Proof/Machine/Groups.lean ====
section
/-! DEFINITION. Groups.lean: partners, their greetings, attestation and heartbeats; votes, evictions, drops and unindexes of a
stripe group; reconciliation (Stripe groups and the tray, R362 to R381; Tenancy, R395, R399). -/
namespace Sys2Proof.Machine

/-! ### Discovery and attestation (R365, R399) -/

/-- Do the device's session keys exist: does it count as claimed towards partners? -/
def State.inSession (s : State) : Bool := s.sec.life = .claimed || s.sec.life = .operating

/-- Each candidate that the discovery list holds is greeted (R365). -/
def execPartnerGreeting (s : State) : Host.Outcome State Fault Refusal :=
  if !s.boot.link || s.boot.halted then .next s
  else
    let s := (s.mgmt.parties.filter (·.kind == .partner)).foldl (fun s p => s.emit (.greeting p.route Config.identityDigest s.slot s.boot.tray s.inSession)) s
    .next { s with grp.lastGreeting := s.clock.now }

/-- A greeting: the device is discovered, or what is known of it changes; a claimed device attests it (R365, Table 17-3). -/
def execPartnerGreetingReceived (identity : BitVec 128) (slot tray : Nat) (claimed : Bool) (route : Nat) (s : State) :
    Host.Outcome State Fault Refusal :=
  let s := s.wake
  let d := (s.grp.devices.find? (·.identity == identity)).getD ⟨identity, slot, tray, claimed, route, false, 0, s.clock.now⟩
  let d := { d with slot := slot, tray := tray, claimed := claimed, route := route, seen := s.clock.now, attested := d.attested && claimed }
  let known := s.grp.devices.any (·.identity == identity)
  if !known && 1024 ≤ s.grp.devices.length then .next s
  else
    let s := { s with
      grp.devices := if known then upd (fun x : Device => x.identity == identity) (fun _ => d) s.grp.devices else s.grp.devices ++ [d]
      mgmt.parties := upd (fun p : Party => p.kind == .partner && p.route == route)
        (fun p => { p with identity := identity.toNat, dead := false, seen := s.clock.now }) s.mgmt.parties }
    .next (if s.inSession && claimed && !d.attested then s.emit (.attest route) else s)

/-- `f` on a discovered device. -/
def State.updDevice (s : State) (identity : Nat) (f : Device → Device) : State :=
  { s with grp.devices := upd (fun d : Device => d.identity.toNat == identity) f s.grp.devices }

/-- A lease with a partner whose session has ended is lost, in either role (Table 7-12). -/
def State.losePartnerLeases (s : State) (entry : Nat) : State :=
  let open_ := fun l : Lease => l.partner == entry && (match l.state with
    | .requested | .active | .reclaiming | .returning => true
    | .lost | .closed => false)
  (s.tiers.leases.filter open_).foldl (fun s l => s.loseLease l.id) s

/-- `f` on a partner. -/
def State.updPartner (s : State) (entry : Nat) (f : Partner → Partner) : State :=
  { s with grp.partners := upd (·.entry == entry) f s.grp.partners }

/-- A partner by its entry. -/
def State.partner (s : State) (entry : Nat) : Option Partner := s.grp.partners.find? (·.entry == entry)

/-- The member slot of a TRAY partner that the table does not ignore (R364). -/
def State.memberOf (s : State) (entry : Nat) : Option Nat :=
  if (trayPartners s.stg.live s.slot).contains entry then some (partnerMember s.stg.live entry) else none

/-- The leader aborts the insert of a block (R371). -/
def State.abortBallot (s : State) (g : GroupBlock) : State :=
  (s.closeBallot g msgAbort 0).groupAbort g

/-- A partner goes DOWN: the ballots that hold its vote are aborted, and its namespaces degrade (R367, R371, R375).  `end_`
ends its session: its attestation and its leases go. -/
def State.partnerDown (s : State) (entry : Nat) (end_ : Bool) : State :=
  match s.partner entry with
  | none => s
  | some p =>
    let s := s.updPartner entry (fun p => if end_ then p.drop else { p with state := .down, alertSince := none })
    let s := if end_ then (match s.memberOf entry with
      | some m => (s.losePartnerLeases entry).forgetMember m
      | none => s.losePartnerLeases entry) else s
    if p.state = .down then s.regroup
    else match s.memberOf entry with
      | none => s
      | some m =>
        let s := (s.bump 0x2C6 1).groupChanged
        ((s.grp.ballots.filter (fun b => bit b.votes m)).foldl (fun s b => s.abortBallot b.block) s).regroup

/-- The partner channel keys of a partner that passed every check (R399). -/
def State.partnerAttested (s : State) (partner : Nat) (identity : BitVec 128) (session : Nat) : State :=
  let s := s.draw.2
  let s := s.updDevice identity.toNat (fun d => { d with attested := true, session := session })
  match (if partnerValid s.stg.live partner then s.partner partner else none) with
  | none => s
  | some p =>
    let s := if p.session = session then s else s.partnerDown partner true
    (s.updPartner partner (fun p => { p with
      attested := p.session = session, keySince := some s.clock.now })).groupChanged

/-- A partner's report is checked: signature, nonce, identity and tenant; a pass derives the channel keys, and waits for
entropy where there is none (R393, R395, R399). -/
def execPartnerAttestation (partner : Nat) (sigOk nonceOk : Bool) (identity : BitVec 128) (tenant session : Nat) (s : State) :
    Host.Outcome State Fault Refusal :=
  let s := s.wake
  let named := !partnerValid s.stg.live partner || partnerId s.stg.live partner = identity.toNat
  if !(s.inSession && sigOk && nonceOk && named && tenant = s.sec.tenant) then .next s
  else if s.entropyOk then .next (s.partnerAttested partner identity session)
  else if s.sec.latched then .next s.entropyFailed
  else .next { s with sec.waiting := s.sec.waiting ++ [(.partner partner identity session, s.clock.now)] }

/-- A channel key's limit, 2^32 messages or 1 h: the partner is DOWN until a new key exchange succeeds (Table 14-9). -/
def execPartnerKeyLimit (partner : Nat) (s : State) : Host.Outcome State Fault Refusal :=
  match s.partner partner with
  | some p =>
    .next (if p.keySince.isNone then s
      else
        let s := s.partnerDown partner false
        let s := s.updPartner partner (fun p => { p with attested := false, keySince := none })
        s.updDevice (partnerId s.stg.live partner) (fun d => { d with attested := false }))
  | none => .next s

/-! ### Heartbeats (R366 to R368) -/

/-- A heartbeat to every partner with a valid entry, with this device's session and, in link-watch, the live port; a halted device
sends none (R366, R368). -/
def execPartnerHeartbeatSend (s : State) : Host.Outcome State Fault Refusal :=
  if !s.boot.link || s.boot.halted then .next s
  else .next { s.beatPartners (s.sec.life = .releasing) with grp.lastHeartbeat := s.clock.now }

/-- A heartbeat arrived from a partner of the same session. -/
def State.partnerBeat (s : State) (p : Partner) (up : Bool) : State :=
  let s := s.updPartner p.entry (fun p => { p with
    state := if up then .up else p.state, lastBeat := s.clock.now, alertSince := none })
  let mine := fun l : Lease => l.partner == p.entry
  let s := { s with tiers.leases := upd mine (fun l => { l with lastBeat := s.clock.now }) s.tiers.leases }
  if !(up && p.state != .up) then s
  else
    let s := s.groupChanged.regroup
    match s.memberOf p.entry with
    | some m => if p.state = .down then s.tellHeld m else s
    | none => s

/-- A heartbeat (Table 13-2, R368): its session, whether it announces that session's end, and its link-watch route. -/
def execPartnerHeartbeatReceived (partner session : Nat) (linkWatch : Bool) (route : Nat) (sessionEnd : Bool) (s : State) :
    Host.Outcome State Fault Refusal :=
  match s.partner partner with
  | none => .next s
  | some p =>
    let s := s.updPartner partner (fun p => { p with
      linkWatch := linkWatch, route := if linkWatch then route else partnerRoute s.stg.live partner })
    let known := s.grp.devices.any (fun d => d.identity.toNat == partnerId s.stg.live partner && d.attested && d.session == session)
    if sessionEnd then .next (s.partnerDown partner true)
    else if session = p.session then
      .next (s.partnerBeat p (p.state != .down || p.attested || known))
    else
      let s := s.partnerDown partner true
      if !known then .next s
      else
        let s := s.bump 0x2C7 (b2n (p.session != 0))
        let s := s.updPartner partner (fun p => { p with session := session, attested := true, keySince := some (p.keySince.getD s.clock.now) })
        .next (match s.partner partner with
          | some p => s.partnerBeat p true
          | none => s)

/-- No heartbeat for 3 ms: SUSPECT. -/
def execPartnerSuspectTimeout (partner : Nat) (s : State) : Host.Outcome State Fault Refusal :=
  match s.partner partner with
  | some p => .next (if p.state = .up && p.lastBeat + 3000000 ≤ s.clock.now then
      (s.updPartner partner (fun p => { p with state := .suspect })).groupChanged else s)
  | none => .next s

/-- No heartbeat for 10 ms: DOWN. -/
def execPartnerDownTimeout (partner : Nat) (s : State) : Host.Outcome State Fault Refusal :=
  match s.partner partner with
  | some p => .next (if p.state != .down && p.lastBeat + 10000000 ≤ s.clock.now then s.partnerDown partner false else s)
  | none => .next s

/-- TRAY_ALERT_N falls: a heartbeat request to each TRAY partner (R366). -/
def execTrayAlertFall (s : State) : Host.Outcome State Fault Refusal :=
  .next ((trayPartners s.stg.live s.slot).foldl (fun s i =>
    match s.partner i with
    | some p => (s.emit (.partner i msgHeartbeatRequest none 0)).updPartner i (fun p' => { p' with
        alertSince := if p.state = .down then none else some s.clock.now })
    | none => s) s)

/-- No answer within 100 µs of the alert: DOWN. -/
def execAlertAnswerTimeout (partner : Nat) (s : State) : Host.Outcome State Fault Refusal :=
  match s.partner partner with
  | some p => .next (if p.alertSince.any (fun t => decide (t + 100000 ≤ s.clock.now)) then s.partnerDown partner false else s)
  | none => .next s

/-! ### The two-phase insert (R370, R371) -/

/-- A vote at the leader; with eight matching votes it sends COMMIT (R370). -/
def State.takeVote (s : State) (slot : Nat) (b : GroupBlock) (full : Bool) : State :=
  match s.groupNs b.salt with
  | some n =>
    if !(s.leads n && n.active && s.memberUp slot) && !s.oldVote slot b then s
    else
      let s := s.castVote slot b full
      match s.decided b with
      | some full => (s.closeBallot b msgCommit (b2n full)).groupCommit b full
      | none => s
  | none => s

/-- 5 ms after the first vote without eight: the leader sends ABORT. -/
def execVoteTimeout (b : GroupBlock) (s : State) : Host.Outcome State Fault Refusal :=
  .next (if s.grp.ballots.any (fun x => x.block == b && decide (x.since + 5000000 ≤ s.clock.now)) then s.abortBallot b else s)

/-- 6 ms after its vote without an answer: a member treats the vote as aborted. -/
def execVoteAnswerTimeout (b : GroupBlock) (s : State) : Host.Outcome State Fault Refusal :=
  .next (if s.grp.prepared.any (fun x => x.block == b && decide (x.since + 6000000 ≤ s.clock.now)) then s.groupAbort b else s)

/-! ### Group evictions (R373) -/

/-- The order carried out: the entry goes, and the slice is freed. -/
def State.groupEvict (s : State) (g : GroupBlock) : State :=
  let s := { s with grp.proposals := s.grp.proposals.filter (fun p => p.block != g) }
  match s.groupBlock g with
  | some b => (s.bumpAt 0x2C3 1 (some (s.blockPart b)) ((s.nsOf b).map (·.index))).evictBlocks [b.id]
  | none => s

/-- A proposal at the leader: it asks all eight members. -/
def State.takeProposal (s : State) (slot : Nat) (b : GroupBlock) : State :=
  match s.groupNs b.salt with
  | some n =>
    if !s.leads n || !n.active || !s.memberUp slot || s.grp.proposals.any (fun p => p.block == b && !p.refused) then s
    else
      let free := s.groupFree b
      let p : Proposal := ⟨b, if free then 2 ^ s.slot else 0, !free, s.clock.now, false⟩
      { s with grp.proposals := p :: s.grp.proposals.filter (fun p => p.block != b) }.toMembers msgQuery (some b) 0
  | none => s

/-- A query at a member: HELD or FREE. -/
def State.takeQuery (s : State) (b : GroupBlock) : State :=
  match s.groupNs b.salt with
  | some n => s.toLeader n msgAnswer b (b2n (s.groupFree b))
  | none => s

/-- An answer at the leader: with eight FREE it orders the eviction. -/
def State.takeAnswer (s : State) (slot : Nat) (b : GroupBlock) (free : Bool) : State :=
  match s.groupNs b.salt, s.grp.proposals.find? (fun p => p.block == b && !p.refused) with
  | some n, some p =>
    if !s.leads n || p.since + 1000000 ≤ s.clock.now then s
    else
      let votes := if free then Nat.lor p.free (2 ^ slot) else p.free
      if free && votes % 256 = 255 then (s.toMembers msgEvict (some b) 0).groupEvict b
      else { s with grp.proposals := upd (fun p : Proposal => p.block == b) (fun p => { p with
        free := votes, refused := !free }) s.grp.proposals }
  | _, _ => s

/-- 1 ms without a decision: the proposal lapses; its proposer keeps it until it may propose again. -/
def execEvictionProposalLapse (b : GroupBlock) (s : State) : Host.Outcome State Fault Refusal :=
  let due := fun p : Proposal => p.block == b && decide (p.since + 1000000 ≤ s.clock.now)
  .next { s with grp.proposals := s.grp.proposals.filterMap (fun p =>
    if !due p then some p else if p.mine && s.clock.now < p.since + 11000000 then some { p with refused := true } else none) }

/-! ### Group drops and unindexes (R373, R374) -/

/-- A drop order carried out: the block is recorded as dropped, in SPILL namespaces as well; one only PREPARED is aborted
(R373, R377). -/
def State.groupDrop (s : State) (g : GroupBlock) : State :=
  let s := s.groupAbort g
  match s.groupBlock g with
  | some b => s.dropWith b.id 0x0C true false
  | none => s

/-- An unindex order carried out: the entry goes, the block stays. -/
def State.groupUnindex (s : State) (g : GroupBlock) : State :=
  match s.groupBlock g with
  | some b => if b.indexed then (s.unindex b.id).gc else s
  | none => s

/-- A member's report at the leader, which orders every member while the namespace is ACTIVE. -/
def State.leadOrder (s : State) (b : GroupBlock) (kind : Nat) (do_ : State → State) : State :=
  match s.groupNs b.salt with
  | some n => if s.leads n && n.active then do_ (s.toMembers kind (some b) 0) else s
  | none => s

/-! ### Reconciliation and namespaces (R375, R377) -/

/-- AUTOSEAL goes on in namespaces that are ACTIVE again (Table 13-5). -/
def State.resumeSeals (s : State) : State := (s.store.chains.map (·.slot)).foldl (fun s i => autoseal i s 3) s

/-- A namespace's reconciliation is over: it is ACTIVE, and what was kept for it goes. -/
def State.reconciled (s : State) (n : Namespace) : State :=
  let s := (s.updNs n.index (fun n => { n with gstate := .active })).groupChanged
  let s := { s with
    grp.lists := s.grp.lists.filter (fun l => l.2.1 != n.salt)
    grp.kept := s.grp.kept.filter (fun g => g.salt != n.salt)
    grp.localDrops := s.grp.localDrops.filter (fun g => g.salt != n.salt) }
  s.resumeSeals

/-- The leader compares all eight lists: it drops what some member lacks, holds only PREPARED or dropped, unindexes what some
member lost from its index, and the namespace is ACTIVE (R374, R377). -/
def State.compareLists (s : State) (n : Namespace) : State :=
  let ls := s.grp.lists.filter (fun l => l.2.1 == n.salt)
  let all := ls.flatMap (fun l => l.2.2)
  let names := (all.map (·.block)).eraseDups
  let held := fun g : GroupBlock => ls.all (fun l => l.2.2.any (fun x => x.block == g && !x.prepared && !x.dropped)) &&
    !all.any (fun x => x.block == g && (x.prepared || x.dropped))
  let s := (names.filter (fun g => !held g)).foldl (fun s g => (s.toMembers msgDrop (some g) 0).groupDrop g) s
  let lost := names.filter (fun g => held g && all.any (fun x => x.block == g && !x.indexed))
  let s := lost.foldl (fun s g => (s.toMembers msgUnindex (some g) 0).groupUnindex g) s
  (s.toMembers msgList (some ⟨n.salt, 0, 0, 0⟩) 0).reconciled n

/-- A list: at the leader it waits for the others; at a member, the leader's own list says that it has compared them (log
entry 43). -/
def State.takeLines (s : State) (slot : Nat) (salt : BitVec 128) (lines : List ReconcileLine) : State :=
  match s.groupNs salt with
  | none => s
  | some n =>
    if s.leads n then
      let s := { s with grp.lists := (slot, salt, lines) :: s.grp.lists.filter (fun l => !(l.1 == slot && l.2.1 == salt)) }
      if n.gstate = .reconciling && (List.range 8).all (fun m => s.grp.lists.any (fun l => l.1 == m && l.2.1 == salt)) then
        s.compareLists n else s
    else if n.gstate = .reconciling && s.leader n = some slot then s.reconciled n else s

/-- A member reports that it holds, or has deleted, a width-8 namespace; other parameters than this device's keep it in
FORMING, with a record (R363, R375). -/
def execMemberNamespaceReport (slot : Nat) (salt : BitVec 128) (holds : Bool) (params : MemberParams) (s : State) :
    Host.Outcome State Fault Refusal :=
  let s := s.wake
  if slot = s.slot then .next s
  else
    let rest := s.grp.reports.filter (fun r => !(r.1 == slot && r.2.1 == salt))
    let s := { s with grp.reports := if holds then rest ++ [(slot, salt, params)] else rest }
    match s.groupNs salt with
    | none => .next s
    | some n =>
      let bad := s.mismatched salt n.params
      let s := s.matchReports salt
      let s := if bad && !n.mismatch then s.log ⟨.refused, 0x0503, 0x3013, none, some n.handle, none, slot, false⟩ else s
      .next s.regroup.resumeSeals

/-! ### Messages on the partner channel (R366, R368) -/

/-- What a message about a group action does. -/
def State.takeMsg (s : State) : PartnerMsg → State
  | .vote slot b full => s.takeVote slot b full
  | .commit b unindexed => s.groupCommit b unindexed
  | .abort b => s.groupAbort b
  | .proposal slot b => s.takeProposal slot b
  | .query b => s.takeQuery b
  | .answer slot b free => s.takeAnswer slot b free
  | .evict b => s.groupEvict b
  | .dropReport b => s.leadOrder b msgDrop (fun s => s.groupDrop b)
  | .drop b => s.groupDrop b
  | .unindexReport b => s.leadOrder b msgUnindex (fun s => s.groupUnindex b)
  | .unindex b => s.groupUnindex b
  | .lines slot salt lines => s.takeLines slot salt lines

/-- A message arrives: it wakes a device in link-watch, which answers it once the deck is back (R368). -/
def State.partnerMsg (s : State) (m : PartnerMsg) : State :=
  let s := s.wake
  if s.boot.linkwatch && !s.boot.awakeDeck then { s with grp.held := s.grp.held ++ [m] } else s.takeMsg m

/-- The messages that waited for the deck, in order. -/
def State.answerHeld (s : State) : State :=
  if s.boot.linkwatch && !s.boot.awakeDeck then s
  else s.grp.held.foldl State.takeMsg { s with grp.held := [] }

/-- A vote reaches the leader; DUP concerns only the voter's own dedup (R370). -/
def execVoteReceived (slot : Nat) (b : GroupBlock) (_dup full : Bool) (s : State) : Host.Outcome State Fault Refusal :=
  .next (s.partnerMsg (.vote slot b full))
/-- COMMIT reaches a member. -/
def execGroupCommitReceived (b : GroupBlock) (unindexed : Bool) (s : State) : Host.Outcome State Fault Refusal :=
  .next (s.partnerMsg (.commit b unindexed))
/-- ABORT reaches a member. -/
def execGroupAbortReceived (b : GroupBlock) (s : State) : Host.Outcome State Fault Refusal := .next (s.partnerMsg (.abort b))
/-- A proposal reaches the leader. -/
def execEvictionProposalReceived (slot : Nat) (b : GroupBlock) (s : State) : Host.Outcome State Fault Refusal :=
  .next (s.partnerMsg (.proposal slot b))
/-- A query reaches a member. -/
def execEvictionQueryReceived (b : GroupBlock) (s : State) : Host.Outcome State Fault Refusal := .next (s.partnerMsg (.query b))
/-- An answer reaches the leader. -/
def execEvictionAnswerReceived (slot : Nat) (b : GroupBlock) (free : Bool) (s : State) : Host.Outcome State Fault Refusal :=
  .next (s.partnerMsg (.answer slot b free))
/-- An eviction order reaches a member. -/
def execGroupEvictionOrder (b : GroupBlock) (s : State) : Host.Outcome State Fault Refusal := .next (s.partnerMsg (.evict b))
/-- A loss report reaches the leader. -/
def execDropReportReceived (b : GroupBlock) (s : State) : Host.Outcome State Fault Refusal := .next (s.partnerMsg (.dropReport b))
/-- A drop order reaches a member. -/
def execGroupDropOrder (b : GroupBlock) (s : State) : Host.Outcome State Fault Refusal := .next (s.partnerMsg (.drop b))
/-- A report of a lost entry reaches the leader. -/
def execUnindexReportReceived (b : GroupBlock) (s : State) : Host.Outcome State Fault Refusal :=
  .next (s.partnerMsg (.unindexReport b))
/-- An unindex order reaches a member. -/
def execGroupUnindexOrder (b : GroupBlock) (s : State) : Host.Outcome State Fault Refusal := .next (s.partnerMsg (.unindex b))
/-- A list reaches the leader, or the leader's reaches a member. -/
def execReconcileListReceived (slot : Nat) (salt : BitVec 128) (lines : List ReconcileLine) (s : State) :
    Host.Outcome State Fault Refusal := .next (s.partnerMsg (.lines slot salt lines))

/-! ### Registers (R381) -/

/-- A mask of the member slots that `f` selects. -/
def slotMask (f : Nat → Bool) : Nat := total ((List.range 8).map (fun m => if f m then 2 ^ m else 0))

/-- DEV_GROUP_STATUS (Table 13-7). -/
def State.groupStatus (s : State) : Nat :=
  let tray := (trayPartners s.stg.live s.slot).filterMap s.partner
  let wide := s.store.namespaces.filter (fun n => n.width = 8 && !n.deleting)
  let count := fun f : Namespace → Bool => min 255 (wide.filter f).length
  b2n (tray.length = 7 && tray.all (fun p => p.state = .up && p.attested)) * 2 ^ 31 + s.slot * 2 ^ 24 +
  count (fun n => n.gstate = .reconciling) * 2 ^ 16 + count (fun n => n.gstate = .forming || n.gstate = .degraded) * 2 ^ 8 +
  count (fun n => s.leads n)

/-- DEV_GROUP_MEMBERS (Table 13-8). -/
def State.groupMembers (s : State) : Nat :=
  let is := fun (st : MemberState) (m : Nat) => (s.member m).any (fun p => p.state == st)
  slotMask (is .down) * 2 ^ 24 + slotMask (is .suspect) * 2 ^ 16 + slotMask (fun m => m = s.slot || is .up m) * 2 ^ 8 +
  slotMask (fun m => m = s.slot || (s.member m).any (·.attested))

end Sys2Proof.Machine
end

