-- ==== Sys2Proof/Machine/Parties.lean ====
section
/-! DEFINITION. Parties.lean: the discovery list (R463, Table 17-3). -/
namespace Sys2Proof.Machine

/-- The number of a party's kind in reports to management. -/
def partyCode : PartyKind → Nat
  | .host => 0
  | .accelerator => 1
  | .partner => 2
  | .fabricManager => 3

/-- Does an entry of this kind concern a link? -/
def partyOfLink : PartyKind → Bool
  | .host | .fabricManager => true
  | .accelerator | .partner => false

/-- A change of the list is reported to management, and raises LINK when it concerns a link. -/
def State.partyChanged (s : State) (k : PartyKind) (link : Nat) : State :=
  let s := s.emit (.report (partyCode k) link)
  if partyOfLink k then s.linkChanged else s

/-- Is this the entry? -/
def Party.names (k : PartyKind) (link route : Nat) (p : Party) : Bool := p.kind == k && p.link == link && p.route == route

/-- A party is seen: a new entry while the list has room, else its entry is brought up to date. -/
def State.seeParty (s : State) (k : PartyKind) (link route : Nat) : State :=
  if s.mgmt.parties.any (Party.names k link route) then
    { s with mgmt.parties := upd (Party.names k link route) (fun p : Party => { p with misses := 0, seen := s.clock.now }) s.mgmt.parties }
  else if 2048 ≤ s.mgmt.parties.length || (k = .partner && 1024 ≤ (s.mgmt.parties.filter (·.kind == .partner)).length) then s
  else State.partyChanged { s with mgmt.parties := s.mgmt.parties ++ [⟨k, link, route, 0, false, 0, s.clock.now, s.clock.now⟩] } k link

/-- The entries that `sel` selects leave the list. -/
def State.dropParties (s : State) (sel : Party → Bool) : State :=
  (s.mgmt.parties.filter sel).foldl (fun s p => s.partyChanged p.kind p.link)
    { s with mgmt.parties := s.mgmt.parties.filter (fun p => !sel p) }

/-- A host's entry shows DEAD, or no longer. -/
def State.partyDead (s : State) (f : Option Fn) (dead : Bool) : State :=
  match f with
  | none => s
  | some f =>
    let hit := fun p : Party => Party.names .host f.link f.ld p && p.dead != dead
    if s.mgmt.parties.any hit then
      State.partyChanged { s with mgmt.parties := upd hit (fun p => { p with dead := dead, changed := s.clock.now }) s.mgmt.parties } .host f.link
    else s

/-- An FM API command on a link's switch mailbox shows its fabric manager (Table 17-3). -/
def State.fmSeen (s : State) (link : Nat) : State := s.seeParty .fabricManager link 0

end Sys2Proof.Machine
end

