-- ==== Sys2Proof/Machine/PoolMem.lean ====
section
/-! DEFINITION. PoolMem.lean: the bytes of pool memory with their poison and copies on write, tail windows read as memory, and
ranges of ACTIVE extents (The shared memory pool, R317, R333, R337; Key-value pages, R107). -/
namespace Sys2Proof.Machine

/-! ### Bytes, poison and copies on write (R331, R333, R334, R421) -/

/-- Memory without the bytes of a range. -/
def Mem.clear (m : Mem) (a n : Nat) : Mem := m.filter (fun c => !(a ≤ c.1 && c.1 < a + n))

/-- The 64-byte lines of a range. -/
def linesOf (a n : Nat) : List Nat := if n = 0 then [] else (List.range ((a + n - 1) / 64 + 1 - a / 64)).map (· + a / 64)

/-- The 4 KiB granules of a range. -/
def granulesOf (a n : Nat) : List Nat := if n = 0 then [] else (List.range ((a + n - 1) / 4096 + 1 - a / 4096)).map (· + a / 4096)

/-- A snapshot expires: commands accepted from now on get VERSION_GONE (R334). -/
def State.expireSnap (s : State) (x : PoolSnap) : State :=
  if x.expired.isSome then s
  else
    let s := { s with pool.snaps := upd (fun y : PoolSnap => y.slot == x.slot) (fun y => { y with expired := some s.q.accepted }) s.pool.snaps }
    { s.bump 0x20A 1 with pool.snaps := s.pool.snaps.filterMap (PoolSnap.kept s.q.ops) }

/-- One granule copied for one snapshot before it changes, where the snapshot still takes it. -/
def State.copyGranule (s : State) (slot g : Nat) : State :=
  match s.pool.snaps.find? (·.slot == slot) with
  | none => s
  | some x =>
    if x.maker.isSome || g * 4096 < x.base || x.base + x.length ≤ g * 4096 || x.copies.any (·.1 == g) then s
    else
      let s := if x.budget < x.used + 4096 then s.expireSnap x else s
      match s.pool.snaps.find? (·.slot == slot) with
      | none => s
      | some x =>
        if x.expired.isSome && !x.isRead s.q.ops then s
        else
          let m := s.pool.mem.filter (fun c => c.1 / 4096 == g)
          let copied := { x with
            copies := x.copies ++ [(g, m)], used := x.used + 4096, bad := x.bad ++ s.pool.poison.filter (fun l => l / 64 == g) }
          { s with pool.snaps := upd (fun y : PoolSnap => y.slot == slot) (fun _ => copied) s.pool.snaps }.bump 0x209 1

/-- Every snapshot's copies taken before a range changes (R333). -/
def State.copyOnWrite (s : State) (a n : Nat) : State :=
  (granulesOf a n).foldl (fun s g => (s.pool.snaps.map (·.slot)).foldl (fun s i => s.copyGranule i g) s) s

/-- The stack or the channel of an address of pool memory: by the places of its extent's granules (R314). -/
def State.placeOf (s : State) (a : Nat) : Nat :=
  (s.extentAt (a / 64 * 64) 64).elim 0 (fun e => e.places.getD (a / 4096 % 512 % max 1 e.places.length) 0)

/-- Bytes of pool memory in the deck written or read at the piers of their granules (R314, Table 16-2). -/
def State.poolIo (s : State) (a n : Nat) (write : Bool) : State :=
  (granulesOf a n).foldl (fun s g =>
    let k := min (a + n) (4096 * g + 4096) - max a (4096 * g)
    if regionBase 1 ≤ 4096 * g then s else s.pierIo (s.placeOf (4096 * g) % 6) (if write then k else 0) (if write then 0 else k)) s

/-- Bytes stored to pool memory: copies on write are taken first; a line stored whole loses its poison, and a poisoned
store poisons its lines (R331, R421). -/
def State.poolStore (s : State) (a : Nat) (b : List Byte) (poison : Bool) : State :=
  let s := s.copyOnWrite a b.length
  let ls := linesOf a b.length
  let whole := fun l => a ≤ l * 64 && l * 64 + 64 ≤ a + b.length
  let s := s.poolIo a b.length true
  let rest := s.pool.poison.filter (fun l => !(ls.contains l && whole l))
  { s with
    pool.mem := s.pool.mem.write a b
    pool.poison := if poison then rest ++ ls.filter (fun l => !rest.contains l) else rest }

/-- Lines poisoned. -/
def State.poisonLines (s : State) (ls : List Nat) : State :=
  { s with pool.poison := s.pool.poison ++ ls.filter (fun l => !s.pool.poison.contains l) }

/-! ### Tail windows as memory (R107, R109, R317) -/

/-- What a load of a window returns: the slot's pages and token IDs, or the control page's words. -/
def State.windowLoad (s : State) (c : Chain) (n : Namespace) (off len : Nat) : List Byte :=
  let t := c.view.refs.length + c.view.unsealed.length
  let slotByte := fun o : Nat =>
    let slot := o / n.slotS
    let i := o % n.slotS
    let id := if t % 2 = slot then c.view.tail else c.next
    match id.bind s.block with
    | none => 0#8
    | some b =>
      if i / n.pageP < n.geo.l then
        (match b.pages.find? (·.layer == i / n.pageP) with
        | some p => if i % n.pageP < n.geo.pageBytes n.geo.fmt then p.data.byte (i % n.pageP) else 0#8
        | none => 0#8)
      else
        let k := i - n.geo.l * n.pageP
        BitVec.ofNat 8 ((b.tokens.getD (k / 4) 0) / 2 ^ (8 * (k % 4)))
  let control := leBytes 8 c.view.n ++ leBytes 8 c.view.refs.length ++ leBytes 8 c.view.version ++ leBytes 4 c.discard
  (List.range len).map (fun i =>
    if off + i < 2 * n.slotS then slotByte (off + i) else control.getD (off + i - 2 * n.slotS) 0#8)

/-- Is a line of a window poisoned: a line of a slot's layer-page, or its token record? -/
def State.windowBad (s : State) (c : Chain) (n : Namespace) (off : Nat) : Bool :=
  let t := c.view.refs.length + c.view.unsealed.length
  let id := if t % 2 = off / n.slotS then c.view.tail else c.next
  let i := off % n.slotS
  off < 2 * n.slotS && (id.bind s.block).any (fun b =>
    if i / n.pageP < n.geo.l then b.pages.any (fun p => p.layer == i / n.pageP && p.poison.contains (i % n.pageP / 64)) else b.tokensBad)

/-! ### Device memory by its DPA: the extents' bytes, and the windows in them (R103, R119, R317) -/

/-- Does a window of some chains, or one that has gone, lie in a range? -/
def State.windowsIn (s : State) (chains : List Chain) (a n : Nat) : Bool :=
  s.store.unmapped.any (fun w => decide (a < w.1 + w.2.1) && decide (w.1 < a + n)) ||
  chains.any (fun c => match c.window, s.nsAt c.view.ns c.view.gen with
    | some w, some m => decide (a < w.base + m.windowBytes) && decide (w.base < a + n)
    | _, _ => false)

/-- Bytes of memory, with windows as some chains bind them. -/
def State.dpaRead (s : State) (chains : List Chain) (a n : Nat) : List Byte :=
  if s.windowsIn chains a n then
    (List.range n).map (fun i => match s.windowOf chains (a + i) with
      | some (c, m, off) => (s.windowLoad c m off 1).headD 0#8
      | none => s.pool.mem.byte (a + i))
  else s.pool.mem.read a n

/-- Is a 64-byte line of memory poisoned? -/
def State.dpaBad (s : State) (chains : List Chain) (l : Nat) : Bool :=
  match s.windowOf chains (64 * l) with
  | some (c, m, off) => s.windowBad c m off
  | none => (s.goneAt (64 * l)).isSome || s.pool.poison.contains l

/-- Bytes stored to memory; what falls into a window goes there line by line. -/
def State.dpaStore (s : State) (a : Nat) (b : List Byte) (poison : Bool) : State :=
  if s.windowsIn s.store.chains a b.length then
    (linesOf a b.length).foldl (fun s l =>
      let lo := max a (64 * l)
      let part := (b.drop (lo - a)).take (min (a + b.length) (64 * l + 64) - lo)
      (s.windowStore lo part poison).getD (s.poolStore lo part poison)) s
  else s.poolStore a b poison

/-- Lines of memory poisoned by what fed them (R339). -/
def State.dpaPoison (s : State) (ls : List Nat) : State :=
  ls.foldl (fun s l => if s.windowsIn s.store.chains (64 * l) 64 then s.dpaStore (64 * l) (s.dpaRead s.store.chains (64 * l) 64) true
    else s.poisonLines [l]) s

/-! ### Ranges (R337) -/

/-- A range cut at 2 MiB boundaries, the unit of extents and of range entries. -/
def pieces (a n : Nat) : List (Nat × Nat) :=
  if n = 0 then []
  else (List.range ((a + n - 1) / 2 ^ 21 + 1 - a / 2 ^ 21)).map (fun i =>
    let lo := max a ((a / 2 ^ 21 + i) * 2 ^ 21)
    (lo, min (a + n) ((a / 2 ^ 21 + i + 1) * 2 ^ 21) - lo))

/-- Does a range lie in ACTIVE extents of one partition? -/
def State.rangeActive (s : State) (a n : Nat) : Bool :=
  let es := (pieces a n).map (fun p => s.extentAt p.1 p.2)
  match es with
  | some e :: _ => es.all (fun x => x.any (fun y => y.isActive && y.partition == e.partition))
  | _ => false

/-- Regions over an extent that has left ACTIVE die (Table 12-6). -/
def State.killRegions (s : State) : State :=
  { s with rma.regions := upd (fun r : RRegion => r.pages.isNone && !s.rangeActive r.base r.length) (fun r => { r with dead := true }) s.rma.regions }

end Sys2Proof.Machine
end

