-- ==== Sys2Proof/Machine/Inbound.lean ====
section
/-! DEFINITION. Inbound.lean: regions, notification queues, and what an inbound message does once memory is ready for it
(Remote access over Ethernet, R348 to R351, R356, R357, R359). -/
namespace Sys2Proof.Machine

/-! ### Regions (R348, R349, R351) -/

/-- A region by its slot. -/
def State.regionAt (s : State) (slot : Nat) : Option RRegion := s.rma.regions.find? (·.slot == slot)

/-- A registered region by its key. -/
def State.regionKey (s : State) (key : Nat) : Option RRegion := s.rma.regions.find? (fun r => r.key == key && !r.dying)

/-- The entry of the region-key cache that a request finds: the live one or, within 512 µs of a DIRECT_KEY, one that it replaced; the
request uses it wholly (R93, R352). -/
def State.pickKey (s : State) (key : Nat) : Option RRegion × State :=
  let old := s.rma.stale.filter (fun x => x.entry.key = key && s.clock.now ≤ x.until_)
  match s.regionKey key, old with
  | some r, _ :: _ =>
    let k := Config.staleEntry s.rma.picks % (old.length + 1)
    (some (if k = 0 then r else (old[k - 1]?).elim r (·.entry)), { s with rma.picks := s.rma.picks + 1 })
  | r, _ => (r, s)

/-- The region as an entry shows it: an entry that DIRECT_KEY has replaced stands while its own range lies in ACTIVE extents. -/
def State.entryNow (s : State) (e : RRegion) : Option RRegion :=
  ((s.regionAt e.slot).filter (fun r => r.gen == e.gen)).map (fun r =>
    if e.base = r.base && e.length = r.length then { e with dead := r.dead }
    else { e with dead := !s.rangeActive e.base e.length })

/-- The blocks of a PAGES region, through the snapshot it holds. -/
def State.regionPages (s : State) (r : RRegion) : Option Source2 :=
  r.pages.bind (fun x => (s.store.snapshots.find? (fun y => mkHandle 18 y.slot y.gen == x.1)).bind (fun y =>
    (s.nsAt y.view.ns y.view.gen).map (fun n => .kv n y.view x.2.1 x.2.2)))

/-- Does a region still stand: its extents attached, or its snapshot held? -/
def State.regionLive (s : State) (r : RRegion) : Bool :=
  if r.pages.isSome then (s.regionPages r).isSome else !r.dead

/-- The layer-pages of a PAGES layout that a range covers: page number, layer, and block within the selection (Table 9-1). -/
def Source2.pagesIn (x : Source2) (off n : Nat) : List (Nat × Nat × Nat) := match x with
  | .kv _ _ _ cnt =>
    if n = 0 then []
    else (List.range ((off + n - 1) / max 1 x.q + 1 - off / max 1 x.q)).map (fun i =>
      let k := off / max 1 x.q + i
      (k, k / max 1 cnt, k % max 1 cnt))
  | .tiles .. => []

/-- Bytes of a PAGES region. -/
def State.pagesRead (s : State) (x : Source2) (off n : Nat) : List Byte :=
  (x.pagesIn off n).flatMap (fun p =>
    let img := (s.unitSegs x 0 p.2.1 p.2.2 1 0 0).flatMap (·.2)
    let lo := max off (p.1 * x.q)
    (img.drop (lo - p.1 * x.q)).take (min (off + n) ((p.1 + 1) * x.q) - lo))

/-- Bytes of a region. -/
def State.regionRead (s : State) (r : RRegion) (off n : Nat) : List Byte :=
  match s.regionPages r with
  | some x => s.pagesRead x off n
  | none => s.dpaRead s.store.chains (r.base + off) n

/-- Why a range of a region cannot be read: a dropped block, or the statuses of R217. -/
def State.regionBad (s : State) (r : RRegion) (off n : Nat) : Option Status :=
  match s.regionPages r with
  | some x => (x.pagesIn off n).findSome? (fun p => s.unreadable x p.2.1 p.2.2 1)
  | none => if (linesOf (r.base + off) n).any (s.dpaBad s.store.chains) then some .poisoned else none

/-- One block of a selection, as a selection of its own. -/
def Source2.one (x : Source2) (i : Nat) : Source2 := match x with
  | .kv n v first _ => .kv n v (first + i) 1
  | .tiles w first _ => .tiles w (first + i) 1

/-- Each read of a PAGES region touches its blocks (R202, R351). -/
def State.touchRegion (s : State) (r : RRegion) (off n : Nat) : State :=
  match s.regionPages r with
  | some x => s.touchAll (((x.pagesIn off n).flatMap (fun p => s.unitBlocks (x.one p.2.2) x.q 0)).eraseDups)
  | none => s

/-- The recall that a read or a write of a region's range needs first (R351). -/
def State.regionRecall (s : State) (r : RRegion) (off n : Nat) (read : Bool) : State :=
  if r.pages.isSome then s else s.recallRange (r.base + off) n read

/-- Is that recall still under way? -/
def State.regionRecalling (s : State) (r : RRegion) (off n : Nat) : Bool := r.pages.isNone && s.recalling (r.base + off) n

/-- May a connection use a region: it lies in its scope (R348)? -/
def RRegion.serves (r : RRegion) (c : Conn) : Bool := r.partition = c.partition && (r.scope = 0 || r.scope = c.handle)

/-- R350: the region entry that admits an inbound request. -/
def State.admitRemote (s : State) (c : Conn) (key off n : Nat) (write : Bool) : Option RRegion × State :=
  let x := s.pickKey key
  ((x.1.bind x.2.entryNow).filter (fun r => x.2.regionLive r && r.serves c && (if write then r.writable else r.readable) &&
    off + n ≤ r.length), x.2)

/-! ### Packets -/

/-- Packets of a message of `n` bytes. -/
def packetsOf (mtu n : Nat) : Nat := max 1 (cdiv n mtu)

/-- A PSN `k` later. -/
def psnAdd (p k : Nat) : Nat := (p + k) % 2 ^ 24

/-- A PSN `k` earlier. -/
def psnSub (p k : Nat) : Nat := (p + 2 ^ 24 - k % 2 ^ 24) % 2 ^ 24

/-- How far PSN `q` lies after `p`, as a serial number. -/
def psnDiff (p q : Nat) : Int := sint 24 (psnSub q p)

/-- The kinds of packet the device sends. -/
def pktWrite : Nat := 1
def pktWriteImm : Nat := 2
def pktRead : Nat := 3
def pktAck : Nat := 4
def pktNak : Nat := 5
def pktRnr : Nat := 6
def pktCnp : Nat := 7
def pktResponse : Nat := 8

/-- One packet sent. -/
def State.packet (s : State) (c : Conn) (kind psn : Nat) (fields : List Nat) (b : List Byte) : State :=
  (s.bumpAt 0x280 1 (some c.partition) (some c.handle)).emit (.packet c.qpn kind psn fields b)

/-- An ACK: it passes every queued frame (R346). -/
def State.sendAck (s : State) (c : Conn) (psn : Nat) : State := s.packet c pktAck psn [] []

/-- A NAK: 1 invalid request, 2 remote access error, 3 remote operational error, which put the connection into ERROR and, but
for the first, write an error record (R350, R351, Table 12-2). -/
def State.sendNak (s : State) (c : Conn) (psn code : Nat) : State :=
  let s := (s.packet c pktNak psn [code] []).bumpAt 0x283 1 (some c.partition) (some c.handle)
  let s := if code = 2 then { s with rma.accessNaks := min 0xFFFF (s.rma.accessNaks + 1) } else s
  let s := if code = 1 then s else s.log ⟨.refused, 0x0404, 0x3015, none, some c.handle, none, code, false⟩
  s.connError c.slot .retry

/-! ### Notification queues (R356, R357) -/

/-- The handle of a notification queue. -/
def NQ.handle (q : NQ) : Nat := mkHandle 10 q.slot q.gen

/-- A notification queue stored back. -/
def State.setNq (s : State) (q : NQ) : State := { s with rma.nqs := upd (·.slot == q.slot) (fun _ => q) s.rma.nqs }

/-- One event of a notification queue: it sends once while armed (R450). -/
def State.nqEvent (s : State) (q : NQ) : State :=
  if q.armed then (s.setNq { q with armed := false }).pendVector q.owner q.vector false else s

/-- The lowest match slot that an immediate matches on a connection, with its queue (R357). -/
def State.matchImm (s : State) (c : Conn) (imm : Nat) : Option NQ :=
  let hit := fun m : MatchSlot => Nat.land imm m.mask = Nat.land m.value m.mask && (m.conn = 0 || m.conn = c.handle)
  match sortBy (fun a b : MatchSlot => a.slot ≤ b.slot) (s.rma.matchSlots.filter hit) with
  | m :: _ => s.rma.nqs.find? (·.slot == m.nq)
  | [] => none

/-- An entry written to a queue that has room; none while its link's IDE holds the write back (R356, R401).  An entry whose
write fails takes its place unwritten. -/
def State.postNq (s : State) (q : NQ) (imm handle bytes key : Nat) : Option State :=
  let b := leBytes 4 imm ++ leBytes 4 handle ++ leBytes 4 bytes ++ leBytes 4 key ++ leBytes 8 s.clock.now ++
    leBytes 4 q.counter ++ leBytes 1 (b2n q.phase) ++ leBytes 3 0
  let wrap := q.tail + 1 = q.entries
  let q' := { q with
    tail := if wrap then 0 else q.tail + 1, phase := if wrap then !q.phase else q.phase
    count := q.count + 1, counter := q.counter + 1 }
  let post := fun t : State => if q.count = 0 then (t.setNq q').nqEvent q' else t.setNq q'
  match s.hostWrite q.owner q.port (q.base + 32 * q.tail) b with
  | .ok t => some (post t)
  | .error (.waits _) => none
  | .error _ => some (post s)

/-! ### Inbound messages (R351, R357, R359) -/

/-- A unit of an RMA_WRITE or RMA_READ completes (R354). -/
def State.msgDone (s : State) (slot : Nat) (m : Msg) : State :=
  let s := s.updConn slot (fun c => { c with msgs := c.msgs.filter (fun x => x.id != m.id) })
  match m.tag.bind s.op with
  | none => s
  | some o =>
    let r := o.result + cdiv m.length 64
    if o.finished then s
    else if o.long then
      (s.updOp o.tag (fun o => { o with
        unitsDone := o.unitsDone + 1, result := r, finished := o.unitsDone + 1 = o.unitsTotal, status := .ok })).stopDue
    else s.finish o.tag .ok r

/-- An RMA_WRITE or RMA_READ stops with a status: its messages not yet started go (R354, R355). -/
def State.stopRma (s : State) (o : Op) (st : Status) (result : Nat) : State :=
  let waits := fun m : Msg => m.tag == some o.tag && m.psn.isNone
  let s := s.purge (fun u => match u.src with
    | .msg c i => s.rma.conns.any (fun x => x.slot == c && x.msgs.any (fun m => m.id == i && waits m))
    | .op _ | .plan .. => false)
  ({ s with rma.conns := s.rma.conns.map (fun c : Conn => { c with msgs := c.msgs.filter (fun m => !waits m) }) }).endRma o st result

/-- The operation of a message stops. -/
def State.stopMsg (s : State) (m : Msg) (st : Status) (result : Option Nat) : State :=
  match m.tag.bind s.op with
  | some o => if o.finished then s else s.stopRma o st (result.getD o.result)
  | none => s

/-- The oldest message in flight that the device requested. -/
def Conn.oldest (c : Conn) : Option Msg := c.msgs.find? (fun m => m.tag.isSome && m.psn.isSome)

/-- A message queued at the connection's port, from byte `off` of it (R345). -/
def State.queueMsg (s : State) (c : Conn) (m : Msg) (off : Nat) : State :=
  let q := if c.queue = 0 then schedQueue s.stg.live c.port c.partition 2 else c.queue
  let isRequest := m.read && m.tag.isSome
  s.enqueue c.port q ⟨.msg c.slot m.id, m.unit, if isRequest then 0 else m.length, if isRequest then 0 else off, none, c.mtu⟩

/-- A message added to a connection and queued. -/
def State.addMsg (s : State) (slot : Nat) (m : Msg) : State :=
  match s.rma.conns.find? (·.slot == slot) with
  | none => s
  | some c =>
    let m := { m with id := c.nextMsg }
    (s.updConn slot (fun c => { c with msgs := c.msgs ++ [m], nextMsg := c.nextMsg + 1 })).queueMsg c m 0

/-- An inbound WRITE whose region is ready. -/
def State.applyWrite (s : State) (c : Conn) (r : RRegion) (m : InMsg) : Bool × State :=
  if m.kind = 0 then (true, (s.dpaStore (r.base + m.offset) m.bytes false).sendAck c m.psn)
  else
    let early := m.bytes.take ((packetsOf c.mtu m.bytes.length - 1) * c.mtu)
    match m.nq.bind (fun i => s.rma.nqs.find? (·.slot == i)) with
    | none =>
      let s := ({ s with rma.unmatched := min 255 (s.rma.unmatched + 1) }).bumpAt 0x288 1 (some c.partition) (some c.handle)
      (true, (s.dpaStore (r.base + m.offset) early false).sendNak c m.psn 1)
    | some q =>
      if q.count = q.entries then
        let s := (s.dpaStore (r.base + m.offset) early false).updConn c.slot (fun c => { c with
          expectPsn := m.psn, received := c.received + early.length })
        (true, (s.packet c pktRnr m.psn [c.rnrCode] []).bumpAt 0x284 1 (some c.partition) (some c.handle))
      else
        let t := s.dpaStore (r.base + m.offset) m.bytes false
        match t.postNq q m.imm c.handle (c.received + m.bytes.length) r.key with
        | none => (false, s)
        | some t =>
          let t := (t.bumpAt 0x287 1 (some c.partition) (some c.handle)).updConn c.slot (fun c => { c with received := 0 })
          (true, t.sendAck c m.psn)

/-- A READ response whose region is ready: it lands in the oldest message's region. -/
def State.applyResponse (s : State) (c : Conn) (m : InMsg) : Bool × State :=
  match c.oldest with
  | none => (true, s)
  | some x =>
    match x.region.bind s.entryNow with
    | none => (true, s)
    | some r =>
      let s := s.dpaStore (r.base + x.local_ + x.got) m.bytes false
      let x := { x with got := x.got + m.bytes.length }
      let s := s.updConn c.slot (fun c => { c with
        msgs := upd (fun y : Msg => y.id == x.id) (fun _ => x) c.msgs, acked := psnAdd m.psn 1, retries := 0, rnrTries := 0
        timer := some s.clock.now })
      (true, if x.length ≤ x.got then s.msgDone c.slot x else s)

/-- Where in memory a held request reads or writes: first line group, and one past the last. -/
def HeldReq.groups (r : HeldReq) (s : State) : Nat × Nat := match r.req with
  | .read _ | .own | .write .. | .commit _ => (lineGroup r.addr, lineGroup r.addr + 1)
  | .inbound m =>
    match m.region.bind s.entryNow with
    | some x => if x.pages.isSome then (0, 0)
      else (lineGroup (x.base + m.offset), lineGroup (x.base + m.offset + m.length + 255))
    | none => (0, 0)

/-- Must a request wait behind an earlier held one: they meet in memory, or come on one connection (R351, R359)? -/
def HeldReq.behind (r x : HeldReq) (s : State) : Bool :=
  let a := r.groups s
  let b := x.groups s
  (a.1 < b.2 && b.1 < a.2) || (match r.req, x.req with
    | .inbound m, .inbound k => m.qpn == k.qpn
    | _, _ => false)

/-- Tries to apply an inbound message: `true` when it is answered, else it stays held while its recall runs. -/
def State.applyInbound (s : State) (m : InMsg) : Bool × State :=
  match s.connOfQpn m.qpn with
  | none => (true, s)
  | some c =>
    if c.state != .ready then (true, s)
    else match m.region.bind s.entryNow with
    | none => (true, if m.kind = 3 then s else s.sendNak c m.psn 2)
    | some r =>
      if !s.regionLive r then
        (true, if m.kind = 3 then c.oldest.elim s (fun x => s.stopMsg x .outOfRange none) else s.sendNak c m.psn 2)
      else
        let s := s.regionRecall r m.offset m.length (m.kind = 2)
        if s.regionRecalling r m.offset m.length then (false, s)
        else if m.kind = 2 then
          if (s.regionBad r m.offset m.length).isSome then (true, s.sendNak c m.psn 3)
          else (true, s.addMsg c.slot ⟨0, none, 0, true, m.region, m.offset, 0, 0, m.length, none, some m.psn, 0⟩)
        else if m.kind = 3 then s.applyResponse c m
        else s.applyWrite c r m

end Sys2Proof.Machine
end

