-- ==== Sys2Proof/Machine/Pool.lean ====
section
/-! DEFINITION. Pool.lean: CXL.mem requests and the coherence directory, host leases and host death, extents and the fabric
manager's commands (The shared memory pool, R310 to R332, R341). -/
namespace Sys2Proof.Machine

/-! ### Serving requests (R320, R325 to R329) -/

/-- What the device keeps for a host, made on demand. -/
def State.hostState (s : State) (h : Nat) : HostState :=
  (s.pool.hosts.find? (·.entry == h)).getD ⟨h, none, 0, false, none, false, 0, 0⟩

/-- A host's record stored back. -/
def State.setHost (s : State) (x : HostState) : State :=
  { s with pool.hosts := x :: s.pool.hosts.filter (·.entry != x.entry) }

/-- Has the host used up its read or write cap in this window (R329)?  FM_TRUST hosts have none (R322). -/
def State.capped (s : State) (h : Nat) (write : Bool) : Bool :=
  let cap := if fmTrust s.stg.live then 0 else if write then hostWriteCap s.stg.live h else hostReadCap s.stg.live h
  let used := if write then (s.hostState h).writeUsed else (s.hostState h).readUsed
  cap != 0 && cap * 1000 ≤ used * 64

/-- One line counted against a cap. -/
def State.useCap (s : State) (h : Nat) (write : Bool) : State :=
  let x := s.hostState h
  s.setHost (if write then { x with writeUsed := x.writeUsed + 1 } else { x with readUsed := x.readUsed + 1 })

/-- Is the request a write for the caps? -/
def PoolReq.isWrite : PoolReq → Bool
  | .write .. | .commit _ => true
  | .read _ | .own | .inbound _ => false

/-- Does the host's range there carry NC: no holder is tracked (R325)? -/
def State.untracked (s : State) (h a : Nat) (write : Bool) : Bool :=
  !fmTrust s.stg.live && (rangeFor s.stg.live h a 64 write).any (·.nc)

/-- Is a snapshot of the address being created: grants are limited to SHARED (R333)? -/
def State.snapping (s : State) (a : Nat) : Bool :=
  s.pool.snaps.any (fun x => x.maker.isSome && x.base < lineGroup a * 256 + 256 && lineGroup a * 256 < x.base + x.length)

/-- A grant of a group to a host: an entry allocated or updated; two holders make it COARSE (R324, R325). -/
def State.grant (s : State) (g h : Nat) (owned : Bool) : State :=
  match s.dirEntry g with
  | none =>
    let e : DirEntry := ⟨g, if owned then .owned else .shared, false, [h], s.clock.now⟩
    { s with pool.dir := s.pool.dir ++ [e] }.bump 0x202 1
  | some e =>
    let alone := !e.coarse && (e.holders.all (· == h))
    let new : DirEntry := { e with
      state := if owned || (alone && e.state == .owned) then .owned else .shared
      coarse := !alone
      holders := if alone then [h] else if e.coarse then (e.holders ++ [h % 16]).eraseDups
        else ((e.holders ++ [h]).map (· % 16)).eraseDups
      granted := s.clock.now }
    s.updDir g (fun _ => new)

/-- A way freed in a full set: the entry whose grant is oldest is recalled by invalidation (R326). -/
def State.evictWay (s : State) (g : Nat) : State :=
  let set := s.pool.dir.filter (fun e => e.group % 2 ^ 22 == g % 2 ^ 22 && e.state != .recalling)
  match sortBy (fun a b : DirEntry => a.granted ≤ b.granted) set with
  | e :: _ => { (s.startRecall e.group false).bump 0x203 1 with pool.pressure := some s.clock.now }
  | [] => s

/-- Must a grant of a new group wait for a way? -/
def State.setFull (s : State) (g : Nat) : Bool :=
  (s.dirEntry g).isNone && 16 ≤ (s.pool.dir.filter (fun e => e.group % 2 ^ 22 == g % 2 ^ 22)).length

/-- The extent at an address, where the host's requests are admitted to it. -/
def State.activeAt (s : State) (h a : Nat) : Option Extent := (s.extentAt a 64).filter (·.activeFor h)

/-- A CXL.mem response passes its port's scheduler in class LATENCY, in the partition of the extent (R263, R329); `n` its data bytes. -/
def State.respond (s : State) (link a n : Nat) : State := s.charge link ((s.extentAt a 64).elim 0 (·.partition)) 1 [n]

/-- A load's answer: the line, or poison; a window that went with its chain answers poison, with a record (R119). -/
def State.answerLoad (s : State) (r : HeldReq) : State :=
  let dl := s.devLoad r.src.link
  let bad := s.dpaBad s.store.chains (r.addr / 64)
  let s := match s.windowAt r.addr, s.goneAt r.addr with
    | none, some h => s.discardStore (some h) r.addr
    | _, _ => s
  let s := if bad then s.bumpAt 0x207 1 none (some r.host) else s
  ((s.poolIo r.addr 64 false).respond r.src.link r.addr 64).emit (.cxlData r.host r.addr (s.dpaRead s.store.chains r.addr 64) bad dl)

/-- A load refused or unanswerable: poisoned data (R48, R320, R331). -/
def State.answerPoison (s : State) (link h a : Nat) : State :=
  ((s.bumpAt 0x207 1 none (some h)).respond link a 64).emit (.cxlData h a (List.replicate 64 0#8) true (s.devLoad link))

/-- A store reaches memory; a mirrored one is acknowledged only after the partner holds it (R341).  One into a window goes to the tail's
pages (R317). -/
def State.landStore (s : State) (r : HeldReq) (b : List Byte) (poison : Bool) : State :=
  match s.windowStore r.addr b poison with
  | some t => (t.respond r.src.link r.addr 0).emit (.cxlDone r.host r.addr (t.devLoad r.src.link))
  | none =>
    let s := s.poolStore r.addr b poison
    match (s.extentAt r.addr 64).bind (·.mirrored) |>.bind s.lease with
    | some l =>
      let s := (s.bumpAt 0x20C 1 none (some r.host)).emit (.partner l.partner msgMirror none r.addr)
      { s with pool.mirrorWaits := s.pool.mirrorWaits ++ [⟨r.addr, r.host, r.src.link⟩] }
    | none => (s.respond r.src.link r.addr 0).emit (.cxlDone r.host r.addr (s.devLoad r.src.link))

/-- Tries to serve one CXL.mem request: `true` when it is answered, else it stays held.  A recall that ends at once lets the
request go on; `n` bounds the tries. -/
def State.serveReq (s : State) (r : HeldReq) : Nat → Bool × State
  | 0 => (false, s)
  | k + 1 =>
    let g := lineGroup r.addr
    let w := r.req.isWrite
    let track := !s.untracked r.host r.addr w
    let others := match s.dirEntry g with
      | some e => (s.holdersOf e).filter (· != r.host)
      | none => []
    let again := fun t : State => if t.recalling (g * 256) 256 then (false, t) else t.serveReq r k
    if s.hostDead r.host || (s.activeAt r.host r.addr).isNone then
      (true, if w then s else s.answerPoison r.src.link r.host r.addr)
    else if s.recalling (g * 256) 256 || s.capped r.host w then (false, s)
    else match r.req with
    | .read cached =>
      if !others.isEmpty && (s.dirEntry g).any (·.state == .owned) then again (s.startRecallOf g others true)
      else if cached && track && s.setFull g then
        (let t := s.evictWay g
         if t.setFull g then (false, t) else t.serveReq r k)
      else
        let s := if cached && track then s.grant g r.host false else s
        (true, (s.useCap r.host false).answerLoad r)
    | .own =>
      if !others.isEmpty then again (s.startRecallOf g others false)
      else if s.snapping r.addr then (false, s)
      else if track && s.setFull g then
        (let t := s.evictWay g
         if t.setFull g then (false, t) else t.serveReq r k)
      else
        let s := s.copyOnWrite (g * 256) 256
        let s := if track then s.grant g r.host true else s
        (true, (s.useCap r.host false).answerLoad r)
    | .write b p =>
      if !others.isEmpty then again (s.startRecallOf g others false)
      else (true, (s.useCap r.host true).landStore r b p)
    | .commit v =>
      if !others.isEmpty then again (s.startRecallOf g others false)
      else
        let s := (s.useCap r.host true).storeN r.addr v
        (true, (s.respond r.src.link r.addr 0).emit (.cxlDone r.host r.addr (s.devLoad r.src.link)))
    | .inbound m => s.applyInbound m

/-- Tries to serve one held request; while the device wakes it stays held until what it needs is back (R52). -/
def State.serveOne (s : State) (r : HeldReq) : Bool × State := match r.req with
  | .inbound m => s.applyInbound m
  | .read _ | .own | .write .. | .commit _ => if s.poolAwake r.src.link r.addr then s.serveReq r 20 else (false, s)

/-- The held requests tried in order of arrival; one that must stay behind a held one waits with it (R325, R351). -/
def State.serveHeld (s : State) : State :=
  let one := fun (a : State × List HeldReq) (r : HeldReq) =>
    if a.2.any (fun x => r.behind x a.1) then (a.1, a.2 ++ [r])
    else
      let x := a.1.serveOne r
      (x.2, if x.1 then a.2 else a.2 ++ [r])
  let r := s.pool.heldReqs.foldl one ({ s with pool.heldReqs := [] }, [])
  { r.1 with pool.heldReqs := r.2 ++ r.1.pool.heldReqs }

/-- A request takes its place behind the held ones and is served if it can. -/
def State.request (s : State) (r : HeldReq) : State := { s with pool.heldReqs := s.pool.heldReqs ++ [r] }.serveHeld

/-- A CXL.mem load (R48, R320, R325). -/
def execCxlMemRead (src : Source) (addr : Nat) (kind : LoadKind) (s : State) : Host.Outcome State Fault Refusal :=
  let s := s.wake
  let a := addr / 64 * 64
  let host := (s.hostOfSrc src).getD 0
  if !s.servesMemory then .next ((s.discardStore (s.hostOfSrc src) a).answerPoison src.link host a)
  else if s.shutOut src then .next (s.answerPoison src.link host a)
  else
    let s := s.bumpAt 0x200 1 none (s.hostOfSrc src)
    match s.admitted src a 64 false with
    | some h => .next (s.request ⟨src, h, a, .read (kind = .cached)⟩)
    | none => .next ((s.refuse (s.hostOfSrc src) a).answerPoison src.link host a)

/-- A store, an ownership request or a commit of N takes its way (R48, R320, R325): `own` tells a request that a poisoned answer
answers. -/
def State.storeRequest (s : State) (src : Source) (a n : Nat) (own : Bool) (req : PoolReq) : State :=
  let s := s.wake
  let host := (s.hostOfSrc src).getD 0
  let poison := fun s : State => if own then s.answerPoison src.link host a else s
  if !s.servesMemory then poison (s.discardStore (s.hostOfSrc src) a)
  else if s.shutOut src then poison s
  else
    let s := s.bumpAt 0x201 1 none (s.hostOfSrc src)
    match s.admitted src a n true with
    | some h => s.request ⟨src, h, a, req⟩
    | none => poison (s.refuse (s.hostOfSrc src) a)

/-- A CXL.mem store or ownership request (R48, R320, R325).  A line stored into a tail window goes to the tail's pages
(R317). -/
def execCxlMemWrite (src : Source) (addr : Nat) (kind : StoreKind) (bytes : List Byte) (poison : Bool) (s : State) :
    Host.Outcome State Fault Refusal :=
  let a := addr / 64 * 64
  .next (s.storeRequest src a 64 (kind = .ownership) (if kind = .ownership then .own else .write bytes poison))

/-- A CXL.mem store into a tail window: to a slot, or to another word of the control page, which discards it (R106, R109). -/
def execTailWindowStore (src : Source) (addr : Nat) (bytes : List Byte) (s : State) : Host.Outcome State Fault Refusal :=
  .next (s.storeRequest src addr bytes.length false (.write bytes false))

/-- An aligned store to N in a control page (R110). -/
def execControlPageNStore (src : Source) (addr value : Nat) (s : State) : Host.Outcome State Fault Refusal :=
  .next (s.storeRequest src addr 8 false (.commit value))

/-- A host's 1 µs cap window ends: what it held above its caps is tried again (R329). -/
def execHostCapWindow (host : Nat) (s : State) : Host.Outcome State Fault Refusal :=
  let x := s.hostState host
  .next ((s.setHost { x with readUsed := 0, writeUsed := 0 }).serveHeld)

/-! ### Extents that end (R315, R317) -/

/-- An extent freed: its windows unmap, its snapshots expire, its content goes. -/
def State.freeExtent (s : State) (e : Extent) : State :=
  let inside := fun c : Chain => c.window.any (fun w => e.base ≤ w.base && w.base < e.base + e.length)
  let s := (s.store.chains.filter inside).foldl (fun s c => match s.nsAt c.view.ns c.view.gen with
    | some n => s.unmapWindow c n
    | none => s) s
  let s := (s.pool.snaps.filter (·.extent == e.id)).foldl State.expireSnap s
  let s := { s with
    pool.extents := s.pool.extents.filter (·.id != e.id)
    pool.mem := s.pool.mem.clear e.base e.length
    pool.poison := s.pool.poison.filter (fun l => !(e.base ≤ l * 64 && l * 64 < e.base + e.length))
    pool.dir := s.pool.dir.filter (fun d => !(e.base ≤ d.group * 256 && d.group * 256 < e.base + e.length))
    pool.unmirrored := s.pool.unmirrored.filter (· != e.id) }
  let s := s.mapOver e.base e.length
  s.killRegions.leaseUse.gc

/-- `f` on an extent. -/
def State.updExtent (s : State) (id : Nat) (f : Extent → Extent) : State :=
  { s with pool.extents := upd (·.id == id) f s.pool.extents }

/-- An extent by its identifier. -/
def State.extent (s : State) (id : Nat) : Option Extent := s.pool.extents.find? (·.id == id)

/-- Is the host's recall from the extent under way: a recall waits for it, or has still to find a tracker (R327)? -/
def State.recalledFrom (s : State) (e : Extent) (h : Nat) : Bool :=
  s.pool.recalls.any (fun r => e.base ≤ r.group * 256 && r.group * 256 < e.base + e.length && r.waiting.contains h) ||
  s.pool.late.any (fun r => e.base ≤ r.1 * 256 && r.1 * 256 < e.base + e.length && r.2.1.contains h)

/-- Sides in RELEASING or REVOKING whose recall has ended are detached; an extent that no host holds is freed (R315). -/
def State.detach (s : State) : State :=
  let gone := fun (s : State) (e : Extent) (x : Nat × SideState) =>
    (x.2 == .releasing || x.2 == .revoking) && !s.recalledFrom e x.1
  s.pool.extents.foldl (fun s e =>
    if e.sides.any (gone s e) then
      let sides := e.sides.filter (fun x => !gone s e x)
      let s := s.updExtent e.id (fun e => { e with sides := sides })
      if sides.isEmpty then s.freeExtent e else s
    else s) s

/-- A host's lines in an extent are recalled by invalidation. -/
def State.recallHost (s : State) (e : Extent) (h : Nat) : State :=
  (s.pool.dir.filter (fun d => e.base ≤ d.group * 256 && d.group * 256 < e.base + e.length && (s.holdersOf d).contains h)).foldl
    (fun s d => s.startRecallOf d.group [h] false) s

/-- What follows the end of a recall: recalls that found no tracker go on, sides detach and held requests are served (R325 to R327). -/
def State.settlePool (s : State) : State := s.recallLate.detach.serveHeld

/-- A part is back during the wake; the commands and requests held for it are served (R52, Table 2-5). -/
def execWakePartBack (part : WakePart) (s : State) : Host.Outcome State Fault Refusal :=
  if s.boot.waking then
    match part with
    | .deck => .next ({ s with boot.awakeDeck := true } : State).answerHeld.serveHeld
    | .causeway => .next ({ s with boot.awakeCauseway := true } : State).serveHeld
    | .ports => .next ({ s with dlv.ports := s.fullRate, boot.awakePorts := true } : State).serveHeld
  else .next s

/-- Full service except Ethernet returns, and LINKWATCH clears (R52). -/
def execLinkWatchServiceRestored (s : State) : Host.Outcome State Fault Refusal :=
  if s.boot.linkwatch && s.boot.waking then
    .next ({ s with
      dlv.ports := s.fullRate
      boot.linkwatch := false, boot.awakeDeck := true, boot.awakeCauseway := true, boot.awakePorts := true } : State).readyChanged.answerHeld.serveHeld
  else .next s


/-! ### Recalls that end, and host death (R327, R331, R332) -/

/-- A holder's part in the recall of a group ends; with the last the recall ends. -/
def State.recallEnds (s : State) (g h : Nat) : State :=
  match s.pool.recalls.find? (·.group == g) with
  | none => s
  | some r =>
    let waiting := r.waiting.filter (· != h)
    if waiting.isEmpty then
      { s with pool.recalls := s.pool.recalls.filter (·.group != g) }.afterRecall g r.downgrade r.leaving
    else { s with pool.recalls := upd (·.group == g) (fun r : Recall => { r with waiting := waiting }) s.pool.recalls }

/-- A holder answers a back-invalidate snoop, with the four lines it wrote back if it held them modified (R327); in a slot
that rebinds they are discarded as stores to committed positions (R108). -/
def execBackInvalidateResponse (host addr : Nat) (dirty : List Byte) (s : State) : Host.Outcome State Fault Refusal :=
  let g := lineGroup addr
  if s.pool.recalls.any (fun r => r.group == g && r.waiting.contains host) then
    let s := if dirty.isEmpty || s.sec.life = .releasing then s else s.dpaStore (g * 256) dirty false
    .next (s.recallEnds g host).settlePool
  else .next s

/-- Groups that a dead host held: an OWNED one is poisoned whole, an exact holder is removed, a COARSE vector stands
(Table 11-7, step 3). -/
def State.dropHolder (s : State) (h : Nat) : State :=
  s.pool.dir.foldl (fun s e =>
    if e.coarse || !e.holders.contains h || e.state == .recalling then s
    else
      let s := if e.state == .owned then s.poisonLines ((List.range 4).map (· + 4 * e.group)) else s
      { s with pool.dir := s.pool.dir.filter (·.group != e.group) }) s

/-- The device declares a host dead: Table 11-7, in order. -/
def State.declareDead (s : State) (h : Nat) : State :=
  let x := s.hostState h
  if x.dead then s
  else
    let f := s.fnOfHost h
    let soon := x.rejoined.any (fun t => decide (s.clock.now < t + 1000000000))
    let s := (s.setHost { x with dead := true, needsReset := soon }).bumpAt 0x206 1 none (some h)
    let s := s.log ⟨.degraded, 0x0402, 0x4000, none, some h, none, 0, false⟩
    let held := s.pool.recalls.filter (·.waiting.contains h)
    let s := { s with pool.timeouts := min 0xFFFF (s.pool.timeouts + held.length) }.bump 0x205 held.length
    let s := held.foldl (fun s r =>
      let s := if r.owned then s.poisonLines ((List.range 4).map (· + 4 * r.group)) else s
      s.recallEnds r.group h) s
    let s := s.dropHolder h
    let s := match f with
      | some f => ((((s.q.pairs.filter (fun q : QPair => q.owner == f)).map (fun q : QPair => q.index))).foldl State.killPair s).discardBank f
      | none => s
    let s := (s.unrouteHost h).partyDead f true
    ((s.emit (.hostDeadEvent h)).raiseSrc 10).settlePool

/-- A holder does not answer within its recall timeout: HOST_LOST, and the host is declared dead; during a release only the
recall ends (R327, R331, R388). -/
def execRecallTimeout (host addr : Nat) (s : State) : Host.Outcome State Fault Refusal :=
  let late := fun r : Recall => r.group == lineGroup addr && r.waiting.contains host &&
    r.since + (if fmTrust s.stg.live then 10000 else hostRecallUs s.stg.live host) * 1000 ≤ s.clock.now
  .next (if !s.pool.recalls.any late then s
    else if s.sec.life = .releasing then (s.recallEnds (lineGroup addr) host).settlePool else s.declareDead host)

/-- A lease's term passes without a renewal (R330, R331). -/
def execHostLeaseExpiry (host : Nat) (s : State) : Host.Outcome State Fault Refusal :=
  let x := s.hostState host
  .next (match x.lease with
    | some t => if x.renewed + t * 1000000 ≤ s.clock.now then s.declareDead host else s
    | none => s)

/-- The host's link goes down, or the fabric manager unbinds its logical device (R331). -/
def execHostUnbind (host : Nat) (s : State) : Host.Outcome State Fault Refusal :=
  let f := s.fnOfHost host
  let s := if f.isSome then s.declareDead host else s
  .next ({ s with pool.bound := s.pool.bound.filter (fun g => some g != f) }.dropParties (fun p =>
    f.any (fun g : Fn => Party.names .host g.link g.ld p)))

/-- Any write to the heartbeat register renews the host's own lease; a dead host's changes nothing (R330). -/
def execHeartbeatRenew (r : Req) (s : State) : Host.Outcome State Fault Refusal :=
  let s := s.wake
  match (if s.hears r.fn r.tee then s.hostOf r.fn else none) with
  | some h =>
    let x := s.hostState h
    .next (if x.dead || x.lease.isNone then s else s.setHost { x with renewed := s.clock.now })
  | none => .next s

/-- A write with REJOIN: a dead host is served again, unless it died within 1 s of a rejoin and no link reset came since
(R332). -/
def execHeartbeatRejoin (r : Req) (s : State) : Host.Outcome State Fault Refusal :=
  let s := s.wake
  match (if s.hears r.fn r.tee then s.hostOf r.fn else none) with
  | some h =>
    let x := s.hostState h
    if x.dead && !x.needsReset then
      let s := s.setHost { x with dead := false, rejoined := some s.clock.now, renewed := s.clock.now }
      .next (s.routeWaiting.partyDead (s.fnOfHost h) false)
    else .next (if x.dead || x.lease.isNone then s else s.setHost { x with renewed := s.clock.now })
  | none => .next s

/-- POOL_LEASE: the issuing host's liveness lease (R330). -/
def bodyPoolLease (o : Op) (s : State) : BodyOut :=
  let act := o.p 8 1
  let t := o.p 12 4
  match s.hostOf (s.opFn o) with
  | none => .done .denied 0 s
  | some h =>
    let x := s.hostState h
    if 3 ≤ act || (act = 0 && (t < 10 || 60000 < t)) then .done .badParam 0 s
    else if act = 0 then .done .ok 0 (s.setHost { x with lease := some t, renewed := s.clock.now })
    else if act = 1 then .done .ok 0 (s.setHost { x with lease := none })
    else match x.lease with
      | none => .done .ok 0 s
      | some t => .done .ok (t + (x.renewed / 1000000 + t - s.clock.now / 1000000) % 2 ^ 32 * 2 ^ 32) s

/-- POOL_LEASE from a queue pair. -/
def execPoolLease (c : Cmd) (s : State) : Host.Outcome State Fault Refusal := .next (s.submit 0x85 bodyPoolLease c)

/-! ### The fabric manager's commands (R310, R313, R315, R316) -/

/-- The FM API's answers: a failure's value names Invalid Input or Resources Exhausted (Table 11-3). -/
def invalidInput : Output := .fmReply false [1]
def resourcesExhausted : Output := .fmReply false [2]

/-- Does the host's isolation cover an extent with one partition, the extent's own (R320)? -/
def State.hostCovers (s : State) (h a n part : Nat) : Bool :=
  fmTrust s.stg.live ||
    (validRanges s.stg.live).any (fun r => !r.outbound && r.host == h && r.partition == part && r.base ≤ a && a < r.base + r.length) &&
    (List.range (n / 2 ^ 21)).all (fun i =>
      let at_ := a + i * 2 ^ 21
      let l := (validRanges s.stg.live).filter (fun r => !r.outbound && r.host == h && r.base ≤ at_ && at_ < r.base + r.length)
      !l.isEmpty && l.all (·.partition == part))

/-- The lowest place in a region for an extent, when the device chooses (the Free and Contiguous policies). -/
def State.placeExtent (s : State) (region length : Nat) : Option Nat :=
  let base := regionBase region
  let starts := base :: ((s.pool.extents.filter (·.region == region)).map (fun e => e.base + e.length))
  let fits := fun a => a + length ≤ base + regionLength region &&
    !s.pool.extents.any (fun e => e.region == region && a < e.base + e.length && e.base < a + length)
  (starts.filter fits).min?

/-- The lease that takes an extent's mirror copy, where a range of one of its hosts asks for one (R341). -/
def State.mirrorLease (s : State) (e : Extent) : Option (Option Lease) :=
  match (validRanges s.stg.live).find? (fun r => !r.outbound && r.mirror && r.base ≤ e.base &&
      e.base + e.length ≤ r.base + r.length && e.sides.any (·.1 == r.host)) with
  | none => none
  | some r => some (s.tiers.leases.find? (fun l => l.borrower && l.state == .active && l.partner == r.partner &&
      l.used + e.length ≤ l.capacity))

/-- An extent's mirror copy placed, or the extent recorded as unmirrored (R341). -/
def State.startMirror (s : State) (e : Extent) : State :=
  if e.mirrored.isSome then s
  else match s.mirrorLease e with
    | none => s
    | some (some l) =>
      let s := (s.updExtent e.id (fun e => { e with mirrored := some l.id })).emit (.partner l.partner msgMirror none e.base)
      { s with pool.unmirrored := s.pool.unmirrored.filter (· != e.id) }.leaseUse
    | some none =>
      if s.pool.unmirrored.contains e.id then s
      else { s with pool.unmirrored := s.pool.unmirrored ++ [e.id] }.log ⟨.degraded, 0x0403, 0x4000, none, none, some e.base, 0, false⟩

/-- The piers, or the DDR channels, that may back an extent of a partition (R196, R314). -/
def State.placesFor (s : State) (region part : Nat) : List Nat :=
  if region = 0 then s.piersFor 0 part
  else (s.dimmsNow.map (·.1)).filter (fun c => !partHard s.stg.live part || bit (partDdr s.stg.live part) c)

/-- Initiate Dynamic Capacity Add: a new extent in ZEROING, or further hosts that join the shared extent of the tag.  The causeway is
served from READY.FULL (Table 2-3; log entry 153). -/
def execDcAdd (hosts : List Source) (region : Nat) (base : Option Nat) (length tag partition : Nat) (shared : Bool) (s : State) :
    Host.Outcome State Fault Refusal :=
  let hs := hosts.filterMap s.hostOfSrc
  let part := if fmTrust s.stg.live then 0 else partition
  let named := !hosts.isEmpty && hs.length = hosts.length && hs.eraseDups.length = hs.length
  match s.pool.extents.find? (fun e => shared && e.shared && e.tag == tag) with
  | some e =>
    if !named || e.region != region || hs.any (fun h => (e.side h).isSome || !s.hostCovers h e.base e.length e.partition) then
      .next (s.emit invalidInput)
    else
      let s := s.updExtent e.id (fun e => { e with sides := e.sides ++ hs.map (fun h => (h, .offered)) })
      let s := if e.zeroing then s else hs.foldl (fun s h => s.emit (.addCapacity h e.id)) s
      .next (s.emit (.fmReply true [e.id]))
  | none =>
    let at_ := match base with
      | some a => some a
      | none => s.placeExtent region length
    match at_ with
    | none => .next (s.emit resourcesExhausted)
    | some a =>
      if !named || length = 0 || length % 2 ^ 21 != 0 || a % 2 ^ 21 != 0 || a < regionBase region ||
          regionBase region + regionLength region < a + length || !partValid s.stg.live part ||
          (!shared && hs.length != 1) || s.pool.extents.any (fun e => a < e.base + e.length && e.base < a + length) ||
          !hs.all (fun h => s.hostCovers h a length part) then .next (s.emit invalidInput)
      else if 8192 ≤ s.pool.extents.length || (region = 1 && !s.boot.full) || !s.room part region length then .next (s.emit resourcesExhausted)
      else
        let id := s.pool.nextExtent
        let e : Extent :=
          { id := id, region := region, base := a, length := length, tag := tag, partition := part, shared := shared
            zeroing := true, sides := hs.map (fun h => (h, .offered)), version := 1, places := s.placesFor region part, mirrored := none }
        .next ({ s with pool.extents := s.pool.extents ++ [e], pool.nextExtent := id + 1 }.emit (.fmReply true [id]))

/-- An extent's zero fill ends: it is OFFERED, and each named host gets an Add Capacity event (R315, R316). -/
def execExtentZeroEnd (extent : Nat) (s : State) : Host.Outcome State Fault Refusal :=
  match s.extent extent with
  | some e =>
    if !e.zeroing then .next s
    else
      let s := { s.updExtent e.id (fun e => { e with zeroing := false }) with
        pool.mem := s.pool.mem.clear e.base e.length
        pool.poison := s.pool.poison.filter (fun l => !(e.base ≤ l * 64 && l * 64 < e.base + e.length)) }
      .next (e.sides.foldl (fun s x => s.emit (.addCapacity x.1 e.id)) s)
  | none => .next s

/-- A host accepts an offered extent, which is then ACTIVE for it, or rejects it; when every named host has rejected it,
it is freed (R315). -/
def execAddDcResponse (host : Source) (extent : Nat) (accept : Bool) (s : State) : Host.Outcome State Fault Refusal :=
  match s.extent extent, s.hostOfSrc host with
  | some e, some h =>
    if e.zeroing || e.side h != some .offered then .next s
    else if accept then
      let s := s.updExtent e.id (fun e => { e with sides := upd (·.1 == h) (fun x => (x.1, SideState.active)) e.sides })
      .next (match s.extent extent with
        | some e => s.startMirror e
        | none => s)
    else
      let sides := e.sides.filter (·.1 != h)
      let s := s.updExtent e.id (fun e => { e with sides := sides })
      .next (if sides.isEmpty then s.freeExtent e else s)
  | _, _ => .next s

/-- A side leaves: its requests are no longer admitted, and its lines are recalled by invalidation (R315). -/
def State.leave (s : State) (e : Extent) (h : Nat) (dest : SideState) : State :=
  let s := (s.updExtent e.id (fun e => { e with sides := upd (·.1 == h) (fun x => (x.1, dest)) e.sides })).killRegions
  ((s.extent e.id).elim s (fun e => s.recallHost e h)).settlePool

/-- A host releases an extent (R315). -/
def execReleaseDynamicCapacity (host : Source) (extent : Nat) (s : State) : Host.Outcome State Fault Refusal :=
  match s.extent extent, s.hostOfSrc host with
  | some e, some h => .next (if e.activeFor h then s.leave e h .releasing else s)
  | _, _ => .next s

/-- Initiate Dynamic Capacity Release: a request to the host, or by force; snapshots in a forced extent expire (R315,
R342). -/
def execDcRelease (host : Source) (extent : Nat) (forced : Bool) (s : State) : Host.Outcome State Fault Refusal :=
  match s.extent extent, s.hostOfSrc host with
  | some e, some h =>
    if e.zeroing || !e.holds h then .next (s.emit invalidInput)
    else if !forced then .next ((s.emit (.releaseCapacity h e.id)).emit (.fmReply true []))
    else
      let s := (s.pool.snaps.filter (·.extent == e.id)).foldl State.expireSnap s
      .next ((s.leave e h .revoking).emit (.fmReply true []))
  | _, _ => .next (s.emit invalidInput)

/-- What a DC region offers: the usable capacity of its tier less the tier's use (Table 11-2). -/
def State.offered (s : State) (region : Nat) : Nat := if region = 1 && !s.boot.full then 0 else s.usable region - s.useAll region

/-- Get DCD Info: the regions, the block size and each region's length and offered capacity (R310, R313). -/
def execGetDcdInfo (link : Nat) (s : State) : Host.Outcome State Fault Refusal :=
  .next (if s.linkUp link then (s.fmSeen link).emit (.fmReply true [2, 2 ^ 21, regionLength 0, s.offered 0, regionLength 1, s.offered 1]) else s)

/-- Get Host DC Region Configuration: base, length and block size of both regions (Table 11-2). -/
def execGetHostDcRegionConfig (link ld : Nat) (s : State) : Host.Outcome State Fault Refusal :=
  .next ((s.fmSeen link).emit (if s.pool.bound.contains ⟨link, ld⟩ then
      .fmReply true [regionBase 0, regionLength 0, 2 ^ 21, regionBase 1, regionLength 1, 2 ^ 21] else invalidInput))

/-- Set DC Region Configuration: the block size is 2 MiB and takes no other value (R313). -/
def execSetDcRegionConfig (link ld region blockSize : Nat) (s : State) : Host.Outcome State Fault Refusal :=
  .next ((s.fmSeen link).emit (if s.pool.bound.contains ⟨link, ld⟩ && region < 2 && blockSize = 2 ^ 21 then .fmReply true [] else invalidInput))

/-- Get DC Region Extent Lists: identifier, base, length and tag of each extent ACTIVE for the host. -/
def execGetDcRegionExtentLists (link ld : Nat) (s : State) : Host.Outcome State Fault Refusal :=
  .next ((s.fmSeen link).emit (match s.hostOf ⟨link, ld⟩ with
    | some h => .fmReply true ((s.pool.extents.filter (·.activeFor h)).flatMap (fun e => [e.id, e.base, e.length, e.tag]))
    | none => invalidInput))

/-! ### Mirrors (R341) -/

/-- The partner holds a mirrored store, which is then acknowledged. -/
def execMirrorPartnerAck (addr : Nat) (s : State) : Host.Outcome State Fault Refusal :=
  match s.pool.mirrorWaits.find? (·.addr == addr) with
  | some w => .next ({ s with pool.mirrorWaits := s.pool.mirrorWaits.erase w }.respond w.link w.addr 0 |>.emit (.cxlDone w.host w.addr (s.devLoad w.link)))
  | none => .next s

/-- A lease has room: the extent is mirrored again, copied whole. -/
def execRemirrorStart (extent : Nat) (s : State) : Host.Outcome State Fault Refusal :=
  match s.extent extent with
  | some e => .next (if s.pool.unmirrored.contains e.id then s.startMirror e else s)
  | none => .next s

end Sys2Proof.Machine
end

