-- ==== Sys2Proof/Machine/NearMem.lean ====
section
/-! DEFINITION. NearMem.lean: FILL, COPY, COMPARE, REDUCE and POOL_SNAPSHOT, and the patrol scrub (The shared memory pool,
R333 to R339; Faults, R415, R421, R423). -/
namespace Sys2Proof.Machine

/-! ### Rights over ranges (R337) -/

/-- May the function's host read or write a range (R320, R337)? -/
def State.rangeAllowed (s : State) (f : Fn) (a n : Nat) (write : Bool) : Bool :=
  (s.hostOf f).any (fun h => (pieces a n).all (fun p =>
    (s.extentAt p.1 p.2).any (·.activeFor h) && s.fnCovers f p.1 p.2 write))

/-- The first failure of R337 among ranges (address, length, write). -/
def State.judgeRanges (s : State) (f : Fn) (l : List (Nat × Nat × Bool)) : Option Status :=
  if l.any (fun r => !s.rangeActive r.1 r.2.1) then some .outOfRange
  else if l.any (fun r => !s.rangeAllowed f r.1 r.2.1 r.2.2) then some .denied else none

/-! ### Snapshots as sources -/

/-- The snapshot that a command accepted at an order may read by a handle (R334). -/
def State.poolSnap (s : State) (h order : Nat) : Except Status PoolSnap :=
  match s.pool.snaps.find? (fun x => x.handle == h && x.maker.isNone) with
  | none => .error .badHandle
  | some x =>
    if x.released.any (fun k => decide (k ≤ order)) then .error .badHandle
    else if x.expired.any (fun k => decide (k ≤ order)) then .error .versionGone else .ok x

/-- A source: its address, and the snapshot it is read from. -/
structure NearSrc where
  addr : Nat
  snap : Option PoolSnap

/-- The chains whose windows an operation reads: as its acceptance found them (R103). -/
def State.tailsFor (s : State) (o : Op) : List Chain := o.tails.getD s.store.chains

/-- Bytes of a source, from the snapshot's copies where it has taken them; a snapshot holds no tail (R334). -/
def State.srcRead (s : State) (tails : List Chain) (x : NearSrc) (off n : Nat) : List Byte :=
  match x.snap with
  | none => s.dpaRead tails (x.addr + off) n
  | some p => (List.range n).map (fun i =>
      let a := x.addr + off + i
      match p.copies.find? (·.1 == a / 4096) with
      | some c => c.2.byte a
      | none => s.pool.mem.byte a)

/-- Is some line of a source's range poisoned? -/
def State.srcBad (s : State) (tails : List Chain) (x : NearSrc) (off n : Nat) : Bool :=
  (linesOf (x.addr + off) n).any (fun l => match x.snap with
    | none => s.dpaBad tails l
    | some p => if p.copies.any (·.1 == l / 64) then p.bad.contains l else s.pool.poison.contains l)

/-! ### The operations (R336 to R339) -/

/-- Bytes of one element of REDUCE. -/
def reduceWidth (t : Nat) : Nat := if t = 1 || t = 2 then 2 else if t = 0x11 then 8 else 4

/-- Two data combined: SUM rounds to nearest even; MAX and MIN as R338 orders them. -/
def reduceF (op : Nat) (x y : F32) : F32 := if op = 0 then F32.add x y else if op = 1 then F32.max x y else F32.min x y

/-- Integers combined: wrapping sums; signed order for S32, unsigned for U64. -/
def reduceI (t op x y : Nat) : Nat :=
  let w := if t = 0x10 then 32 else 64
  let lt := if t = 0x10 then decide (sint 32 x < sint 32 y) else decide (x < y)
  if op = 0 then (x + y) % 2 ^ w else if op = 1 then (if lt then y else x) else (if lt then x else y)

/-- One element reduced over its sources in order. -/
def reduceElem (t op : Nat) : List Nat → Nat
  | [] => 0
  | x :: l =>
    if 0x10 ≤ t then l.foldl (reduceI t op) x
    else
      let dec := fun c : Nat => if t = 0 then BitVec.ofNat 32 c else F32.of ((if t = 1 then bf16 else fp16).decode c)
      let r := (l.map dec).foldl (reduceF op) (dec x)
      if t = 0 then r.toNat else (if t = 1 then bf16 else fp16).convert .nearestEven r.val

/-- The sources of an operation in order, with their addresses at offset 0. -/
def State.nearSrcs (s : State) (o : Op) : Except Status (List NearSrc) :=
  let snap := fun h : Nat => if h = 0 then Except.ok none else (s.poolSnap h o.order).map some
  match o.opcode with
  | 0x80 => .ok []
  | 0x81 => (snap (o.p 32 4)).map (fun x => [⟨o.p 24 8, x⟩])
  | 0x82 => (snap (o.p 32 4)).map (fun x => [⟨o.p 8 8, none⟩, ⟨o.p 24 8, x⟩])
  | _ => match o.work with
    | .near l _ => .ok ((if bit (o.p 27 1) 0 then [⟨o.p 8 8, none⟩] else []) ++ l.map (fun a => ⟨a, none⟩))
    | _ => .ok []

/-- The ranges of an operation, as R337 judges them: that they lie in ACTIVE extents over their whole length, and the host's rights
over the part `[off, off + len)` that is worked on (R90, Table 11-9); snapshot sources also by the snapshot. -/
def State.judgeNear (s : State) (o : Op) (srcs : List NearSrc) (off len : Nat) : Option Status :=
  let n := o.p 16 8
  let part := fun a k => (if o.opcode = 0x82 then [] else [(o.p 8 8 + a, k, true)]) ++ srcs.map (fun x => (x.addr + a, k, false))
  if srcs.any (fun x => x.snap.any (fun p => x.addr < p.base || p.base + p.length < x.addr + n)) ||
      (part 0 n).any (fun r => !s.rangeActive r.1 r.2.1) then some .outOfRange
  else s.judgeRanges (s.opFn o) (part off len)

/-- The recalls of one unit: sources downgraded, the destination invalidated (R339). -/
def State.nearRecall (s : State) (o : Op) (srcs : List NearSrc) (off n : Nat) : State :=
  let s := (srcs.filter (·.snap.isNone)).foldl (fun s x => s.recallRange (x.addr + off) n true) s
  if o.opcode = 0x82 then s else s.recallRange (o.p 8 8 + off) n false

/-- Must the unit still wait for a recall? -/
def State.nearWaits (s : State) (o : Op) (srcs : List NearSrc) (off n : Nat) : Bool :=
  srcs.any (fun x => x.snap.isNone && s.recalling (x.addr + off) n) || (o.opcode != 0x82 && s.recalling (o.p 8 8 + off) n)

/-- The bytes an operation writes at an offset. -/
def State.nearBytes (s : State) (o : Op) (srcs : List NearSrc) (off n : Nat) : List Byte :=
  match o.opcode with
  | 0x80 => (List.range n).map (fun i => BitVec.ofNat 8 (o.p (24 + (off + i) % 8) 1))
  | 0x81 => srcs.flatMap (fun x => s.srcRead (s.tailsFor o) x off n)
  | _ =>
    let w := reduceWidth (o.p 24 1)
    (List.range (n / w)).flatMap (fun i =>
      leBytes w (reduceElem (o.p 24 1) (o.p 25 1) (srcs.map (fun x => leNat (s.srcRead (s.tailsFor o) x (off + i * w) w)))))

/-- One unit's work: the state, the first differing byte of COMPARE, and whether a source line was poisoned. -/
def State.nearUnit (s : State) (o : Op) (srcs : List NearSrc) (off n : Nat) : State × Option Nat × Bool :=
  let s := s.bumpAt 0x20B 1 (some (s.opPart o)) none
  let bad := srcs.any (fun x => s.srcBad (s.tailsFor o) x off n)
  if o.opcode = 0x82 then
    let diff := (List.range n).find? (fun i => (srcs.map (fun x => s.srcRead (s.tailsFor o) x (off + i) 1)).eraseDups.length = 2)
    (s, diff.map (· + off), bad)
  else
    let a := o.p 8 8 + off
    let fed := (linesOf a n).filter (fun l =>
      let lo := max a (l * 64)
      srcs.any (fun x => s.srcBad (s.tailsFor o) x (lo - o.p 8 8) (min (a + n) (l * 64 + 64) - lo)))
    let b := s.nearBytes o srcs off n
    (((s.dpaStore a b false).dpaPoison fed), none, bad)

/-- The fields of the four commands (Table 11-8, R337, R338). -/
def Op.nearFieldsOk (o : Op) : Bool :=
  let n := o.p 16 8
  n != 0 && n % 64 = 0 && (match o.opcode with
    | 0x81 => o.p 8 8 + n ≤ o.p 24 8 || o.p 24 8 + n ≤ o.p 8 8
    | 0x83 => [0, 1, 2, 0x10, 0x11].contains (o.p 24 1) && o.p 25 1 < 3 && 1 ≤ o.p 26 1 && o.p 26 1 ≤ 8 && o.p 27 1 < 2
    | _ => true)

/-- The result before the first unit: no byte written, or no difference found. -/
def Op.nearStart (o : Op) : Nat := if o.opcode = 0x82 then 2 ^ 64 - 1 else 0

/-- A near-memory operation whose sources are known: long above 4 MiB, else its one unit. -/
def State.nearRun (s : State) (o : Op) : BodyOut :=
  let n := o.p 16 8
  match s.nearSrcs o with
  | .error st => .done st 0 s
  | .ok srcs => match s.judgeNear o srcs 0 n with
    | some st => .done st 0 s
    | none =>
      if 4 * 2 ^ 20 < n then .long (cdiv n (4 * 2 ^ 20)) o.nearStart s
      else
        let s := s.nearRecall o srcs 0 n
        if s.nearWaits o srcs 0 n then .wait .recall s
        else
          let r := s.nearUnit o srcs 0 n
          .done (if r.2.2 then .poisoned else .ok) (if o.opcode = 0x82 then r.2.1.getD o.nearStart else n) r.1

/-- FILL, COPY, COMPARE and REDUCE; REDUCE reads its list of sources first (R321). -/
def bodyNear (o : Op) (s : State) : BodyOut :=
  if !o.nearFieldsOk then .done .badParam 0 s
  else match o.opcode, o.work with
    | 0x83, .nothing => s.withRead o o.buf (8 * o.p 26 1) (fun b =>
        let l := (List.range (o.p 26 1)).map (fun i => leNat ((b.drop (8 * i)).take 8))
        let o := { o with work := .near l false, tails := some (s.tailsFor o) }
        (s.setOp o.tag (fun _ => o)).nearRun o)
    | _, .nothing =>
      let o := { o with work := .near [] false, tails := some (s.tailsFor o) }
      (s.setOp o.tag (fun _ => o)).nearRun o
    | _, _ => s.nearRun o

/-- A unit of a long near-memory operation: 4 MiB. -/
def unitNear (o : Op) (s : State) : UnitOut :=
  let n := o.p 16 8
  let off := 4 * 2 ^ 20 * o.unitsDone
  let len := min (4 * 2 ^ 20) (n - off)
  match s.nearSrcs o with
  | .error st => .cut st o.result off s
  | .ok srcs => match s.judgeNear o srcs off len with
    | some st => .cut st o.result off s
    | none =>
      let s := s.nearRecall o srcs off len
      if s.nearWaits o srcs off len then .stay s
      else
        let r := s.nearUnit o srcs off len
        let was := match o.work with
          | .near _ b => b
          | _ => false
        let bad := was || r.2.2
        let result := if o.opcode = 0x82 then (if o.result = o.nearStart then r.2.1.getD o.nearStart else o.result) else off + len
        let s := r.1.setOp o.tag (fun o => { o with work := (match o.work with
          | .near l _ => .near l bad
          | w => w) })
        if o.unitsDone + 1 < o.unitsTotal then .more result (off + len) s
        else .last (if bad then .poisoned else .ok) result (off + len) s

/-- FILL from a queue pair. -/
def execFill (c : Cmd) (s : State) : Host.Outcome State Fault Refusal := .next (s.submitTaking 0x80 bodyNear c)
/-- COPY from a queue pair. -/
def execCopy (c : Cmd) (s : State) : Host.Outcome State Fault Refusal := .next (s.submitTaking 0x81 bodyNear c)
/-- COMPARE from a queue pair. -/
def execCompare (c : Cmd) (s : State) : Host.Outcome State Fault Refusal := .next (s.submitTaking 0x82 bodyNear c)
/-- REDUCE from a queue pair. -/
def execReduce (c : Cmd) (s : State) : Host.Outcome State Fault Refusal := .next (s.submitTaking 0x83 bodyNear c)

/-! ### POOL_SNAPSHOT (R333 to R336) -/

/-- Is some group of the range OWNED? -/
def State.ownedIn (s : State) (a n : Nat) : Bool :=
  s.pool.dir.any (fun e => a < e.group * 256 + 256 && e.group * 256 < a + n && e.state == .owned)

/-- The snapshot that a CREATE is making. -/
def State.making (s : State) (tag : Nat) : Option PoolSnap := s.pool.snaps.find? (fun x => x.maker == some tag)

/-- The snapshot instant: every granule is marked copy-on-write and the extent's version increments (R333). -/
def State.markSnap (s : State) (x : PoolSnap) : Nat × State :=
  let v := ((s.extent x.extent).elim 0 (·.version) + 1) % 2 ^ 64
  let s := s.updExtent x.extent (fun e => { e with version := v })
  let done := fun y : PoolSnap => { y with
    maker := none, version := v, expires := if y.ttl = 0 then none else some (s.clock.now + y.ttl * 1000000) }
  (x.handle + v % 2 ^ 32 * 2 ^ 32, { s with pool.snaps := upd (fun y : PoolSnap => y.slot == x.slot) done s.pool.snaps }.serveHeld)

/-- CREATE goes on: downgrades of the whole range, then the instant. -/
def State.snapRun (s : State) (x : PoolSnap) : BodyOut :=
  let s := s.recallRange x.base x.length true
  if s.recalling x.base x.length || s.ownedIn x.base x.length then .wait .recall s
  else
    let r := s.markSnap x
    .done .ok r.1 r.2

/-- CREATE: grants in the range are limited to SHARED from acceptance on; long above 256 MiB. -/
def snapCreate (o : Op) (s : State) : BodyOut :=
  let a := o.p 16 8
  let n := o.p 24 8
  match s.making o.tag with
  | some x => s.snapRun x
  | none =>
    if a % 4096 != 0 || n = 0 || n % 4096 != 0 then .done .badParam 0 s
    else match s.extentAt a n, s.hostOf (s.opFn o) with
      | some e, some h =>
        if !e.activeFor h then .done .outOfRange 0 s
        else if !s.rangeAllowed (s.opFn o) a n false then .done .denied 0 s
        else match lowestFree (s.pool.snaps.map (·.slot)) 0 (min 4096 (s.pool.snaps.length + 1)) with
          | none => .done .quotaExceeded 0 s
          | some i =>
            let gen := nextGen 20 (assoc s.pool.snapGens i 0)
            let x : PoolSnap :=
              { slot := i, gen := gen, extent := e.id, base := a, length := n, budget := o.p 32 8, used := 0, version := 0
                ttl := o.p 40 4, maker := some o.tag, expires := none, expired := none, released := none, copies := [], bad := [] }
            let s := { s with pool.snaps := s.pool.snaps ++ [x], pool.snapGens := assocSet s.pool.snapGens i gen }
            if 256 * 2 ^ 20 < n then .long (cdiv n (256 * 2 ^ 20)) 0 s else s.snapRun x
      | _, _ => .done .outOfRange 0 s

/-- One span of a RESTORE: the range is recalled by invalidation and the copies are written back (R335). -/
def State.restoreUnit (s : State) (x : PoolSnap) (off n : Nat) : Option State :=
  let a := x.base + off
  let s := s.recallRange a n false
  if s.recalling a n then none
  else
    let mine := x.copies.filter (fun c => a ≤ c.1 * 4096 && c.1 * 4096 < a + n)
    some (mine.foldl (fun s c =>
      (s.poolStore (c.1 * 4096) (c.2.read (c.1 * 4096) 4096) false).poisonLines (x.bad.filter (fun l => l / 64 == c.1))) s)

/-- POOL_SNAPSHOT (Table 11-8). -/
def bodyPoolSnapshot (o : Op) (s : State) : BodyOut :=
  let act := o.p 8 1
  let known := fun k : PoolSnap → BodyOut =>
    match s.pool.snaps.find? (fun x => x.handle == o.p 12 4 && x.maker.isNone && x.released.isNone) with
    | some x => k x
    | none => .done .badHandle 0 s
  match act with
  | 0 => snapCreate o s
  | 1 => known (fun x =>
      let gone := fun y : PoolSnap => { y with released := some s.q.accepted }
      let l := upd (fun y : PoolSnap => y.slot == x.slot) gone s.pool.snaps
      .done .ok 0 { s with pool.snaps := l.filterMap (PoolSnap.kept s.q.ops) })
  | 2 => (match s.poolSnap (o.p 12 4) o.order with
    | .error st => .done st 0 s
    | .ok x => match s.judgeRanges (s.opFn o) [(x.base, x.length, true)] with
      | some st => .done st 0 s
      | none =>
        if 4 * 2 ^ 20 < x.length then .long (cdiv x.length (4 * 2 ^ 20)) 0 s
        else match s.restoreUnit x 0 x.length with
          | some t => .done .ok 0 t
          | none => .wait .recall (s.recallRange x.base x.length false))
  | 3 => known (fun x =>
      s.writeThen o o.buf (leBytes 8 x.base ++ leBytes 8 x.length ++ leBytes 8 x.used ++ leBytes 8 x.version ++
        leBytes 8 (b2n x.expired.isSome) ++ leBytes 24 0) (fun s => .done .ok 0 s))
  | _ => .done .badParam 0 s

/-- A unit of a long CREATE (256 MiB of downgrades; the instant in the last) or of a long RESTORE (4 MiB). -/
def unitPoolSnapshot (o : Op) (s : State) : UnitOut :=
  let last := o.unitsDone + 1 = o.unitsTotal
  if o.p 8 1 = 0 then
    match s.making o.tag with
    | none => .cut .outOfRange 0 o.unitsDone s
    | some x =>
      if (s.extent x.extent).isNone then .cut .outOfRange 0 o.unitsDone s
      else
        let off := 256 * 2 ^ 20 * o.unitsDone
        let n := min (256 * 2 ^ 20) (x.length - off)
        let s := s.recallRange (x.base + off) n true
        if s.recalling (x.base + off) n then .stay s
        else if !last then .more 0 (off + n) s
        else match s.snapRun x with
          | .done st r s => if st = .ok then .last st r x.length s else .cut st r off s
          | .wait _ s => .stay s
          | .long _ _ s => .stay s
  else match s.poolSnap (o.p 12 4) o.order with
    | .error st => .cut st 0 o.unitsDone s
    | .ok x =>
      let off := 4 * 2 ^ 20 * o.unitsDone
      let n := min (4 * 2 ^ 20) (x.length - off)
      match s.judgeRanges (s.opFn o) [(x.base, x.length, true)], s.restoreUnit x off n with
      | some st, _ => .cut st 0 off s
      | none, none => .stay (s.recallRange (x.base + off) n false)
      | none, some t => if last then .last .ok 0 x.length t else .more 0 (off + n) t

/-- POOL_SNAPSHOT from a queue pair. -/
def execPoolSnapshot (c : Cmd) (s : State) : Host.Outcome State Fault Refusal := .next (s.submit 0x84 bodyPoolSnapshot c)

/-- A pool snapshot's time to live passes (R334). -/
def execPoolSnapshotExpiry (slot : Nat) (s : State) : Host.Outcome State Fault Refusal :=
  match s.pool.snaps.find? (fun x => x.slot == slot && x.expires.any (fun t => decide (t ≤ s.clock.now))) with
  | some x => .next (s.expireSnap x)
  | none => .next s

/-! ### Lines lost (R421) -/

/-- Can an uncorrectable line of the deck be rebuilt: parity or mirror, with every stack in service (R340)? -/
def State.deckRebuilds (s : State) : Bool := deckMode s.stg.live != 0 && s.boot.stackOk = 63

end Sys2Proof.Machine
end

