-- ==== Sys2Proof/Machine/Remote.lean ====
section
/-! DEFINITION. Remote.lean: connections, regions and keys, RMA_WRITE and RMA_READ, notification queues and waits, inbound
packets and timers, and what a scheduling port sends next (Remote access over Ethernet, R344 to R361; R265, R267). -/
namespace Sys2Proof.Machine

/-! ### RMA_CONNECT (R347, Table 12-3) -/

/-- The RETRY of a command that needs a link that is down (R345). -/
def linkRetry (s : State) : BodyOut := .done .retry 2 s

/-- Does a port carry traffic: its link is up, and MKA has secured it where that is required (R345, R404)? -/
def State.ethReady (s : State) (port : Nat) : Bool := s.linkUp port && !s.macShut port

/-- The connection that a received frame belongs to; a port that must be secured takes no other frames (R404). -/
def State.connIn (s : State) (qpn : Nat) : Option Conn := (s.connOfQpn qpn).filter (fun c => !s.macShut c.port)

/-- May a partition use an Ethernet scheduling port (R347)? -/
def State.ethAllowed (s : State) (port part : Nat) : Bool :=
  !partHard s.stg.live part || bit (partEth s.stg.live part) (port - 32)

/-- A connection goes to CLOSED: its operations end, and its slot is free (Table 12-2). -/
def State.closeConn (s : State) (c : Conn) : State :=
  let s := s.endConnOps c .retry
  { s with
    rma.conns := s.rma.conns.filter (fun x => x.slot != c.slot)
    rma.matchSlots := s.rma.matchSlots.filter (fun m => m.conn != c.handle) }

/-- CREATE. -/
def connCreate (o : Op) (s : State) : BodyOut :=
  let port := o.p 9 1
  let part := o.p 10 1
  if port < 32 || 40 ≤ port || !partValid s.stg.live part then .done .badParam 0 s
  else if !s.mayPart (s.opFn o) part || !s.ethAllowed port part then .done .denied 0 s
  else if !s.ethReady port then linkRetry s
  else match lowestFree (s.rma.conns.map (·.slot)) 0 (min 16384 (s.rma.conns.length + 1)) with
    | none => .done .quotaExceeded 0 s
    | some i =>
      let gen := nextGen 18 (assoc s.rma.connGens i 0)
      let c : Conn :=
        { slot := i, gen := gen, span := tagSpan o.tag, port := port, partition := part, state := .created, peerQpn := 0
          peerIp := 0, peerMac := 0, vlan := none, ipv6 := false, dscp := 0, mtu := 4096, ackCode := 0, retry := 0, rnrCode := 0
          rnrRetry := 0, queue := 0, psn := 0, acked := 0, expectPsn := 0, retries := 0, rnrTries := 0, counter := 0, msgs := []
          nextMsg := 0, rate := 1024, timer := none, rnrWait := false, lastCnp := none, received := 0 }
      .done .ok (c.handle + c.qpn * 2 ^ 32) { s with rma.conns := s.rma.conns ++ [c], rma.connGens := assocSet s.rma.connGens i gen }

/-- ARM: CREATED to READY. -/
def connArm (o : Op) (c : Conn) (s : State) : BodyOut :=
  let t := o.p 46 1 % 32
  if 4 ≤ o.p 11 1 || 64 ≤ o.p 44 1 || 3 ≤ o.p 45 1 || t < 1 || 20 < t || c.state != .created ||
      (!bit (o.p 11 1) 1 && o.p 42 2 != 0) || (!bit (o.p 11 1) 0 && o.p 24 12 != 0) || (o.expert && 16 ≤ o.p 48 1) then
    .done .badParam 0 s
  else if !s.ethReady c.port then linkRetry s
  else .done .ok 0 (s.updConn c.slot (fun c => { c with
    state := .ready, ipv6 := bit (o.p 11 1) 0, vlan := if bit (o.p 11 1) 1 then some (o.p 42 2) else none
    peerQpn := o.p 16 3, peerIp := o.p 20 16, peerMac := o.p 36 6, dscp := o.p 44 1, mtu := 1024 * 2 ^ o.p 45 1
    ackCode := t, retry := o.p 46 1 / 32, rnrCode := o.p 47 1 % 32, rnrRetry := o.p 47 1 / 32
    queue := if o.expert then o.p 48 1 else 0 }))

/-- The code of a connection state. -/
def ConnState.code : ConnState → Nat
  | .created => 0
  | .ready => 1
  | .error => 2

/-- QUERY's 64 bytes (log entry 42): state, port, partition, queue, QPNs, PSNs, counter, retries, rate, units in flight. -/
def Conn.record (c : Conn) : List Byte :=
  leBytes 1 c.state.code ++ leBytes 1 c.port ++ leBytes 1 c.partition ++ leBytes 1 c.queue ++ leBytes 4 c.qpn ++
  leBytes 4 c.peerQpn ++ leBytes 4 c.psn ++ leBytes 4 c.acked ++ leBytes 4 c.expectPsn ++ leBytes 8 c.counter ++
  leBytes 4 c.mtu ++ leBytes 1 c.retries ++ leBytes 1 c.rnrTries ++ leBytes 2 c.rate ++ leBytes 4 c.msgs.length ++ leBytes 20 0

/-- RMA_CONNECT: a connection in ERROR answers RETRY to all but CLOSE (R347). -/
def bodyConnect (o : Op) (s : State) : BodyOut :=
  let act := o.p 8 1
  if 4 ≤ act then .done .badParam 0 s
  else if act = 0 then connCreate o s
  else match s.conn (o.p 12 4) with
    | none => .done .badHandle 0 s
    | some c =>
      if !s.mayPart (s.opFn o) c.partition then .done .denied 0 s
      else if act = 2 then
        .done .ok 0 (s.closeConn c)
      else if c.state = .error then .done .retry connFailed s
      else if act = 1 then connArm o c s
      else s.writeThen o o.buf c.record (fun s => .done .ok 0 s)

/-- RMA_CONNECT from a queue pair. -/
def execRmaConnect (c : Cmd) (s : State) : Host.Outcome State Fault Refusal := .next (s.submit 0x90 bodyConnect c)

/-! ### RMA_REGION (R348, R349, R352) -/

/-- The scope that a registration names: 0, or the handle of a connection of the partition. -/
def State.scopeOk (s : State) (h part : Nat) : Option Status :=
  if h = 0 then none
  else match s.conn h with
    | none => some .badHandle
    | some c => if c.partition != part then some .denied else if c.state = .error then some .retry else none

/-- A region registered under a fresh key (R349). -/
def State.addRegion (s : State) (o : Op) (r : RRegion) : BodyOut :=
  match lowestFree (s.rma.regions.map (·.slot)) 0 (min 65536 (s.rma.regions.length + 1)) with
  | none => .done .quotaExceeded 0 s
  | some i =>
    s.withEntropy o (fun s =>
      let gen := nextGen 8 (assoc s.rma.regionGens i 0)
      let d := s.draw
      let r := { r with slot := i, gen := gen, check := d.1.toNat % 256, scope := o.p 12 4 }
      let s := { d.2 with rma.regions := s.rma.regions ++ [r], rma.regionGens := assocSet s.rma.regionGens i gen }
      .done .ok (r.key + cdiv r.length 64 % 2 ^ 32 * 2 ^ 32) s)

/-- Is a range fit for an EXTENT region of a partition: 4 KiB aligned and in its ACTIVE extents (R348)? -/
def State.regionRange (s : State) (base len part : Nat) : Option Status :=
  if base % 4096 != 0 || len % 4096 != 0 || len = 0 then some .badParam
  else if !s.rangeActive base len || (s.extentAt base 1).any (fun e => e.partition != part) then some .outOfRange else none

/-- REGISTER_EXTENT. -/
def regionExtent (o : Op) (s : State) : BodyOut :=
  let part := o.p 33 1
  if o.handle != 0 || o.p 32 1 = 0 || 4 ≤ o.p 32 1 || !partValid s.stg.live part then .done .badParam 0 s
  else if !s.mayPart (s.opFn o) part then .done .denied 0 s
  else match s.scopeOk (o.p 12 4) part, s.regionRange (o.p 16 8) (o.p 24 8) part with
    | some st, _ => .done st (if st = .retry then connFailed else 0) s
    | none, some st => .done st 0 s
    | none, none => s.addRegion o
        { slot := 0, gen := 0, check := 0, pages := none, base := o.p 16 8, length := o.p 24 8, readable := bit (o.p 32 1) 0
          writable := bit (o.p 32 1) 1, partition := part, scope := 0, pinSlot := none, dead := false, dying := false }

/-- DECK_PIN's pin (R210, R351): it lasts as long as the region. -/
def State.regionPin (s : State) (n : Namespace) (ids : List Nat) : Option (Nat × State) :=
  match lowestFree (s.store.pins.map (·.slot)) 0 (min 65536 (s.store.pins.length + 1)) with
  | none => none
  | some i =>
    let gen := nextGen 16 (assoc s.store.pinGens i 0)
    let pin : Pin := ⟨i, gen, ids, s.clock.now + 2 ^ 64, some 0, n.partition, n.handle⟩
    let t := { s with
      store.pins := s.store.pins ++ [pin]
      store.pinGens := assocSet s.store.pinGens i gen }
    if s.guarantee n.partition 0 < t.pinnedBytes n.partition 0 then none
    else some (i, t.queueMove (t.slowerThan ids 0) false 0 0x08 true)

/-- REGISTER_PAGES: the version current now is held as an implicit snapshot (R351). -/
def regionPagesNew (o : Op) (s : State) : BodyOut :=
  s.withNs o (fun n => match s.named n (o.p 16 4) (o.p 20 1) with
    | .busy => .wait .ended s
    | .refused st => .done st 0 s
    | .view v =>
      let all := v.count n.geo.b
      let first := o.p 24 4
      let count := if o.p 28 4 = 0 then all - first else o.p 28 4
      if o.expert && 2 ≤ o.p 33 1 then .done .badParam 0 s
      else if !s.mayPart (s.opFn o) n.partition then .done .denied 0 s
      else if all < first + count || count = 0 then .done .outOfRange 0 s
      else match s.scopeOk (o.p 12 4) n.partition with
        | some st => .done st (if st = .retry then connFailed else 0) s
        | none =>
          s.withEntropy o (fun s => match s.addSnapshot v none true with
            | none => .done .quotaExceeded 0 s
            | some (h, t) =>
              let ids := (List.range count).filterMap (fun i => v.blockAt (first + i))
              let pinned := if o.expert && bit (o.p 33 1) 0 then (t.regionPin n ids).map (fun x => (some x.1, x.2)) else some (none, t)
              match pinned with
              | none => .done .quotaExceeded 0 s
              | some (p, t) => (match t.addRegion o
                  { slot := 0, gen := 0, check := 0, pages := some (h, first, count), base := 0
                    length := n.geo.l * count * n.geo.deliveredBytes n.geo.fmt, readable := true, writable := false
                    partition := n.partition, scope := 0, pinSlot := p, dead := false, dying := false } with
                | .done .ok r u => .done .ok r u
                | .done st r _ => .done st r s
                | .long _ _ _ | .wait _ _ => .done .quotaExceeded 0 s)))

/-- A region removed: its snapshot and its pin go. -/
def State.dropRegion (s : State) (r : RRegion) : State :=
  let mine := fun x : Snapshot => match r.pages with
    | some p => mkHandle 18 x.slot x.gen == p.1
    | none => false
  ({ s with
    rma.regions := s.rma.regions.filter (fun x => x.slot != r.slot)
    rma.stale := s.rma.stale.filter (fun x => x.entry.slot != r.slot)
    store.snapshots := s.store.snapshots.filter (fun x => !mine x)
    store.pins := s.store.pins.filter (fun p => some p.slot != r.pinSlot) }).gc

/-- Does an inbound request, a response or a local command still use a region? -/
def State.regionUsed (s : State) (r : RRegion) : Bool :=
  s.rma.conns.any (fun c => c.msgs.any (fun m => m.region.any (·.slot = r.slot))) ||
    s.pool.heldReqs.any (fun h => match h.req with
      | .inbound m => m.region.any (·.slot = r.slot)
      | .read _ | .own | .write .. | .commit _ => false) ||
    s.q.ops.any (fun x => (x.opcode = 0x92 || x.opcode = 0x93) && x.work != .nothing && x.p 16 4 = r.key && !x.finished)

/-- QUERY's 64 bytes of a region (log entry 42): kind, rights, partition, scope, base, length, first block and count. -/
def RRegion.record (r : RRegion) : List Byte :=
  leBytes 1 (b2n r.pages.isSome) ++ leBytes 1 (b2n r.readable + 2 * b2n r.writable) ++ leBytes 1 r.partition ++
  leBytes 1 (b2n r.dead) ++ leBytes 4 r.scope ++ leBytes 8 r.base ++ leBytes 8 r.length ++
  leBytes 4 (r.pages.elim 0 (·.2.1)) ++ leBytes 4 (r.pages.elim 0 (·.2.2)) ++ leBytes 32 0

/-- DEREGISTER: later users find no key; it completes once the earlier ones have ended (Table 12-6). -/
def regionRemove (r : RRegion) (s : State) : BodyOut :=
  let s := { s with rma.regions := upd (fun x : RRegion => x.slot == r.slot) (fun x => { x with dying := true }) s.rma.regions }
  if s.regionUsed r then .wait .ended s else .done .ok 0 (s.dropRegion r)

/-- DIRECT_KEY: base, length and rights rewritten in place, where the partition has DIRECT_WRITE; for 512 µs a request may still
find the entry as it was (R93, R352, Table 14-9). -/
def regionRewrite (o : Op) (r : RRegion) (s : State) : BodyOut :=
  if !o.expert || r.pages.isSome || o.p 32 1 = 0 || 4 ≤ o.p 32 1 || o.p 33 1 != r.partition then .done .badParam 0 s
  else if !directWrite (s.itemsOf o) r.partition then .done .denied 0 s
  else match s.regionRange (o.p 16 8) (o.p 24 8) r.partition with
    | some st => .done st 0 s
    | none =>
      let new := { r with base := o.p 16 8, length := o.p 24 8, readable := bit (o.p 32 1) 0, writable := bit (o.p 32 1) 1, dead := false }
      .done .ok (r.key + cdiv new.length 64 % 2 ^ 32 * 2 ^ 32)
        { s with
          rma.regions := upd (fun x : RRegion => x.slot == r.slot) (fun _ => new) s.rma.regions
          rma.stale := ⟨r, s.clock.now + 512000⟩ :: s.rma.stale.filter (fun x => s.clock.now ≤ x.until_) }

/-- RMA_REGION. -/
def bodyRegion (o : Op) (s : State) : BodyOut :=
  let act := o.p 8 1
  if 5 ≤ act || (act != 1 && o.handle != 0) then .done .badParam 0 s
  else if act = 0 then regionExtent o s
  else if act = 1 then regionPagesNew o s
  else
    match s.rma.regions.find? (fun r => r.key == o.p 12 4 && (!r.dying || (act = 2 && o.wait = .ended))) with
    | none => .done .badHandle 0 s
    | some r =>
      if !s.mayPart (s.opFn o) r.partition then .done .denied 0 s
      else if act = 2 then regionRemove r s
      else if act = 3 then s.writeThen o o.buf r.record (fun s => .done .ok (r.key + cdiv r.length 64 % 2 ^ 32 * 2 ^ 32) s)
      else if r.dead then .done .badHandle 0 s
      else regionRewrite o r s

/-- RMA_REGION from a queue pair. -/
def execRmaRegion (c : Cmd) (s : State) : Host.Outcome State Fault Refusal := .next (s.submit 0x91 bodyRegion c)

/-! ### RMA_WRITE and RMA_READ (R354, R355) -/

/-- Bytes of one message: 4 MiB at 800 Gb/s, 2 MiB on a breakout. -/
def SPort.messageSize (p : SPort) : Nat := if 100 ≤ p.raw then 4 * 2 ^ 20 else 2 * 2 ^ 20

/-- Has a command on the connection that was accepted earlier not queued its messages yet (R359)? -/
def State.rmaBehind (s : State) (o : Op) : Bool :=
  s.q.ops.any (fun x => (x.opcode = 0x92 || x.opcode = 0x93) && x.p 8 4 = o.p 8 4 && x.order < o.order && x.work = .nothing)

/-- The messages of a command, in offset order; the immediate rides the last. -/
def rmaMessages (o : Op) (region : Option RRegion) (size : Nat) : List Msg :=
  let n := o.p 40 8
  let k := max 1 (cdiv n size)
  (List.range k).map (fun i =>
    { id := 0, tag := some o.tag, unit := i, read := o.opcode = 0x93, region := region, local_ := o.p 24 8 + i * size, key := o.p 20 4
      offset := o.p 32 8 + i * size, length := min size (n - i * size)
      imm := if bit (o.p 12 1) 0 && i + 1 = k then some (o.p 48 4) else none, psn := none, got := 0 })

/-- RMA_WRITE and RMA_READ: the messages queue at the connection's port; all use the one key-cache entry the command finds. -/
def bodyRma (o : Op) (s : State) : BodyOut :=
  let n := o.p 40 8
  let imm := o.opcode = 0x92 && bit (o.p 12 1) 0
  if o.work != .nothing then .wait .none s
  else if 2 ≤ o.p 12 1 || (o.opcode = 0x93 && o.p 12 1 != 0) || 2 ^ 31 < n || (n = 0 && !imm) || (!imm && o.opcode = 0x92 && o.p 48 4 != 0) then
    .done .badParam 0 s
  else match s.conn (o.p 8 4) with
    | none => .done .badHandle 0 s
    | some c =>
      if !s.mayPart (s.opFn o) c.partition then .done .denied 0 s
      else if c.state != .ready then .done .retry connFailed s
      else if s.rmaBehind o then .wait .ended s
      else
        let pick := if n = 0 then (none, s) else s.pickKey (o.p 16 4)
        let r := pick.1.bind pick.2.entryNow
        let s := pick.2
        match s.port c.port with
        | none => linkRetry s
        | some p =>
          if !s.ethReady c.port then linkRetry s
          else if n != 0 && r.isNone then .done .badHandle 0 s
          else if r.any (fun r => r.partition != s.opPart o || !r.serves c || (o.opcode = 0x93 && r.pages.isSome)) then
            .done .denied 0 s
          else if r.any (fun r => !s.regionLive r || r.length < o.p 24 8 + n) then .done .outOfRange 0 s
          else
            let ms := rmaMessages o r p.messageSize
            let s := s.setOp o.tag (fun o => { o with work := .sent [] })
            let s := ms.foldl (fun s m => s.addMsg c.slot m) s
            if ms.length = 1 then .wait .none s else .long ms.length 0 s

/-- RMA_WRITE from a queue pair. -/
def execRmaWrite (c : Cmd) (s : State) : Host.Outcome State Fault Refusal := .next (s.submit 0x92 bodyRma c)
/-- RMA_READ from a queue pair. -/
def execRmaRead (c : Cmd) (s : State) : Host.Outcome State Fault Refusal := .next (s.submit 0x93 bodyRma c)

/-! ### What a port sends (R265, R267, R345) -/

/-- Why the source of a message cannot be sent, with the operation's result (R123, R355). -/
def State.msgBad (s : State) (r : RRegion) (m : Msg) : Option (Status × Option Nat) :=
  if !s.regionLive r then some (.outOfRange, none)
  else match s.regionBad r m.local_ m.length with
    | some .recompute => (match s.regionPages r with
      | some (.kv _ v first count) => some (.recompute, missingResult v.refs first count)
      | _ => some (.recompute, none))
    | some st => some (st, none)
    | none => none

/-- The PSNs a message takes: one a packet, for a READ one for each packet of its response. -/
def Msg.packets (m : Msg) (mtu : Nat) : Nat := packetsOf mtu m.length

/-- A message starts: it takes the connection's next PSNs, and the ACK timer runs. -/
def State.startMsg (s : State) (c : Conn) (m : Msg) : State :=
  if m.psn.isSome then s
  else s.updConn c.slot (fun c => { c with
    msgs := upd (fun x : Msg => x.id == m.id) (fun x => { x with psn := some c.psn }) c.msgs
    psn := psnAdd c.psn (m.packets c.mtu), timer := some (c.timer.getD s.clock.now) })

/-- The next packet of a message leaves a port. -/
def State.sendMsg (s : State) (p : SPort) (h : Head) (c : Conn) (m : Msg) : State :=
  let n := h.unit.piece p.num
  let off := h.unit.off
  let gone := s.purge (fun u => u.src == h.unit.src)
  let request := m.read && m.tag.isSome
  if c.state != .ready then gone
  else if m.length = 0 || request then
    let s := s.startMsg c m
    let psn := psnAdd (m.psn.getD c.psn) (m.got / c.mtu)
    let kind := if request then pktRead else if m.read then pktResponse else pktWriteImm
    let s := (s.portSent p h n).packet c kind psn [m.key, m.offset + m.got, m.length - m.got, m.imm.getD 0] []
    if m.tag.isNone then s.updConn c.slot (fun c => { c with msgs := c.msgs.filter (fun x => x.id != m.id) }) else s
  else match m.region.bind s.entryNow with
    | none => gone
    | some r =>
      match (if off = 0 || m.tag.isNone then s.msgBad r m else none) with
      | some (st, res) =>
        if m.tag.isSome then s.stopMsg m st res
        else gone.sendNak c (psnAdd (m.psn.getD 0) (off / c.mtu)) (if st = .outOfRange then 2 else 3)
      | none =>
        let s := s.regionRecall r (m.local_ + off) n true
        if s.regionRecalling r (m.local_ + off) n then s
        else
          let b := s.regionRead r (m.local_ + off) n
          let s := s.startMsg c m
          let last := off + n = m.length
          let kind := if m.tag.isNone then pktResponse else if last && m.imm.isSome then pktWriteImm else pktWrite
          let s := (s.portSent p h n).packet c kind (psnAdd (m.psn.getD c.psn) (off / c.mtu))
            [m.key, m.offset + off, m.length, if last then m.imm.getD 0 else 0] b
          let s := if last then s.touchRegion r m.local_ m.length else s
          if last && m.tag.isNone then s.updConn c.slot (fun c => { c with msgs := c.msgs.filter (fun x => x.id != m.id) }) else s

/-- A free port starts its next unit (R267): the scheduler's choice, its tokens and tags, its bytes on their way, and at a
unit's last write what follows from it. -/
def execSchedUnitStart (port : Nat) (s : State) : Host.Outcome State Fault Refusal :=
  match s.port port with
  | none => .next s
  | some p =>
    if !p.linked || s.clock.now < p.sentUntil || s.boot.linkwatch || s.macShut port then .next s
    else
      let hs := p.heads s.stg.live s.clock.now
      let s := (s.setPort (p.hold hs)).bump (0x403 + 4 * port) (hs.filter (fun h => h.colour = .red)).length
      match pickHead hs, s.port port with
      | some h, some p => .next (match h.unit.src with
        | .op _ => (s.sendPiece p h).stopDue
        | .plan .. => s.sendPiece p h
        | .msg c i => (match s.rma.conns.find? (fun x => x.slot == c) with
          | some c => (match c.msgs.find? (fun m => m.id == i) with
            | some m => s.sendMsg p h c m
            | none => s.purge (fun u => u.src == h.unit.src))
          | none => s.purge (fun u => u.src == h.unit.src)))
      | _, _ => .next s

/-! ### RMA_NOTIFY (R356, R357) -/

/-- A live notification queue by its handle. -/
def State.nq (s : State) (h : Nat) : Option NQ := s.rma.nqs.find? (fun q => q.handle == h)

/-- CREATE_NQ. -/
def nqCreate (o : Op) (s : State) : BodyOut :=
  let n := o.p 32 4
  let port := o.p 36 1
  let part := o.p 37 1
  if n < 64 || 65536 < n || 2 ^ Nat.log2 n != n || 32 ≤ port || !partValid s.stg.live part || 2048 ≤ o.p 38 2 || o.p 40 8 % 4096 != 0 then
    .done .badParam 0 s
  else if !s.mayPart (s.opFn o) part || !s.partLink port part then .done .denied 0 s
  else match lowestFree (s.rma.nqs.map (·.slot)) 0 (min 1024 (s.rma.nqs.length + 1)) with
    | none => .done .quotaExceeded 0 s
    | some i =>
      let gen := nextGen 22 (assoc s.rma.nqGens i 0)
      let q : NQ :=
        { slot := i, gen := gen, owner := s.opFn o, port := port, base := o.p 40 8, entries := n, tail := 0, count := 0
          phase := true, partition := part, vector := o.p 38 2, counter := 0, armed := true }
      .done .ok q.handle { s with rma.nqs := s.rma.nqs ++ [q], rma.nqGens := assocSet s.rma.nqGens i gen }

/-- QUERY's 64 bytes of a notification queue (log entry 42). -/
def NQ.record (q : NQ) : List Byte :=
  leBytes 4 q.entries ++ leBytes 4 q.tail ++ leBytes 4 q.count ++ leBytes 1 q.port ++ leBytes 1 q.partition ++ leBytes 2 q.vector ++
  leBytes 8 q.base ++ leBytes 8 q.counter ++ leBytes 32 0

/-- RMA_NOTIFY. -/
def bodyNotify (o : Op) (s : State) : BodyOut :=
  let act := o.p 8 1
  if 5 ≤ act then .done .badParam 0 s
  else if act = 0 then nqCreate o s
  else match s.nq (o.p 12 4) with
    | none => .done .badHandle 0 s
    | some q =>
      let m := o.p 28 2
      let conn := o.p 24 4
      if !s.mayPart (s.opFn o) q.partition then .done .denied 0 s
      else if act = 1 then
        let waits := s.q.ops.filter (fun x => x.opcode = 0x95 && x.p 12 1 = 1 && x.p 8 4 = q.handle && x.wait = .counter)
        let s := waits.foldl (fun s x => s.finish x.tag .badHandle 0) s
        .done .ok 0 { s with
          rma.nqs := s.rma.nqs.filter (fun x => x.slot != q.slot)
          rma.matchSlots := s.rma.matchSlots.filter (fun x => x.nq != q.slot) }
      else if act = 2 then
        if 4096 ≤ m then .done .badParam 0 s
        else if conn != 0 && (s.conn conn).isNone then .done .badHandle 0 s
        else if (s.conn conn).any (fun c => c.state = .error) then .done .retry connFailed s
        else .done .ok 0 { s with rma.matchSlots := ⟨m, q.slot, o.p 16 4, o.p 20 4, conn⟩ :: s.rma.matchSlots.filter (fun x => x.slot != m) }
      else if act = 3 then
        if !s.rma.matchSlots.any (fun x => x.slot == m && x.nq == q.slot) then .done .badParam 0 s
        else .done .ok 0 { s with rma.matchSlots := s.rma.matchSlots.filter (fun x => x.slot != m) }
      else s.writeThen o o.buf q.record (fun s => .done .ok 0 s)

/-- RMA_NOTIFY from a queue pair. -/
def execRmaNotify (c : Cmd) (s : State) : Host.Outcome State Fault Refusal := .next (s.submit 0x94 bodyNotify c)

/-- A write to the NQ head doorbell: entries are free, the queue is armed and re-sampled (R356, R450). -/
def execNqHeadDoorbell (r : Req) (nq value : Nat) (s : State) : Host.Outcome State Fault Refusal :=
  match s.rma.nqs.find? (fun q => q.slot == nq) with
  | none => .next s
  | some q =>
    if q.owner != r.fn || !s.hears r.fn r.tee then .next s
    else
      let s := s.wake
      let h := value % 2 ^ 16
      let head := (q.tail + q.entries - q.count) % q.entries
      let d := (h + q.entries - head) % q.entries
      let freed := if d = 0 && q.count = q.entries then q.entries else d
      if q.entries ≤ h || q.count < freed then .next s
      else
        let q := { q with count := q.count - freed, armed := true }
        .next (if q.count = 0 then s.setNq q else (s.setNq q).nqEvent q)

/-! ### RMA_WAIT (R358) -/

/-- The counter that a wait watches: present while its connection or queue is. -/
def State.waitCounter (s : State) (o : Op) : Option Nat :=
  if o.p 12 1 = 0 then (s.conn (o.p 8 4)).map (·.counter) else (s.nq (o.p 8 4)).map (·.counter)

/-- RMA_WAIT: it completes once the counter reaches the threshold, as a 64-bit serial number. -/
def bodyWait (o : Op) (s : State) : BodyOut :=
  if 2 ≤ o.p 12 1 || o.p 24 4 < 1 || 60000 < o.p 24 4 then .done .badParam 0 s
  else match s.waitCounter o with
    | none => .done .badHandle 0 s
    | some k =>
      let part := if o.p 12 1 = 0 then (s.conn (o.p 8 4)).elim 0 (·.partition) else (s.nq (o.p 8 4)).elim 0 (·.partition)
      if !s.mayPart (s.opFn o) part then .done .denied 0 s
      else if o.p 12 1 = 0 && (s.conn (o.p 8 4)).any (fun c => c.state = .error) then .done .retry connFailed s
      else if (k % 2 ^ 64 + 2 ^ 64 - o.p 16 8) % 2 ^ 64 < 2 ^ 63 then .done .ok (k % 2 ^ 64) s
      else
        let s := if o.work = .nothing then s.setOp o.tag (fun o => { o with work := .slots [s.clock.now] }) else s
        .wait .counter s

/-- RMA_WAIT from a queue pair. -/
def execRmaWait (c : Cmd) (s : State) : Host.Outcome State Fault Refusal := .next (s.submit 0x95 bodyWait c)

/-- A wait's timeout passes. -/
def execRmaWaitTimeout (tag : Nat) (s : State) : Host.Outcome State Fault Refusal :=
  match s.op tag with
  | some o =>
    (match o.opcode, o.work with
    | 0x95, .slots (t :: _) =>
      .next (if o.wait = .counter && t + o.p 24 4 * 1000000 ≤ s.clock.now then
        s.finish tag .deadlineMissed ((s.waitCounter o).getD 0 % 2 ^ 64) else s)
    | _, _ => .next s)
  | none => .next s

/-! ### Inbound packets (R344, R350, R351) -/

/-- A CE mark: a CNP, at most one each 50 µs on a connection (Table 12-1). -/
def State.ceMark (s : State) (c : Conn) (ce : Bool) : State :=
  if !ce || c.lastCnp.any (fun t => decide (s.clock.now < t + 50000)) then s
  else ((s.packet c pktCnp 0 [] []).bumpAt 0x285 1 (some c.partition) (some c.handle)).updConn c.slot
    (fun c => { c with lastCnp := some s.clock.now })

/-- A request from a peer: CREATED and ERROR drop it; a duplicate is answered again; one out of sequence gets a NAK; the next
one in sequence is judged against its key and waits for its memory (Table 12-2, R344, R350). -/
def State.inbound (s : State) (m : Inbound) (kind imm length : Nat) (bytes : List Byte) : State :=
  match s.connIn m.qpn with
  | none => s
  | some c =>
    let k := if kind = 2 then 1 else packetsOf c.mtu length
    let s := s.bumpAt 0x281 k (some c.partition) (some c.handle)
    if c.state != .ready || s.boot.halted || s.boot.linkwatch then s
    else
      let s := s.ceMark c m.ce
      let start := psnSub m.psn (k - 1)
      let a := s.admitRemote c m.key m.offset length (kind != 2)
      let s := a.2
      let nq := if kind = 1 then (s.matchImm c imm).map (·.slot) else none
      let x : InMsg := ⟨kind, m.qpn, m.psn, a.1, nq, m.offset, bytes, imm, length⟩
      let d := psnDiff c.expectPsn start
      if 0 < d then (s.packet c pktNak c.expectPsn [0] []).bumpAt 0x283 1 (some c.partition) (some c.handle)
      else if d < 0 && kind != 2 then s.sendAck c (psnSub c.expectPsn 1)
      else
        let s := if d < 0 then s
          else s.updConn c.slot (fun c => { c with expectPsn := psnAdd start (packetsOf c.mtu length) })
        s.request ⟨⟨0, 0, 0, true⟩, 0, 0, .inbound x⟩

/-- An inbound RDMA WRITE. -/
def execInboundRdmaWrite (m : Inbound) (bytes : List Byte) (s : State) : Host.Outcome State Fault Refusal :=
  .next (s.inbound m 0 0 bytes.length bytes)

/-- An inbound RDMA WRITE with immediate (R357). -/
def execInboundRdmaWriteImm (m : Inbound) (bytes : List Byte) (immediate : Nat) (s : State) : Host.Outcome State Fault Refusal :=
  .next (s.inbound m 1 immediate bytes.length bytes)

/-- An inbound RDMA READ (R351). -/
def execInboundRdmaRead (m : Inbound) (length : Nat) (s : State) : Host.Outcome State Fault Refusal :=
  .next (s.inbound m 2 0 length [])

/-- Messages acknowledged up to a PSN complete, in order, up to the first READ that still waits for its data. -/
def State.ackUpTo (s : State) (slot psn : Nat) : Nat → State
  | 0 => s
  | k + 1 =>
    match s.rma.conns.find? (·.slot == slot) with
    | none => s
    | some c => match c.oldest with
      | none => s
      | some m =>
        let last := psnAdd (m.psn.getD 0) (m.packets c.mtu - 1)
        if m.read || psnDiff last psn < 0 then s else (s.msgDone slot m).ackUpTo slot psn k

/-- An ACK's progress on a connection: the oldest unacknowledged PSN, the retry counts and the timer. -/
def State.ackSeen (s : State) (c : Conn) (psn : Nat) : State :=
  let s := s.updConn c.slot (fun c => { c with acked := psnAdd psn 1, retries := 0, rnrTries := 0, timer := some s.clock.now })
  let s := s.ackUpTo c.slot psn c.msgs.length
  s.updConn c.slot (fun c => { c with timer := if c.oldest.isNone then none else c.timer })

/-- Does a PSN acknowledge something in flight? -/
def Conn.inFlight (c : Conn) (psn : Nat) : Bool := 0 ≤ psnDiff c.acked psn && psnDiff c.psn psn < 0

/-- An ACK (R354). -/
def execInboundAck (qpn psn : Nat) (s : State) : Host.Outcome State Fault Refusal :=
  match s.connIn qpn with
  | none => .next s
  | some c =>
    let s := s.bumpAt 0x281 1 (some c.partition) (some c.handle)
    .next (if c.state = .ready && c.inFlight psn then s.ackSeen c psn else s)

/-- The requested messages queued again, from the oldest unacknowledged packet (go-back-N, Table 12-1). -/
def State.resend (s : State) (c : Conn) : State :=
  let mine := c.msgs.filter (·.tag.isSome)
  let ids := mine.map (·.id)
  let s := s.purge (fun u => match u.src with
    | .msg k i => k == c.slot && ids.contains i
    | .op _ | .plan .. => false)
  let again := fun m : Msg => match m.psn with
    | some p => if m.read then 0 else (psnDiff p c.acked).toNat * c.mtu
    | none => 0
  let s := mine.foldl (fun s m => s.queueMsg c m (min (again m) m.length)) s
  let n := (psnDiff c.acked c.psn).toNat
  (s.bumpAt 0x282 n (some c.partition) (some c.handle)).updConn c.slot (fun c => { c with rnrWait := false, timer := some s.clock.now })

/-- A NAK: RNR is honoured while its retries last, and any other puts the connection into ERROR (Table 12-2, Table 12-4). -/
def execInboundNak (qpn : Nat) (nak : Nak) (s : State) : Host.Outcome State Fault Refusal :=
  match s.connIn qpn with
  | none => .next s
  | some c =>
    let s := s.bumpAt 0x281 1 (some c.partition) (some c.handle)
    if c.state != .ready || c.oldest.isNone then .next s
    else match nak with
      | .sequence => .next (s.connError c.slot .retry)
      | .remoteAccess => .next (s.connError c.slot .denied)
      | .invalidRequest => .next (s.connError c.slot .badParam)
      | .remoteOperational => .next (s.connError c.slot .mediaError)
      | .rnr _ =>
        if c.rnrRetry != 7 && c.rnrRetry ≤ c.rnrTries then .next (s.connError c.slot .retry)
        else
          let ids := (c.msgs.filter (·.tag.isSome)).map (·.id)
          let s := s.purge (fun u => match u.src with
            | .msg k i => k == c.slot && ids.contains i
            | .op _ | .plan .. => false)
          .next (s.updConn c.slot (fun c => { c with rnrTries := c.rnrTries + 1, rnrWait := true, timer := none }))

/-- READ responses: those before it are acknowledged, and it lands once memory is ready (R354). -/
def execInboundReadResponse (qpn psn : Nat) (bytes : List Byte) (s : State) : Host.Outcome State Fault Refusal :=
  match s.connIn qpn with
  | none => .next s
  | some c =>
    let k := packetsOf c.mtu bytes.length
    let s := s.bumpAt 0x281 k (some c.partition) (some c.handle)
    let start := psnSub psn (k - 1)
    if c.state != .ready || !c.inFlight start then .next s
    else
      let s := if start = c.acked then s else s.ackUpTo c.slot (psnSub start 1) c.msgs.length
      match (s.rma.conns.find? (·.slot == c.slot)).bind (·.oldest) with
      | none => .next s
      | some m =>
        let held := total (s.pool.heldReqs.map (fun h => match h.req with
          | .inbound x => if x.qpn = qpn && x.kind = 3 then x.length else 0
          | .read _ | .own | .write .. | .commit _ => 0))
        let fits := m.read && psnAdd (m.psn.getD 0) ((m.got + held) / c.mtu) = start && m.got + held + bytes.length ≤ m.length
        .next (if fits then s.request ⟨⟨0, 0, 0, true⟩, 0, 0,
            .inbound ⟨3, qpn, psn, m.region, none, m.local_ + m.got + held, bytes, 0, bytes.length⟩⟩ else s)

/-- A CNP: the connection's rate follows DCQCN, whose parameters the manual leaves to management (Table 12-1). -/
def execInboundCnp (qpn : Nat) (s : State) : Host.Outcome State Fault Refusal :=
  match s.connIn qpn with
  | none => .next s
  | some c => .next (((s.bumpAt 0x281 1 (some c.partition) (some c.handle)).bumpAt 0x286 1 (some c.partition) (some c.handle)).updConn
      c.slot (fun c => { c with rate := Config.dcqcnRate c.rate }))

/-- The ACK timer expires: go-back-N while retries last, else ERROR (R344, R347). -/
def execAckTimeout (qpn : Nat) (s : State) : Host.Outcome State Fault Refusal :=
  match s.connOfQpn qpn with
  | none => .next s
  | some c =>
    let due := c.timer.any (fun t => decide (t + 4096 * 2 ^ c.ackCode ≤ s.clock.now))
    if c.state != .ready || c.rnrWait || c.oldest.isNone || !due then .next s
    else if c.retry ≤ c.retries then .next (s.connError c.slot .retry)
    else .next ((s.updConn c.slot (fun c => { c with retries := c.retries + 1 })).resend c)

/-- The RNR timer expires: the message is retried. -/
def execRnrTimerExpiry (qpn : Nat) (s : State) : Host.Outcome State Fault Refusal :=
  match s.connOfQpn qpn with
  | none => .next s
  | some c => .next (if c.state = .ready && c.rnrWait then s.resend c else s)

/-! ### Registers (R361) -/

/-- RMA_STATUS (Table 12-7). -/
def State.rmaStatus (s : State) : Nat :=
  total ((List.range 4).map (fun e => b2n (s.linkUp (32 + 2 * e) || s.linkUp (33 + 2 * e)) * 2 ^ (28 + e))) + s.rma.conns.length

/-- RMA_ERRORS (Table 12-7). -/
def State.rmaErrors (s : State) : Nat := s.rma.accessNaks * 2 ^ 16 + s.rma.exhausted * 2 ^ 8 + s.rma.unmatched

end Sys2Proof.Machine
end

