-- ==== Sys2Proof/Machine/Security.lean ====
section
/-! DEFINITION. Security.lean: the tenant lifecycle, entropy requests, attestation, SPDM, IDE, TDISP, MACsec, weight bindings and
debug (Tenancy, attestation and protection, R382 to R414). -/
namespace Sys2Proof.Machine

/-! ### Entropy (R393 to R395) -/

/-- One waiting request fails: an operation ends with ENTROPY_UNAVAILABLE, a key exchange is refused. -/
def State.failRequest (s : State) (r : EReq) : State :=
  match r with
  | .op t => s.entropyFailed.finish t .entropyUnavailable 0
  | .keyExchange f _ => s.entropyFailed.emit (.spdm f false [])
  | .partner .. => s.entropyFailed

/-- Waiting requests, by their places in the list, fail. -/
def State.failWaiting (s : State) (sel : Nat × (EReq × Nat) → Bool) : State :=
  let l := s.sec.waiting.zipIdx.map (fun x => (x.2, x.1))
  let s := { s with sec.waiting := (l.filter (fun x => !sel x)).map (·.2) }
  (l.filter sel).foldl (fun s x => s.failRequest x.2.1) s

/-- A health test fails: DRBG output stops and its state is discarded, CONSEC_FAIL counts up, a record is written, and
the third failure latches (R394); before the fabric keys are drawn, the latch is the boot-failed state (R39). -/
def execEntropyHealthFail (test : EntropyTest) (s : State) : Host.Outcome State Fault Refusal :=
  if s.boot.phase = .off then .next s
  else
    let n := min 3 (s.sec.consecFail + 1)
    let s := { s with
      sec.sourceOk := false
      sec.requests := 0
      sec.consecFail := n
      sec.fails := min 255 (s.sec.fails + 1)
      sec.apt := test == EntropyTest.adaptiveProportion
      sec.rct := test == EntropyTest.repetitionCount
      sec.latched := s.sec.latched || n = 3 }
    let s := ((s.log (.plain .recovered 0x0601 0x6000 none)).bump 0x303 1).securityChanged
    let s := if s.sec.latched then s.failWaiting (fun _ => true) else s
    .next (if s.sec.latched && s.boot.phase = .sensing && s.sec.fabricKey.isNone then
      ({ s with boot.phase := .bootFailed, boot.bootFail := true }).readyChanged else s)

/-- A request that has waited 10 ms fails; `request` is its place among those that wait (R395). -/
def execEntropyWaitTimeout (request : Nat) (s : State) : Host.Outcome State Fault Refusal :=
  .next (if s.entropyOk then s else s.failWaiting (fun x => x.1 = request && x.2.2 + 10000000 ≤ s.clock.now))

/-- 2^20 samples pass after a reseed: CONSEC_FAIL returns to 0 (R394). -/
def execConsecFailClear (s : State) : Host.Outcome State Fault Refusal :=
  if s.sec.sourceOk && !s.sec.latched && s.sec.consecFail != 0 then
    .next ({ s with sec.consecFail := 0 }).securityChanged
  else .next s

/-- `n` numbers of the DRBG as one number of 64n bits. -/
def State.drawN (s : State) : Nat → Nat × State
  | 0 => (0, s)
  | n + 1 =>
    let d := s.draw
    let r := d.2.drawN n
    (d.1.toNat + 2 ^ 64 * r.1, r.2)

/-! ### SPDM sessions (R384, R396) -/

/-- A session by its identifier, once established. -/
def State.spdm (s : State) (id : Nat) : Option Spdm := s.sec.spdms.find? (fun x => x.id == id && x.established)

/-- A session established on a function. -/
def State.spdmOn (s : State) (f : Fn) (id : Nat) : Option Spdm := (s.spdm id).filter (fun x => x.fn == f)

/-- Is the session that a command names tenant-authenticated and live on the function, which is a tenant function (R384)? -/
def State.tenantSession (s : State) (f : Fn) (id : Nat) : Bool :=
  s.tenantFn f && (s.spdmOn f id).any (fun x => x.mutualAuth && x.key == s.sec.tenantKey)

/-- `f` on a session. -/
def State.updSpdm (s : State) (id : Nat) (f : Spdm → Spdm) : State := { s with sec.spdms := upd (·.id == id) f s.sec.spdms }

/-- A session ends. -/
def State.endSpdm (s : State) (id : Nat) : State := { s with sec.spdms := s.sec.spdms.filter (·.id != id) }

/-- A key exchange served: a fresh ephemeral key and random data, and a session that FINISH establishes (R393, Table 14-10). -/
def State.keyExchange (s : State) (f : Fn) (hbeat : Nat) : State :=
  let s := (s.drawN 10).2
  let x : Spdm := ⟨s.sec.nextSpdm, f, false, 0, 0, false, s.clock.now, 0, hbeat, s.clock.now⟩
  ({ s with sec.spdms := s.sec.spdms ++ [x], sec.nextSpdm := s.sec.nextSpdm + 1 }).emit (.spdm f true [x.id])

/-- Does DOE reach the device on a function: logical device 0 of a link, from READY.LINK (Table 14-10, Table 2-3)? -/
def State.doe (s : State) (f : Fn) : Bool := f.ld = 0 && f.link < 32 && s.boot.link

/-- SPDM KEY_EXCHANGE: at most 16 sessions; it waits while the entropy source releases no numbers (R395, R396). -/
def execSpdmKeyExchange (f : Fn) (hbeat : Nat) (s : State) : Host.Outcome State Fault Refusal :=
  if !s.doe f then .next s
  else
    let s := s.wake
    if 16 ≤ s.sec.spdms.length then .next (s.emit (.spdm f false []))
    else if s.entropyOk then .next (s.keyExchange f hbeat)
    else if s.sec.latched then .next (s.entropyFailed.emit (.spdm f false []))
    else .next { s with sec.waiting := s.sec.waiting ++ [(.keyExchange f hbeat, s.clock.now)] }

/-- The restarted source passes its start-up tests and the DRBG is reseeded: the exchanges that wait are served; an operation
that waits goes on with its next OPERATION_START (R394, R395). -/
def execEntropyRestartDone (s : State) : Host.Outcome State Fault Refusal :=
  if s.sec.sourceOk || s.sec.latched then .next s
  else
    let s := ({ s with sec.sourceOk := true, sec.requests := 0 }).securityChanged
    let isOp := fun x : EReq × Nat => match x.1 with
      | .op _ => true
      | .keyExchange .. | .partner .. => false
    let l := s.sec.waiting.filter (fun x => !isOp x)
    .next (l.foldl (fun s x => match x.1 with
      | .op _ => s
      | .keyExchange f h => if 16 ≤ s.sec.spdms.length then s.emit (.spdm f false []) else s.keyExchange f h
      | .partner p i n => s.partnerAttested p i n) { s with sec.waiting := s.sec.waiting.filter isOp })

/-- An SPDM session reaches 2^32 secured records or 24 h, and ends (Table 14-9). -/
def execSpdmSessionLimit (session : Nat) (s : State) : Host.Outcome State Fault Refusal :=
  .next (if s.sec.spdms.any (fun x => x.id == session &&
      (2 ^ 32 ≤ x.records || x.since + 86400000000000 ≤ s.clock.now)) then s.endSpdm session else s)

/-- A session with HBEAT gets no heartbeat within its period, and ends (R396). -/
def execSpdmHeartbeatTimeout (session : Nat) (s : State) : Host.Outcome State Fault Refusal :=
  .next (if s.sec.spdms.any (fun x => x.id == session && x.established && x.hbeat != 0 &&
      x.lastBeat + x.hbeat * 1000000000 ≤ s.clock.now) then s.endSpdm session else s)

/-! ### Security registers (R414) -/

/-- SEC_STATUS (Table 14-18). -/
def State.secStatus (s : State) : Nat :=
  s.sec.life.code * 2 ^ 29 + b2n (fixedRate s.stg.live) * 2 ^ 28 + b2n s.sec.debugOpen * 2 ^ 27 + b2n s.sec.diagOpen * 2 ^ 26 +
  b2n s.sec.latched * 2 ^ 25 + b2n (!s.entropyOk) * 2 ^ 24 + s.sec.lastCause * 2 ^ 20 +
  total ((List.range 4).map (fun e => b2n (s.sec.macsec.any (fun m => m.port == e && m.secured)) * 2 ^ (16 + e))) +
  s.boot.rollback % 256 * 2 ^ 8 + s.boot.svn % 256

/-- SEC_ENTROPY (Table 14-19). -/
def State.secEntropy (s : State) : Nat :=
  s.sec.consecFail * 2 ^ 24 + s.sec.fails * 2 ^ 16 + s.sec.waitFails * 2 ^ 8 + b2n s.sec.apt * 2 + b2n s.sec.rct

/-- The two bits of a link in SEC_LINK_IDE (Table 14-20). -/
def State.linkIde (s : State) (j : Nat) : Nat :=
  let l := s.sec.ides.filter (·.link == j)
  if l.any (·.left) then 3
  else if l.isEmpty || !l.all (·.secure) then 0
  else if s.sec.tdis.any (fun t => t.1.link == j && t.2 == .run) then 2 else 1

/-- SEC_LINK_IDE. -/
def State.secLinkIde (s : State) : Nat := total ((List.range 32).map (fun j => s.linkIde j * 4 ^ j))

/-! ### Attestation (R396 to R398) -/

/-- The marginal set as 256 bits (Table 14-11). -/
def Boot.marginalBits (b : Boot) : Nat :=
  total ((List.range 256).map (fun i => b2n (b.marginalSecurity.contains i || b.marginalOther.contains i) * 2 ^ i))

/-- The 48 bytes of the firmware measurement. -/
def State.fwMeasurement (s : State) : List Byte := beBytes 48 (s.boot.runningImage.elim 0 (·.measurement))

/-- Bit p of a mask for each partition that `f` selects. -/
def partMask (f : Nat → Bool) : Nat := total ((List.range 16).map (fun p => b2n (f p) * 2 ^ p))

/-- The flags of the report. -/
def State.reportFlags (s : State) : Nat :=
  let l := s.stg.live
  b2n s.inSession + 2 * b2n s.claimed + 4 * b2n (fmTrust l) + 8 * b2n (fixedRate l) + 16 * b2n s.sec.debugOpen +
  32 * b2n s.sec.diagOpen + 64 * b2n s.boot.marginal + 128 * b2n s.sec.latched + 256 * b2n (ideRequired l) +
  512 * b2n (s.sec.macsec.any (·.required))

/-- The 512-byte body of the attestation report (Table 14-11). -/
def State.attestBody (s : State) (nonce : Nat) : List Byte :=
  let l := s.stg.live
  leBytes 2 1 ++ leBytes 2 512 ++ leBytes 4 s.reportFlags ++ leBytes 8 (s.dieTime 0x6000) ++ leBytes 32 nonce ++
  beBytes 48 Config.identityDigest.toNat ++ s.fwMeasurement ++ leBytes 4 s.boot.svn ++ leBytes 4 s.boot.rollback ++
  leBytes 8 s.boot.serial ++ leBytes 2 s.boot.stepping ++ leBytes 1 s.boot.speedGrade ++
  leBytes 1 (b2n (s.boot.running = some .b)) ++ leBytes 4 s.devReady ++ beBytes 48 s.sec.tenant ++ leBytes 8 s.sec.session ++
  leBytes 8 s.stg.epoch ++ beBytes 48 s.stg.digest ++ leBytes 32 s.boot.marginalBits ++ leBytes 8 s.secLinkIde ++
  leBytes 2 (partMask (partValid l)) ++ leBytes 2 (partMask (partHard l)) ++ leBytes 2 (partMask (expertOn l)) ++ leBytes 2 0 ++
  leBytes 4 (if fixedRate l then fixedPeriod l else 0) ++ leBytes 1 s.sec.consecFail ++ leBytes 1 s.sec.lastCause ++ leBytes 2 0 ++
  leBytes 4 s.boot.claims ++ leBytes 172 0

/-- The report followed by its signature, r then s (R397). -/
def State.signedReport (s : State) (nonce : Nat) : List Byte :=
  let b := s.attestBody nonce
  b ++ beBytes 96 (Config.sign b)

/-- ATTEST_REPORT. -/
def bodyAttestReport (o : Op) (s : State) : BodyOut :=
  if o.buf % 64 != 0 then .done .badParam 0 s
  else s.writeThen o o.buf (s.signedReport (o.p 8 32) ++ leBytes 32 0) (fun s => .done .ok 0 s)

/-- ATTEST_REPORT from a queue pair. -/
def execAttestReport (c : Cmd) (s : State) : Host.Outcome State Fault Refusal := .next (s.submit 0xA4 bodyAttestReport c)

/-- A measurement block (Table 14-10). -/
def State.measurement (s : State) (block nonce : Nat) : Option (List Byte) :=
  match block with
  | 1 => some (beBytes 48 Config.bootRomDigest.toNat)
  | 2 => some s.fwMeasurement
  | 3 => some (leBytes 4 s.boot.svn)
  | 4 => some (leBytes 4 (b2n (s.boot.locked .debugLock) + 2 * b2n (s.boot.locked .diagLock)) ++ leBytes 32 s.boot.marginalBits)
  | 5 => some (beBytes 48 s.stg.digest)
  | 6 => some (beBytes 48 s.sec.tenant ++ leBytes 8 s.sec.session)
  | 0x10 => some (s.signedReport nonce)
  | _ => none

/-- Bytes as numbers. -/
def byteVals (l : List Byte) : List Nat := l.map (·.toNat)

/-- A request inside a session on a function: the session's records count. -/
def State.inSpdm (s : State) (f : Fn) (id : Nat) (k : Spdm → State → State) : State :=
  match s.spdmOn f id with
  | some x => (k x (s.updSpdm id (fun x => { x with records := x.records + 1 }))).emit (.spdm f true [])
  | none => s.emit (.spdm f false [])

/-- An SPDM request on DOE, answered as responder (R396, Table 14-10).  Certificates lie outside the model: a read of one of the
three slots is answered without its bytes. -/
def execSpdmRequest (f : Fn) (request : SpdmReq) (s : State) : Host.Outcome State Fault Refusal :=
  if !s.doe f then .next s
  else
    let s := s.wake
    let answer := fun (ok : Bool) (v : List Nat) => Host.Outcome.next (s.emit (.spdm f ok v))
    match request with
    | .getVersion => answer true [0x12, 0x13]
    | .getCapabilities => answer true []
    | .negotiateAlgorithms => answer true []
    | .getDigests => answer true []
    | .getCertificate slot => answer (slot < 3) []
    | .challenge nonce => answer true (byteVals (beBytes 96 (Config.sign (leBytes 32 nonce.toNat))))
    | .getMeasurements block nonce =>
      (match s.measurement block nonce.toNat with
      | some b => answer true (byteVals (b ++ beBytes 96 (Config.sign (b ++ leBytes 32 nonce.toNat))))
      | none => answer false [])
    | .finish id mutualAuth key root =>
      if s.sec.spdms.any (fun x => x.id == id && x.fn == f && !x.established) then
        let s := (s.updSpdm id (fun x => { x with
          established := true, mutualAuth := mutualAuth, key := key % 2 ^ 384, root := root, lastBeat := s.clock.now })).bump 0x300 1
        .next (s.emit (.spdm f true []))
      else answer false []
    | .keyUpdate id => .next (s.inSpdm f id (fun _ s => s.updSpdm id (fun x => { x with records := 0 })))
    | .heartbeat id => .next (s.inSpdm f id (fun _ s => s.updSpdm id (fun x => { x with lastBeat := s.clock.now })))
    | .endSession id => .next (s.inSpdm f id (fun _ s => s.endSpdm id))

/-! ### The claim (R386, R387, R389) -/

/-- A claim step failed: the status, and UNCLAIMED with no key. -/
def claimFails (st : Status) (s : State) : BodyOut := .done st 0 s.dropClaim

/-- PARTITION and CONTROL at their claim values, and the next epoch (step 7, Table 14-15). -/
def State.claimSettings (s : State) : State :=
  { s with
    stg.live := s.stg.live.filter (fun x => x.code != 0x01 && x.code != 0x0C)
    stg.old := s.stg.live
    stg.epoch := s.stg.epoch + 1 }

/-- A device that is claimed now attests every discovered claimed device (R365). -/
def State.attestAll (s : State) : State :=
  (s.grp.devices.filter (fun d => d.claimed && !d.attested)).foldl (fun s d => s.emit (.attest d.route)) s

/-- Claim steps 4 to 7.  A session identifier of 0 is drawn again when the claim goes on. -/
def claimRest (o : Op) (s : State) : BodyOut :=
  if !s.boot.deck then .wait .claimDeck s
  else if s.sec.cleanFailed then
    let s := (s.dropClaim.log (.plain .fatal 0x0F05 0x6000 none)).finish o.tag .denied 0
    .wait .none (s.warmReset 6)
  else if !s.entropyOk && s.sec.latched then claimFails .entropyUnavailable s.entropyFailed
  else s.withEntropy o (fun s =>
    let root := s.drawN 6
    let id := root.2.drawN 1
    let s := { id.2 with sec.requests := 0 }
    if id.1 = 0 then .wait .entropy s
    else
      let s := { s.claimSettings with
        sec.life := .claimed
        sec.claimOp := none
        sec.root := some root.1
        sec.keysPresent := true
        sec.session := id.1
        sec.tenant := s.sec.tenantKey
        boot.claims := s.boot.claims + 1 }
      .done .ok id.1 (s.securityChanged.bump 0x301 1).attestAll)

/-- TENANT_CLAIM (R386, Table 14-3). -/
def bodyTenantClaim (o : Op) (s : State) : BodyOut :=
  if s.sec.claimOp = some o.tag then claimRest o s
  else match s.spdmOn (s.opFn o) (o.p 8 4) with
    | none => .done .denied 0 s
    | some x =>
      if s.sec.life != .unclaimed || !x.mutualAuth || x.key = 0 || (!s.mgmt.policy.isEmpty && !s.mgmt.policy.contains x.root) then
        .done .denied 0 s
      else
        let s := ({ s with
          sec.life := .claiming, sec.claimOp := some o.tag, sec.claimFn := some x.fn, sec.tenantKey := x.key }).securityChanged
        if s.sec.latched then claimFails .entropyUnavailable s.entropyFailed
        else
          let was := s.boot.marginal
          let s := s.senseFuses false
          let s := if s.boot.marginal = was then s else s.readyChanged
          if s.boot.svn < s.boot.rollback then claimFails .denied s else claimRest o s

/-- TENANT_CLAIM from a queue pair. -/
def execTenantClaim (c : Cmd) (s : State) : Host.Outcome State Fault Refusal := .next (s.submit 0xA0 bodyTenantClaim c)

/-- A claim that waits in step 4 goes on. -/
def execClaimResume (s : State) : Host.Outcome State Fault Refusal :=
  match s.sec.claimOp with
  | some t => .next (s.start bodyTenantClaim t)
  | none => .next s

/-- TENANT_ACTIVATE (R387). -/
def bodyTenantActivate (o : Op) (s : State) : BodyOut :=
  if !s.tenantSession (s.opFn o) (o.p 8 4) || s.sec.life != .claimed || o.p 16 8 != s.sec.session || s.boot.svn < s.boot.rollback then
    .done .denied 0 s
  else .done .ok 0 ({ s with sec.life := .operating }).securityChanged

/-- TENANT_ACTIVATE from a queue pair. -/
def execTenantActivate (c : Cmd) (s : State) : Host.Outcome State Fault Refusal := .next (s.submit 0xA1 bodyTenantActivate c)

/-! ### The release (R388) -/

/-- Every lease goes to LOST (Table 7-12). -/
def State.loseLeases (s : State) : State :=
  (s.tiers.leases.filter (fun l => l.state != .lost && l.state != .closed)).foldl (fun s l => s.loseLease l.id) s

/-- Step 2: every other operation stops, a commit before its switch is discarded, connections close, leases are lost. -/
def State.releaseStops (s : State) (tag : Option Nat) : State :=
  let l := s.q.ops.filter (fun o => some o.tag != tag && s.commitStage o.tag != some true)
  let s := (s.discardCommit .aborted)
  let s := l.foldl (fun s o => s.stopAny o.tag .aborted) s
  let s := s.rma.conns.foldl (fun s c => s.closeConn c) s
  s.loseLeases

/-- Held memory requests are answered: loads with poison, stores not at all. -/
def State.releaseHeld (s : State) : State :=
  let l := s.pool.heldReqs
  l.foldl (fun s r => match r.req with
    | .read _ | .own => s.answerPoison r.src.link r.host r.addr
    | .write .. | .commit _ | .inbound _ => s) { s with pool.heldReqs := [] }

/-- Steps 1 to 3 of a release, by the tenant or by management: RELEASING, the alert, everything stops, and every line group is
recalled by invalidation. -/
def State.beginRelease (s : State) (tag : Option Nat) : State :=
  let s := ({ s with
    sec.life := .releasing, sec.releaseOp := tag, sec.releaseMgmt := tag.isNone, sec.releaseAt := none }).securityChanged
  let s := s.trayAlert.bump 0x302 1
  let s := s.beatPartners true
  let s := (s.releaseStops tag).releaseHeld
  (s.pool.dir.map (·.group)).foldl (fun s g => s.startRecall g false) s

/-- TENANT_RELEASE: it completes when the directory walk and its recalls have ended. -/
def bodyTenantRelease (o : Op) (s : State) : BodyOut :=
  if o.wait = .release then .wait .release s
  else if !s.tenantSession (s.opFn o) (o.p 8 4) || !s.inSession then .done .denied 0 s
  else .wait .release (s.beginRelease (some o.tag))

/-- TENANT_RELEASE from a queue pair. -/
def execTenantRelease (c : Cmd) (s : State) : Host.Outcome State Fault Refusal := .next (s.submit 0xA2 bodyTenantRelease c)

/-- The walk and its last recall end: the release completes with OK, or reports to management (step 4). -/
def execReleaseWalkEnd (s : State) : Host.Outcome State Fault Refusal :=
  if s.sec.life = .releasing && s.sec.releaseAt.isNone && s.pool.recalls.isEmpty then
    let op := s.sec.releaseOp
    let s := { s with sec.releaseAt := some s.clock.now, sec.releaseOp := none }
    .next (match op with
      | some t => s.finish t .ok 0
      | none => if s.sec.releaseMgmt then s.emit (.mgmt true []) else s)
  else .next s

/-- 1 ms after that, the warm reset that ends the session (step 5). -/
def execReleaseResetTimer (s : State) : Host.Outcome State Fault Refusal :=
  match s.sec.releaseAt with
  | some t =>
    .next (if s.sec.life = .releasing && t + 1000000 ≤ s.clock.now then s.warmReset (if s.sec.releaseMgmt then 2 else 1) else s)
  | none => .next s

/-- TENANT_STATUS's 128 bytes (R385). -/
def State.tenantStatus (s : State) : List Byte :=
  leBytes 8 s.sec.life.code ++ beBytes 48 s.sec.tenant ++ leBytes 8 s.sec.session ++ leBytes 8 s.stg.epoch ++
  leBytes 1 (s.sec.spdms.filter (·.established)).length ++ leBytes 55 0

/-- TENANT_STATUS. -/
def bodyTenantStatus (o : Op) (s : State) : BodyOut := s.writeThen o o.buf s.tenantStatus (fun s => .done .ok 0 s)

/-- TENANT_STATUS from a queue pair. -/
def execTenantStatus (c : Cmd) (s : State) : Host.Outcome State Fault Refusal := .next (s.submit 0xA3 bodyTenantStatus c)

/-! ### Weight bindings (R405, R406) -/

/-- The labels of R404 and R405 as HKDF's second argument. -/
def labelNetkey : Nat := 1
/-- "septov weight bind". -/
def labelBind : Nat := 2

/-- Does the header of a binding blob agree with Table 14-13: revision, 1 to 4,096 entries, its length, zeros? -/
def blobOk (h : List Byte) (len : Nat) : Bool :=
  let f := fun off n => leNat ((h.drop off).take n)
  f 0 2 = 1 && 1 ≤ f 2 2 && f 2 2 ≤ 4096 && f 4 4 = 128 + 192 * f 2 2 && f 4 4 = len && f 68 60 = 0

/-- The blob's entry for this device. -/
def blobEntry (b : List Byte) : Option (List Byte) :=
  (chunks 192 4096 (b.drop 128)).find? (fun e => beNat (e.take 48) == Config.identityDigest.toNat)

/-- A binding added. -/
def State.addBinding (s : State) (key iv : Nat) : BodyOut :=
  match lowestFree (s.sec.bindings.map (·.slot)) 0 256 with
  | none => .done .quotaExceeded 0 s
  | some i =>
    let gen := nextGen 24 (assoc s.sec.bindingGens i 0)
    .done .ok (mkHandle 8 i gen)
      { s with sec.bindings := s.sec.bindings ++ [⟨i, gen, key, iv⟩], sec.bindingGens := assocSet s.sec.bindingGens i gen }

/-- BIND ends with the first outcome of Table 14-14 that applies. -/
def bindBlob (b : List Byte) (s : State) : BodyOut :=
  match blobEntry b with
  | none => .done .denied 0 s
  | some e =>
    let h := b.take 128
    let tenant := beNat ((h.drop 8).take 48)
    if (tenant != 0 && tenant != s.sec.tenant) || s.boot.svn < leNat ((h.drop 56).take 4) then .done .denied 0 s
    else match Config.gcmOpen (Config.hkdf (Config.ecdh (beNat ((e.drop 48).take 96))) labelBind) 0 h ((e.drop 144).take 32)
        (leNat ((e.drop 176).take 16)) with
      | none => .done .integrityError 0 s
      | some k => s.addBinding (leNat k) (leNat ((h.drop 60).take 8))

/-- WEIGHT_BIND (R406). -/
def bodyWeightBind (o : Op) (s : State) : BodyOut :=
  if !s.tenantSession (s.opFn o) (o.p 20 4) then .done .denied 0 s
  else match o.p 8 1 with
    | 0 =>
      let len := o.p 16 4
      if len < 320 || 128 + 192 * 4096 < len then .done .badParam 0 s
      else s.withRead o o.buf len (fun b => if blobOk (b.take 128) len then bindBlob b s else .done .badParam 0 s)
    | 1 =>
      (match s.binding (o.p 12 4) with
      | none => .done .badHandle 0 s
      | some x =>
        if s.tiers.weights.any (fun w => w.binding == o.p 12 4) then .done .denied 0 s
        else .done .ok (o.p 12 4) { s with sec.bindings := s.sec.bindings.filter (·.slot != x.slot) })
    | _ => .done .badParam 0 s

/-- WEIGHT_BIND from a queue pair. -/
def execWeightBind (c : Cmd) (s : State) : Host.Outcome State Fault Refusal := .next (s.submit 0xA5 bodyWeightBind c)

/-! ### MACsec (R404) -/

/-- A port's MACsec state replaced, or removed. -/
def State.setMac (s : State) (port : Nat) (m : List MacSec) : State :=
  ({ s with sec.macsec := m ++ s.sec.macsec.filter (fun x : MacSec => x.port != port) }).securityChanged

/-- NET_KEY: SET installs the CAK of a sealed record, CLEAR removes it. -/
def bodyNetKey (o : Op) (s : State) : BodyOut :=
  let port := o.p 8 1
  let session := o.p 12 4
  if !s.tenantSession (s.opFn o) session then .done .denied 0 s
  else if 4 ≤ port || 2 ≤ o.p 9 1 then .done .badParam 0 s
  else if o.p 9 1 = 1 then
    -- what R54 stopped stays so until MKA secures it again
    .done .ok 0 (s.setMac port (if s.sec.macsec.any (fun m => m.port == port && m.stopped) then [⟨port, none, false, false, true⟩] else []))
  else if 2 ≤ o.p 10 1 then .done .badParam 0 s
  else s.withRead o o.buf 80 (fun b =>
    if leNat (b.drop 76) != 0 then .done .badParam 0 s
    else match Config.gcmOpen (Config.hkdf (Config.exportSecret session) labelNetkey) (leNat (b.take 12)) [] ((b.drop 12).take 48)
        (leNat ((b.drop 60).take 16)) with
      | none => .done .integrityError 0 s
      | some k => .done .ok 0 (s.setMac port [⟨port, some (leNat (k.take 32)), bit (o.p 10 1) 0, false,
          s.sec.macsec.any (fun m => m.port == port && m.stopped)⟩]))

/-- NET_KEY from a queue pair. -/
def execNetKey (c : Cmd) (s : State) : Host.Outcome State Fault Refusal := .next (s.submit 0xA6 bodyNetKey c)

/-- MKA has secured a port with the CAK installed there. -/
def execMkaSecured (port : Nat) (s : State) : Host.Outcome State Fault Refusal :=
  if s.sec.macsec.any (fun m => m.port == port && m.cak.isSome && !m.secured) then
    .next ({ s with sec.macsec := upd (fun m : MacSec => m.port == port) (fun m => { m with secured := true, stopped := false }) s.sec.macsec }).securityChanged
  else .next s

/-! ### IDE (R400, R401) -/

/-- The same stream of a link: the link stream, a selective stream of one number, or the CXL.cachemem stream. -/
def ideSame : IdeStream → IdeStream → Bool
  | .io, .io => true
  | .selective i _, .selective j _ => i == j
  | .mem _, .mem _ => true
  | .io, _ | .selective .., _ | .mem _, _ => false

/-- A stream's state on a link. -/
def State.ide (s : State) (link : Nat) (st : IdeStream) : Option Ide :=
  s.sec.ides.find? (fun x => x.link == link && ideSame x.stream st)

/-- A stream's state stored. -/
def State.setIde (s : State) (x : Ide) : State :=
  { s with sec.ides := x :: s.sec.ides.filter (fun y => !(y.link == x.link && ideSame y.stream x.stream)) }

/-- Does a TDI use a stream: its selective stream, or with MEM set the link's CXL.cachemem stream (R402, R403)? -/
def State.tdiUses (s : State) (link : Nat) (st : IdeStream) (f : Fn) : Bool :=
  f.link == link && (match st with
    | .io => false
    | .selective _ ld => f.ld == ld
    | .mem _ => (hostEntry s.stg.live f).any (hostMem s.stg.live))

/-- A stream leaves the secure state; the TDIs that use it enter ERROR (R403, Table 14-9). -/
def State.ideLeaves (s : State) (x : Ide) : State :=
  if x.secure then
    ((s.setIde { x with secure := false, left := true, active := none }).bump 0x305 1).failTdis (s.tdiUses x.link x.stream)
  else s

/-- What waited for a link's streams goes on: held completions are written (R401). -/
def State.ideReady (s : State) (link : Nat) : State :=
  let s := (s.q.pairs.filter (fun q => q.owner.link == link)).foldl (fun s q => s.flushHeld q.index q.held.length) s
  (s.waitingBanks.filter (fun f => f.link == link)).foldl State.releaseVectors s

/-- May a link have the stream: a selective stream's number, a logical device, and CXL.cachemem only in 256-byte flits
(Table 14-12)? -/
def State.ideOk (s : State) (link : Nat) (st : IdeStream) : Bool :=
  link < 32 && s.linkUp link && (match st with
    | .io => true
    | .selective i ld => i < 8 && ld < 16
    | .mem _ => s.dlv.ports.any (fun p => p.num == link && p.mem))

/-- An IDE_KM message: it needs an SPDM session on the link, whose records it counts (R400). -/
def State.ideKm (s : State) (link session : Nat) (k : State → Option State) : State :=
  match s.spdmOn ⟨link, 0⟩ session with
  | none => s.emit (.ideKm link false 0)
  | some _ =>
    let s := s.wake.updSpdm session (fun x => { x with records := x.records + 1 })
    match k s with
    | some s => s.emit (.ideKm link true 0)
    | none => s.emit (.ideKm link false 0)

/-- QUERY: one link stream, 8 selective streams, and the CXL.cachemem stream where the link has it. -/
def execIdeKmQuery (link session : Nat) (s : State) : Host.Outcome State Fault Refusal :=
  match s.spdmOn ⟨link, 0⟩ session with
  | none => .next (s.emit (.ideKm link false 0))
  | some _ =>
    let s := s.wake.updSpdm session (fun x => { x with records := x.records + 1 })
    .next (s.emit (.ideKm link true (1 + 8 * 2 ^ 8 + b2n (s.ideOk link (.mem true)) * 2 ^ 16)))

/-- KEY_PROG: a key set of a stream is programmed. -/
def execIdeKmKeyProg (link session : Nat) (stream : IdeStream) (keySet : Nat) (s : State) : Host.Outcome State Fault Refusal :=
  .next (s.ideKm link session (fun s =>
    if !s.ideOk link stream || 2 ≤ keySet then none
    else
      let x := (s.ide link stream).getD ⟨link, stream, none, none, none, false, false⟩
      let x := { x with stream := stream }
      some (s.setIde (if keySet = 0 then { x with k0 := some s.clock.now } else { x with k1 := some s.clock.now }))))

/-- K_SET_GO: a programmed key set becomes the active one, and the stream is secure. -/
def execIdeKmKSetGo (link session : Nat) (stream : IdeStream) (keySet : Nat) (s : State) : Host.Outcome State Fault Refusal :=
  .next (s.ideKm link session (fun s => match s.ide link stream with
    | none => none
    | some x =>
      if (if keySet = 0 then x.k0 else if keySet = 1 then x.k1 else none).isNone then none
      else some ((s.setIde { x with active := some keySet, secure := true, left := false }).ideReady link)))

/-- K_SET_STOP: a key set is no longer used; with the active one, the stream leaves the secure state. -/
def execIdeKmKSetStop (link session : Nat) (stream : IdeStream) (keySet : Nat) (s : State) : Host.Outcome State Fault Refusal :=
  .next (s.ideKm link session (fun s => match s.ide link stream with
    | none => none
    | some x =>
      if 2 ≤ keySet then none
      else
        let y := if keySet = 0 then { x with k0 := none } else { x with k1 := none }
        some (if x.active = some keySet then (s.setIde y).ideLeaves y else s.setIde y)))

/-- A key set reaches its limit of 24 h or of the stream's counter: the stream leaves the secure state (Table 14-9). -/
def execIdeKeyLimit (link : Nat) (stream : IdeStream) (s : State) : Host.Outcome State Fault Refusal :=
  match s.ide link stream with
  | some x => .next (s.ideLeaves x)
  | none => .next s

/-! ### TDISP (R402, R403) -/

/-- The state of a function's TDI. -/
def State.tdi (s : State) (f : Fn) : TdiState := ((s.sec.tdis.find? (·.1 == f)).map (·.2)).getD .unlocked

/-- A TDI's state set, and the answer to its request. -/
def State.setTdi (s : State) (f : Fn) (t : TdiState) : State :=
  let rest := s.sec.tdis.filter (fun x => x.1 != f)
  ({ s with sec.tdis := if t = TdiState.unlocked then rest else (f, t) :: rest }).emit (.tdisp f true t)

/-- May the interface be locked: OPERATING; the host entry valid with OUTBOUND_CHECK; a secure selective stream for the
function; with MEM, the link's CXL.cachemem stream secure in containment mode (R402)? -/
def State.mayLock (s : State) (f : Fn) : Bool :=
  s.claimed && s.sec.ides.any (fun x => x.link == f.link && x.secure && (match x.stream with
    | .selective _ ld => ld == f.ld
    | .io | .mem _ => false)) &&
  (match hostEntry s.stg.live f with
    | none => false
    | some h => hostOutCheck s.stg.live h && (!hostMem s.stg.live h ||
        s.sec.ides.any (fun x => x.link == f.link && x.secure && x.stream == .mem true)))

/-- LOCK_INTERFACE_REQUEST: CONFIG_UNLOCKED to CONFIG_LOCKED, or an error response. -/
def execLockInterfaceRequest (f : Fn) (s : State) : Host.Outcome State Fault Refusal :=
  if s.tdi f = .unlocked && s.mayLock f then .next (s.setTdi f .locked) else .next (s.emit (.tdisp f false (s.tdi f)))

/-- START_INTERFACE_REQUEST: CONFIG_LOCKED to RUN. -/
def execStartInterfaceRequest (f : Fn) (s : State) : Host.Outcome State Fault Refusal :=
  if s.tdi f = .locked then .next (s.setTdi f .run) else .next (s.emit (.tdisp f false (s.tdi f)))

/-- Every queue pair of a function is deleted. -/
def State.killPairs (s : State) (f : Fn) : State :=
  ((s.q.pairs.filter (fun q => q.owner == f)).map (fun q => q.index)).foldl State.killPair s

/-- STOP_INTERFACE_REQUEST: the host's queue pairs go, its lines are recalled, and the TDI is CONFIG_UNLOCKED. -/
def execStopInterfaceRequest (f : Fn) (s : State) : Host.Outcome State Fault Refusal :=
  let s := s.killPairs f
  let s := match s.hostOf f with
    | some h => (s.pool.extents.foldl (fun s e => State.recallHost s e h) s).settlePool
    | none => s
  .next ((s.discardBank f).setTdi f .unlocked)

/-- A function level reset: a locked or running TDI enters ERROR; the function's own registers, its vectors and its queue pairs
are reset, as the PCIe base specification has it. -/
def execFunctionLevelReset (f : Fn) (s : State) : Host.Outcome State Fault Refusal :=
  let s := (s.failTdis (· == f)).killPairs f
  .next { s with
    sec.config := s.sec.config.filter (·.1 != f)
    q.admin := s.q.admin.filter (·.fn != f)
    tel.vectors := s.tel.vectors.filter (·.fn != f)
    tel.bankHold := s.tel.bankHold.filter (· != f)
    tel.funcMask := s.tel.funcMask.filter (· != f)
    pool.hdm := s.pool.hdm.filter (·.1 != f) }

/-- A function's BAR registers and command register. -/
def State.configOf (s : State) (f : Fn) : Nat × Nat := ((s.sec.config.find? (·.1 == f)).map (·.2)).getD (0, 0)

/-- A configuration write: one that changes the BAR registers or the command register puts a locked or running TDI into ERROR. -/
def execConfigurationSpaceWrite (f : Fn) (bars command : Nat) (s : State) : Host.Outcome State Fault Refusal :=
  if s.configOf f = (bars, command) then .next s
  else .next (({ s with sec.config := (f, bars, command) :: s.sec.config.filter (·.1 != f) }).failTdis (· == f))

/-! ### Debug (R412) -/

/-- A TAP instruction: while the lock reads locked only IDCODE and BYPASS are answered; while it is open, any other ends a
session with cause DEBUG and resets the device. -/
def execJtagInstruction (bypassOrIdcode : Bool) (s : State) : Host.Outcome State Fault Refusal :=
  if bypassOrIdcode then .next (s.emit (.jtag true))
  else if !s.sec.debugOpen then .next (s.emit (.jtag false))
  else if s.sec.life = .unclaimed then .next (s.emit (.jtag true))
  else .next (({ s.endSession 4 with sec.lastCause := 4 }).warmReset 4)

end Sys2Proof.Machine
end

