-- ==== Sys2Proof/Machine/Faults.lean ====
section
/-! DEFINITION. Faults.lean: the survivable single faults, fatal faults and halts, links that come and go, and the RAS registers
(Faults, errors and recovery, R415 to R436; R312, R331, R32). -/
namespace Sys2Proof.Machine

/-! ### Deck fabric and HBM lanes (R417, R420, Table 15-3) -/

/-- The link numbers of Table 1-4. -/
def fabricLink (n : Nat) : Bool :=
  n < 12 || (16 ≤ n && n < 28) || n = 32 || (48 ≤ n && n < 56) || n = 64 || n = 65 || (80 ≤ n && n < 84) || n = 96 || n = 97

/-- The locus code of a fabric link (Table 1-3). -/
def fabricLocus (n : Nat) : Nat := 0x7000 + 0x100 * (n / 16) + n % 16

/-- A component leaves service. -/
def State.takeOut (s : State) (x : Out) : State := { s with ras.out := x :: s.ras.out }

/-- A fabric link without acknowledgement for 10 µs is down until the next cold start; its traffic takes another path, in order
and with the same results (R420). -/
def execFabricLinkAckTimeout (link : Nat) (s : State) : Host.Outcome State Fault Refusal :=
  if fabricLink link && !s.ras.out.contains (.fabricLink link) then
    .next (((s.takeOut (.fabricLink link)).fabricReroute link).log (.plain .degraded 0x0202 (fabricLocus link) none))
  else .next s

/-- A fabric lane's replay rate passes 1 per 1 µs: the link retrains at half width. -/
def execFabricLaneDown (link : Nat) (s : State) : Host.Outcome State Fault Refusal :=
  if fabricLink link && !s.ras.out.contains (.fabricLink link) && !s.ras.out.contains (.fabricHalf link) then
    .next ((s.takeOut (.fabricHalf link)).log (.plain .degraded 0x0201 (fabricLocus link) none))
  else .next s

/-! ### Lost stacks and channels (R418, R419) -/

/-- Does a layer-page of a block lie in the deck on a stack? -/
def Block.onStack (b : Block) (n : Nat) : Bool := b.pages.any (fun p => p.tier = 0 && p.home = n)

/-- Does a layer-page of a block lie in the causeway on a channel? -/
def Block.onChannel (b : Block) (c : Nat) : Bool := b.pages.any (fun p => p.tier = 1 && p.chan = c)

/-- A version whose tail or unsealed blocks are lost treats them as dropped (R419). -/
def View.loseOpen (lost : Nat → Bool) (v : View) : View :=
  let l := v.unsealed ++ v.tail.toList
  if l.any lost then
    { v with
      refs := v.refs ++ l.map (fun id => if lost id then .dropped 0#128 0#128 0 0 [] else .held id)
      unsealed := [], tail := none }
  else v

/-- Snapshots, operations and plans that held lost tail pages. -/
def State.loseOpenViews (s : State) (lost : Nat → Bool) : State :=
  { s with
    store.snapshots := s.store.snapshots.map (fun x : Snapshot => { x with view := x.view.loseOpen lost })
    q.ops := s.q.ops.map (fun o : Op => { o with
      view := o.view.map (View.loseOpen lost)
      work := (match o.work with
        | .listed l => .listed (l.map (fun x => (x.1.loseOpen lost, x.2)))
        | w => w) })
    dlv.plans := s.dlv.plans.map (fun p : Plan => { p with view := p.view.map (View.loseOpen lost) }) }

/-- The range that a chain reports once with RECOMPUTE: what was lost before and now. -/
def loseRange (old : Option (Nat × Nat)) (first count : Nat) : Option (Nat × Nat) :=
  if count = 0 then old
  else match old with
    | some (f, c) => some (min f first, max (f + c) (first + count) - min f first)
    | none => some (first, count)

/-- A chain whose open blocks are lost is truncated to the first token of the oldest such block; it gets a fresh tail, its
version increments, and its window rebinds (R419). -/
def State.loseTail (s : State) (lost : Nat → Bool) (c : Chain) (n : Namespace) : State :=
  let v := c.view
  match (v.unsealed ++ v.tail.toList).findIdx? lost with
  | none => s
  | some i =>
    let k := v.refs.length + i
    let dest := min v.n (k * n.geo.b)
    let count := cdiv (v.n - dest) n.geo.b
    let s := (s.updChain c.slot (fun c => { c with
      view.unsealed := v.unsealed.take i, view.tail := none, view.n := dest
      view.version := if count = 0 then v.version else v.version + 1
      next := none, lost := loseRange c.lost k count })).gc
    let s := match s.openBlock n k with
      | none => s
      | some (id, t) =>
        let t := t.updChain c.slot (fun c => { c with view.tail := some id })
        (t.rebindBoth n c.slot k).getD t
    let s := s.touchControl c n
    if count = 0 then s
    else s.log ⟨.dataLoss, 0x0144, 0x3000 + 0x100 * (n.index % 2), none, some n.handle, none, mkHandle 20 c.slot c.gen, false⟩

/-- Every chain, every version and every vote that held one of these unsealed blocks. -/
def State.loseTails (s : State) (ids : List Nat) : State :=
  if ids.isEmpty then s
  else
    let lost := fun id => ids.contains id
    let votes := (s.grp.prepared.filter (fun p => lost p.id)).map (·.block)
    let s := votes.foldl State.groupAbort (s.loseOpenViews lost)
    (s.store.chains.foldl (fun s c => match s.chainNs c with
      | some n => s.loseTail lost c n
      | none => s) s).gc

/-- The lines of an extent whose granules lie at a place: granule i of each 2 MiB block at place i mod m (R314). -/
def Extent.linesAt (e : Extent) (place : Nat) : List Nat :=
  let m := max 1 e.places.length
  ((List.range (e.length / 4096)).filter (fun g => e.places.getD (g % 512 % m) 64 = place)).flatMap
    (fun g => (List.range 64).map (· + e.base / 64 + 64 * g))

/-- Extent granules on a lost stack or channel are poisoned, and every host of the extent gets an event (R418, R430). -/
def State.poisonPlace (s : State) (region place : Nat) : State :=
  (s.pool.extents.filter (fun e => e.region = region && e.places.contains place)).foldl (fun s e =>
    (e.sides.filter (fun x => x.2 == .active)).foldl (fun s x => s.emit (.mediaEvent x.1 e.base)) (s.poisonLines (e.linesAt place))) s

/-- Weight tiles that `lost` selects have lost their bytes: they stay poisoned (R423). -/
def State.loseTiles (s : State) (lost : WeightObj → Tile → Bool) : State :=
  { s with tiers.weights := s.tiers.weights.map (fun w : WeightObj => { w with
    tiles := upd (lost w) (fun t : Tile => { t with poisoned := true }) w.tiles }) }

/-- A stack leaves service.  In parity and mirror modes the copies serve its content, once; else its blocks are dropped, its
tails truncate their chains, and its granules and tiles are poisoned (R418, R419, Table 15-3). -/
def State.loseStack (s : State) (n : Nat) : State :=
  if 6 ≤ n || !bit s.boot.stackOk n then s
  else
    let rebuilt := s.deckRebuilds
    let home := fun (_ : WeightObj) (t : Tile) => t.tier = 0 && t.home = n
    let t := ({ s with boot.stackOk := s.boot.stackOk - 2 ^ n }).readyChanged.log (.plain .degraded 0x0105 (0x1000 + 0x100 * n + 0x13) none)
    if rebuilt then t
    else
      let hit := s.store.blocks.filter (fun b => b.onStack n)
      let t := t.loseTails ((hit.filter (fun b => !b.sealed)).map (·.id))
      let t := ((hit.filter (fun b => b.sealed)).map (·.id)).foldl (fun s i => s.dropBlock i 0x0E) t
      ((t.loseTiles home).poisonPlace 0 n).noteShort

/-- The controller of a stack times out. -/
def execHbmStackTimeout (stack : Nat) (s : State) : Host.Outcome State Fault Refusal := .next (s.loseStack stack)

/-- The failing lanes of a channel of a stack. -/
def State.laneFaults (s : State) (stack channel : Nat) : Nat :=
  total (s.ras.out.map (fun x => match x with
    | .hbmLane a b k => if a = stack && b = channel then k else 0
    | .fabricLink _ | .fabricHalf _ | .core .. => 0))

/-- A write-data CRC finds a failing lane: it goes onto one of the channel's 4 spares; without one the stack leaves service
(R40, Table 15-3). -/
def execHbmDataLaneFault (stack channel : Nat) (s : State) : Host.Outcome State Fault Refusal :=
  if 6 ≤ stack || 32 ≤ channel || !bit s.boot.stackOk stack then .next s
  else if 4 ≤ s.laneFaults stack channel then .next (s.loseStack stack)
  else .next ((s.takeOut (.hbmLane stack channel 1)).log
    ⟨.recovered, 0x0104, 0x1000 + 0x100 * stack + 0x13, none, none, none, channel, false⟩)

/-- A DDR5 channel leaves the causeway: its blocks are dropped, its granules and tiles poisoned, and leases whose lent capacity
lay there are lost (R418). -/
def State.loseChannel (s : State) (channel : Nat) : State :=
  if 8 ≤ channel || !bit s.boot.causewayOk channel then s
  else
    let hit := (s.store.blocks.filter (fun b => b.onChannel channel)).map (·.id)
    let gone := fun (_ : WeightObj) (t : Tile) => t.tier = 1 && t.chan = channel
    let lent := (s.tiers.leases.filter (fun l => !l.borrower && l.state.beats && Config.leaseOn l.id channel)).map (·.id)
    let s := ({ s with boot.causewayOk := s.boot.causewayOk - 2 ^ channel }).readyChanged.log
      (.plain .degraded 0x0115 (tierLocus 1 0 channel) none)
    let s := hit.foldl (fun s i => s.dropBlock i 0x0E) s
    (lent.foldl State.loseLease ((s.loseTiles gone).poisonPlace 1 channel)).noteShort

/-- A channel of the causeway times out. -/
def execDdrChannelTimeout (channel : Nat) (s : State) : Host.Outcome State Fault Refusal := .next (s.loseChannel channel)

/-! ### The patrol scrub (R415, R421, R423) -/

/-- A report of a corrected or uncorrectable line of a tier at a locus: class and code (Table 15-6). -/
def lineReport (tier : Nat) (found : LineCheck) (rebuilt : Bool) (locus : Nat) (addr : Option Nat) : Report :=
  let cls := match found with
    | .corrected => FClass.corrected
    | _ => if rebuilt then .recovered else .dataLoss
  let code := if found = .corrected then (if tier = 0 then 0x0101 else 0x0111) else if tier = 0 then 0x0102 else 0x0112
  { cls := cls, code := code, locus := locus, tag := none, object := none, addr := addr, detail := 0, poison := found = .uncorrectable && !rebuilt }

/-- A correction in a row of a stack: 16 within 24 h spare the row (R415). -/
def State.rowCorrected (s : State) (stack key : Nat) : State :=
  let row := Config.hbmRow key
  let mine := fun r : RowHits => r.stack == stack && r.row == row
  let old := (s.ras.rowHits.find? mine).elim [] (fun r => r.times.filter (fun t => decide (s.clock.now < t + 24 * 3600 * 10 ^ 9)))
  let rest := s.ras.rowHits.filter (fun r => !mine r)
  if 16 ≤ old.length + 1 then
    ({ s with ras.rowHits := rest }).log { cls := .recovered, code := 0x0103, locus := tierLocus 0 stack 0, tag := none, object := none, addr := none, detail := row, poison := false }
  else { s with ras.rowHits := ⟨stack, row, s.clock.now :: old⟩ :: rest }

/-- An uncorrectable line of a DDR channel: 8 within 1 s take the channel out of the causeway (Table 15-3). -/
def State.channelBad (s : State) (channel : Nat) : State :=
  let l := (channel, s.clock.now) :: s.ras.ddrBad.filter (fun x => decide (s.clock.now < x.2 + 10 ^ 9))
  let s := { s with ras.ddrBad := l }
  if 8 ≤ (l.filter (·.1 == channel)).length then s.loseChannel channel else s

/-- One line found bad in the deck or the causeway: by its tier, its stack or channel, and a key of its row; `lose` is what losing its
bytes does. -/
def State.lineFound (s : State) (tier home chan key : Nat) (found : LineCheck) (copied : Bool) (addr : Option Nat) (lose : State → State) : State :=
  let rebuilt := (tier = 0 && s.deckRebuilds) || copied
  let s := s.log (lineReport tier found rebuilt (tierLocus tier home chan) addr)
  if found = .corrected then (if tier = 0 then s.rowCorrected home key else s)
  else
    let s := if rebuilt then s else lose s
    if tier = 1 then s.channelBad chan else s

/-- An error at a line of pool memory: a CXL event for every host to which its extent is ACTIVE (R430). -/
def State.poolLineEvent (s : State) (a : Nat) : State :=
  match s.extentAt (a / 64 * 64) 64 with
  | some e => (e.sides.filter (fun x => x.2 == .active)).foldl (fun s x => s.emit (.mediaEvent x.1 a)) s
  | none => s

/-- A word of a logic die's SRAM: corrected, or refetched from what a cache backs (R415). -/
def State.sramFound (s : State) (found : LineCheck) (locus : Nat) (addr : Option Nat) : State :=
  match found with
  | .clean => s
  | .corrected => s.log { cls := .corrected, code := 0x0121, locus := locus, tag := none, object := none, addr := addr, detail := 0, poison := false }
  | .uncorrectable => s.log { cls := .recovered, code := 0x0122, locus := locus, tag := none, object := none, addr := addr, detail := 0, poison := false }

/-- A word of the directory: an entry that cannot be corrected is rebuilt as COARSE with every bit set, which recalls all holders
(R415). -/
def State.directoryFound (s : State) (found : LineCheck) (g : Nat) : State :=
  let s := s.sramFound found 0x4000 (some (g * 256))
  if found = .uncorrectable then
    (s.updDir g (fun e => { e with coarse := true, holders := List.range 16 })).startRecall g false
  else s

/-- A line of pool memory is lost: it is poisoned (R421). -/
def State.poolLineLost (s : State) (a : Nat) : State := s.poisonLines [a / 64]

/-- What the scrub finds at one line of the deck or the causeway.  A corrected line of an OWNED group is downgraded before it is
rewritten (R328); an uncorrectable one is rebuilt or poisoned.  The poison of a sealed page drops its block; a summary then counts
as none; a codebook copy is rewritten from another pier's (R161, R423). -/
def State.scrubLine (s : State) (line : ScrubLine) (found : LineCheck) : State :=
  match line with
  | .pool a =>
    let s := if found = .corrected && (s.dirEntry (lineGroup a)).any (·.state == .owned) then s.startRecall (lineGroup a) true else s
    let copied := ((s.extentAt (a / 64 * 64) 64).bind (·.mirrored)).isSome
    (s.poolLineEvent a).lineFound (if a < regionBase 1 then 0 else 1) (s.placeOf a) (s.placeOf a) a found copied (some a) (State.poolLineLost · a)
  | .page id layer l =>
    (match (s.block id).bind (fun b => (b.pages.find? (·.layer == layer)).map (fun p => (b, p))) with
    | none => s
    | some (b, p) =>
      if 2 ≤ p.tier then s
      else
        let bad := fun p : Page => { p with poison := (l :: p.poison).eraseDups }
        (s.lineFound p.tier p.home p.chan (2 ^ 48 + id) found false none (fun s =>
          let s := s.updBlock id (fun b => { b with pages := upd (·.layer == layer) bad b.pages })
          if b.sealed then s.loseBlock id 0x0E else s)))
  | .tile w i =>
    (match (s.weight w).bind (fun w => w.tiles.find? (·.index == i)) with
    | none => s
    | some t =>
      if 2 ≤ t.tier then s
      else (s.lineFound t.tier t.home t.chan (2 ^ 49 + w) found false none (State.updTile · w i (fun t => { t with poisoned := true }))))
  | .record id =>
    (match s.block id with
    | none => s
    | some b => (s.lineFound b.recordTier b.recordHome b.recordChan (2 ^ 50 + id) found false none (State.updBlock · id (fun b => { b with recordBad := true }))))
  | .tokens id =>
    (match s.block id with
    | none => s
    | some b => (s.lineFound b.recordTier b.recordHome b.recordChan (2 ^ 50 + id) found false none (State.updBlock · id (fun b => { b with tokensBad := true }))))
  | .summary id layer =>
    (match s.block id with
    | none => s
    | some b =>
      let gone := fun b : Block => { b with pages := upd (·.layer == layer) (fun p : Page => { p with summary := none }) b.pages }
      (s.lineFound b.recordTier b.recordHome b.recordChan (2 ^ 50 + id) found false none (State.updBlock · id gone)))
  | .codebook _ pier => (s.lineFound 0 pier 0 (2 ^ 51) found true none id)
  | .sram _ | .directory _ => s

/-- What the patrol scrub finds; a halted device scrubs nothing (Table 15-7), nor does memory in self-refresh (R51).  Errors in SRAM are
met by every access, and so also while the scrub rests (R415). -/
def execPatrolScrub (line : ScrubLine) (found : LineCheck) (s : State) : Host.Outcome State Fault Refusal :=
  match line with
  | .sram locus => .next (s.sramFound found locus none)
  | .directory g => .next (s.directoryFound found g)
  | .pool _ | .page .. | .tile .. | .record _ | .tokens _ | .summary .. | .codebook .. =>
    .next (if s.boot.halted || found = .clean || !s.memoriesAwake then s else s.scrubLine line found)

/-- A trestle bank's port times out (Table 15-3, R374). -/
def execBankPortTimeout (bank : Nat) (s : State) : Host.Outcome State Fault Refusal :=
  .next (if bank < 256 then s.loseBank bank else s)

/-- A slice's watchdog expires: the page engine gives its tokens to the other slices, and results stay the same (R307).  Table
15-6 names no code for it, so no record is written. -/
def execAttentionSliceWatchdog (pier slice : Nat) (s : State) : Host.Outcome State Fault Refusal :=
  if pier < 6 && slice < 16 && !s.att.slicesOut.contains (pier, slice) then
    .next { s with att.slicesOut := (pier, slice) :: s.att.slicesOut }
  else .next s

/-- A control core's watchdog expires: its tasks restart on another core of the span from their last unit boundary. -/
def execControlCoreWatchdog (span core : Nat) (s : State) : Host.Outcome State Fault Refusal :=
  if span < 2 && core < 8 && !s.ras.out.contains (.core span core) then
    .next ((s.takeOut (.core span core)).log (.plain .recovered 0x0304 (0x3000 + 0x100 * span + core) none))
  else .next s

/-! ### Fatal faults and halts (R431 to R434) -/

/-- A fatal fault's record: its detail holds the locus and the cause. -/
def fatalReport (locus cause : Nat) : Report := ⟨.fatal, 0x0F04, locus, none, none, none, locus + cause * 2 ^ 16, false⟩

/-- A fatal fault (R434).  A failed die persists through a warm reset.  A clean-state condition that can no longer hold fails
the claim that checks it, at once when one waits in step 4 (R389, Table 14-3). -/
def execFatalFault (cause : FatalCause) (s : State) : Host.Outcome State Fault Refusal :=
  if s.boot.phase = .off || s.boot.phase = .tripped || s.boot.phase = .supplyHeld then .next s
  else match cause with
  | .dieFailed l => .next ({ s with sec.fatalPersists := true }.fatal (fatalReport l 1))
  | .tableUncorrectable l => .next ((s.log (.plain .fatal 0x0122 l none)).fatal (fatalReport l 2))
  | .secondFault l => .next (s.fatal (fatalReport l 3))
  | .cleanState =>
    let s := { s with sec.cleanFailed := true }
    match s.sec.life, s.sec.claimOp with
    | .claiming, some t =>
      .next (((s.dropClaim.log ⟨.fatal, 0x0F05, 0x6000, some t, none, none, 0, false⟩).finish t .denied 0).warmReset 6)
    | _, _ => .next s

/-- Every operation stops that the halt does not leave running: commands not started get DEVICE_HALTED, long ones end ABORTED
with that status, plans end ABORTED; the Ethernet ports leave service (Table 15-7). -/
def execHaltComplete (s : State) : Host.Outcome State Fault Refusal :=
  if !s.boot.halted then .next s
  else
    let stops := fun o : Op => !haltedAccepts o.opcode && s.commitStage o.tag != some true
    let s := (s.q.ops.filter stops).foldl (fun s o => s.stopAny o.tag .deviceHalted) s
    let up := s.dlv.ports.any (fun p => 32 ≤ p.num && p.num < 40 && p.linked)
    let s := { s with
      boot.ethUp := 0
      dlv.ports := upd (fun p : SPort => 32 ≤ p.num && p.num < 40) (fun p => { p with linked := false }) s.dlv.ports }
    .next (if up then s.linkChanged else s)

/-- RESUME of RAS_CTRL: from a tenant function, with the key, after a halt that is not fatal, and with HALT_N deasserted; width-8
namespaces then reconcile (R433). -/
def State.resume (s : State) (f : Fn) : State :=
  if s.boot.halted && s.ras.haltSource != 4 && !s.boot.haltN && s.tenantFn f then
    let back := fun n : Namespace => n.width == 8 && n.gstate == .active
    let s := { s with
      boot.halted := false, ras.haltSource := 0
      store.namespaces := upd back (fun n : Namespace => { n with gstate := .degraded }) s.store.namespaces }
    s.readyChanged.regroup
  else s

/-- RESUME. -/
def execRasResume (r : Req) (value : Nat) (s : State) : Host.Outcome State Fault Refusal :=
  .next (if s.boot.link && s.hears r.fn r.tee && bits value 31 16 = 0x5EB7 && bit value 1 then s.wake.resume r.fn else s)

/-- CLEAR_LOST, from a function that may write device-wide registers (R428, R436, R475). -/
def execRasClearLost (r : Req) (s : State) : Host.Outcome State Fault Refusal :=
  .next (if s.boot.link && s.hears r.fn r.tee && s.mayWrite r.fn then { s.wake with ras.lost := [0, 0, 0, 0, 0, 0] } else s)

/-- RAS_HEAD: records up to the new head are free; the source is armed again, and re-sampled (R424, R450).  A head outside the
unread records changes nothing. -/
def execRasHeadWrite (r : Req) (value : Nat) (s : State) : Host.Outcome State Fault Refusal :=
  let h := value % 2 ^ 13
  if s.boot.link && s.hears r.fn r.tee && s.mayWrite r.fn && (h + 8192 - s.ras.head) % 8192 ≤ s.ras.unread then
    let s : State := { s.wake with ras.head := h, tel.rasArmed := true }
    .next (if s.ras.unread = 0 then s else ({ s with tel.rasArmed := false }).raiseSrc 1)
  else .next s

/-! ### Links (R312, R331, R417) -/

/-- The raw rate of a CXL/PCIe link by the links its port has shown: x16 alone, x8 with link 2, x4 with an odd link (Table 9-8). -/
def State.cxlRate (s : State) (k : Nat) : Nat :=
  let l := k :: (s.dlv.ports.filter (fun p => p.num < 32 && p.num / 4 = k / 4)).map (·.num)
  if l.any (fun i => i % 2 = 1) then 32 else if l.any (fun i => i % 4 = 2) then 64 else 128

/-- The raw rate of an Ethernet link: 800 Gb/s alone, 400 Gb/s beside the port's second breakout. -/
def State.ethRate (s : State) (k : Nat) : Nat :=
  if k % 2 = 1 || s.dlv.ports.any (fun p => p.num = k + 1) then 50 else 100

/-- The Ethernet ports with a link up. -/
def State.ethMask (s : State) : Nat := total ((List.range 4).map (fun e => b2n (s.linkUp (32 + 2 * e) || s.linkUp (33 + 2 * e)) * 2 ^ e))

/-- Ports of one physical port run at one rate. -/
def State.sameRate (s : State) (sel : Nat → Bool) (raw : Nat) : State :=
  { s with dlv.ports := upd (fun p : SPort => sel p.num) (fun p => { p with raw := raw }) s.dlv.ports }

/-- A CXL/PCIe link trains on a port out of PERST_N; in 68-byte flit mode it serves CXL.io only.  Its training is the link reset
that R332 waits for. -/
def State.cxlUp (s : State) (k : Nat) (flit68 : Bool) : State :=
  if 32 ≤ k || !bit s.boot.perst (k / 4) || s.linkUp k then s
  else
    let raw := s.cxlRate k
    let s := (s.portUp k raw).sameRate (fun i => i < 32 && i / 4 = k / 4) raw
    let here := fun x : HostState => (s.fnOfHost x.entry).any (fun f : Fn => f.link == k)
    let s := { s with
      dlv.ports := upd (fun p : SPort => p.num = k) (fun p => { p with mem := !flit68 }) s.dlv.ports
      pool.hosts := upd here
        (fun x => { x with needsReset := false }) s.pool.hosts }
    let s := if flit68 then s.log (.plain .refused 0x0212 (linkLocus k) none) else s
    s.linkChanged

/-- A link comes up. -/
def execLinkUp (l : LinkId) (flit68 : Bool) (s : State) : Host.Outcome State Fault Refusal :=
  match l with
  | .cxl k => .next (s.cxlUp k flit68)
  | .eth n =>
    let k := 32 + n
    if 8 ≤ n || !s.boot.link || s.boot.linkwatch || s.boot.halted || s.linkUp k then .next s
    else
      let raw := s.ethRate k
      let s := (s.portUp k raw).sameRate (fun i => i / 2 = k / 2) raw
      .next ({ s with boot.ethUp := s.ethMask }).linkChanged

/-- A CXL/PCIe link goes down: its hosts die, its IDE streams leave the secure state, partners behind it are DOWN, and leases whose peer is
reached through it are lost: peer access has failed (Table 7-12). -/
def State.cxlDown (s : State) (k : Nat) : State :=
  if !s.linkUp k || 32 ≤ k then s
  else
    let s := { s with dlv.ports := upd (fun p : SPort => p.num = k) (fun p => { p with linked := false }) s.dlv.ports }
    let s := (s.log (.plain .degraded 0x0211 (linkLocus k) none)).linkChanged
    let s := (s.sec.ides.filter (fun x => x.link = k)).foldl State.ideLeaves s
    let s := (s.hostIndices.filter (fun h => (s.fnOfHost h).any (fun f : Fn => f.link == k))).foldl State.declareDead s
    let s := (s.grp.partners.filter (fun p => partnerLink s.stg.live p.entry = k && p.state != .down)).foldl
      (fun s p => s.partnerDown p.entry false) s
    let cut := (s.tiers.leases.filter (fun l => l.state.beats && partnerLink s.stg.live l.partner = k)).map (·.id)
    let s := cut.foldl State.loseLease s
    s.dropParties (fun p => p.kind == .host && p.link = k)

/-- A link goes down: access through it ends (Table 15-3). -/
def execLinkDown (l : LinkId) (s : State) : Host.Outcome State Fault Refusal :=
  match l with
  | .cxl k => .next (s.cxlDown k)
  | .eth n =>
    let k := 32 + n
    if 8 ≤ n || !s.linkUp k then .next s
    else
      let s := { s with dlv.ports := upd (fun p : SPort => p.num = k) (fun p => { p with linked := false }) s.dlv.ports }
      let s := (s.log (.plain .degraded 0x0221 (linkLocus k) none)).linkChanged
      .next ({ s with boot.ethUp := s.ethMask }.connPortsDown (· = k))

/-- PERST_N of a port is asserted: the port is held in reset, and its links are down (R32). -/
def execPerstNAssert (port : Nat) (s : State) : Host.Outcome State Fault Refusal :=
  if 8 ≤ port || !bit s.boot.perst port then .next s
  else
    let s := (List.range 4).foldl (fun s j => s.cxlDown (4 * port + j)) s
    .next { s with
      boot.perst := s.boot.perst - 2 ^ port
      sec.config := s.sec.config.filter (fun x => x.1.link / 4 != port) }

/-! ### Registers (R436) -/

/-- RAS_STATUS (Table 15-9). -/
def State.rasStatus (s : State) : Nat :=
  b2n (!s.ras.fatal.isEmpty) * 2 ^ 31 + b2n (s.ras.lost.any (· != 0)) * 2 ^ 30 + s.ras.haltSource * 2 ^ 27 + s.ras.fatal.length

/-- RAS_LOST (Table 15-11): class c in byte c. -/
def State.rasLost (s : State) : Nat := leNat (0#8 :: s.ras.lost.map (BitVec.ofNat 8))

/-- The 64 bytes of an error record (Table 15-5). -/
def ErrRec.bytes (r : ErrRec) : List Byte :=
  leBytes 8 r.time ++ leBytes 4 r.seq ++ leBytes 1 (r.cls.code * 16) ++ leBytes 1 r.flags ++ leBytes 2 r.code ++ leBytes 2 r.locus ++
  leBytes 2 r.opTag ++ leBytes 4 r.object ++ leBytes 8 (r.span * 2 ^ 16 + r.count) ++ leBytes 8 r.addr ++ leBytes 8 r.detail ++
  leBytes 8 r.epoch ++ leBytes 8 0

end Sys2Proof.Machine
end

