-- ==== Sys2Proof/Machine/Telemetry.lean ====
section
/-! DEFINITION. Telemetry.lean: monitors, counter dumps, and the delivery of interrupts (Counters, monitors and interrupts, R437 to
R455; R410). -/
namespace Sys2Proof.Machine

/-- May a function write the device-wide CNT_ and IRQ_ registers now (R439, R401)? -/
def State.mayCount (s : State) (f : Fn) (tee : Bool) : Bool := s.boot.link && s.hears f tee && s.tenantFn f

/-! ### Monitors and counters (R438, R443) -/

/-- A monitor stored. -/
def State.setMonitor (s : State) (m : Monitor) : State :=
  s.setMonitors (m :: s.tel.monitors.filter (·.num != m.num))

/-- CLEAR: COUNT 0 and HIT clear (R443). -/
def execMonitorClear (r : Req) (monitor : Nat) (s : State) : Host.Outcome State Fault Refusal :=
  .next (if s.mayCount r.fn r.tee && monitor < 64 then s.wake.setMonitor { s.monitor monitor with count := 0, hit := false } else s)

/-- WRAP is written 1 (R438, R439). -/
def State.clearWrap (s : State) (i : Nat) : State := { s with tel.wraps := s.tel.wraps.filter (· != i) }

/-- Monitor `n`'s configuration register as it reads (Table 16-4). -/
def Monitor.cfg (m : Monitor) : Nat :=
  b2n m.enable * 2 ^ 31 + b2n m.freeze * 2 ^ 29 + b2n m.hit * 2 ^ 28 + b2n m.err * 2 ^ 27 + m.mode * 2 ^ 25 + b2n m.locusEn * 2 ^ 24 +
  b2n m.objEn * 2 ^ 23 + m.source

/-- A mode that a source does not take: LEVEL on an event, SUM on a condition, the reserved mode, or no such source (R441, R442;
log entry 44). -/
def modeWrong (source mode : Nat) : Bool :=
  mode = 3 || 0x80B ≤ source || (mode = 2 && source < 0x800) || (mode = 1 && 0x800 ≤ source)

/-- A write of CNT_MON_CFG: events that arrive after it use the new setting (R443, Table 16-11). -/
def Monitor.write (m : Monitor) (v : Nat) : Monitor :=
  { m with
    enable := bit v 31, freeze := bit v 29, mode := bits v 26 25, locusEn := bit v 24, objEn := bit v 23, source := bits v 11 0
    err := modeWrong (bits v 11 0) (bits v 26 25)
    count := if bit v 30 then 0 else m.count
    hit := if bit v 30 then false else m.hit }

/-- Is the condition of a level source true now (Table 16-8)? -/
def State.levelHolds (s : State) (src : Nat) : Bool :=
  match src with
  | 2 => !s.ras.fatal.isEmpty
  | 4 => s.tel.monitors.any (·.hit)
  | 10 => s.pool.hosts.any (·.dead)
  | 11 => s.idx.cascade.desync
  | _ => false

/-! ### Dumps (R444 to R447) -/

/-- A slot's 17,408 bytes with its generation: odd while it is being written, then even (R446). -/
def slotWith (gen : Nat) (b : List Byte) : List Byte := leBytes 4 gen ++ b

/-- The function whose host entry judges a dump's writes: its pair's own on its own link, else the lowest valid entry of the link
(R321; log entry 37). -/
def State.dumpFn (s : State) (qp port : Nat) : Fn :=
  let own := ((s.pair qp).map (·.owner)).getD ⟨port, 0⟩
  if own.link = port then own
  else match (validHosts s.stg.live).find? (fun h => (hostFn s.stg.live h).link == port) with
    | some h => hostFn s.stg.live h
    | none => ⟨port, 0⟩

/-- Dump writes pass the queue of class BULK of the issuing pair's partition (R446). -/
def State.dumpSent (s : State) (qp port n : Nat) : State := s.charge port ((s.pairPart qp).getD 0) 2 (writeUnits port n)

/-- A snapshot was written: its counter, and the DUMP source (R447). -/
def State.snapTaken (s : State) : State := (s.bump 0x605 1).raiseSrc 5

/-- The dump stops on a failed write, and FAULT shows (R447). -/
def State.dumpFails (s : State) : State := { s with tel.dump := none, tel.dumpFault := true }

/-- CNT_DUMP (R445). -/
def bodyCntDump (o : Op) (s : State) : BodyOut :=
  let act := o.p 8 1
  if act = 1 then
    match s.tel.dump with
    | none => .done .ok 0 s
    | some d => if d.qp = o.qp || s.tenantFn (s.opFn o) then .done .ok 0 { s with tel.dump := none } else .done .denied 0 s
  else
    let k := s.portOf o (o.p 28 1)
    if 2 < act || 32 ≤ k || o.buf % 4096 != 0 then .done .badParam 0 s
    else if act = 2 then
      let b := match o.work with
        | .snapshot b => b
        | _ => s.slotBytes s.clock.now 0 0
      match s.hostWrite (s.portFn o k) k o.buf (slotWith 2 b) with
      | .ok t => .done .ok 0 (t.dumpSent o.qp k 17408).snapTaken
      | .error x => x.answer s
    else
      let slots := o.p 12 2
      let first := if o.p 16 8 = 0 then o.time + 100000 else o.p 16 8
      let period := o.p 24 4
      if ! [2, 4, 8, 16, 32, 64, 128, 256].contains slots || period < 100 || 10000000 < period || first < o.time + 100000 then
        .done .badParam 0 s
      else if s.tel.dump.isSome then .done .quotaExceeded 0 s
      else if outboundDenied s.stg.live (s.portFn o k) o.buf (slots * 17408) then .done .denied 0 s
      else if !s.linkUp k || 2 ^ 64 < o.buf + slots * 17408 then .done .outOfRange 0 s
      else .done .ok first { s with
        tel.dump := some ⟨o.qp, o.buf, slots, first, period, k, 0, 0, none⟩, tel.dumpFault := false }

/-- CNT_DUMP from a queue pair. -/
def execCntDump (c : Cmd) (s : State) : Host.Outcome State Fault Refusal := .next (s.submit 0xB0 bodyCntDump c)

/-- The address of a snapshot's slot. -/
def Dump.slotAt (d : Dump) (q : Nat) : Nat := d.base + 17408 * (q % d.slots)

/-- A snapshot instant: every counter and monitor is latched and its slot begins; while the last one is still being written the
instant is skipped (R444, R446, R447). -/
def execSnapshotInstant (s : State) : Host.Outcome State Fault Refusal :=
  match s.tel.dump with
  | none => .next s
  | some d =>
    let t := d.first + d.seq * d.period * 1000
    if s.clock.now < t then .next s
    else if d.latched.isSome then
      .next (({ s with
        tel.dump := some { d with seq := d.seq + 1, skipped := d.skipped + 1 }
        tel.dumpSkipped := min 0xFFFF (s.tel.dumpSkipped + 1) }).bump 0x606 1)
    else
      let b := s.slotBytes t d.seq d.skipped
      if s.boot.halted && s.ras.haltSource = 4 then .next s.dumpFails
      else match s.hostWrite (s.dumpFn d.qp d.port) d.port (d.slotAt d.seq) (slotWith ((2 * d.seq + 1) % 2 ^ 32) b) with
        | .ok t => .next { t.dumpSent d.qp d.port 17408 with tel.dump := some { d with seq := d.seq + 1, latched := some (d.seq, b) } }
        | .error (.waits _) => .next { s with tel.dump := some { d with seq := d.seq + 1, latched := some (d.seq, b) } }
        | .error _ => .next s.dumpFails

/-- The slot is fully written: its generation is even, and the DUMP source is raised (R446, R447). -/
def execDumpSlotWritten (s : State) : Host.Outcome State Fault Refusal :=
  match s.tel.dump with
  | none => .next s
  | some d =>
    match d.latched with
    | none => .next s
    | some (q, b) =>
      if s.boot.halted && s.ras.haltSource = 4 then .next s.dumpFails
      else match s.hostWrite (s.dumpFn d.qp d.port) d.port (d.slotAt q) (slotWith ((2 * q + 2) % 2 ^ 32) b) with
        | .ok t => .next ({ t.dumpSent d.qp d.port 4 with tel.dump := some { d with latched := none } }).snapTaken
        | .error (.waits _) => .next s
        | .error _ => .next s.dumpFails

/-- CNT_DUMP_STATUS (Table 16-7). -/
def State.dumpStatus (s : State) : Nat :=
  b2n s.tel.dump.isSome * 2 ^ 31 + b2n s.tel.dumpFault * 2 ^ 30 + s.tel.dumpSkipped

/-! ### Interrupts (R449 to R454) -/

/-- A write of IRQ_SHARED: each bit written 1 clears, and a level source whose condition still holds raises a new event (R450). -/
def execIrqSharedAck (r : Req) (value : Nat) (s : State) : Host.Outcome State Fault Refusal :=
  if s.mayCount r.fn r.tee then
    let s := s.wake
    let keep := fun m : Nat => total ((List.range 16).map (fun i => if bit m i && !bit value i then 2 ^ i else 0))
    let s := { s with tel.shared := keep s.tel.shared, tel.waiting := keep s.tel.waiting }
    .next (((List.range 16).filter (fun i => bit value i && s.levelHolds i)).foldl State.raiseSrc s)
  else .next s

/-- TIMER µs have passed since the first pending event of a vector: one message (R451). -/
def execIrqModerationTimer (f : Fn) (vector : Nat) (s : State) : Host.Outcome State Fault Refusal :=
  let v := s.vector f vector
  .next (if v.pending != 0 && v.timer != 0 && v.firstAt + v.timer * 1000 ≤ s.clock.now && !s.held v then s.sendVector v else s)

/-- A bank's HOLD clears (R453). -/
def State.holdClear (s : State) (f : Fn) : State :=
  if s.tel.bankHold.contains f then ({ s with tel.bankHold := s.tel.bankHold.filter (· != f) }).releaseVectors f else s

/-- HOLD in a bank's IRQ_CTRL clears, and its vectors with pending events send (R453). -/
def execIrqHoldClear (r : Req) (s : State) : Host.Outcome State Fault Refusal :=
  .next (if s.boot.link && s.hears r.fn r.tee then s.wake.holdClear r.fn else s)

/-- IRQ_CTRL of a bank (Table 16-9). -/
def State.irqCtrl (s : State) (f : Fn) : Nat :=
  b2n (s.tel.bankHold.contains f) * 2 ^ 31 + b2n s.tel.globalHold * 2 ^ 30 +
  min 0xFFF (s.tel.vectors.filter (fun v => v.fn == f && v.pending != 0)).length

/-- The pending-bit array of a bank, vectors 64·i to 64·i + 63 (R448, R453). -/
def State.pendingBits (s : State) (f : Fn) (i : Nat) : Nat :=
  total ((List.range 64).map (fun j => b2n ((s.vector f (64 * i + j)).pending != 0) * 2 ^ j))

/-! ### The fixed-rate period (R410) -/

/-- A period ends: the highest clamp step it saw shows until the next boundary, the load is sampled, the deferred events count, and
the POWER source is raised if the step that shows changed. -/
def execFixedRatePeriodBoundary (s : State) : Host.Outcome State Fault Refusal :=
  if fixedRate s.stg.live && s.tel.fixedAt + fixedPeriod s.stg.live * 1000 ≤ s.clock.now then
    let was := s.tel.fixedStep
    let s := { s with
      tel.fixedAt := s.tel.fixedAt + fixedPeriod s.stg.live * 1000
      tel.fixedStep := s.tel.fixedPeak
      tel.fixedPeak := s.clampStep }
    let s := s.sampleLoad.settleDeferred.refreshRegs
    .next (if s.tel.fixedStep = was then s else s.raiseSrc 9)
  else .next s

end Sys2Proof.Machine
end

