-- ==== Sys2Proof/Machine/Power.lean ====
section
/-! DEFINITION. Power.lean: the power controller, thermal states, trips and supply faults (Management, power and thermal control,
R464 to R469; R496). -/
namespace Sys2Proof.Machine

/-! ### Power (R464 to R467) -/

/-- The boost level in mW: the cap and 100 W while boost is in force, else the cap (Table 17-4). -/
def State.boostLevel (s : State) : Nat := (s.capNow + if s.boosts then 100 else 0) * 1000

/-- What one sample spends or regains of the two budgets (R465): boost in µs, peak in tenths of µs. -/
def State.spend (s : State) (mw : Nat) : State :=
  { s with
    mgmt.boostLeft := if s.capNow * 1000 < mw then s.mgmt.boostLeft - 10 else min 4000000 (s.mgmt.boostLeft + 4)
    mgmt.peakLeft := if s.boostLevel < mw then s.mgmt.peakLeft - 100 else min 200000 (s.mgmt.peakLeft + 2) }

/-- The raise that a sample causes and the level that causes it, in mW: four steps above the peak ceiling, one with a budget empty
(R467). -/
def State.raise (s : State) (mw : Nat) : Option (Nat × Nat) :=
  let cap := s.capNow * 1000
  if cap + 250000 < mw then some (4, cap + 250000)
  else if s.mgmt.boostLeft = 0 && cap < mw then some (1, cap)
  else if s.mgmt.peakLeft = 0 && s.boostLevel < mw then some (1, s.boostLevel)
  else none

/-- A sample of package power, every 10 µs (R465, R467). -/
def execPowerSample (milliwatts : Nat) (s : State) : Host.Outcome State Fault Refusal :=
  if s.boot.phase = .off then .next s
  else
    let now := s.clock.now
    let up := s.raise milliwatts
    let s := (s.spend milliwatts)
    let s := { s with
      mgmt.lastPower := milliwatts
      mgmt.peak1ms := (now, milliwatts) :: s.mgmt.peak1ms.filter (fun x => now < x.1 + 1000000) }
    match (if s.boot.linkwatch then none else up) with
    | some (n, level) =>
      .next (({ s with mgmt.raiseLevel := level, mgmt.belowSince := none }).setSteps (min 15 (s.mgmt.powerStep + n)) s.mgmt.thermalStep)
    | none =>
      if s.mgmt.powerStep = 0 || s.mgmt.raiseLevel < milliwatts + 20000 then .next { s with mgmt.belowSince := none }
      else
        let since := s.mgmt.belowSince.getD now
        if since + 1000000 ≤ now then
          .next (({ s with mgmt.belowSince := some now }).setSteps (s.mgmt.powerStep - 1) s.mgmt.thermalStep)
        else .next { s with mgmt.belowSince := some since }

/-- The board management controller reports the coolant flow: boost is in force only at the rated 2.0 L/min or more (R464, Table
19-6). -/
def execCoolantFlowReport (millilitresPerMinute : Nat) (s : State) : Host.Outcome State Fault Refusal :=
  .next { s with
    mgmt.flow := millilitresPerMinute
    mgmt.boostEn := s.mgmt.boostWanted && 2000 ≤ millilitresPerMinute }

/-! ### The dies held in reset (R469, R496) -/

/-- The keystone destroys the session keys and holds every other die in reset; what it holds of its own stays. -/
def State.holdDies (s : State) (p : Phase) : State :=
  let s := s.endSession 5
  let t := s.cleared
  { t with
    boot.phase := p
    boot.running := none
    boot.link := false
    boot.deck := false
    boot.full := false
    boot.halted := false
    boot.linkwatch := false
    boot.waking := false
    boot.memoryActive := false
    boot.mounted := false
    boot.ethUp := 0
    dlv.ports := []
    sec.config := []
    tel := Telemetry.reset
    ras := s.ras
    mgmt.parties := [] }

/-- A thermal trip: keys destroyed, THERMTRIP_N asserted, the hottest locus reported (R469). -/
def State.trip (s : State) (locus : Nat) : State :=
  let s := s.holdDies .tripped
  ({ s with mgmt.thermal := .trip, mgmt.thermTrip := true }.emit .thermTrip).emit (.report 4 locus)

/-- A rail has left its tolerance for more than 20 µs while POR_N is high (R496): keys destroyed, dies held, a fatal record. -/
def execSupplyFault (rail : Nat) (s : State) : Host.Outcome State Fault Refusal :=
  if s.boot.phase = .off || s.boot.phase = .tripped || s.boot.phase = .supplyHeld then .next s
  else .next ((s.holdDies .supplyHeld).log ⟨.fatal, 0x0F06, 0x6000, none, none, none, rail * 2 ^ 56 + s.clock.now % 2 ^ 56, false⟩)

/-! ### Temperature (R468, R469) -/

/-- The thresholds of a state in °C: logic dies, HBM stacks (Table 17-7). -/
def thermalEntry : Thermal → Nat × Nat
  | .normal => (0, 0)
  | .warm => (90, 85)
  | .limit => (100, 95)
  | .trip => (110, 105)

/-- Do the readings, in 1/256 °C, reach a state's threshold less `under` °C, or pass it? -/
def reaches (x : Thermal) (logic hbm under : Nat) : Bool :=
  ((thermalEntry x).1 - under) * 256 ≤ logic || ((thermalEntry x).2 - under) * 256 ≤ hbm

/-- Do the readings hold a state that is in force: some reading above its threshold less 3 °C? -/
def holdsState (x : Thermal) (logic hbm : Nat) : Bool := reaches x (logic - 1) (hbm - 1) 3

/-- The thermal state after a sample: entered at its threshold, left 3 °C below it (R468). -/
def Thermal.next (was : Thermal) (logic hbm : Nat) : Thermal :=
  if reaches .trip logic hbm 0 then .trip
  else if reaches .limit logic hbm 0 || (was == .limit && holdsState .limit logic hbm) then .limit
  else if reaches .warm logic hbm 0 || ((was == .limit || was == .warm) && holdsState .warm logic hbm) then .warm
  else .normal

/-- A sample of the junction temperatures, every 1 µs: the state, and under LIMIT one step more every 100 µs; one step less after
10 ms at 5 °C below LIMIT's thresholds; a trip (R468, R469). -/
def execThermalSample (logicMax hbmMax locus : Nat) (s : State) : Host.Outcome State Fault Refusal :=
  if s.boot.phase = .off || s.mgmt.thermal = .trip then .next s
  else
    let now := s.clock.now
    let was : Thermal := s.mgmt.thermal
    let state : Thermal := Thermal.next was logicMax hbmMax
    let cool := !reaches .limit (logicMax - 1) (hbmMax - 1) 5
    let s := { s with
      mgmt.logicMax := logicMax
      mgmt.hbmMax := hbmMax
      mgmt.thermal := state
      mgmt.thermalAt := if state = Thermal.limit && was != Thermal.limit then now else s.mgmt.thermalAt
      mgmt.coolSince := if cool then some (s.mgmt.coolSince.getD now) else none }
    if state = .trip then .next (s.trip locus)
    else if s.boot.linkwatch then .next s
    else if state = .limit then
      if s.mgmt.thermalAt + 100000 ≤ now then
        .next (({ s with mgmt.thermalAt := now }).setSteps s.mgmt.powerStep (min 15 (s.mgmt.thermalStep + 1)))
      else .next s
    else if s.mgmt.thermalStep != 0 && s.mgmt.coolSince.any (fun t => decide (t + 10000000 ≤ now)) then
      .next (({ s with mgmt.coolSince := some now }).setSteps s.mgmt.powerStep (s.mgmt.thermalStep - 1))
    else .next s

end Sys2Proof.Machine
end

