-- ==== Sys2Proof/Machine/Mgmt.lean ====
section
/-! DEFINITION. Mgmt.lean: management actions, firmware slots, discovery, and the discipline of device time (Management, power and
thermal control, R456 to R463; R10, R478, R490). -/
namespace Sys2Proof.Machine

/-- An action refused: the code DENIED (R459). -/
def State.mgmtDenied (s : State) : State := s.emit (.mgmt false [0x40])

/-- An authenticated action where its state permits it; in link-watch its arrival starts the wake (R52, R457, R459). -/
def State.mgmtAct (s : State) (ok : Bool) (k : State → State) : State :=
  if s.managed && ok then (k s.wake).emit (.mgmt true []) else s.mgmtDenied

/-- Do the dies run, so that a reset route is there to take? -/
def State.resettable (s : State) : Bool := s.boot.phase != .off && s.boot.phase != .tripped && s.boot.phase != .supplyHeld

/-- HALT by management (R82, R431). -/
def execMgmtHalt (s : State) : Host.Outcome State Fault Refusal :=
  .next (s.mgmtAct s.boot.link (fun s => s.halt 2 (.plain .fatal 0x0F02 0x6000 none)))

/-- Release by management, in CLAIMED or OPERATING (R388, Table 17-2); its end reports to management. -/
def execMgmtRelease (s : State) : Host.Outcome State Fault Refusal :=
  .next (if s.managed && s.inSession then s.wake.beginRelease none else s.mgmtDenied)

/-- Warm reset by management (R53). -/
def execMgmtWarmReset (s : State) : Host.Outcome State Fault Refusal :=
  .next (s.mgmtAct s.resettable (fun s => s.warmReset 6))

/-- Link-watch by management, as ENTER_LINK_WATCH: in UNCLAIMED, CLAIMED or OPERATING, else DENIED; with operations or plans held
the answer is RETRY (R50, R459). -/
def execMgmtEnterLinkWatch (port : Nat) (s : State) : Host.Outcome State Fault Refusal :=
  let state := s.sec.life = .unclaimed || s.inSession
  .next (if !(s.managed && state && s.boot.link && !s.boot.halted && !s.boot.linkwatch && port < 8) then s.mgmtDenied
    else if s.mayWatch then (s.watch port).emit (.mgmt true []) else s.emit (.mgmt false [0x10]))

/-- The bytes of records, as values. -/
def recordVals (l : List ErrRec) : List Nat := l.flatMap (fun r => byteVals r.bytes)

/-- The unread records of the main ring, oldest first (R424). -/
def Ras.unreadRecords (r : Ras) : List ErrRec :=
  (List.range r.unread).filterMap (fun i => (r.ring.find? (·.1 == (r.head + i) % 4096)).map (·.2))

/-- What a management read gives (Table 17-2, first row); sensors need no authentication (Table 17-1).  A read that is answered starts
the wake (R52). -/
def execMgmtRead (what : MgmtRead) (s : State) : Host.Outcome State Fault Refusal :=
  let s := if s.managed || what = .sensors then s.wake else s
  let answer := fun v => if s.managed then s.emit (.mgmt true v) else s.mgmtDenied
  .next (match what with
    | .sensors => s.emit (.mgmt true [s.mgmt.lastPower, s.mgmt.logicMax, s.mgmt.hbmMax])
    | .counter i => answer [s.counterReg i]
    | .devReady => answer [s.devReady]
    | .errorRing => answer (recordVals s.ras.unreadRecords)
    | .fatalRing => answer (recordVals s.ras.fatal)
    | .attestation nonce => answer (byteVals (s.signedReport nonce.toNat)))

/-- The power ceiling, 300 to 1,000 W, and boost, which needs the rated coolant flow (R464). -/
def execMgmtSetPowerCeiling (watts : Nat) (boost : Bool) (s : State) : Host.Outcome State Fault Refusal :=
  .next (s.mgmtAct (300 ≤ watts && watts ≤ 1000 && (!boost || 2000 ≤ s.mgmt.flow)) (fun s =>
    { s with mgmt.ceiling := watts, mgmt.boostWanted := boost, mgmt.boostEn := boost }))

/-- The claim policy: ANY, or up to 16 root digests; in UNCLAIMED (R460). -/
def execMgmtSetClaimPolicy (roots : List Nat) (s : State) : Host.Outcome State Fault Refusal :=
  .next (s.mgmtAct (s.sec.life = .unclaimed && roots.length ≤ 16) (fun s => { s with mgmt.policy := roots }))

/-- The footing's mode and write-region share for its next mount: share code 0 none, 1 1/128, 2 1/64, 3 1/32 (R229, R233). -/
def execMgmtSetFootingMode (zoned : Bool) (writeShare : Nat) (s : State) : Host.Outcome State Fault Refusal :=
  .next (s.mgmtAct (writeShare < 4) (fun s =>
    { s with foot.setZoned := zoned, foot.setShare := [0, 128, 64, 32].getD writeShare 64 }))

/-! ### Firmware (R36, R461, R462) -/

/-- An image put into a slot, and whether the rules of R36 accept it. -/
def Boot.writeSlot (b : Boot) (sl : Slot) (image : Image) : Boot :=
  match sl with
  | .a => let b := { b with slotA := some image }; { b with slotAValid := b.accepts .a }
  | .b => let b := { b with slotB := some image }; { b with slotBValid := b.accepts .b }

/-- Does a slot hold a verified image? -/
def Boot.slotValid (b : Boot) : Slot → Bool
  | .a => b.slotAValid
  | .b => b.slotBValid

/-- An image into the slot that is not running, verified before success is reported (R461). -/
def execMgmtFirmwareWrite (slot : Slot) (image : Image) (s : State) : Host.Outcome State Fault Refusal :=
  if s.managed && s.boot.running != some slot then
    let s := { s.wake with boot := s.wake.boot.writeSlot slot image }
    .next (s.emit (.mgmt (s.boot.slotValid slot) []))
  else .next s.mgmtDenied

/-- Activation in UNCLAIMED: the selector names the verified slot, and a warm reset follows (R462). -/
def execMgmtFirmwareActivate (slot : Slot) (s : State) : Host.Outcome State Fault Refusal :=
  .next (s.mgmtAct (s.resettable && s.sec.life = .unclaimed && s.boot.slotValid slot) (fun s =>
    ({ s with boot.selector := slot }).warmReset 6))

/-- Up to `n` more bits of a fuse word blown, lowest first; what is left of `n`. -/
def Fuse.blow (f : Fuse) (n : Nat) : Fuse × Nat :=
  (List.range 32).foldl (fun a i =>
    if a.2 = 0 || (a.1.low ||| a.1.high).getLsbD i then a
    else ({ a.1 with low := a.1.low ||| BitVec.ofNat 32 (2 ^ i), high := a.1.high ||| BitVec.ofNat 32 (2 ^ i) }, a.2 - 1)) (f, n)

/-- `n` bits of the anti-rollback words blown, in order. -/
def blowAll : List Fuse → Nat → List Fuse
  | [], _ => []
  | f :: t, n => if f.cls == .rollback then (f.blow n).1 :: blowAll t (f.blow n).2 else f :: blowAll t n

/-- The anti-rollback counter advances to the running firmware's security version; refused while the other slot holds a valid
image of a lower one (R462). -/
def execMgmtAdvanceRollback (s : State) : Host.Outcome State Fault Refusal :=
  let other := s.boot.running.map Slot.other
  let lower := other.any (fun sl => s.boot.slotValid sl && (s.boot.image sl).any (fun im => decide (im.svn < s.boot.svn)))
  .next (s.mgmtAct (s.sec.life = .unclaimed && s.boot.running.isSome && !lower) (fun s =>
    { s with boot.fuses := blowAll s.boot.fuses (s.boot.svn - s.boot.rollback) }))

/-! ### Trust anchors (R457) -/

/-- ENROL over I3C installs the first anchor. -/
def execEnrol (anchor : Nat) (s : State) : Host.Outcome State Fault Refusal :=
  .next (if s.boot.phase != .off && s.mgmt.anchors.isEmpty then ({ s.wake with mgmt.anchors := [anchor] }).emit (.mgmt true [])
    else s.mgmtDenied)

/-- An authenticated session adds an anchor, up to 4, or removes one, but never the last. -/
def execMgmtTrustAnchorChange (anchor : Nat) (add : Bool) (s : State) : Host.Outcome State Fault Refusal :=
  let l := s.mgmt.anchors
  .next (s.mgmtAct (if add then l.length < 4 && !l.contains anchor else l.contains anchor && 1 < l.length) (fun s =>
    { s with mgmt.anchors := if add then l ++ [anchor] else l.erase anchor }))

/-! ### Discovery (R463, Table 17-3) -/

/-- The tray number that a fabric manager assigns (R22; log entry 141). -/
def State.assignTray (s : State) : PartyKind → Option Nat → State
  | .fabricManager, some t => { s with boot.tray := t }
  | .fabricManager, none | .host, _ | .partner, _ | .accelerator, _ => s

/-- A party is found, or no longer found.  For a host, `route` is its logical device, and the fabric manager has bound it on a
trained link; an accelerator leaves after two lists without it, a partner after 10 s of silence besides.  A fabric manager may
assign the device its tray number (R22; log entry 141). -/
def execDiscoveryUpdate (kind : PartyKind) (link route : Nat) (seen : Sighting) (s : State) :
    Host.Outcome State Fault Refusal :=
  let here := Party.names kind link route
  let s := s.assignTray kind seen.tray
  match kind, seen.present with
  | .host, true =>
    if s.linkUp link && route < 16 then
      let f : Fn := ⟨link, route⟩
      let s := { s with pool.bound := if s.pool.bound.contains f then s.pool.bound else s.pool.bound ++ [f] }
      .next (s.routeWaiting.seeParty .host link route)
    else .next s
  | .accelerator, false =>
    let s := { s with mgmt.parties := upd here (fun p : Party => { p with misses := p.misses + 1 }) s.mgmt.parties }
    .next (s.dropParties (fun p => here p && 2 ≤ p.misses))
  | .partner, false =>
    let gone := fun p : Party => here p && p.seen + 10 ^ 10 ≤ s.clock.now
    let s := if s.mgmt.parties.any gone then { s with grp.devices := s.grp.devices.filter (fun d => d.route != route) } else s
    .next (s.dropParties gone)
  | .host, false | .fabricManager, false => .next (s.dropParties here)
  | .accelerator, true | .partner, true | .fabricManager, true => .next (s.seeParty kind link route)

/-- A fabric manager without a command or an answer for 30 s leaves the list. -/
def execFmKeepaliveTimeout (link : Nat) (s : State) : Host.Outcome State Fault Refusal :=
  .next (s.dropParties (fun p => p.kind == .fabricManager && p.link = link && p.seen + 30 * 10 ^ 9 ≤ s.clock.now))

/-! ### Device time (R10, R459, R478) -/

/-- The PTP profile, the domain and the 1PPS direction. -/
def execMgmtSetPtp (profile domain : Nat) (ppsOut : Bool) (s : State) : Host.Outcome State Fault Refusal :=
  .next (s.mgmtAct true (fun s => { s with clock.profile := profile, clock.domain := domain, clock.ppsOut := ppsOut }))

/-- A PTP message: the role and the measured offset; a client's device time is as the discipline leaves it, and LOCKED shows within
100 ns of the source. -/
def execPtpMessageReceived (role : PtpRole) (time offset : Int) (s : State) : Host.Outcome State Fault Refusal :=
  if s.boot.phase = .off then .next s
  else
    .next { s with
      clock.role := role
      clock.now := if role = .client then time.toNat else s.clock.now
      clock.offset := max (-8388607) (min 8388607 offset)
      clock.locked := role = .client && decide (-100 ≤ offset) && decide (offset ≤ 100) }

/-- An edge on PPS_IN: PPS_SEEN shows for 1.1 s (R490, Table 18-3). -/
def execPpsInEdge (s : State) : Host.Outcome State Fault Refusal :=
  if s.boot.phase = .off then .next s else .next { s with clock.lastPps := some s.clock.now }

/-- DEV_PTP_STATUS (Table 18-3). -/
def State.ptpStatus (s : State) : Nat :=
  b2n s.clock.locked * 2 ^ 31 + b2n (s.clock.lastPps.any (fun t => decide (s.clock.now ≤ t + 1100000000))) * 2 ^ 30 +
  (match s.clock.role with
    | .free => 0
    | .client => 1
    | .source => 2) * 2 ^ 28 + (s.clock.offset % 2 ^ 24).toNat

end Sys2Proof.Machine
end

