-- ==== Sys2Proof/Machine/Tick.lean ====
section
/-! DEFINITION. Tick.lean: one nanosecond of device time, and what counts by time alone (R437, R442; log entry 18). -/
namespace Sys2Proof.Machine

/-- Does a monitor's locus test take in a die, and its partition test a partition: the filter chooses what a condition examines
(R443)? -/
def Monitor.looksAt (m : Monitor) (locus : Nat) (part : Option Nat) : Bool :=
  (!m.locusEn || Nat.land locus m.locusMask = Nat.land m.locusValue m.locusMask) && part.all (bit m.partMask)

/-- Is a monitor's condition true now (Table 16-3)?  The object of a scheduling queue is 16 times its port plus its number; of a queue
pair its index; of a trestle die its number (log entry 44). -/
def Monitor.holdsNow (m : Monitor) (s : State) : Bool :=
  let port := s.dlv.ports.find? (·.num == m.object / 16)
  let queue := port.bind (fun p => p.queues.find? (·.num == m.object % 16))
  match m.source with
  | 0x800 => (List.range 2).any (fun n => m.looksAt (0x3000 + 0x100 * n) none && decide (m.param ≤ s.opsOf n * 256 / 32768))
  | 0x801 => (List.range 6).any (fun p => m.looksAt (0x1010 + 0x100 * p) none && decide (m.param ≤ s.ctxUsed p))
  | 0x802 => match port with
    | some p => !p.open_ (m.object % 16) s.clock.now
    | none => false
  | 0x803 => match queue with
    | some q => q.red
    | none => false
  | 0x804 => match s.pair m.object with
    | some q => q.cqCount = q.cqDepth && m.looksAt 0x3000 (some q.partition)
    | none => false
  | 0x805 => m.param ≤ s.shownStep
  | 0x806 => s.idx.bands.any (fun b => m.param ≤ b.2 && (!m.objEn || b.1 = m.object) && m.looksAt (0x2000 + 0x100 * b.1) none)
  | 0x807 => s.dlv.plans.any (fun p => p.state = .stalled && m.looksAt (0x3011 + 0x100 * tagSpan p.tag) ((s.ns p.ns).map (·.partition)))
  | 0x808 => s.boot.halted
  | 0x809 => match s.stg.commit with
    | some c => c.switched
    | none => false
  | 0x80A => s.foot.forced
  | _ => false

/-- A monitor of a condition after one more nanosecond: LEVEL adds the time, EDGE counts a false-to-true change (R442). -/
def Monitor.tick (m : Monitor) (s : State) : Monitor :=
  if m.enable && !m.err && 0x800 ≤ m.source && !(m.freeze && m.hit) then
    let h := m.holdsNow s
    let add := if m.mode = 2 then b2n h else b2n (h && !m.holds)
    let c := (m.count + add) % 2 ^ 64
    { m with count := c, holds := h, seen := s.clock.now, hit := m.hit || decide (m.thresh ≤ c) }
  else m

/-- Does the time base run: not before a cold start has begun? -/
def State.timeRuns (s : State) : Bool := s.boot.phase != .off

/-- Each µs: how long the causeway has stayed above its high watermark (R221), what the guarantees are scaled to (R199), the footing's writes (R243), and the µs counters: time at the clamp step,
and each trestle die's time in its band (Table 16-2); every 100 µs the power registers (R471). -/
def State.microsecond (s : State) : State :=
  let high := s.usable 1 * policyHigh s.stg.live 1 < s.useAll 1 * 100
  let since := if high then (match s.tiers.highSince with
    | some t => some t
    | none => some s.clock.now) else none
  let s := { s with tiers.highSince := since }
  let s := if s.clock.now % 100000 = 0 && !fixedRate s.stg.live then s.refreshRegs else s
  let s := s.noteShort
  let s := if s.foot.mounted then (((s.footSync 3).foot.queue.map (·.channel)).eraseDups).foldl State.nandStart (s.footSync 3) else s
  let s := s.bump (0x390 + s.clampStep) 1
  let s := (List.range 6).foldl (fun s p => s.bump (0x506 + 16 * p) (b2n (decide (2048 ≤ s.ctxUsed p)))) s
  (List.range 4).foldl (fun s d => s.bump (0x3A0 + 4 * d + min 3 (assoc s.idx.bands d 0)) 1) s

/-- One nanosecond of device time: every fabric link takes one step (R17), cascade searches whose turn has come complete (R190), and
deletions whose operations have ended are complete
(R480). -/
def tick (s : State) : State :=
  if !s.timeRuns then s
  else
    let s := { s with clock.now := s.clock.now + 1 }
    let s := if s.fab.isEmpty then s else s.fabricStep
    let s := if s.q.admin.any (·.busy) then s.adminSweep else s
    let s := if s.idx.cascade.waiting.isEmpty then s else s.cascadeRun s.idx.cascade.waiting.length
    let s := if s.clock.now % 1000 = 0 then s.microsecond else s
    let s := if s.clock.ppsOut && s.clock.now % 1000000000 = 0 then s.emit .ppsOut else s
    if s.tel.monitors.any (fun m => m.enable && 0x800 ≤ m.source) then
      s.setMonitors (s.tel.monitors.map (fun m => m.tick s))
    else s

end Sys2Proof.Machine
end

