-- ==== Sys2Proof/Machine/Regs.lean ====
section
/-! DEFINITION. Regs.lean: every register as a host reads it, writes to registers that have no row of their own, and IDENTIFY
(Register map, R472 to R486).  The table has no row of its own for a read; REGISTER_WRITE carries every access (log entry 121). -/
namespace Sys2Proof.Machine

/-! ### What a register reads as (R472 to R478, Table 18-2) -/

/-- The word at byte `off` of bytes held as a number. -/
def wordAt (v off : Nat) : Nat := v / 2 ^ (8 * off) % 2 ^ 32

/-- DEV_FW: the running image's version fields. -/
def State.devFw (s : State) : Nat := s.boot.runningImage.elim 0 (·.version) % 2 ^ 32

/-- DEV_ID (Table 18-3). -/
def State.devId (s : State) : Nat := 0x0640 * 2 ^ 16 + s.boot.stepping % 2 ^ 8 * 2 ^ 8 + 1

/-- QM_ADMIN_STATUS (Table 18-4). -/
def AdminRegs.status (a : AdminRegs) : Nat := b2n a.ready * 2 ^ 31 + b2n a.busy * 2 ^ 30 + a.fail * 2 ^ 28 + a.index

/-- STG_STATUS (Table 18-5). -/
def State.stgStatus (s : State) : Nat :=
  (match s.stg.session with
    | some x => 2 ^ 31 + min 1023 ((x.deadline - s.clock.now) / 10 ^ 9) * 2 ^ 20 + x.owner
    | none => 0) + b2n (s.stg.commit.any (·.switched)) * 2 ^ 30

/-- The clamp's package search rate in M searches/s (Table 17-5). -/
def clampRate (step : Nat) : Nat := [8000, 6000, 4000, 2000].getD step 1000

/-- IDX_BAND (Table 6-11): the lower of the bands' and the clamp's rate, in 64 M searches/s (R176, R177); RATE keeps its reset value 0
until the device reaches READY.LINK (R476). -/
def State.idxBand (s : State) : Nat :=
  let band := fun d => min 3 (assoc s.idx.bands d 0)
  let rate := total ((List.range 4).map (fun d => [2000, 1500, 1000, 500].getD (band d) 500))
  (if s.boot.link then min rate (clampRate s.clampStep) / 64 * 2 ^ 8 else 0) + total ((List.range 4).map (fun d => band d * 4 ^ d))

/-- IDX_CASCADE_CTRL (Table 6-16). -/
def Cascade.ctrl (c : Cascade) : Nat := b2n c.enable * 2 ^ 30 + b2n c.head * 2 ^ 29 + c.region * 2 ^ 16 + c.nextSeq

/-- IDX_CASCADE_STATUS (Table 6-17). -/
def Cascade.status (c : Cascade) : Nat := b2n c.desync * 2 ^ 31 + c.cause * 2 ^ 28 + c.expected

/-- ATT_WINDOWS_STATUS (Table 18-6). -/
def State.windowsStatus (s : State) : Nat :=
  let used := fun a => (s.att.windows.filter (fun w => w.1 / 1024 = a)).length
  (1024 - used 1) * 2 ^ 16 + (1024 - used 0)

/-- ATT_CB_CTRL (Table 5-8). -/
def Loader.ctrl (l : Loader) : Nat := b2n l.go * 2 ^ 31 + l.action * 2 ^ 28 + l.partition * 2 ^ 16 + l.setId

/-- ATT_CB_STATUS (Table 5-9). -/
def Loader.status (l : Loader) : Nat := b2n l.busy * 2 ^ 31 + b2n l.done * 2 ^ 30 + l.code.code

/-- Is a tier above its high watermark (R206)? -/
def State.aboveHigh (s : State) (t : Nat) : Bool := s.usable t * policyHigh s.stg.live t < s.useAll t * 100

/-- Move units running: those of SPILL and PROMOTE under way, and those of policy moves that hold a buffer (R224). -/
def State.movesRunning (s : State) : Nat :=
  (s.q.ops.filter (fun o => o.moves && o.long && !o.finished && o.state == .running)).length +
  (s.q.granted.filter (fun g => s.tiers.moves.any (fun m => m.task == g.1))).length

/-- PLC_STATUS (Table 7-18). -/
def State.plcStatus (s : State) : Nat :=
  let mask := fun f : Nat → Bool => total ((List.range 4).map (fun t => b2n (f t) * 2 ^ t))
  let leases := fun b : Bool => min 15 (s.tiers.leases.filter (fun l => l.borrower == b && l.state != .closed)).length
  b2n ((List.range 4).any s.short) * 2 ^ 31 + mask s.aboveHigh * 2 ^ 24 + mask s.short * 2 ^ 20 + leases false * 2 ^ 16 +
  leases true * 2 ^ 12 + min 0xFFF s.movesRunning

/-- PLC_CAPn, PLC_USEDn, PLC_GUARn and PLC_RAWn (Table 7-16). -/
def State.plcReg (s : State) (t i : Nat) : Nat :=
  match i with
  | 0 => s.usable t
  | 1 => s.useAll t
  | 2 => total ((List.range 16).map (fun p => s.guarantee p t))
  | _ => s.raw t

/-- DLV_PLAN_STATUS (Table 9-19). -/
def State.planStatus (s : State) : Nat := min 0xFFFF s.dlv.planMisses * 2 ^ 16 + (s.dlv.plans.filter (·.live)).length

/-- POOL_STATUS (Table 11-11). -/
def State.poolStatus (s : State) : Nat :=
  b2n (fmTrust s.stg.live) * 2 ^ 31 + b2n (!s.pool.unmirrored.isEmpty) * 2 ^ 30 + deckMode s.stg.live * 2 ^ 28 +
  b2n (s.pool.pressure.any (fun t => decide (s.clock.now < t + 1000000))) * 2 ^ 27 + (s.pool.hosts.filter (·.dead)).length

/-- POOL_RECALL (Table 11-12). -/
def State.poolRecall (s : State) : Nat := s.pool.timeouts * 2 ^ 16 + s.pool.recalls.length

/-- POOL_EXTENTS (Table 11-12). -/
def State.poolExtents (s : State) : Nat :=
  let pending := fun e : Extent => e.zeroing || e.sides.any (fun x => x.2 == .offered)
  (s.pool.extents.filter pending).length * 2 ^ 16 + (s.pool.extents.filter (fun e => e.sides.any (fun x => x.2 == .active))).length

/-- The 64 bytes of a progress record (Table 3-12). -/
def ProgRec.bytes (r : ProgRec) : List Byte :=
  leBytes 4 r.generation ++ leBytes 4 (r.inc % 2 ^ 32) ++ leBytes 2 r.tag ++ leBytes 2 r.cmdTag ++ leBytes 2 r.sq ++ leBytes 1 r.opcode ++
  leBytes 1 r.state.code ++ leBytes 2 r.status.code ++ leBytes 2 r.pause ++ leBytes 4 r.unitsTotal ++ leBytes 4 r.unitsDone ++
  leBytes 4 r.unitsDone ++ leBytes 8 r.result ++ leBytes 8 r.updated ++ leBytes 8 r.epoch ++ leBytes 8 r.resume

/-- QSTATUS, in a pair's doorbell window (Table 3-2). -/
def QPair.qstatus (q : QPair) : Nat :=
  b2n q.error * 2 ^ 31 + b2n (q.cqCount = q.cqDepth) * 2 ^ 30 + q.errKind * 2 ^ 28 + q.sqHead % 2 ^ 12

/-- IRQ_ROUTE (Table 16-9). -/
def State.routeReg (s : State) (i : Nat) : Nat := match s.tel.routes.find? (·.source == i) with
  | some r => b2n r.valid * 2 ^ 31 + r.host * 2 ^ 16 + r.vector
  | none => 0

/-- One entry of a bank's MSI-X table: address, data and vector control. -/
def Vector.entry (v : Vector) : Nat := v.addr + v.data * 2 ^ 64 + b2n v.masked * 2 ^ 96

/-- The register that holds an offset of BAR0, as a function reads it: its first offset, its width in bytes and its value (Table
18-2). -/
def State.register (s : State) (f : Fn) (off : Nat) : Option (Nat × Nat × Nat) :=
  let w32 := fun (v : Nat) => some (off / 4 * 4, 4, v % 2 ^ 32)
  let w64 := fun (v : Nat) => some (off / 8 * 8, 8, v % 2 ^ 64)
  let a := s.adminOf f
  let l := s.loader f
  let i := off / 4 * 4
  if off < 0x100 then
    (if i = 0 then w32 s.devId else if i = 4 then w32 s.devFw else if i / 8 = 1 then w64 s.boot.serial
     else if i = 0x40 then w32 s.devReady else if i / 8 = 9 then w64 (s.dieTime (0x5000 + 0x100 * portAbutment f.link)) else if i = 0x50 then w32 s.ptpStatus
     else if i / 8 = 11 then w64 s.clock.wakeAt else if i = 0x60 then w32 0 else if i = 0x80 then w32 s.groupStatus
     else if i = 0x84 then w32 s.groupMembers else none)
  else if off < 0x200000 then
    (if i / 8 = 0x20000 then w64 a.sqBase else if i / 8 = 0x20001 then w64 a.cqBase else if i = 0x100010 then w32 a.depth
     else if i = 0x100014 then w32 (b2n a.enable * 2 ^ 31 + a.vector) else if i = 0x100018 then w32 a.status else none)
  else if off < 0x300000 then (if i / 8 = 0x40000 then w64 s.stg.epoch else if i = 0x200008 then w32 s.stgStatus else none)
  else if off < 0x400000 then
    (if i = 0x300000 then w32 s.idxBand else if i = 0x300010 then w32 s.idx.cascade.ctrl
     else if i = 0x300014 then w32 s.idx.cascade.status else none)
  else if off < 0x500000 then
    (if i = 0x400000 then w32 s.windowsStatus else if i / 8 = 0x80200 then w64 l.addr else if i = 0x401008 then w32 l.ctrl
     else if i = 0x40100C then w32 l.status else if i = 0x401010 then w32 l.result else none)
  else if off < 0x600000 then
    (if off < 0x500080 then w64 (s.plcReg (off % 0x80 / 0x20) (off % 0x20 / 8)) else if i = 0x500080 then w32 s.plcStatus
     else if i = 0x500100 then w32 s.footStatus else if i = 0x500104 then w32 s.footHealth else none)
  else if off < 0x700000 then
    (let k := off % 0x100000 / 0x40
     if k < 42 && off < 0x600A80 then
      (match i % 0x40 with
       | 0x00 => w32 (s.linkStatus k)
       | 0x04 => w32 (s.linkLoad k)
       | 0x08 | 0x0C => w64 (s.linkTimes k).1
       | 0x10 | 0x14 => w64 (s.linkTimes k).2.1
       | 0x18 | 0x1C => w64 (s.linkTimes k).2.2
       | _ => none)
     else if i = 0x601000 then w32 s.planStatus else none)
  else if off < 0x800000 then
    (if i = 0x700000 then w32 s.poolStatus else if i = 0x700004 then w32 s.pool.dir.length
     else if i = 0x700008 then w32 s.poolRecall else if i = 0x70000C then w32 s.poolExtents else none)
  else if off < 0xC00000 then
    w64 ((s.record ((off - 0x800000) / 64)).elim 0 (fun r => leNat r.bytes / 2 ^ (8 * (off % 64 / 8 * 8))))
  else if off < 0xD00000 then (if i = 0xC00000 then w32 s.rmaStatus else if i = 0xC00004 then w32 s.rmaErrors else none)
  else if off < 0xE00000 then
    (if i = 0xD00000 then w32 s.secStatus else if i = 0xD00004 then w32 s.secEntropy
     else if i / 8 = 0x1A0001 then w64 s.secLinkIde else none)
  else if off < 0xE40000 then
    w64 ((s.ras.ring.find? (·.1 == (off - 0xE00000) / 64)).elim 0 (fun x => leNat x.2.bytes / 2 ^ (8 * (off % 64 / 8 * 8))))
  else if off < 0xE41000 then
    w64 ((s.ras.fatal[(off - 0xE40000) / 64]?).elim 0 (fun x => leNat x.bytes / 2 ^ (8 * (off % 64 / 8 * 8))))
  else if off < 0xF00000 then
    (if i = 0xE50000 then w32 s.rasStatus else if i = 0xE50004 then w32 s.ras.head else if i = 0xE50008 then w32 s.ras.tail
     else if i / 8 = 0x1CA002 then w64 s.rasLost else if i = 0xE50018 then w32 0 else none)
  else if off < 0xF10000 then
    (if off < 0xF04000 then w64 (s.counterReg ((off - 0xF00000) / 8)) else if i = 0xF04000 then w32 s.dumpStatus else none)
  else if off < 0xF20000 then
    (let m := s.monitor ((off - 0xF10000) / 0x20)
     if off < 0xF10800 then
      (match i % 0x20 with
       | 0x00 => w32 m.cfg
       | 0x04 => w32 (m.locusMask * 2 ^ 16 + m.locusValue)
       | 0x08 => w32 m.object
       | 0x0C => w32 (m.partMask * 2 ^ 16 + m.param)
       | 0x10 | 0x14 => w64 m.count
       | _ => w64 m.thresh)
     else none)
  else if off < 0xF40000 then
    (if i = 0xF20000 then w32 (s.irqCtrl f) else if i = 0xF20004 then w32 (b2n s.tel.globalHold * 2 ^ 31)
     else if i = 0xF20008 then w32 s.tel.shared
     else if 0xF20040 ≤ i && i < 0xF20080 then w32 (s.routeReg ((i - 0xF20040) / 4))
     else if 0xF21000 ≤ i && i < 0xF23000 then
      (let v := s.vector f ((i - 0xF21000) / 4)
       w32 (v.timer * 2 ^ 16 + v.count))
     else none)
  else if off < 0xF48000 then
    w64 ((s.vector f ((off - 0xF40000) / 16)).entry / 2 ^ (64 * (off % 16 / 8)))
  else if off < 0xF48100 then w64 (s.pendingBits f ((off - 0xF48000) / 8))
  else if 0xF80000 ≤ off && off < 0xF80014 then w32 (s.mgmt.regs.getD ((off - 0xF80000) / 4) 0)
  else if 0xFC0000 ≤ off && off < 0xFD0000 then
    w32 (((s.pool.hdm.find? (fun x => x.1 == f && x.2.1 == i)).map (·.2.2)).getD 0)
  else if 0xFD0000 ≤ off && off < 0xFE0000 then w32 (Config.cxlDeviceWord i).toNat
  else none

/-- Registers that hardware holds answer before READY.LINK (R476); in the boot-failed state only DEV_READY does (R37). -/
def State.answers (s : State) (off : Nat) : Bool :=
  s.boot.link || (if s.boot.phase = .bootFailed then off / 4 = 0x10
    else s.boot.phase != .off && (off < 0x10 || off / 4 = 0x10 || off / 8 = 9))

/-- What an access of `width` bytes at an offset of BAR0 reads: a register at its own width, a half of a 64-bit one, else 0
(R473). -/
def State.readBar0 (s : State) (f : Fn) (off width : Nat) : Nat :=
  if !s.answers off || !s.admits f.link then 0
  else match s.register f off with
  | some (_, w, v) =>
    if off % width != 0 then 0
    else if width = w then v
    else if width = 4 && w = 8 then v / 2 ^ (32 * (off % 8 / 4)) % 2 ^ 32 else 0
  | none => 0

/-- A read that clears: the RC fields of the register at an offset, cleared by a function that may write device-wide registers
(R475). -/
def State.readClears (s : State) (f : Fn) (off : Nat) : State :=
  if !s.boot.link || !s.mayWrite f then s
  else match off with
  | 0x601000 => { s with dlv.planMisses := 0 }
  | 0x700008 => { s with pool.timeouts := 0 }
  | 0xC00004 => { s with rma.accessNaks := 0, rma.exhausted := 0, rma.unmatched := 0 }
  | 0xD00004 => { s with sec.fails := 0, sec.waitFails := 0 }
  | 0xF04000 => { s with tel.dumpSkipped := 0 }
  | _ => s

/-! ### Writes (R473 to R475, R480, R443, R454) -/

/-- The state that a row's meaning answers. -/
def afterRow (o : Host.Outcome State Fault Refusal) (s : State) : State := match o with
  | .next t => t
  | .fault _ | .refused _ => s

/-- A monitor's registers written (Table 16-4): its condition counts from what it is now. -/
def State.writeMonitor (s : State) (n i v : Nat) : State :=
  let m := s.monitor n
  let m := match i with
    | 0x00 => m.write v
    | 0x04 => { m with locusMask := bits v 31 16, locusValue := bits v 15 0 }
    | 0x08 => { m with object := v }
    | 0x0C => { m with partMask := bits v 31 16, param := bits v 15 0 }
    | 0x18 => { m with thresh := v }
    | _ => m
  s.setMonitor { m with holds := m.holdsNow s }

/-- IRQ_GLOBAL written: every bank's messages are held, or released (R453). -/
def State.writeGlobal (s : State) (hold : Bool) : State :=
  let was := s.tel.globalHold
  let s := { s with tel.globalHold := hold }
  if was && !hold then s.waitingBanks.foldl State.releaseVectors s else s

/-- IRQ_ROUTE written: what of the source has not been sent goes to the route now in force (R449, Table 16-11). -/
def State.writeRoute (s : State) (src v : Nat) : State :=
  let unsent := s.tel.vectors.any (fun x => bit x.srcs src)
  let s := { s with tel.routes := ⟨src, bit v 31, bits v 25 16, bits v 10 0⟩ :: s.tel.routes.filter (·.source != src) }
  let s := if unsent && !bit s.tel.waiting src then { s.takeSrc src with tel.waiting := s.tel.waiting + 2 ^ src } else s
  s.routeWaiting

/-- One word of a bank's MSI-X table written; a vector whose mask was its last hold sends (R448, R453). -/
def State.writeMsix (s : State) (f : Fn) (n word v : Nat) : State :=
  let x := s.vector f n
  let was := s.held x
  let x := match word with
    | 0 => { x with addr := x.addr / 2 ^ 32 * 2 ^ 32 + v }
    | 1 => { x with addr := v * 2 ^ 32 + x.addr % 2 ^ 32 }
    | 2 => { x with data := v }
    | _ => { x with masked := bit v 0 }
  let s := s.setVector x
  if was && !s.held x && x.pending != 0 then s.releaseOne x else s

/-- A word of a function's component registers written; a change puts a locked or running TDI into ERROR (R403, R484). -/
def State.writeHdm (s : State) (f : Fn) (off v : Nat) : State :=
  let was := ((s.pool.hdm.find? (fun x => x.1 == f && x.2.1 == off)).map (·.2.2)).getD 0
  if was = v then s
  else State.failTdis { s with pool.hdm := (f, off, v) :: s.pool.hdm.filter (fun x => !(x.1 == f && x.2.1 == off)) } (· == f)

/-- RAS_CTRL written (Table 15-12). -/
def State.writeRasCtrl (s : State) (f : Fn) (v : Nat) : State :=
  let s := if bit v 2 && s.mayWrite f then { s with ras.lost := [0, 0, 0, 0, 0, 0] } else s
  if bits v 31 16 = 0x5EB7 && bit v 1 then s.resume f else s

/-- ATT_CB_CTRL written: with GO an action starts; else its fields take their values (Table 5-8). -/
def State.writeLoader (s : State) (f : Fn) (v : Nat) : State :=
  let l := s.loader f
  if l.go then s
  else if !bit v 31 then s.setLoader { l with action := bits v 30 28, partition := bits v 19 16, setId := bits v 15 0 }
  else afterRow (if bits v 30 28 = 1 then execCodebookUnload ⟨f, true⟩ v s else execCodebookLoad ⟨f, true⟩ v s) s

/-- A 32-bit register written. -/
def State.write32 (s : State) (f : Fn) (off v : Nat) : State :=
  let a := s.adminOf f
  if off = 0x60 then afterRow (execDevResetWarm ⟨f, true⟩ v s) s
  else if off = 0x100010 then (if a.enable then s else s.setAdmin { a with depth := v })
  else if off = 0x100014 then
    (if bit v 31 then afterRow (execAdminQueueEnable ⟨f, true⟩ v s) s
     else
      let s := afterRow (execAdminQueueDisable ⟨f, true⟩ s) s
      s.setAdmin { s.adminOf f with vector := bits v 10 0 })
  else if off = 0x300010 then s.cascadeWrite f v
  else if off = 0x401008 then s.writeLoader f v
  else if off = 0x40100C then (if bit v 30 then s.setLoader { s.loader f with done := false } else s)
  else if off = 0xE50004 then afterRow (execRasHeadWrite ⟨f, true⟩ v s) s
  else if off = 0xE50018 then s.writeRasCtrl f v
  else if 0xF10000 ≤ off && off < 0xF10800 then
    (if s.tenantFn f && off % 0x20 < 0x10 then s.writeMonitor ((off - 0xF10000) / 0x20) (off % 0x20) v else s)
  else if off = 0xF20000 then
    (if bit v 31 then { s with tel.bankHold := f :: s.tel.bankHold.filter (· != f) } else s.holdClear f)
  else if off = 0xF20004 then (if s.tenantFn f then s.writeGlobal (bit v 31) else s)
  else if off = 0xF20008 then afterRow (execIrqSharedAck ⟨f, true⟩ v s) s
  else if 0xF20040 ≤ off && off < 0xF20080 then (if s.tenantFn f then s.writeRoute ((off - 0xF20040) / 4) v else s)
  else if 0xF21000 ≤ off && off < 0xF23000 then
    s.setVector { s.vector f ((off - 0xF21000) / 4) with timer := bits v 25 16, count := bits v 7 0 }
  else if 0xF40000 ≤ off && off < 0xF48000 then s.writeMsix f ((off - 0xF40000) / 16) (off % 16 / 4) v
  else if 0xFC0000 ≤ off && off < 0xFD0000 then s.writeHdm f off v
  else s

/-- A 64-bit register written. -/
def State.write64 (s : State) (f : Fn) (off v : Nat) : State :=
  let a := s.adminOf f
  if off = 0x58 then (if s.mayWrite f then { s with clock.wakeAt := v } else s)
  else if off = 0x100000 then (if a.enable then s else s.setAdmin { a with sqBase := v / 4096 * 4096 })
  else if off = 0x100008 then (if a.enable then s else s.setAdmin { a with cqBase := v / 4096 * 4096 })
  else if off = 0x401000 then s.setLoader { s.loader f with addr := v / 4096 * 4096 }
  else if 0xF00000 ≤ off && off < 0xF04000 then
    (if s.tenantFn f && bit v 63 then s.clearWrap ((off - 0xF00000) / 8) else s)
  else if 0xF10000 ≤ off && off < 0xF10800 then
    (if s.tenantFn f && off % 0x20 = 0x18 then s.writeMonitor ((off - 0xF10000) / 0x20) 0x18 v else s)
  else if 0xF40000 ≤ off && off < 0xF48000 then
    (s.writeMsix f ((off - 0xF40000) / 16) (off % 16 / 4) (v % 2 ^ 32)).writeMsix f ((off - 0xF40000) / 16) (off % 16 / 4 + 1) (v / 2 ^ 32)
  else if 0xFC0000 ≤ off && off < 0xFD0000 then (s.writeHdm f off (v % 2 ^ 32)).writeHdm f (off + 4) (v / 2 ^ 32)
  else s

/-- A write at an offset of BAR0, aligned and at its register's width, from READY.LINK on; every other write is ignored (R473,
R476, R401). -/
def State.writeBar0 (s : State) (f : Fn) (tee : Bool) (off width v : Nat) : State :=
  if !s.boot.link || !s.hears f tee || off % width != 0 then s
  else if width = 4 then s.wake.write32 f off (v % 2 ^ 32)
  else if width = 8 then s.wake.write64 f off (v % 2 ^ 64)
  else s

/-! ### BAR2 and BAR4 (R58, R472, R483) -/

/-- What a read of BAR2 answers: QSTATUS of a live pair in its window; doorbells and reserved words read 0 (Table 3-1). -/
def State.readBar2 (s : State) (f : Fn) (off width : Nat) : Nat :=
  if !s.boot.link || !s.admits f.link || off % width != 0 || width != 4 || 0x80000 ≤ off || off % 64 != 8 then 0
  else (s.pair (off / 64)).elim 0 QPair.qstatus

/-- A write at an offset of BAR2 reaches the doorbell that lies there; reserved words have no effect. -/
def State.writeBar2 (s : State) (f : Fn) (tee : Bool) (off width v : Nat) : State :=
  if !s.boot.link || off % width != 0 then s
  else if off < 0x80000 then
    (if width != 4 then s
     else if off % 64 = 0 then afterRow (execSqTailDoorbell ⟨f, tee⟩ (off / 64) v s) s
     else if off % 64 = 4 then afterRow (execCqHeadDoorbell ⟨f, tee⟩ (off / 64) v s) s else s)
  else if off < 0x88000 then
    (if off % 8 = 0 then afterRow (execTickDoorbell ⟨f, tee⟩ ((off - 0x80000) / 8) width v s) s else s)
  else if off / 8 = 0x12000 then (if off % 8 = 0 then afterRow (execHeartbeatRenew ⟨f, tee⟩ s) s else s)
  else if 0xA0000 ≤ off && off < 0xA2000 then
    (if off % 8 = 0 then afterRow (execNqHeadDoorbell ⟨f, tee⟩ ((off - 0xA0000) / 8) v s) s else s)
  else s

/-! ### Configuration space (R33, R472) -/

/-- The time from reset to configuration readiness that the Readiness Time Reporting capability states, in ns (R33). -/
def readinessTime : Nat := 1500000000

/-- Where the model's configuration accesses find that capability (log entry 140). -/
def readinessAt : Nat := 0x100

/-- What a configuration read of a dword answers: none stands for Configuration Request Retry Status, which firmware-backed
registers get until READY.LINK (R33; log entry 140). -/
def State.readConfig (s : State) (f : Fn) (off : Nat) : Option Nat :=
  if off = readinessAt then some readinessTime
  else if off = 4 then some ((s.configOf f).2 % 2 ^ 16)
  else if 0x10 ≤ off && off < 0x28 then some ((s.configOf f).1 / 2 ^ (8 * (off - 0x10)) % 2 ^ 32)
  else if Config.firmwareBacked off && !s.boot.link then none
  else some (Config.configWord off).toNat

/-! ### An access -/

/-- A read of a BAR or of configuration space (7): its answer, and the clearing of RC fields (R475).  A request for the BARs that is not
admitted gets no value: Unsupported Request (R401, R402). -/
def State.readAccess (s : State) (f : Fn) (tee : Bool) (bar off width : Nat) : State :=
  if bar = 7 then s.emit (.read f (s.readConfig f (off / 4 * 4)))
  else if !s.hears f tee then s.emit (.read f none)
  else match bar with
  | 0 =>
    let v := s.readBar0 f off width
    (if width = 4 then s.wake.readClears f off else s.wake).emit (.read f (some v))
  | 2 => s.wake.emit (.read f (some (s.readBar2 f off width)))
  | _ => s.wake.emit (.read f (some 0))

/-- A register access of a function: a write of a value, or a read, at an offset of a BAR; 7 stands for configuration space.  Loads
from BAR4 answer 0, and its stores reach the query windows (R472 to R476, R483). -/
def execRegisterWrite (r : Req) (reg : BarAddr) (width : Nat) (value : Option Nat) (s : State) : Host.Outcome State Fault Refusal :=
  match value with
  | none => .next (s.readAccess r.fn r.tee reg.bar reg.offset width)
  | some v => .next (match reg.bar with
    | 0 => s.writeBar0 r.fn r.tee reg.offset width v
    | 2 => s.writeBar2 r.fn r.tee reg.offset width v
    | 4 => afterRow (execQueryWindowStore r reg.offset (leBytes width v) s) s
    | _ => s)

/-! ### IDENTIFY (R485) -/

/-- Does the pair's class accept the opcode (R57, R70)? -/
def State.opcodeOn (s : State) (ctl : Bool) (op : Nat) : Bool :=
  classAccepts ctl op && (assignedOpcodes.contains op || (0xC0 ≤ op && s.sec.diagOpen))

/-- The identity structure (Table 18-8). -/
def State.identity (s : State) (ctl : Bool) : List Byte :=
  let l := s.stg.live
  leBytes 4 0x56545053 ++ leBytes 2 1 ++ leBytes 2 0x0640 ++ leBytes 1 s.boot.stepping ++ leBytes 1 s.boot.speedGrade ++
  leBytes 1 s.slot ++ leBytes 1 (deckMode l) ++ leBytes 4 s.devFw ++ leBytes 8 s.boot.serial ++
  beBytes 48 Config.identityDigest.toNat ++ s.fwMeasurement ++ leBytes 4 s.boot.svn ++ leBytes 4 s.boot.rollback ++
  leBytes 4 8192 ++ leBytes 2 4096 ++ leBytes 2 16384 ++ leBytes 4 65536 ++ leBytes 2 4096 ++ leBytes 1 16 ++ leBytes 1 64 ++
  leBytes 4 s.devReady ++ leBytes 4 1048576 ++ leBytes 4 262144 ++ leBytes 4 65536 ++ leBytes 4 134217728 ++ leBytes 2 4096 ++
  leBytes 2 4096 ++ leBytes 2 2048 ++ leBytes 2 16384 ++ leBytes 4 65536 ++ leBytes 2 1024 ++ leBytes 2 8192 ++ leBytes 2 4096 ++
  leBytes 2 4096 ++ leBytes 4 16777216 ++ leBytes 2 256 ++ leBytes 2 256 ++
  (List.range 4).flatMap (fun t => leBytes 8 (s.usable t) ++ leBytes 8 (s.raw t)) ++
  leBytes 2 0xFFFF ++ leBytes 2 2048 ++ leBytes 1 64 ++
  leBytes 1 (b2n s.sec.debugOpen + 2 * b2n s.sec.diagOpen + 4 * b2n s.boot.marginal + 8 * b2n (fmTrust l)) ++ leBytes 2 0 ++
  leBytes 32 (total ((List.range 256).map (fun op => b2n (s.opcodeOn ctl op) * 2 ^ op))) ++ leBytes 8 s.clock.now ++ leBytes 3792 0

/-- IDENTIFY (Table 3-9). -/
def bodyIdentify (o : Op) (s : State) : BodyOut :=
  if o.buf % 4096 != 0 then .done .badParam 0 s
  else s.writeThen o o.buf (s.identity ((s.pair o.qp).any (·.ctl))) (fun s => .done .ok 0 s)

/-- IDENTIFY from a queue pair. -/
def execIdentify (c : Cmd) (s : State) : Host.Outcome State Fault Refusal := .next (s.submit 0x00 bodyIdentify c)

end Sys2Proof.Machine
end

