-- ==== Sys2Proof/Machine/Staging.lean ====
section
/-! DEFINITION. Staging.lean: the staging session, the consistency checks, COMMIT, its switch and its drain (R86 to R93,
R264, R268, R271, R364, R398, R403). -/
namespace Sys2Proof.Machine

/-- Staging commands need a tenant function and a claimed device (R71, R384). -/
def State.stagingDenied (s : State) (o : Op) : Bool :=
  !s.tenantFn (s.opFn o) || s.sec.life = .unclaimed || s.sec.life = .claiming

/-- The session an operation may use: the one it names, opened by its own pair (R87). -/
def State.sessionOf (s : State) (o : Op) : Option Session :=
  match s.stg.session with
  | some x => if x.id = o.p 8 2 && x.owner = o.qp then some x else none
  | none => none

/-- STAGE_OPEN (R87). -/
def bodyStageOpen (o : Op) (s : State) : BodyOut :=
  if s.stagingDenied o then .done .denied 0 s
  else
    let lease := o.p 8 2
    if lease < 1 || 600 < lease then .done .badParam 0 s
    else if s.stg.session.isSome then .done .stagingBusy 0 s
    else
      let id := s.stg.nextSession
      let x : Session := ⟨id, o.qp, lease, s.clock.now + lease * 10 ^ 9, []⟩
      .done .ok (id + s.stg.epoch % 2 ^ 32 * 2 ^ 32)
        { s with stg.session := some x, stg.nextSession := if id + 1 < 2 ^ 16 then id + 1 else 1 }

/-- The entries that a STAGE_WRITE or STAGE_READ names are good: an item, a count of at least 1, a length that fits. -/
def stageArgs (o : Op) : Option Status :=
  let code := o.p 10 2
  if itemEntries code = 0 || o.p 16 4 = 0 || o.p 20 4 != o.p 16 4 * itemSize code then some .badParam
  else if itemEntries code < o.p 12 4 + o.p 16 4 then some .outOfRange
  else none

/-- STAGE_WRITE: all of its entries are staged, or none (R71). -/
def bodyStageWrite (o : Op) (s : State) : BodyOut :=
  if s.stagingDenied o then .done .denied 0 s
  else match s.sessionOf o with
  | none => .done .badHandle 0 s
  | some x =>
    match stageArgs o with
    | some st => .done st 0 s
    | none =>
      let code := o.p 10 2
      let first := o.p 12 4
      s.withRead o o.buf (o.p 20 4) (fun b =>
        let es := (chunks (itemSize code) (o.p 16 4) b).zipIdx.map (fun p => Item.mk code (first + p.2) (leNat p.1))
        if es.all (fun e => entryOk e.code e.index e.value) then
          let keep := x.staged.filter (fun y => !(es.any (fun e => e.code == y.code && e.index == y.index)))
          .done .ok 0 ({ s with stg.session := some { x with staged := es ++ keep } })
        else .done .badParam 0 s)

/-- The value STAGE_READ gives for an entry of the staged copy: the staged one, else the live one (R71). -/
def stagedValue (live staged : List Item) (code i : Nat) : Nat :=
  match staged.find? (fun y => y.code == code && y.index == i) with
  | some y => y.value
  | none => itemGet live code i

/-- STAGE_READ (R71). -/
def bodyStageRead (o : Op) (s : State) : BodyOut :=
  if s.stagingDenied o then .done .denied 0 s
  else match s.sessionOf o with
  | none => .done .badHandle 0 s
  | some x =>
    match (if 2 ≤ o.p 24 1 then some .badParam else stageArgs o) with
    | some st => .done st 0 s
    | none =>
      let code := o.p 10 2
      let staged := if o.p 24 1 = 0 then x.staged else []
      s.writeThen o o.buf ((List.range (o.p 16 4)).flatMap (fun i =>
        leBytes (itemSize code) (stagedValue s.stg.live staged code (o.p 12 4 + i)))) (fun s => .done .ok 0 s)

/-- STAGE_DISCARD (R87). -/
def bodyStageDiscard (o : Op) (s : State) : BodyOut :=
  if s.stagingDenied o then .done .denied 0 s
  else match s.sessionOf o with
  | none => .done .badHandle 0 s
  | some _ => .done .ok 0 { s with stg.session := none }

/-! ### The checks of Table 3-15 -/

/-- A failed check: its number, the item's code and the first failing entry (R88). -/
structure CheckFail where
  check : Nat
  code : Nat
  entry : Nat
  deriving DecidableEq, Repr

/-- The result word of CHECK_FAILED. -/
def CheckFail.result (f : CheckFail) : Nat := f.check + f.code * 2 ^ 16 + f.entry * 2 ^ 32

/-- Dedicated resources of two hard partitions meet (check 1). -/
def hardShare (l : List Item) (p q : Nat) : Bool :=
  partHard l p && partHard l q &&
    (Nat.land (partPiers l p) (partPiers l q) != 0 || Nat.land (partBanks l p) (partBanks l q) != 0 ||
     Nat.land (partDdr l p) (partDdr l q) != 0 || Nat.land (partLinks l p) (partLinks l q) != 0 ||
     Nat.land (partEth l p) (partEth l q) != 0)

/-- The dedicated resources of a partition: the masks of a hard one. -/
def dedicated (l : List Item) (p : Nat) : List Nat :=
  if partHard l p then [partPiers l p, partBanks l p, partDdr l p, partLinks l p, partEth l p] else [0, 0, 0, 0, 0]

/-- Does a partition hold a namespace or a queue pair (check 2)? -/
def State.partUsed (s : State) (p : Nat) : Bool :=
  s.store.namespaces.any (fun n => n.partition == p) || s.q.pairs.any (fun q => q.partition == p)

/-- Check 3: the entry at which the guarantees of a tier pass its capacity after the switch. -/
def State.overCommitted (s : State) (l : List Item) : Option Nat :=
  (List.range 64).find? (fun i =>
    s.usableIn (deckMode l) (i % 4) < total ((List.range (i / 4 + 1)).map (fun p => quotaGuar l p (i % 4))))

/-- The range entries that check 7 compares. -/
def rangesClash (a b : RangeIso) : Bool :=
  a.host == b.host && a.outbound == b.outbound && a.base < b.base + b.length && b.base < a.base + a.length

/-- Do the settings after the switch break check `n`?  The first entry that does. -/
def State.check (s : State) (after staged : List Item) (switchAt n : Nat) : Option CheckFail :=
  let stages := fun c => staged.any (fun y : Item => y.code == c)
  let fail := fun code (e : Option Nat) => e.map (fun i => CheckFail.mk n code i)
  let ranges := sortBy (fun a b : RangeIso => a.index ≤ b.index) (validRanges after)
  match n with
  | 1 => fail 0x01 ((List.range 16).find? (fun q => (List.range q).any (fun p => hardShare after p q)))
  | 2 => fail 0x01 ((List.range 16).find? (fun p => s.partUsed p && dedicated s.stg.live p != dedicated after p))
  | 3 => if stages 0x02 || stages 0x0B then fail 0x02 (s.overCommitted after) else none
  | 4 => if stages 0x0B && deckMode after != 0 && s.boot.stackOk != 63 then some ⟨4, 0x0B, 0⟩ else none
  | 5 =>
    if deckMode after != deckMode s.stg.live &&
        !(s.store.namespaces.isEmpty && s.pool.extents.isEmpty && s.tiers.weights.isEmpty) then some ⟨5, 0x0B, 0⟩ else none
  | 6 => fail 0x04 ((ranges.find? (fun r => !hostValid after r.host)).map (·.index))
  | 7 => fail 0x04 ((ranges.find? (fun r => ranges.any (fun q => q.index < r.index && rangesClash q r))).map (·.index))
  | 8 => fail 0x05 ((validPartners after).find? (fun i => !s.grp.devices.any (fun d =>
      d.attested && d.identity.toNat == partnerId after i)))
  | 9 => fail 0x07 (((itemListed after 0x07).filter (fun i =>
      let t := tollOf after (i / 16) (i % 16)
      let least := largestUnit (i / 16) + schedOverhead after (i / 16)
      t.enable && (t.prate < t.crate || t.cdepth < least || t.pdepth < least))).min?)
  | 10 => fail 0x08 (((itemListed staged 0x08).map (fun i => 257 * (i / 257))).filter (fun i =>
      let g := gateOf after (i / 257)
      !g.entries.isEmpty && (total (g.entries.map (·.1)) != g.cycle || g.takeover < switchAt))).min?
  | 11 => if powerCap after < 300 || 1000 < powerCap after then some ⟨11, 0x0A, 0⟩ else none
  | _ => none

/-- The first check that fails, in the order of Table 3-15 (R88). -/
def State.checks (s : State) (staged : List Item) (switchAt : Nat) : Option CheckFail :=
  let after := itemOver s.stg.live staged
  ((List.range 11).map (· + 1)).findSome? (fun n => s.check after staged switchAt n)

/-- STAGE_CHECK (R88).  It names no switch time; check 10 takes the earliest, 50 µs from now (log entry 139). -/
def bodyStageCheck (o : Op) (s : State) : BodyOut :=
  if s.stagingDenied o then .done .denied 0 s
  else match s.sessionOf o with
  | none => .done .badHandle 0 s
  | some x =>
    match s.checks x.staged (s.clock.now + 50000) with
    | some f => .done .checkFailed f.result s
    | none => .done .ok 0 s

/-- COMMIT: on a passing check it is accepted with two units and the session closes; the switch comes at the later of
the stated time and 50 µs (R89, R90).  The manual gives STAGING_BUSY while an earlier drain runs; a COMMIT before the switch of an
earlier one gets it too (log entry 139). -/
def bodyCommit (o : Op) (s : State) : BodyOut :=
  if s.stagingDenied o then .done .denied 0 s
  else match s.sessionOf o with
  | none => .done .badHandle 0 s
  | some x =>
    if 2 ≤ o.p 10 1 then .done .badParam 0 s
    else if s.stg.commit.isSome then .done .stagingBusy 0 s
    else
      let at_ := max (o.p 16 8) (s.clock.now + 50000)
      match s.checks x.staged at_ with
      | some f => .done .checkFailed f.result s
      | none => .long 2 0 { s with
          stg.session := none, stg.commit := some ⟨o.tag, o.p 10 1 == 1, at_, false, x.staged⟩ }

/-- The lease of the session runs out (R87). -/
def execStagingLeaseExpiry (s : State) : Host.Outcome State Fault Refusal :=
  match s.stg.session with
  | some x => .next (if x.deadline ≤ s.clock.now then { s with stg.session := none } else s)
  | none => .next s

/-! ### The switch (R86, R89, R90, R264, R268, R271, R364, R398, R403) -/

/-- The configuration digest (R398): SHA-384 over every entry of five items as its staged bytes. -/
def configDigest (l : List Item) : Nat :=
  beNat (sha384 ([0x01, 0x03, 0x04, 0x05, 0x0C].flatMap (fun c =>
    (List.range (itemEntries c)).flatMap (fun i => leBytes (itemSize c) (itemGet l c i)))))

/-- A queue's buckets after a switch: a newly enabled pair starts full, a changed bucket keeps the lower of its old fill
and its new depth (R271).  Fills count thousandths of a byte. -/
def SQueue.retoll (q : SQueue) (old new : Toll) (now : Nat) : SQueue :=
  if !new.enable then { q with red := false }
  else if !old.enable then { q with committed := new.cdepth * 1000, peak := new.pdepth * 1000, filled := now }
  else { q with committed := min q.committed (new.cdepth * 1000), peak := min q.peak (new.pdepth * 1000) }

/-- A port after a switch: its buckets, and a staged gate list pending until its takeover (R268, R269, R271). -/
def SPort.switched (p : SPort) (old new staged : List Item) (now : Nat) : SPort :=
  let qs := ((List.range 16).filter (fun q => (tollOf new p.num q).enable))
  let p := qs.foldl (fun p q => p.withQueue old q now) p
  let p := { p with queues := p.queues.map (fun q => q.retoll (tollOf old p.num q.num) (tollOf new p.num q.num) now) }
  if staged.any (fun y => y.code == 0x08 && y.index / 257 == p.num) then { p with pending := some (gateOf new p.num) } else p

/-- The partner records after a switch: one for each valid entry, kept where the entry's identity stays. -/
def State.switchPartners (s : State) (old new : List Item) : State :=
  let ps := (validPartners new).map (fun i =>
    match s.grp.partners.find? (fun p => p.entry == i && partnerId old i == partnerId new i) with
    | some p => p
    | none =>
      let d := s.grp.devices.find? (fun d => d.identity.toNat == partnerId new i)
      Partner.mk i .up (d.elim 0 (·.session)) (d.any (·.attested)) s.clock.now none false (partnerRoute new i)
        (if d.any (·.attested) then some s.clock.now else none))
  let ignored := (validPartners new).filter (fun i =>
    partnerTray new i && !(trayPartners new s.slot).contains i)
  let left := s.grp.partners.filter (fun p => partnerTray old p.entry && p.state != .down &&
    !ps.any (fun q => q.entry == p.entry && partnerId old p.entry == partnerId new p.entry))
  let fresh := fun l k e => partnerTray l e && !(validPartners k).any (fun i => i == e && partnerId k i == partnerId l e)
  let slots := fun l k => ((trayPartners l s.slot).filter (fresh l k)).map (partnerMember l)
  let s := (slots old new).foldl State.forgetMember (({ s with grp.partners := ps }).bump 0x2C6 left.length)
  let s := (slots new old).foldl State.tellHeld s
  ignored.foldl (fun s i => s.log (.plain .refused 0x0502 0x3013 (some i))) s

/-- Did the commit change the host entry of a function, or a range entry of that host (R403)? -/
def hostTouched (old new : List Item) (h : Nat) : Bool :=
  itemGet old 0x03 h != itemGet new 0x03 h ||
    (validRanges old).any (fun r => r.host = h && itemGet new 0x04 r.index != itemGet old 0x04 r.index) ||
    (validRanges new).any (fun r => r.host = h && itemGet new 0x04 r.index != itemGet old 0x04 r.index)

/-- TDIs of functions whose isolation changed enter ERROR (R403). -/
def State.switchTdis (s : State) (old new : List Item) : State :=
  let hit := fun f : Fn => match hostEntry old f with
    | some h => hostTouched old new h
    | none => (hostEntry new f).isSome
  s.failTdis hit

/-- Host indices when the isolation mode changes between FM_TRUST and TENANT: what the pool holds for a function follows it
to its index in the new mode; a COARSE vector then names every host (R322, R324; log entry 13). -/
def State.switchHosts (s : State) (old new : List Item) : State :=
  if fmTrust old = fmTrust new then s
  else
    let f := fun h : Nat => if fmTrust old then Fn.mk (h / 16) (h % 16) else hostFn old h
    let dest := fun h : Nat => if fmTrust new then some (trustHost (f h)) else hostEntry new (f h)
    { s with
      pool.extents := s.pool.extents.map (fun e : Extent => { e with
        sides := e.sides.filterMap (fun x => (dest x.1).map (fun h => (h, x.2))) })
      pool.dir := s.pool.dir.map (fun e : DirEntry => { e with
        holders := if e.coarse then List.range 16 else e.holders.filterMap dest })
      pool.recalls := s.pool.recalls.map (fun r : Recall => { r with
        waiting := r.waiting.filterMap dest, leaving := r.leaving.filterMap dest })
      pool.heldReqs := s.pool.heldReqs.filterMap (fun r : HeldReq => match r.req with
        | .inbound _ => some r
        | .read _ | .own | .write .. | .commit _ => (dest r.host).map (fun h => { r with host := h }))
      pool.hosts := s.pool.hosts.filterMap (fun x : HostState => (dest x.entry).map (fun h => { x with entry := h })) }

/-- Does the new epoch remove a partner entry that the operation's units address: a SPILL into leases, pages that lie in leases, or a
member of the tray that its namespace is striped over (R90)? -/
def State.losesPartner (s : State) (old new : List Item) (o : Op) : Bool :=
  let gone := fun e => partnerValid old e && !partnerValid new e
  let lease := fun id : Option Nat => s.tiers.leases.any (fun l => l.borrower && some l.id == id && gone l.partner)
  (o.opcode = 0x52 && o.p 28 1 = 2 && s.tiers.leases.any (fun l => l.borrower && l.state == .active && gone l.partner)) ||
  (o.view.elim [] View.blocks).any (fun id => (s.block id).any (fun b => b.pages.any (fun p => lease p.lease))) ||
  (s.ns o.handle).any (fun n => n.width = 8 && (trayPartners old s.slot).any gone)

/-- Does the new epoch withdraw a right that every unit of the operation needs: its expert layout, the direct-write path, its
partition, its link, its host entry or a partner (R90)?  Check 2 of Table 3-15 keeps the dedicated resources of its partition. -/
def State.withdrawn (s : State) (old new : List Item) (o : Op) : Bool :=
  let f := s.opFn o
  let p := s.opPart o
  let lost := fun g : List Item → Bool => g old && !g new
  let byHost := fun (l : List Item) (g : Nat → Bool) => match hostEntry l f with
    | some h => g h
    | none => fmTrust l
  (o.expert && lost (fun l => expertOn l p)) ||
  (o.opcode = 0x91 && o.p 8 1 = 4 && lost (fun l => directWrite l p)) ||
  lost (fun l => partValid l p) ||
  lost (fun l => !partHard l p || bit (partLinks l p) f.link) ||
  lost (fun l => byHost l (fun h => (if o.opcode < 0x20 then hostCtl l h else hostData l h) && bit (hostParts l h) p)) ||
  s.losesPartner old new o

/-- The switch: every die installs the new settings, the epoch increments, and the record shows one unit done and the new epoch
(R89). -/
def State.install (s : State) (c : Commit) : State :=
  let old := s.stg.live
  let new := itemOver old c.staged
  let epoch := s.stg.epoch + 1
  let ports := s.dlv.ports.map (fun p => p.switched old new c.staged s.clock.now)
  let s := { s with
    stg.live := new
    stg.old := old
    stg.epoch := epoch
    stg.digest := configDigest new
    stg.commit := some { c with switched := true }
    dlv.ports := ports }
  let s := (s.lowered old).noteShort.bump 0x02F 1
  let s := ((((s.switchPartners old new).regroup).switchTdis old new).switchHosts old new).routeWaiting
  let s := if fixedRate old = fixedRate new then s
    else if fixedRate new then s.securityChanged.fixedOn else s.securityChanged.fixedOff
  s.updOp c.tag (fun o => { o with unitsDone := 1, result := epoch })

/-- No operation carries the old epoch any longer: COMMIT reaches DONE (R90). -/
def execCommitDrainEnd (s : State) : Host.Outcome State Fault Refusal :=
  match s.stg.commit with
  | some c =>
    if c.switched && !(s.q.ops.any (fun o => o.epoch < s.stg.epoch && o.tag != c.tag)) then
      let s := { s with stg.commit := none, stg.old := [] }
      .next ((s.setOp c.tag (fun o => { o with unitsDone := 2, status := .ok, finished := true })).finalise c.tag)
    else .next s
  | none => .next s

/-- STAGE_OPEN from a CTL pair. -/
def execStageOpen (c : Cmd) (s : State) : Host.Outcome State Fault Refusal := .next (s.submit 0x10 bodyStageOpen c)
/-- STAGE_WRITE from a CTL pair. -/
def execStageWrite (c : Cmd) (s : State) : Host.Outcome State Fault Refusal := .next (s.submit 0x11 bodyStageWrite c)
/-- STAGE_READ from a CTL pair. -/
def execStageRead (c : Cmd) (s : State) : Host.Outcome State Fault Refusal := .next (s.submit 0x12 bodyStageRead c)
/-- STAGE_CHECK from a CTL pair. -/
def execStageCheck (c : Cmd) (s : State) : Host.Outcome State Fault Refusal := .next (s.submit 0x13 bodyStageCheck c)
/-- COMMIT from a CTL pair. -/
def execCommit (c : Cmd) (s : State) : Host.Outcome State Fault Refusal := .next (s.submit 0x14 bodyCommit c)
/-- STAGE_DISCARD from a CTL pair. -/
def execStageDiscard (c : Cmd) (s : State) : Host.Outcome State Fault Refusal := .next (s.submit 0x15 bodyStageDiscard c)

end Sys2Proof.Machine
end

