-- ==== Sys2Proof/Machine/Commands.lean ====
section
/-! DEFINITION. Commands.lean: the start of accepted operations and the units of long ones, by opcode (R70, R78, R80, Table 3-8). -/
namespace Sys2Proof.Machine

/-- What the first unit of an opcode does. -/
def opBody (opcode : Nat) : Option (Op → State → BodyOut) :=
  match opcode with
  | 0x00 => some bodyIdentify
  | 0x01 => some bodyCreateQueuePair
  | 0x02 => some bodyDeleteQueuePair
  | 0x03 => some bodyAbort
  | 0x04 => some bodyHalt
  | 0x05 => some bodyEnterLinkWatch
  | 0x10 => some bodyStageOpen
  | 0x11 => some bodyStageWrite
  | 0x12 => some bodyStageRead
  | 0x13 => some bodyStageCheck
  | 0x14 => some bodyCommit
  | 0x15 => some bodyStageDiscard
  | 0x20 => some bodyCreateNamespace
  | 0x21 => some bodyDeleteNamespace
  | 0x22 => some bodyQueryNamespace
  | 0x23 => some bodySetNamespace
  | 0x30 => some bodyProbe
  | 0x31 => some bodyLookup
  | 0x32 => some bodyIndexTag
  | 0x33 => some bodyIndexEvict
  | 0x34 => some bodyFrRegion
  | 0x35 => some bodyFrWrite
  | 0x36 => some bodyFrSearch
  | 0x37 => some bodyIndexBanks
  | 0x38 => some bodyOpenChain
  | 0x39 => some bodyInsertBlock
  | 0x3A => some bodyAppendCommit
  | 0x3B => some bodySeal
  | 0x3C => some bodyFork
  | 0x3D => some bodyOpenSnapshot
  | 0x3E => some bodyTruncate
  | 0x3F => some bodyPin
  | 0x40 => some bodyRelease
  | 0x41 => some bodyMapTail
  | 0x42 => some bodyChainQuery
  | 0x50 => some bodyFetch
  | 0x51 => some bodyDeliver
  | 0x52 => some bodySpill
  | 0x53 => some bodyPromote
  | 0x54 => some bodyDrop
  | 0x55 => some bodyPlaceHint
  | 0x56 => some bodyPlaceReport
  | 0x57 => some bodyLease
  | 0x58 => some bodyWeightObject
  | 0x59 => some bodyWeightWrite
  | 0x60 => some bodyPrefetchPlan
  | 0x61 => some bodyLayerTick
  | 0x62 => some bodyCancelPlan
  | 0x63 => some bodyPlanQuery
  | 0x70 => some bodyAttend
  | 0x71 => some bodyAttendSparse
  | 0x72 => some bodyAttDesc
  | 0x73 => some bodyAttWindows
  | 0x80 => some bodyNear
  | 0x81 => some bodyNear
  | 0x82 => some bodyNear
  | 0x83 => some bodyNear
  | 0x84 => some bodyPoolSnapshot
  | 0x85 => some bodyPoolLease
  | 0x90 => some bodyConnect
  | 0x91 => some bodyRegion
  | 0x92 => some bodyRma
  | 0x93 => some bodyRma
  | 0x94 => some bodyNotify
  | 0x95 => some bodyWait
  | 0xA0 => some bodyTenantClaim
  | 0xA1 => some bodyTenantActivate
  | 0xA2 => some bodyTenantRelease
  | 0xA3 => some bodyTenantStatus
  | 0xA4 => some bodyAttestReport
  | 0xA5 => some bodyWeightBind
  | 0xA6 => some bodyNetKey
  | 0xB0 => some bodyCntDump
  | _ => none

/-- What a unit of a long operation does; opcodes that are not here have no unit of their own: other rows carry them on. -/
def opUnit (opcode : Nat) : Option (Op → State → UnitOut) :=
  match opcode with
  | 0x02 => some unitDeleteQueuePair
  | 0x21 => some unitDeleteNamespace
  | 0x30 => some unitProbe
  | 0x33 => some unitIndexEvict
  | 0x34 => some unitFrRegion
  | 0x3C => some unitFork
  | 0x50 => some unitFetch
  | 0x51 => some unitDeliver
  | 0x52 => some unitSpill
  | 0x53 => some unitPromote
  | 0x54 => some unitDrop
  | 0x58 => some unitWeightDelete
  | 0x59 => some unitWeightWrite
  | 0x71 => some unitAttendSparse
  | 0x80 => some unitNear
  | 0x81 => some unitNear
  | 0x82 => some unitNear
  | 0x83 => some unitNear
  | 0x84 => some unitPoolSnapshot
  | _ => none

/-- May an operation that has not started start now (R65, R79, R432)? -/
def State.startable (s : State) (o : Op) : Bool :=
  !o.started && !(s.boot.halted && !haltedAccepts o.opcode) && s.awakeFor o.opcode && !s.fenced o

/-! ### REVOKE (R89, R90) -/

/-- Why the next unit of an operation would fail now, under the settings of the epoch it carries. -/
def State.nextFails (s : State) (o : Op) : Option Status :=
  if o.long then match ((opUnit o.opcode).map (fun u => u o (s.actFor o)) : Option UnitOut) with
    | some (.last st _ _ _) | some (.cut st _ _ _) => if st = .ok then none else some st
    | some (.more ..) | some (.stay _) | none => none
  else if o.started then none
  else match ((opBody o.opcode).map (fun b => b o (s.actFor o)) : Option BodyOut) with
    | some (.done st _ _) => if st = .ok then none else some st
    | some (.long ..) | some (.wait ..) | none => none

/-- Does the new epoch withdraw a permission that the operation's next unit needs: a right of the whole operation, or one without
which the unit, accepted afresh, would fail (R90)? -/
def State.revoked (s : State) (o : Op) : Bool :=
  s.revokes o && !o.finished && !o.shortStarted && (s.withdrawn s.stg.old s.stg.live o ||
    ((s.nextFails o).isNone && ({ s with stg.old := s.permItems }.nextFails o).isSome))

/-- An operation whose permission is gone stops at this unit boundary with STALE_EPOCH. -/
def State.revokeOne (s : State) (tag : Nat) : State :=
  match s.op tag with
  | some o => if s.revoked o then s.stopAny tag .staleEpoch else s
  | none => s

/-- The switch; under REVOKE the operations whose permission is gone stop. -/
def State.switch (s : State) (c : Commit) : State :=
  let s := s.install c
  (s.q.ops.map (·.tag)).foldl State.revokeOne s

/-- The switch time has come (R89). -/
def execCommitSwitch (s : State) : Host.Outcome State Fault Refusal :=
  match s.stg.commit with
  | some c => .next (if !c.switched && c.switchAt ≤ s.clock.now then s.switch c else s)
  | none => .next s

/-- OPERATION_START: the operation starts when its fence and its buffers let it, or goes on after a wait; an ATTEND whose partials
are due waits for its merge.  Table 3-8 gives a vendor-diagnostic operation no effect: it is refused by name. -/
def execOperationStart (tag : Nat) (s : State) : Host.Outcome State Fault Refusal :=
  match s.op tag with
  | none => .next s
  | some o =>
    if s.revoked o then .next (s.revokeOne tag)
    else if o.wait = .merge then .next s
    else match opBody o.opcode with
    | some b =>
      let s := s.start b tag
      .next (if o.opcode = 0x36 then s.cascadeRun s.idx.cascade.waiting.length else s)
    | none => if s.startable o then .refused (.vendorDiagnostics o.opcode) else .next s

/-- LONG_OP_UNIT_END: a unit of a long operation ends, and its record says so (R75, R78). -/
def execLongOpUnitEnd (tag : Nat) (s : State) : Host.Outcome State Fault Refusal :=
  match s.op tag with
  | none => .next s
  | some o =>
    match opUnit o.opcode with
    | some u => .next (if s.revoked o then s.revokeOne tag else s.unit u tag)
    | none => .next s

end Sys2Proof.Machine
end

