-- ==== Sys2Proof/Machine/Dispatch.lean ====
section
/-! DEFINITION. Dispatch.lean: which meaning each command and event has. -/
namespace Sys2Proof.Machine

/-- The effect of a command or an event on everything but the queue of waiting commands. -/
def exec (i : Instr) (s : State) : Host.Outcome State Fault Refusal :=
  match i with
  | .coldStart slot => Sys2Proof.Machine.execColdStart slot s
  | .porNAssert => Sys2Proof.Machine.execPorNAssert s
  | .perstNDeassert port => Sys2Proof.Machine.execPerstNDeassert port s
  | .firmwareVerified => Sys2Proof.Machine.execFirmwareVerified s
  | .fabricLinksTrained => Sys2Proof.Machine.execFabricLinksTrained s
  | .readyLink => Sys2Proof.Machine.execReadyLink s
  | .ddr5CalibrationComplete dimms => Sys2Proof.Machine.execDdr5CalibrationComplete dimms s
  | .hbmTrainingComplete failingLanes => Sys2Proof.Machine.execHbmTrainingComplete failingLanes s
  | .readyDeck => Sys2Proof.Machine.execReadyDeck s
  | .nandCalibrationComplete channels => Sys2Proof.Machine.execNandCalibrationComplete channels s
  | .causewayScanComplete bad => Sys2Proof.Machine.execCausewayScanComplete bad s
  | .footingMountComplete => Sys2Proof.Machine.execFootingMountComplete s
  | .haltNAssert => Sys2Proof.Machine.execHaltNAssert s
  | .haltNDeassert => Sys2Proof.Machine.execHaltNDeassert s
  | .entropyHealthFail test => Sys2Proof.Machine.execEntropyHealthFail test s
  | .entropyRestartDone => Sys2Proof.Machine.execEntropyRestartDone s
  | .entropyWaitTimeout request => Sys2Proof.Machine.execEntropyWaitTimeout request s
  | .enterLinkWatch c => Sys2Proof.Machine.execEnterLinkWatch c s
  | .linkWatchWake source => Sys2Proof.Machine.execLinkWatchWake source s
  | .devWakeAtReached => Sys2Proof.Machine.execDevWakeAtReached s
  | .linkWatchServiceRestored => Sys2Proof.Machine.execLinkWatchServiceRestored s
  | .ethernetLinksTrained ports => Sys2Proof.Machine.execEthernetLinksTrained ports s
  | .warmReset => Sys2Proof.Machine.execWarmReset s
  | .devResetWarm r value => Sys2Proof.Machine.execDevResetWarm r value s
  | .registerWrite r reg width value => Sys2Proof.Machine.execRegisterWrite r reg width value s
  | .adminQueueEnable r value => Sys2Proof.Machine.execAdminQueueEnable r value s
  | .adminQueueDisable r => Sys2Proof.Machine.execAdminQueueDisable r s
  | .sqTailDoorbell r qp value => Sys2Proof.Machine.execSqTailDoorbell r qp value s
  | .cqHeadDoorbell r qp value => Sys2Proof.Machine.execCqHeadDoorbell r qp value s
  | .commandFetch span => Sys2Proof.Machine.execCommandFetch span s
  | .operationStart tag => Sys2Proof.Machine.execOperationStart tag s
  | .bufferGrant pool => Sys2Proof.Machine.execBufferGrant pool s
  | .longOpUnitEnd tag => Sys2Proof.Machine.execLongOpUnitEnd tag s
  | .longOpFinal tag => Sys2Proof.Machine.execLongOpFinal tag s
  | .identify c => Sys2Proof.Machine.execIdentify c s
  | .createQueuePair c => Sys2Proof.Machine.execCreateQueuePair c s
  | .deleteQueuePair c => Sys2Proof.Machine.execDeleteQueuePair c s
  | .abort c => Sys2Proof.Machine.execAbort c s
  | .halt c => Sys2Proof.Machine.execHalt c s
  | .stageOpen c => Sys2Proof.Machine.execStageOpen c s
  | .stageWrite c => Sys2Proof.Machine.execStageWrite c s
  | .stageRead c => Sys2Proof.Machine.execStageRead c s
  | .stageCheck c => Sys2Proof.Machine.execStageCheck c s
  | .commit c => Sys2Proof.Machine.execCommit c s
  | .stageDiscard c => Sys2Proof.Machine.execStageDiscard c s
  | .stagingLeaseExpiry => Sys2Proof.Machine.execStagingLeaseExpiry s
  | .commitSwitch => Sys2Proof.Machine.execCommitSwitch s
  | .commitDrainEnd => Sys2Proof.Machine.execCommitDrainEnd s
  | .createNamespace c => Sys2Proof.Machine.execCreateNamespace c s
  | .deleteNamespace c => Sys2Proof.Machine.execDeleteNamespace c s
  | .queryNamespace c => Sys2Proof.Machine.execQueryNamespace c s
  | .setNamespace c => Sys2Proof.Machine.execSetNamespace c s
  | .tailWindowStore src addr bytes => Sys2Proof.Machine.execTailWindowStore src addr bytes s
  | .controlPageNStore src addr value => Sys2Proof.Machine.execControlPageNStore src addr value s
  | .tailRebindEnd chain slot => Sys2Proof.Machine.execTailRebindEnd chain slot s
  | .probe c => Sys2Proof.Machine.execProbe c s
  | .openChain c => Sys2Proof.Machine.execOpenChain c s
  | .insertBlock c => Sys2Proof.Machine.execInsertBlock c s
  | .appendCommit c => Sys2Proof.Machine.execAppendCommit c s
  | .seal c => Sys2Proof.Machine.execSeal c s
  | .fork c => Sys2Proof.Machine.execFork c s
  | .openSnapshot c => Sys2Proof.Machine.execOpenSnapshot c s
  | .truncate c => Sys2Proof.Machine.execTruncate c s
  | .pin c => Sys2Proof.Machine.execPin c s
  | .release c => Sys2Proof.Machine.execRelease c s
  | .mapTail c => Sys2Proof.Machine.execMapTail c s
  | .chainQuery c => Sys2Proof.Machine.execChainQuery c s
  | .snapshotExpiry slot => Sys2Proof.Machine.execSnapshotExpiry slot s
  | .pinExpiry slot => Sys2Proof.Machine.execPinExpiry slot s
  | .codebookLoad r value => Sys2Proof.Machine.execCodebookLoad r value s
  | .codebookUnload r value => Sys2Proof.Machine.execCodebookUnload r value s
  | .codebookLoadEnd => Sys2Proof.Machine.execCodebookLoadEnd s
  | .lookup c => Sys2Proof.Machine.execLookup c s
  | .indexTag c => Sys2Proof.Machine.execIndexTag c s
  | .indexEvict c => Sys2Proof.Machine.execIndexEvict c s
  | .frRegion c => Sys2Proof.Machine.execFrRegion c s
  | .frWrite c => Sys2Proof.Machine.execFrWrite c s
  | .frSearch c => Sys2Proof.Machine.execFrSearch c s
  | .indexBanks c => Sys2Proof.Machine.execIndexBanks c s
  | .forcedWrite port => Sys2Proof.Machine.execForcedWrite port s
  | .cascadeFrameReceived hit seqBit guard => Sys2Proof.Machine.execCascadeFrameReceived hit seqBit guard s
  | .cascadeTimeout => Sys2Proof.Machine.execCascadeTimeout s
  | .cascadeResync r value => Sys2Proof.Machine.execCascadeResync r value s
  | .trestleTempSample die temperature => Sys2Proof.Machine.execTrestleTempSample die temperature s
  | .indexParityScan bank bad => Sys2Proof.Machine.execIndexParityScan bank bad s
  | .blockRecordFree record => Sys2Proof.Machine.execBlockRecordFree record s
  | .placementDemoteWatermark tier => Sys2Proof.Machine.execPlacementDemoteWatermark tier s
  | .placementDemoteHorizon tier => Sys2Proof.Machine.execPlacementDemoteHorizon tier s
  | .placementEvict tier => Sys2Proof.Machine.execPlacementEvict tier s
  | .placementPromote why picks => Sys2Proof.Machine.execPlacementPromote why picks s
  | .moveUnit task => Sys2Proof.Machine.execMoveUnit task s
  | .oldCopyRelease copy => Sys2Proof.Machine.execOldCopyRelease copy s
  | .histogramHalve => Sys2Proof.Machine.execHistogramHalve s
  | .fetch c => Sys2Proof.Machine.execFetch c s
  | .deliver c => Sys2Proof.Machine.execDeliver c s
  | .spill c => Sys2Proof.Machine.execSpill c s
  | .promote c => Sys2Proof.Machine.execPromote c s
  | .drop c => Sys2Proof.Machine.execDrop c s
  | .placeHint c => Sys2Proof.Machine.execPlaceHint c s
  | .hintExpiry hint => Sys2Proof.Machine.execHintExpiry hint s
  | .placeReport c => Sys2Proof.Machine.execPlaceReport c s
  | .lease c => Sys2Proof.Machine.execLease c s
  | .leaseAutoRequest partner => Sys2Proof.Machine.execLeaseAutoRequest partner s
  | .leaseRequestReceived partner id capacity rateCap notice term => Sys2Proof.Machine.execLeaseRequestReceived partner id capacity rateCap notice term s
  | .leaseAnswerReceived id granted => Sys2Proof.Machine.execLeaseAnswerReceived id granted s
  | .leaseRequestTimeout id => Sys2Proof.Machine.execLeaseRequestTimeout id s
  | .leaseReclaimReceived id => Sys2Proof.Machine.execLeaseReclaimReceived id s
  | .leaseTermEnd id => Sys2Proof.Machine.execLeaseTermEnd id s
  | .leaseNoticeExpiry id => Sys2Proof.Machine.execLeaseNoticeExpiry id s
  | .leaseHeartbeatTimeout id => Sys2Proof.Machine.execLeaseHeartbeatTimeout id s
  | .leaseEmpty id => Sys2Proof.Machine.execLeaseEmpty id s
  | .leaseLostBookkeeping id => Sys2Proof.Machine.execLeaseLostBookkeeping id s
  | .weightObject c => Sys2Proof.Machine.execWeightObject c s
  | .weightWrite c => Sys2Proof.Machine.execWeightWrite c s
  | .ftlBackgroundOp port work => Sys2Proof.Machine.execFtlBackgroundOp port work s
  | .nandOpComplete channel ended => Sys2Proof.Machine.execNandOpComplete channel ended s
  | .relocationAgeTrigger block => Sys2Proof.Machine.execRelocationAgeTrigger block s
  | .metadataJournalCompact => Sys2Proof.Machine.execMetadataJournalCompact s
  | .sanitise => Sys2Proof.Machine.execSanitise s
  | .sanitiseEnd => Sys2Proof.Machine.execSanitiseEnd s
  | .prefetchPlan c => Sys2Proof.Machine.execPrefetchPlan c s
  | .layerTick c => Sys2Proof.Machine.execLayerTick c s
  | .tickDoorbell r slot width value => Sys2Proof.Machine.execTickDoorbell r slot width value s
  | .sequenceLanded plan => Sys2Proof.Machine.execSequenceLanded plan s
  | .deadlineMiss plan seq => Sys2Proof.Machine.execDeadlineMiss plan seq s
  | .planStallTimeout plan => Sys2Proof.Machine.execPlanStallTimeout plan s
  | .planIdleLimit plan => Sys2Proof.Machine.execPlanIdleLimit plan s
  | .cancelPlan c => Sys2Proof.Machine.execCancelPlan c s
  | .planQuery c => Sys2Proof.Machine.execPlanQuery c s
  | .schedUnitStart port => Sys2Proof.Machine.execSchedUnitStart port s
  | .gateTakeover port => Sys2Proof.Machine.execGateTakeover port s
  | .gateEntryChange port => Sys2Proof.Machine.execGateEntryChange port s
  | .tollRecolour port queue => Sys2Proof.Machine.execTollRecolour port queue s
  | .attend c => Sys2Proof.Machine.execAttend c s
  | .attendResume tag => Sys2Proof.Machine.execAttendResume tag s
  | .attendPartialMerge tag => Sys2Proof.Machine.execAttendPartialMerge tag s
  | .attendSparse c => Sys2Proof.Machine.execAttendSparse c s
  | .attDesc c => Sys2Proof.Machine.execAttDesc c s
  | .attWindows c => Sys2Proof.Machine.execAttWindows c s
  | .queryWindowStore r offset bytes => Sys2Proof.Machine.execQueryWindowStore r offset bytes s
  | .dcAdd hosts region base length tag partition shared => Sys2Proof.Machine.execDcAdd hosts region base length tag partition shared s
  | .extentZeroEnd extent => Sys2Proof.Machine.execExtentZeroEnd extent s
  | .addDcResponse host extent accept => Sys2Proof.Machine.execAddDcResponse host extent accept s
  | .releaseDynamicCapacity host extent => Sys2Proof.Machine.execReleaseDynamicCapacity host extent s
  | .dcRelease host extent forced => Sys2Proof.Machine.execDcRelease host extent forced s
  | .getDcdInfo link => Sys2Proof.Machine.execGetDcdInfo link s
  | .getHostDcRegionConfig link ld => Sys2Proof.Machine.execGetHostDcRegionConfig link ld s
  | .setDcRegionConfig link ld region blockSize => Sys2Proof.Machine.execSetDcRegionConfig link ld region blockSize s
  | .getDcRegionExtentLists link ld => Sys2Proof.Machine.execGetDcRegionExtentLists link ld s
  | .cxlMemRead src addr kind => Sys2Proof.Machine.execCxlMemRead src addr kind s
  | .cxlMemWrite src addr kind bytes poison => Sys2Proof.Machine.execCxlMemWrite src addr kind bytes poison s
  | .backInvalidateResponse host addr dirty => Sys2Proof.Machine.execBackInvalidateResponse host addr dirty s
  | .recallTimeout host addr => Sys2Proof.Machine.execRecallTimeout host addr s
  | .poolLease c => Sys2Proof.Machine.execPoolLease c s
  | .heartbeatRenew r => Sys2Proof.Machine.execHeartbeatRenew r s
  | .heartbeatRejoin r => Sys2Proof.Machine.execHeartbeatRejoin r s
  | .hostLeaseExpiry host => Sys2Proof.Machine.execHostLeaseExpiry host s
  | .hostUnbind host => Sys2Proof.Machine.execHostUnbind host s
  | .poolSnapshot c => Sys2Proof.Machine.execPoolSnapshot c s
  | .poolSnapshotExpiry slot => Sys2Proof.Machine.execPoolSnapshotExpiry slot s
  | .fill c => Sys2Proof.Machine.execFill c s
  | .copy c => Sys2Proof.Machine.execCopy c s
  | .compare c => Sys2Proof.Machine.execCompare c s
  | .reduce c => Sys2Proof.Machine.execReduce c s
  | .mirrorPartnerAck addr => Sys2Proof.Machine.execMirrorPartnerAck addr s
  | .remirrorStart extent => Sys2Proof.Machine.execRemirrorStart extent s
  | .patrolScrub line found => Sys2Proof.Machine.execPatrolScrub line found s
  | .linkUp l flit68 => Sys2Proof.Machine.execLinkUp l flit68 s
  | .linkDown l => Sys2Proof.Machine.execLinkDown l s
  | .rmaConnect c => Sys2Proof.Machine.execRmaConnect c s
  | .rmaRegion c => Sys2Proof.Machine.execRmaRegion c s
  | .rmaWrite c => Sys2Proof.Machine.execRmaWrite c s
  | .rmaRead c => Sys2Proof.Machine.execRmaRead c s
  | .rmaNotify c => Sys2Proof.Machine.execRmaNotify c s
  | .rmaWait c => Sys2Proof.Machine.execRmaWait c s
  | .rmaWaitTimeout tag => Sys2Proof.Machine.execRmaWaitTimeout tag s
  | .inboundRdmaWrite m bytes => Sys2Proof.Machine.execInboundRdmaWrite m bytes s
  | .inboundRdmaWriteImm m bytes immediate => Sys2Proof.Machine.execInboundRdmaWriteImm m bytes immediate s
  | .inboundRdmaRead m length => Sys2Proof.Machine.execInboundRdmaRead m length s
  | .inboundAck qpn psn => Sys2Proof.Machine.execInboundAck qpn psn s
  | .inboundNak qpn nak => Sys2Proof.Machine.execInboundNak qpn nak s
  | .inboundReadResponse qpn psn bytes => Sys2Proof.Machine.execInboundReadResponse qpn psn bytes s
  | .inboundCnp qpn => Sys2Proof.Machine.execInboundCnp qpn s
  | .ackTimeout qpn => Sys2Proof.Machine.execAckTimeout qpn s
  | .rnrTimerExpiry qpn => Sys2Proof.Machine.execRnrTimerExpiry qpn s
  | .nqHeadDoorbell r nq value => Sys2Proof.Machine.execNqHeadDoorbell r nq value s
  | .partnerGreeting => Sys2Proof.Machine.execPartnerGreeting s
  | .partnerGreetingReceived identity slot tray claimed route => Sys2Proof.Machine.execPartnerGreetingReceived identity slot tray claimed route s
  | .partnerAttestation partner sigOk nonceOk identity tenant session => Sys2Proof.Machine.execPartnerAttestation partner sigOk nonceOk identity tenant session s
  | .partnerHeartbeatSend => Sys2Proof.Machine.execPartnerHeartbeatSend s
  | .partnerHeartbeatReceived partner session linkWatch route sessionEnd => Sys2Proof.Machine.execPartnerHeartbeatReceived partner session linkWatch route sessionEnd s
  | .partnerSuspectTimeout partner => Sys2Proof.Machine.execPartnerSuspectTimeout partner s
  | .partnerDownTimeout partner => Sys2Proof.Machine.execPartnerDownTimeout partner s
  | .trayAlertFall => Sys2Proof.Machine.execTrayAlertFall s
  | .alertAnswerTimeout partner => Sys2Proof.Machine.execAlertAnswerTimeout partner s
  | .partnerKeyLimit partner => Sys2Proof.Machine.execPartnerKeyLimit partner s
  | .voteReceived slot b dup full => Sys2Proof.Machine.execVoteReceived slot b dup full s
  | .groupCommitReceived b unindexed => Sys2Proof.Machine.execGroupCommitReceived b unindexed s
  | .voteTimeout b => Sys2Proof.Machine.execVoteTimeout b s
  | .voteAnswerTimeout b => Sys2Proof.Machine.execVoteAnswerTimeout b s
  | .groupAbortReceived b => Sys2Proof.Machine.execGroupAbortReceived b s
  | .evictionProposalReceived slot b => Sys2Proof.Machine.execEvictionProposalReceived slot b s
  | .evictionQueryReceived b => Sys2Proof.Machine.execEvictionQueryReceived b s
  | .evictionAnswerReceived slot b free => Sys2Proof.Machine.execEvictionAnswerReceived slot b free s
  | .evictionProposalLapse b => Sys2Proof.Machine.execEvictionProposalLapse b s
  | .groupEvictionOrder b => Sys2Proof.Machine.execGroupEvictionOrder b s
  | .dropReportReceived b => Sys2Proof.Machine.execDropReportReceived b s
  | .groupDropOrder b => Sys2Proof.Machine.execGroupDropOrder b s
  | .unindexReportReceived b => Sys2Proof.Machine.execUnindexReportReceived b s
  | .groupUnindexOrder b => Sys2Proof.Machine.execGroupUnindexOrder b s
  | .reconcileListReceived slot salt lines => Sys2Proof.Machine.execReconcileListReceived slot salt lines s
  | .tenantClaim c => Sys2Proof.Machine.execTenantClaim c s
  | .claimResume => Sys2Proof.Machine.execClaimResume s
  | .tenantActivate c => Sys2Proof.Machine.execTenantActivate c s
  | .tenantRelease c => Sys2Proof.Machine.execTenantRelease c s
  | .releaseWalkEnd => Sys2Proof.Machine.execReleaseWalkEnd s
  | .releaseResetTimer => Sys2Proof.Machine.execReleaseResetTimer s
  | .tenantStatus c => Sys2Proof.Machine.execTenantStatus c s
  | .attestReport c => Sys2Proof.Machine.execAttestReport c s
  | .weightBind c => Sys2Proof.Machine.execWeightBind c s
  | .netKey c => Sys2Proof.Machine.execNetKey c s
  | .mkaSecured port => Sys2Proof.Machine.execMkaSecured port s
  | .spdmRequest f request => Sys2Proof.Machine.execSpdmRequest f request s
  | .spdmKeyExchange f hbeat => Sys2Proof.Machine.execSpdmKeyExchange f hbeat s
  | .spdmSessionLimit session => Sys2Proof.Machine.execSpdmSessionLimit session s
  | .ideKmQuery link session => Sys2Proof.Machine.execIdeKmQuery link session s
  | .ideKmKeyProg link session stream keySet => Sys2Proof.Machine.execIdeKmKeyProg link session stream keySet s
  | .ideKmKSetGo link session stream keySet => Sys2Proof.Machine.execIdeKmKSetGo link session stream keySet s
  | .ideKmKSetStop link session stream keySet => Sys2Proof.Machine.execIdeKmKSetStop link session stream keySet s
  | .ideKeyLimit link stream => Sys2Proof.Machine.execIdeKeyLimit link stream s
  | .lockInterfaceRequest f => Sys2Proof.Machine.execLockInterfaceRequest f s
  | .stopInterfaceRequest f => Sys2Proof.Machine.execStopInterfaceRequest f s
  | .jtagInstruction bypassOrIdcode => Sys2Proof.Machine.execJtagInstruction bypassOrIdcode s
  | .fabricLinkAckTimeout link => Sys2Proof.Machine.execFabricLinkAckTimeout link s
  | .hbmStackTimeout stack => Sys2Proof.Machine.execHbmStackTimeout stack s
  | .ddrChannelTimeout channel => Sys2Proof.Machine.execDdrChannelTimeout channel s
  | .bankPortTimeout bank => Sys2Proof.Machine.execBankPortTimeout bank s
  | .fatalFault cause => Sys2Proof.Machine.execFatalFault cause s
  | .haltComplete => Sys2Proof.Machine.execHaltComplete s
  | .rasHeadWrite r value => Sys2Proof.Machine.execRasHeadWrite r value s
  | .rasResume r value => Sys2Proof.Machine.execRasResume r value s
  | .rasClearLost r => Sys2Proof.Machine.execRasClearLost r s
  | .monitorClear r monitor => Sys2Proof.Machine.execMonitorClear r monitor s
  | .cntDump c => Sys2Proof.Machine.execCntDump c s
  | .snapshotInstant => Sys2Proof.Machine.execSnapshotInstant s
  | .dumpSlotWritten => Sys2Proof.Machine.execDumpSlotWritten s
  | .irqSharedAck r value => Sys2Proof.Machine.execIrqSharedAck r value s
  | .irqModerationTimer f vector => Sys2Proof.Machine.execIrqModerationTimer f vector s
  | .irqHoldClear r => Sys2Proof.Machine.execIrqHoldClear r s
  | .mgmtHalt => Sys2Proof.Machine.execMgmtHalt s
  | .mgmtRelease => Sys2Proof.Machine.execMgmtRelease s
  | .mgmtWarmReset => Sys2Proof.Machine.execMgmtWarmReset s
  | .mgmtEnterLinkWatch port => Sys2Proof.Machine.execMgmtEnterLinkWatch port s
  | .mgmtRead what => Sys2Proof.Machine.execMgmtRead what s
  | .mgmtSetPowerCeiling watts boost => Sys2Proof.Machine.execMgmtSetPowerCeiling watts boost s
  | .mgmtSetClaimPolicy roots => Sys2Proof.Machine.execMgmtSetClaimPolicy roots s
  | .mgmtSetFootingMode zoned writeShare => Sys2Proof.Machine.execMgmtSetFootingMode zoned writeShare s
  | .mgmtFirmwareWrite slot image => Sys2Proof.Machine.execMgmtFirmwareWrite slot image s
  | .mgmtFirmwareActivate slot => Sys2Proof.Machine.execMgmtFirmwareActivate slot s
  | .mgmtAdvanceRollback => Sys2Proof.Machine.execMgmtAdvanceRollback s
  | .mgmtSetPtp profile domain ppsOut => Sys2Proof.Machine.execMgmtSetPtp profile domain ppsOut s
  | .enrol anchor => Sys2Proof.Machine.execEnrol anchor s
  | .mgmtTrustAnchorChange anchor add => Sys2Proof.Machine.execMgmtTrustAnchorChange anchor add s
  | .coolantFlowReport millilitresPerMinute => Sys2Proof.Machine.execCoolantFlowReport millilitresPerMinute s
  | .powerSample milliwatts => Sys2Proof.Machine.execPowerSample milliwatts s
  | .thermalSample logicMax hbmMax locus => Sys2Proof.Machine.execThermalSample logicMax hbmMax locus s
  | .discoveryUpdate kind link route seen => Sys2Proof.Machine.execDiscoveryUpdate kind link route seen s
  | .fmKeepaliveTimeout link => Sys2Proof.Machine.execFmKeepaliveTimeout link s
  | .ppsInEdge => Sys2Proof.Machine.execPpsInEdge s
  | .supplyFault rail => Sys2Proof.Machine.execSupplyFault rail s
  | .fixedRatePeriodBoundary => Sys2Proof.Machine.execFixedRatePeriodBoundary s
  | .startInterfaceRequest f => Sys2Proof.Machine.execStartInterfaceRequest f s
  | .functionLevelReset f => Sys2Proof.Machine.execFunctionLevelReset f s
  | .configurationSpaceWrite f bars command => Sys2Proof.Machine.execConfigurationSpaceWrite f bars command s
  | .fabricLaneDown link => Sys2Proof.Machine.execFabricLaneDown link s
  | .attentionSliceWatchdog pier slice => Sys2Proof.Machine.execAttentionSliceWatchdog pier slice s
  | .controlCoreWatchdog span core => Sys2Proof.Machine.execControlCoreWatchdog span core s
  | .hbmDataLaneFault stack channel => Sys2Proof.Machine.execHbmDataLaneFault stack channel s
  | .memberNamespaceReport slot salt holds params => Sys2Proof.Machine.execMemberNamespaceReport slot salt holds params s
  | .spdmHeartbeatTimeout session => Sys2Proof.Machine.execSpdmHeartbeatTimeout session s
  | .ptpMessageReceived role time offset => Sys2Proof.Machine.execPtpMessageReceived role time offset s
  | .perstNAssert port => Sys2Proof.Machine.execPerstNAssert port s
  | .hostCapWindow host => Sys2Proof.Machine.execHostCapWindow host s
  | .consecFailClear => Sys2Proof.Machine.execConsecFailClear s
  | .wakePartBack part => Sys2Proof.Machine.execWakePartBack part s

end Sys2Proof.Machine
end

