-- ==== Sys2Proof/Safety.lean ====
section
/-! DEFINITION. Safety.lean: what a safe run is: no step faults, and no step is refused for want of a meaning; and the terms that the
statements use of a command: its buffers moved, and the chain or version that it names. -/
namespace Sys2Proof

/-- The outcome is a next state. -/
def completes (o : Host.Outcome Machine.State Machine.Fault Machine.Refusal) : Bool :=
  match o with
  | .next _ => true
  | .fault _ => false
  | .refused _ => false

/-- A state from which the next step completes. -/
def Safe (s : Machine.State) : Prop := completes (Machine.step s) = true

/-- A command's output buffer written over its own link; none when the transfer does not take place. -/
def Machine.State.wrote (s : Machine.State) (o : Machine.Op) (a : Nat) (b : List Byte) : Option Machine.State :=
  match s.hostWrite (s.opFn o) (s.opFn o).link a b with
  | .ok t => some (t.wroteFor o (t.opFn o).link b.length)
  | .error _ => none

/-- The bytes of a command's input buffer; none when the transfer does not take place. -/
def Machine.State.got (s : Machine.State) (o : Machine.Op) (a n : Nat) : Option (List Byte) :=
  match s.hostRead (s.opFn o) (s.opFn o).link a n with
  | .ok b => some b
  | .error _ => none

/-- The command names this live chain of this namespace, and no fault or long FORK stands before it. -/
abbrev Machine.State.onChainOf (s : Machine.State) (o : Machine.Op) (n : Machine.Namespace) (c : Machine.Chain) : Prop :=
  s.nsAny o.handle = some n ∧ s.chainOf n (o.p 8 4) = some c ∧ c.lost = none ∧ s.filling c = false

/-- The command names this version of a chain or snapshot of this namespace, and no fault or long FORK stands before it. -/
abbrev Machine.State.onVersion (s : Machine.State) (o : Machine.Op) (n : Machine.Namespace) (v : Machine.View) : Prop :=
  s.nsAny o.handle = some n ∧
    (o.p 12 1 ≠ 0 ∨ (s.chainOf n (o.p 8 4)).all (fun c => c.lost.isNone && !s.filling c) = true) ∧
    (o.view = some v ∨ (o.view = none ∧ s.named n (o.p 8 4) (o.p 12 1) = .view v))

/-- Nothing holds a CXL.mem request of host `h` at `a`: no request waits before it, the host is alive and its extent active, no recall
of the granule runs, the host's cap is not used up, no other host holds the granule, and what it needs is awake. -/
abbrev Machine.State.clearWay (s : Machine.State) (link h a : Nat) (write : Bool) : Prop :=
  s.pool.heldReqs = [] ∧ s.hostDead h = false ∧ (s.activeAt h a).isSome ∧ s.recalling (Machine.lineGroup a * 256) 256 = false ∧
    s.capped h write = false ∧
    (∀ e, s.dirEntry (Machine.lineGroup a) = some e → (s.holdersOf e).filter (fun x => x != h) = []) ∧ s.poolAwake link a = true

end Sys2Proof
end

