-- ==== Sys2Proof/Certificates/Slice0/Obligations.lean ====
section
/-! DEFINITION. Obligations.lean: the statements for the provers.  A command row's statement starts where `State.begins` says that the
command is accepted and its first unit runs, with the operation `o` and the state `t` of that moment, and ends in the state that the
command's own effect gives, settled by its completion (`finish`), by IN_PROGRESS or by a wait (`settle`). -/
open Sys2Proof Sys2Proof.Machine

/-- Host/Core.lean, Step.lean, log entry 18: a step runs the command at the front of the queue on the state with the queue's rest,
and lets device time pass when no command waits. -/
def Obligations.StepRunsFrontCommand : Prop :=
  (∀ (c : Instr) (rest : List Instr) (s : State), step { s with pending := c :: rest } = exec c { s with pending := rest }) ∧
  (∀ (s : State), step { s with pending := [] } = .next (tick { s with pending := [] }))

/-- R27, R46, R86, R89, R145, R382, R424, R441, R460: the values that the manual gives for reset. Log entries 9, 10 and 11 mark
the choices of the model in it. -/
def Obligations.ResetState : Prop :=
  State.reset.sec.life = .unclaimed ∧ State.reset.sec.keysPresent = false ∧ State.reset.sec.session = 0 ∧
    State.reset.boot.link = false ∧ State.reset.boot.deck = false ∧ State.reset.boot.full = false ∧
    State.reset.boot.halted = false ∧ State.reset.stg.epoch = 1 ∧ State.reset.stg.session = none ∧ State.reset.stg.live = [] ∧
    State.reset.q.pairs = [] ∧ State.reset.q.ops = [] ∧ State.reset.idx.banks = [] ∧ State.reset.idx.entries = [] ∧
    State.reset.idx.cascade.enable = false ∧ State.reset.store.namespaces = [] ∧ State.reset.pool.extents = [] ∧
    State.reset.ras.ring = [] ∧ State.reset.ras.fatal = [] ∧ State.reset.tel.counters = [] ∧ State.reset.tel.shared = 0 ∧
    State.reset.mgmt.ceiling = 1000 ∧ State.reset.pending = []

/-- The pool's memory is in canonical form right after reset: it lists nothing, and an unlisted byte reads 0 (R44). Log entry 9
marks the choice of the model in it. -/
def Obligations.ResetMemoryCanonical : Prop :=
  State.reset.pool.mem.wf = true ∧ ∀ a, State.reset.pool.mem.byte a = 0#8

/-- Every step, from every state whose pool memory is in canonical form, leaves it in canonical form: addresses strictly rising
and no listed byte 0, so that equal pool memories are equal data (R44, R310). -/
def Obligations.StepKeepsPoolMemory : Prop :=
  ∀ (s t : State), s.pool.mem.wf = true → step s = .next t → t.pool.mem.wf = true

/-- R44, R310: byte memory: a byte written reads back, every other byte is as before, a write of bytes writes just those bytes,
every write keeps the canonical form, and memories that read the same everywhere are the same data. -/
def Obligations.MemoryLaws : Prop :=
  (∀ (m : Mem) (a x : Nat) (b : Byte), m.wf = true → (m.set a b).wf = true ∧ (m.set a b).byte a = b ∧
    (x ≠ a → (m.set a b).byte x = m.byte x)) ∧
  (∀ (m : Mem) (a x : Nat) (l : List Byte), m.wf = true → (m.write a l).wf = true ∧
    ((m.write a l).byte x = if a ≤ x ∧ x < a + l.length then l.getD (x - a) 0#8 else m.byte x)) ∧
  (∀ (m k : Mem), m.wf = true → k.wf = true → (∀ a, m.byte a = k.byte a) → m = k)

/-- R267: among heads in the order of their queues, the port starts a queue-0 head first; otherwise the eligible head with the
lowest finish tag, the lower queue on a tie; a deferred one only when no other is eligible; and none only when every head is
held. -/
def Obligations.SchedulerPick : Prop :=
  (∀ (l : List Head), pickHead l = none ↔ ∀ x ∈ l, x.colour = .red) ∧
  (∀ (l : List Head) (h : Head), pickHead l = some h → h ∈ l ∧ h.colour ≠ .red ∧
    (h.deferred = true → ∀ x ∈ l, x.colour ≠ .red → x.deferred = true)) ∧
  (∀ (l : List Head) (h : Head), l.Pairwise (fun a b => a.queue.num < b.queue.num) → pickHead l = some h → h.queue.num ≠ 0 →
    ∀ x ∈ l, x.colour ≠ .red → x.deferred = h.deferred →
      x.queue.num ≠ 0 ∧ (h.tag < x.tag ∨ (h.tag = x.tag ∧ h.queue.num ≤ x.queue.num)))

/-- Table 3-8, R70: no command faults, and the only refusal is the start of a vendor-diagnostic operation, which the manual does
not describe; every assigned opcode has a meaning. -/
def Obligations.OnlyVendorRefused : Prop :=
  (∀ (i : Instr) (s : State), (∃ t, exec i s = .next t) ∨
    (∃ tag o, i = .operationStart tag ∧ s.op tag = some o ∧ opBody o.opcode = none ∧ s.startable o = true ∧
      exec i s = .refused (.vendorDiagnostics o.opcode))) ∧
  (∀ op ∈ assignedOpcodes, (opBody op).isSome = true)

/-- No command puts a command into the queue or takes one out: whatever exec does, the waiting commands stay. -/
def Obligations.ExecKeepsQueue : Prop :=
  ∀ (i : Instr) (s t : State), exec i s = .next t → t.pending = s.pending

/-- R34, R36, R457, R461: fuses change only when management advances the anti-rollback counter, and trust anchors only by ENROL
and by a change of the anchors, whatever else happens to the device. Log entry 8 marks the choice of the model in it. -/
def Obligations.TrustedStores : Prop :=
  ∀ (i : Instr) (s t : State), exec i s = .next t →
    (t.boot.fuses ≠ s.boot.fuses → i = .mgmtAdvanceRollback) ∧
    (t.mgmt.anchors ≠ s.mgmt.anchors → (∃ a, i = .enrol a) ∨ (∃ a add, i = .mgmtTrustAnchorChange a add))

/-- R91: a command with EPOCH_CHECK whose bytes 52-55 differ from the low half of the epoch is never run, and it is answered
STALE_EPOCH when nothing else is wrong with it: the row ends where its acceptance ends, and no memory, setting, key or page of the
device has changed. -/
def Obligations.EpochCheck : Prop :=
  (∀ (s : State) (q : QPair) (op : Nat) (pkt : BitVec 512), bit (pf pkt 1 1) 4 = true → pf pkt 52 4 ≠ s.stg.epoch % 2 ^ 32 →
    s.reject q op pkt ≠ none ∧
    (({ s with stg.epoch := pf pkt 52 4 } : State).reject q op pkt = none → s.reject q op pkt = some (.staleEpoch, 0))) ∧
  (∀ (s : State) (q : QPair) (op : Nat) (c : Cmd) (body : Op → State → BodyOut), s.wake.pair c.qp = some q →
    s.wake.reject q op c.pkt = some (.staleEpoch, 0) → s.wake.accept c.qp op c.pkt = (none, (s.wake.accept c.qp op c.pkt).2) ∧
      s.submit op body c = (s.wake.accept c.qp op c.pkt).2) ∧
  (∀ (s t : State) (qp op : Nat) (pkt : BitVec 512), s.accept qp op pkt = (none, t) →
    t.pool.mem = s.pool.mem ∧ t.pool.extents = s.pool.extents ∧ t.pool.dir = s.pool.dir ∧ t.foot = s.foot ∧
      t.stg.live = s.stg.live ∧ t.stg.epoch = s.stg.epoch ∧ t.store.namespaces = s.store.namespaces ∧
      t.store.snapshots = s.store.snapshots ∧ t.store.pins = s.store.pins ∧ t.idx.banks = s.idx.banks ∧
      t.idx.entries = s.idx.entries ∧ t.tiers.weights = s.tiers.weights ∧ t.tiers.leases = s.tiers.leases ∧
      t.boot = s.boot ∧ t.mgmt = s.mgmt ∧ t.pending = s.pending)

/-- R38: while HALT_N is asserted the keystone completes verification but releases no other die, and the sequence resumes at its
300 ms step when HALT_N deasserts. -/
def Obligations.HaltHoldsStart : Prop :=
  ∀ (s : State), s.boot.haltN = true → s.boot.phase = .sensing →
    (∀ sl, s.boot.running = none → s.entropyOk = true → s.boot.bootSlot = some sl →
      ∃ u, exec .firmwareVerified s = .next u ∧ u.boot.running = some sl ∧ u.boot.phase = .sensing ∧ u.boot.haltN = true) ∧
    (exec .fabricLinksTrained s = .next s ∧ exec .readyLink s = .next s ∧ exec .readyDeck s = .next s ∧
      (∀ d, exec (.ddr5CalibrationComplete d) s = .next s) ∧ (∀ l, exec (.hbmTrainingComplete l) s = .next s) ∧
      (∀ c, exec (.nandCalibrationComplete c) s = .next s)) ∧
    (s.boot.running.isSome = true →
      exec .haltNDeassert s = .next { s with boot.haltN := false, boot.phase := .verified })

/-- R27, R73, R80, R83, R87: a command that is accepted and starts takes its entry, tag and buffers and is counted, and renews its
staging session's lease; nothing else of the device has changed when its first unit runs. Log entry 136 marks the choice of the
model in it. -/
def Obligations.BeginsFrame : Prop :=
  ∀ (s t : State) (op : Nat) (c : Cmd) (o : Op), s.begins op c = some (o, t) →
    t.op o.tag = some o ∧ o.qp = c.qp ∧ o.opcode = op ∧ o.pkt = c.pkt ∧ o.epoch = s.stg.epoch ∧ o.started = true ∧
      o.state = .running ∧ t.store = s.store ∧ t.stg.live = s.stg.live ∧ t.stg.old = s.stg.old ∧ t.stg.epoch = s.stg.epoch ∧
      t.stg.commit = s.stg.commit ∧ t.stg.session = (s.wake.renewSession c.qp op).stg.session ∧ t.stg.acting = false ∧
      t.idx = s.idx ∧ t.tiers = s.tiers ∧ t.foot = s.foot ∧
      t.dlv = s.dlv ∧ t.pool = s.pool ∧ t.rma = s.rma ∧ t.grp = s.grp ∧ t.sec = s.sec ∧ t.ras = s.ras ∧ t.mgmt = s.mgmt ∧
      t.boot = s.wake.boot ∧ t.host = s.host ∧ t.pending = s.pending ∧ t.att.descs = s.att.descs ∧
      t.att.windows = s.att.windows ∧ t.att.content = s.att.content

/-- R71, R97, R122, R260, R390, R397: IDENTIFY, STAGE_READ, STAGE_CHECK, QUERY_NAMESPACE, CHAIN_QUERY, PLAN_QUERY, TENANT_STATUS
and ATTEST_REPORT change no byte of the pool, no extent and no directory entry, nothing of the footing, no live setting, no
bank or group of the index, no fuse and no management setting, however they end. -/
def Obligations.ReadOnlyFrame : Prop :=
  ∀ (c : Cmd) (i : Instr) (s u : State), i ∈ [Instr.identify c, .stageRead c, .stageCheck c, .queryNamespace c, .chainQuery c,
      .planQuery c, .tenantStatus c, .attestReport c] → exec i s = .next u →
    (∀ a, u.pool.mem.byte a = s.pool.mem.byte a) ∧ u.pool.extents = s.pool.extents ∧ u.pool.dir = s.pool.dir ∧
      u.foot = s.foot ∧ u.stg.live = s.stg.live ∧ u.stg.epoch = s.stg.epoch ∧ u.idx.banks = s.idx.banks ∧
      u.idx.groups = s.idx.groups ∧ u.boot.fuses = s.boot.fuses ∧ u.mgmt.anchors = s.mgmt.anchors ∧
      u.mgmt.policy = s.mgmt.policy ∧ u.mgmt.ceiling = s.mgmt.ceiling

/-- R31, R34, R491, R495: POR_N holds the device in cold reset and takes away what power keeps; its deassertion samples the straps
and starts the boot ROM's phase. R32: PERST_N's deassertion lets its port train. R38, R82: HALT_N halts a running device with its
own source, or holds the start-up, which resumes when it deasserts. Log entry 50 marks the choice of the model in it. -/
def Obligations.Pins : Prop :=
  ((∀ (s : State), ∃ u, exec .porNAssert s = .next u ∧ u.boot.phase = .off ∧ u.boot.porN = true ∧ u.boot.link = false ∧
    u.store = Store.reset ∧ u.stg = Staging.reset ∧ u.sec.life = .unclaimed ∧ u.sec.keysPresent = false ∧ u.pool.mem = [] ∧
    u.boot.fuses = s.boot.fuses ∧ u.mgmt.anchors = s.mgmt.anchors ∧ u.mgmt.policy = s.mgmt.policy ∧
    u.mgmt.ceiling = s.mgmt.ceiling ∧ u.boot.selector = s.boot.selector ∧ u.pending = s.pending) ∧
  (∀ (s : State) (slot : Nat), s.boot.porN = true → ∃ u, exec (.coldStart slot) s = .next u ∧ u.boot.phase = .sensing ∧
    u.boot.porN = false ∧ u.boot.slotStrap = slot % 8 ∧ u.boot.link = false ∧ u.boot.deck = false ∧ u.boot.full = false ∧
    u.boot.fuses = s.boot.fuses ∧ u.sec.life = .unclaimed ∧ u.pending = s.pending) ∧
  (∀ (s : State) (port : Nat), exec (.perstNDeassert port) s =
    .next { s with boot.perst := Nat.lor s.boot.perst (2 ^ port) })) ∧
  ((∀ (s : State), s.boot.link = true → s.boot.haltN = false → exec .haltNAssert s =
    .next (({ s with boot.haltN := true }).halt 3 (.plain .fatal 0x0F03 0x6000 none))) ∧
  (∀ (s : State), s.boot.link = false → exec .haltNAssert s = .next { s with boot.haltN := true }) ∧
  (∀ (s : State), s.boot.phase = .sensing → s.boot.running.isSome = true →
    exec .haltNDeassert s = .next { s with boot.haltN := false, boot.phase := .verified }) ∧
  (∀ (s : State), s.boot.phase ≠ .sensing → exec .haltNDeassert s = .next { s with boot.haltN := false }))

/-- R36, R38, R39: the boot ROM takes the selected slot when it is accepted, else the other, and the keys of the fabric are drawn
from the DRBG; with neither slot the start-up fails; HALT_N holds it; the fabric links then train under those keys. R32, R44 to
R46, R48, R49: READY.LINK, READY.DECK with Memory_Active, and READY.FULL set when their conditions hold, and the READY source is
raised with each; a location that failed its read-back is recorded and stays poisoned. Log entry 155 marks the choice of the model
in it. -/
def Obligations.StartUp : Prop :=
  ((∀ (s : State) (sl : Slot), s.boot.phase = .sensing → s.boot.running = none → s.entropyOk = true →
    s.boot.bootSlot = some sl → exec .firmwareVerified s = .next { s.draw.2 with
      sec.fabricKey := some s.draw.1
      boot.running := some sl
      boot.slotAValid := s.boot.accepts .a
      boot.slotBValid := s.boot.accepts .b
      boot.phase := if s.boot.haltN then .sensing else .verified }) ∧
  (∀ (b : Boot), (b.accepts b.selector = true → b.bootSlot = some b.selector) ∧
    (b.accepts b.selector = false → b.accepts b.selector.other = true → b.bootSlot = some b.selector.other)) ∧
  (∀ (s : State), s.boot.phase = .sensing → s.boot.running = none → s.entropyOk = true →
    s.boot.accepts .a = false → s.boot.accepts .b = false →
    exec .firmwareVerified s = .next ({ s with boot.phase := .bootFailed, boot.bootFail := true }).readyChanged) ∧
  (∀ (s : State), s.boot.phase = .verified → s.sec.fabricKey.isSome = true → exec .fabricLinksTrained s =
    .next { s with boot.phase := .linksTrained, sec.fabricKeys := true })) ∧
  ((∀ (s : State), s.boot.phase = .linksTrained → s.boot.perst ≠ 0 → s.boot.link = false →
    s.sec.fatalPersists = false → exec .readyLink s =
      .next ((Config.badSram s.free).foldl (fun s l => s.log (.plain .recovered 0x0122 l none))
        ({ s with boot.phase := .up, boot.link := true, free := s.free + 1 }).readyChanged)) ∧
  (∀ (s : State), s.released = true → s.boot.deckTrained = true → s.boot.deck = false →
    s.sec.fatalPersists = false → exec .readyDeck s =
      .next ((Config.badDeck s.free).foldl (fun (s : State) x => s.retireLine 0x0102 (0x1000 + 0x100 * (x.1 % 6) + 0x13) x.2)
        ({ s with boot.deck := true, boot.memoryActive := true, boot.mounted := false, free := s.free + 1 }).readyChanged).fullIfBare) ∧
  (∀ (s : State) (code locus a : Nat), ∃ u : State, s.retireLine code locus a = u.log ⟨.dataLoss, code, locus, none, none, some a, 0, true⟩ ∧
    u.pool.poison.contains (a / 64) = true ∧ ∀ x, x ≠ a / 64 → u.pool.poison.contains x = s.pool.poison.contains x) ∧
  (∀ (s : State), s.boot.deck = true → s.boot.full = false → s.boot.scanDone = true → s.boot.nandDone = true →
    s.noFooting = true → s.fullIfBare = ({ s with boot.full := true }).readyChanged) ∧
  (∀ (s : State), s.boot.deck = true → s.boot.full = false → s.foot.mounted = false → s.noFooting = false →
    s.boot.scanDone = true → s.boot.nandDone = true →
    exec .footingMountComplete s = .next ({ s.mount with boot.full := true }).readyChanged) ∧
  (∀ (s : State) (channels : List NandChannel), s.released = true → s.boot.nandDone = false →
    exec (.nandCalibrationComplete channels) s =
      .next (State.fullIfBare { s with boot.nandDone := true, foot.channels := channels })) ∧
  (∀ (s : State) (bad : List (Nat × Nat)), s.boot.ddrDone = true → s.boot.scanDone = false →
    exec (.causewayScanComplete bad) s =
      .next (bad.foldl (fun (s : State) x => s.retireLine 0x0112 (0x5000 + 0x100 * (x.1 % 8 / 4) + 0x20 + x.1 % 8) x.2)
        { s with boot.scanDone := true }).fullIfBare))

/-- R40, R41: what training shows of the memory: a causeway channel is shown when it trained, at 6,400 MT/s or, with a populated
channel of two DIMMs, at 5,600; a stack leaves service when a channel has more than 4 failing lanes. -/
def Obligations.MemoryTraining : Prop :=
  (∀ (s : State) (dimms : List (Nat × Nat × Nat)), s.released = true → s.boot.ddrDone = false →
    ∃ b : Boot, exec (.ddr5CalibrationComplete dimms) s = .next ({ s with boot := b }).readyChanged ∧ b.ddrDone = true ∧
      (∀ d, d ∈ b.dimms ↔ d ∈ dimms ∧ d.1 < 8 ∧ d.2.1 ≠ 0 ∧ d.2.2 ≠ 0) ∧
      b.ddrRate = (if ∃ d ∈ dimms, d.1 < 8 ∧ 2 ≤ d.2.1 then 5600 else 6400) ∧
      (∀ c, c < 8 → (bit b.causewayOk c = true ↔ ∃ d ∈ b.dimms, d.1 = c))) ∧
  (∀ (s : State) (lanes : List (Nat × Nat × Nat)), s.released = true → s.boot.deckTrained = false →
    ∃ u : State, exec (.hbmTrainingComplete lanes) s = .next u.readyChanged ∧ u.boot.deckTrained = true ∧
      (∀ n, n < 6 → (bit u.boot.stackOk n = true ↔ ∀ x ∈ lanes, x.1 = n → x.2.2 ≤ 4)) ∧
      u.boot.stacksAtStart = ((List.range 6).filter (fun n => bit u.boot.stackOk n)).length ∧
      u.store = s.store ∧ u.stg = s.stg ∧ u.sec = s.sec ∧ u.pool = s.pool)

/-- R50 to R52, R479: link-watch is entered with one live port by command, woken by an event at that port or by DEV_WAKE_AT, and
left when every part is back, when the Ethernet links train again. Log entry 18 marks the choice of the model in it. -/
def Obligations.LinkWatch : Prop :=
  (∀ (s : State) (c : Cmd) (o : Op) (t : State), s.begins 0x05 c = some (o, t) → o.p 8 1 < 8 →
    (t.mayWatch = true → exec (.enterLinkWatch c) s = .next ((t.watch (o.p 8 1)).finish o.tag .ok 0)) ∧
    (t.mayWatch = false → exec (.enterLinkWatch c) s = .next (t.finish o.tag .retry 0))) ∧
  (∀ (s : State) (port : Nat), (s.clock.wakeAt = 0 ∨ s.clock.now < s.clock.wakeAt) → (s.watch port).boot.linkwatch = true ∧
    (s.watch port).boot.livePort = port ∧ (s.watch port).boot.ethUp = 0 ∧ (s.watch port).boot.waking = false ∧
    (s.watch port).store = s.store ∧ (s.watch port).pool = s.pool ∧ (s.watch port).stg = s.stg ∧ (s.watch port).sec = s.sec) ∧
  (∀ (s : State) (w : WakeSource), s.boot.linkwatch = true → s.boot.waking = false → (∀ p, w = .linkExit p → p ≠ s.boot.livePort) →
    exec (.linkWatchWake w) s = .next { s with
      boot.waking := true, boot.awakeDeck := false, boot.awakeCauseway := false, boot.awakePorts := false, clock.wakeAt := 0 }) ∧
  (∀ (s : State), s.boot.linkwatch = true → s.boot.waking = false → s.clock.wakeAt ≠ 0 → s.clock.wakeAt ≤ s.clock.now →
    exec .devWakeAtReached s = .next { s with
      boot.waking := true, boot.awakeDeck := false, boot.awakeCauseway := false, boot.awakePorts := false, clock.wakeAt := 0 }) ∧
  (∀ (s : State), s.boot.linkwatch = true → s.boot.waking = true → exec .linkWatchServiceRestored s =
    .next ({ s with
      dlv.ports := s.fullRate
      boot.linkwatch := false, boot.awakeDeck := true, boot.awakeCauseway := true,
      boot.awakePorts := true } : State).readyChanged.answerHeld.serveHeld) ∧
  (∀ (s : State), s.boot.linkwatch = false → s.boot.link = true → s.boot.halted = false →
    exec (.ethernetLinksTrained 0) s = .next ({ s with boot.waking := false }).linkChanged) ∧
  (∀ (s : State) (n : Nat), n < 4 → s.boot.linkwatch = false → s.boot.link = true → s.boot.halted = false →
    exec (.ethernetLinksTrained (2 ^ n)) s = .next ({ s.portUp (32 + 2 * n) 100 with
      boot.ethUp := Nat.lor (s.portUp (32 + 2 * n) 100).boot.ethUp (2 ^ n), boot.waking := false }).linkChanged)

/-- R53, R54, R414, R479: a warm reset, by the event or by DEV_RESET with its key, starts the start-up again from the fuses,
clears every setting, namespace, queue pair and key, and keeps fuses, trained state, configuration space and persistent settings;
LAST_CAUSE names the route of a session that it ends; another key leaves the device as it is. Log entry 19 marks the choice of the
model in it. -/
def Obligations.WarmResetClears : Prop :=
  (∀ (s : State) (i : Instr) (cause : Nat),
    (i = .warmReset ∧ cause = 6 ∧ s.boot.phase ≠ .off ∧ s.boot.phase ≠ .tripped ∧ s.boot.phase ≠ .supplyHeld) ∨
    (∃ f tee v, i = .devResetWarm ⟨f, tee⟩ v ∧ cause = 3 ∧ s.boot.link = true ∧ s.hears f tee = true ∧ bits v 31 16 = 0xA5C3 ∧
      bit v 0 = true ∧ s.mayWrite f = true ∧ s.sec.life ≠ .releasing) →
    ∃ u, exec i s = .next u ∧ u.boot.phase = .sensing ∧ u.boot.link = false ∧ u.boot.deck = false ∧ u.boot.full = false ∧
      u.boot.warm = true ∧ u.boot.halted = false ∧ u.boot.linkwatch = false ∧ u.boot.running = none ∧
      u.q = Queues.reset ∧ u.stg = Staging.reset ∧ u.store = Store.reset ∧ u.tiers = Tiers.reset ∧ u.rma = Remote.reset ∧
      u.grp = Group.reset ∧ u.tel.counters = [] ∧ u.tel.monitors = [] ∧ u.tel.vectors = [] ∧ u.tel.routes = [] ∧
      u.tel.dump = none ∧ u.tel.funcMask = s.tel.funcMask ∧ u.pool.mem = [] ∧ u.pool.extents = [] ∧ u.pool.dir = [] ∧
      u.idx.entries = [] ∧ u.idx.banks = [] ∧ u.sec.life = .unclaimed ∧ u.sec.keysPresent = false ∧ u.sec.root = none ∧
      u.sec.bindings = [] ∧ (∀ m ∈ u.sec.macsec, m.stopped = true ∧ m.cak = none) ∧ u.sec.spdms = [] ∧
      u.sec.config = s.sec.config ∧ u.ras.ring = [] ∧ u.ras.fatal = [] ∧
      (s.sec.keysPresent = true → u.sec.lastCause = cause) ∧ (s.sec.keysPresent = false → u.sec.lastCause = s.sec.lastCause) ∧
      u.boot.fuses = s.boot.fuses ∧ u.boot.deckTrained = s.boot.deckTrained ∧ u.boot.stackOk = s.boot.stackOk ∧
      u.boot.dimms = s.boot.dimms ∧ u.boot.perst = s.boot.perst ∧ u.clock.now = s.clock.now ∧
      u.mgmt.anchors = s.mgmt.anchors ∧ u.mgmt.policy = s.mgmt.policy ∧ u.mgmt.ceiling = s.mgmt.ceiling ∧
      u.host = s.host ∧ u.pending = s.pending) ∧
  (∀ (s : State) (f : Fn) (tee : Bool) (v : Nat), bits v 31 16 ≠ 0xA5C3 → exec (.devResetWarm ⟨f, tee⟩ v) s = .next s)

/-- R55, R56, R480: setting ENABLE creates a CTL pair on the rings that QM_ADMIN names, pair 0 for the first function, or FAIL
shows why it does not; clearing it stops the pair and ends its operations, and once none is left the pair is gone. Log entries 17
and 124 mark the choices of the model in it. -/
def Obligations.AdminQueue : Prop :=
  (∀ (s : State) (f : Fn) (tee : Bool) (v i : Nat), s.boot.link = true → s.hears f tee = true → bit v 31 = true →
    (s.adminOf f).enable = false → (s.adminOf f).busy = false → s.wake.mayPair f true 0 = true → s.wake.partLink f.link 0 = true →
    ringsOk (s.adminOf f).sqBase (s.adminOf f).cqBase ((s.adminOf f).depth % 2 ^ 16) ((s.adminOf f).depth / 2 ^ 16 % 2 ^ 16) = true →
    (if s.wake.q.firstAdmin then s.wake.freeIndex 2 true else some 0) = some i → s.pair i = none →
    ∃ u, exec (.adminQueueEnable ⟨f, tee⟩ v) s = .next u ∧
      u.pair i = some (QPair.new i f true 0 0 (v % 2 ^ 11) (s.adminOf f).sqBase (s.adminOf f).cqBase
        ((s.adminOf f).depth % 2 ^ 16) ((s.adminOf f).depth / 2 ^ 16 % 2 ^ 16)) ∧
      (u.adminOf f).enable = true ∧ (u.adminOf f).ready = true ∧ (u.adminOf f).index = i ∧ (u.adminOf f).fail = 0 ∧
      (∀ j, j ≠ i → u.pair j = s.pair j) ∧ u.store = s.store ∧ u.stg = s.stg ∧ u.sec = s.sec) ∧
  (∀ (s : State) (f : Fn) (tee : Bool) (v : Nat), s.boot.link = true → s.hears f tee = true → bit v 31 = true →
    (s.adminOf f).enable = false → (s.adminOf f).busy = false →
    (ringsOk (s.adminOf f).sqBase (s.adminOf f).cqBase ((s.adminOf f).depth % 2 ^ 16)
        ((s.adminOf f).depth / 2 ^ 16 % 2 ^ 16) = false →
      exec (.adminQueueEnable ⟨f, tee⟩ v) s =
        .next (s.wake.setAdmin { s.adminOf f with vector := v % 2 ^ 11, fail := 1, ready := false })) ∧
    (ringsOk (s.adminOf f).sqBase (s.adminOf f).cqBase ((s.adminOf f).depth % 2 ^ 16)
        ((s.adminOf f).depth / 2 ^ 16 % 2 ^ 16) = true → s.wake.mayPair f true 0 = false →
      exec (.adminQueueEnable ⟨f, tee⟩ v) s =
        .next (s.wake.setAdmin { s.adminOf f with vector := v % 2 ^ 11, fail := 3, ready := false }))) ∧
  (∀ (s : State) (f : Fn) (tee : Bool), s.boot.link = true → s.hears f tee = true → (s.adminOf f).enable = true →
    (∀ o ∈ s.q.ops, o.qp ≠ (s.adminOf f).index) → (∀ a ∈ s.q.admin, a.busy = false) →
    ∃ u, exec (.adminQueueDisable ⟨f, tee⟩) s = .next u ∧ u.pair (s.adminOf f).index = none ∧ (u.adminOf f).enable = false ∧
      (u.adminOf f).ready = false ∧ (u.adminOf f).busy = false ∧ (∀ j, j ≠ (s.adminOf f).index →
        (u.pair j).map (fun q => { q with pend := 0 }) = (s.pair j).map (fun q => { q with pend := 0 })) ∧ u.q.ops = s.q.ops) ∧
  (∀ (s : State) (f : Fn) (tee : Bool), s.boot.link = true → s.hears f tee = true → (s.adminOf f).enable = true →
    ∃ u, exec (.adminQueueDisable ⟨f, tee⟩) s = .next u ∧ (u.adminOf f).enable = false ∧ (u.adminOf f).ready = false)

/-- R58, R59, R61: a tail that stays inside the ring moves the tail; a tail at or beyond the depth, or past the head, is a queue
error. R60, R61: CQ_HEAD releases the slots up to it, re-samples the interrupt and writes what the CQ held back, and a head at or
beyond the depth is a queue error. Log entry 138 marks the choice of the model in it. -/
def Obligations.Doorbells : Prop :=
  (∀ (s : State) (f : Fn) (tee : Bool) (qp v : Nat) (q : QPair), s.pair qp = some q → q.owner = f → s.hears f tee = true →
    (v % 2 ^ 12 < q.sqDepth →
      (q.sqTail + q.sqDepth - q.sqHead) % q.sqDepth + (v % 2 ^ 12 + q.sqDepth - q.sqTail) % q.sqDepth < q.sqDepth →
      exec (.sqTailDoorbell ⟨f, tee⟩ qp v) s = .next (s.wake.setPair { q with sqTail := v % 2 ^ 12 })) ∧
    (q.sqDepth ≤ v % 2 ^ 12 → exec (.sqTailDoorbell ⟨f, tee⟩ qp v) s = .next (s.wake.queueError q 0)) ∧
    (v % 2 ^ 12 < q.sqDepth →
      q.sqDepth ≤ (q.sqTail + q.sqDepth - q.sqHead) % q.sqDepth + (v % 2 ^ 12 + q.sqDepth - q.sqTail) % q.sqDepth →
      exec (.sqTailDoorbell ⟨f, tee⟩ qp v) s = .next (s.wake.queueError q 0))) ∧
  (∀ (s : State) (f : Fn) (tee : Bool) (qp v : Nat) (q : QPair), s.pair qp = some q → q.owner = f → s.hears f tee = true →
    (v % 2 ^ 14 < q.cqDepth → 0 < (v % 2 ^ 14 + q.cqDepth - q.cqHead) % q.cqDepth →
      (v % 2 ^ 14 + q.cqDepth - q.cqHead) % q.cqDepth < q.cqCount →
      exec (.cqHeadDoorbell ⟨f, tee⟩ qp v) s = .next (((s.wake.setPair { q with
        cqHead := v % 2 ^ 14
        cqCount := q.cqCount - (v % 2 ^ 14 + q.cqDepth - q.cqHead) % q.cqDepth }).pendCq qp).flushHeld qp q.held.length)) ∧
    (v % 2 ^ 14 < q.cqDepth → (v % 2 ^ 14 + q.cqDepth - q.cqHead) % q.cqDepth = q.cqCount →
      0 < q.cqCount → exec (.cqHeadDoorbell ⟨f, tee⟩ qp v) s =
        .next (((s.wake.setPair { q with cqHead := v % 2 ^ 14, cqCount := 0 }).discardCq qp).flushHeld qp q.held.length)) ∧
    (q.cqDepth ≤ v % 2 ^ 14 → exec (.cqHeadDoorbell ⟨f, tee⟩ qp v) s = .next (s.wake.queueError q 0))) ∧
  (∀ (s : State) (f : Fn) (tee : Bool) (qp v : Nat) (q : QPair), s.pair qp = some q → q.owner ≠ f →
    exec (.sqTailDoorbell ⟨f, tee⟩ qp v) s = .next s ∧ exec (.cqHeadDoorbell ⟨f, tee⟩ qp v) s = .next s)

/-- R62, R77: a span takes a CTL pair before any DATA pair; a DATA pair's turn is at most 8 entries; the entry fetched from the
head is accepted and the head moves on, once its owner span's table has room. Log entry 20 marks the choice of the model in it. -/
def Obligations.FetchPriority : Prop :=
  (∀ (s : State) (span : Nat) (q : QPair),
    (s.q.pairs.filter (fun q => q.index % 2 == span && s.fetchable q)).find? (·.ctl) = some q →
    exec (.commandFetch span) s = .next (s.fetchFrom q.index 8)) ∧
  (∀ (s : State) (span : Nat) (q : QPair),
    (∀ x ∈ s.q.pairs, x.index % 2 = span → s.fetchable x = true → x.ctl = false) →
    (s.q.pairs.filter (fun q => q.index % 2 == span && s.fetchable q)).find? (fun q => q.turns != 0) = some q →
    exec (.commandFetch span) s = .next (s.dataTurn q)) ∧
  (∀ (s : State) (i : Nat) (q : QPair) (b : List Byte), s.pair i = some q → s.fetchable q = true →
    s.hostRead q.owner q.owner.link (q.sqBase + 64 * q.sqHead) 64 = .ok b →
    (s.tableRoom (s.spanOf i (pf (BitVec.ofNat 512 (leNat b)) 0 1) (BitVec.ofNat 512 (leNat b))) q.ctl = false →
      s.fetchOne i = (false, s)) ∧
    (s.tableRoom (s.spanOf i (pf (BitVec.ofNat 512 (leNat b)) 0 1) (BitVec.ofNat 512 (leNat b))) q.ctl = true →
      ∀ t r, ((s.charge q.owner.link q.partition (if q.ctl then 0 else 1)
        (readUnits q.owner.link (q.sqBase + 64 * q.sqHead) 64)).setPair
        { q with sqHead := if q.sqHead + 1 = q.sqDepth then 0 else q.sqHead + 1 }).accept i
        (pf (BitVec.ofNat 512 (leNat b)) 0 1) (BitVec.ofNat 512 (leNat b)) = (r, t) →
      s.fetchOne i = (true, match r with
        | some tag => t.atAcceptance tag
        | none => t))) ∧
  (∀ (s : State) (i n : Nat), s.fetchFrom i (n + 1) =
    if (s.fetchOne i).1 = true then (s.fetchOne i).2.fetchFrom i n else (s.fetchOne i).2)

/-- R65, R80, R84, R90, R78, R68: an operation starts when nothing holds it, its buffers are free and no REVOKE stops it; the
first waiter of a pool for whose class there is a buffer takes the one that frees; a unit that ends counts in the record; a long
operation whose units have ended takes its final state. Log entry 136 marks the choice of the model in it. -/
def Obligations.OperationLife : Prop :=
  (∀ (s w : State) (tag : Nat) (o p : Op) (b : Op → State → BodyOut), s.op tag = some o → s.revoked o = false → o.wait ≠ .merge →
    o.long = false → o.finished = false → s.startable o = true → opBody o.opcode = some b → o.opcode ≠ 0x36 →
    s.launch tag o = some w → w.op tag = some p → exec (.operationStart tag) s = .next (State.settle tag (b p w))) ∧
  (∀ (s : State) (pool : Pool) (b b' : BufPool) (x : Waiter) (part : Nat), s.bufPool pool = some b →
    b.grantee = some (x, part, b') → x.id < 2 ^ 16 →
    exec (.bufferGrant pool) s = .next ((s.setPool b').updOp x.id (fun o => { o with
      wait := .none, pause := 0, buffers := o.buffers ++ [(pool, part)] }))) ∧
  (∀ (b b' : BufPool) (x : Waiter) (part : Nat), b.grantee = some (x, part, b') → x ∈ b.waiters ∧ b.part x.cls = some part ∧
    b' = { b.add part with waiters := b.waiters.filter (·.id != x.id) }) ∧
  (∀ (s t : State) (tag r p : Nat) (o : Op) (unit : Op → State → UnitOut), s.op tag = some o → s.revoked o = false →
    opUnit o.opcode = some unit → o.long = true → o.finished = false → s.boot.halted = false →
    unit o (s.actFor o) = .more r p t →
    exec (.longOpUnitEnd tag) s = .next ((t.rested.fabricData tag (t.bulkDies o)).updOp tag (fun q => { q with
      state := ((t.rested.fabricData tag (t.bulkDies o)).between o).1
      pause := ((t.rested.fabricData tag (t.bulkDies o)).between o).2
      unitsDone := q.unitsDone + 1, result := r, resume := p }))) ∧
  (∀ (s t : State) (tag r p : Nat) (st : Status) (o : Op) (unit : Op → State → UnitOut), s.op tag = some o →
    s.revoked o = false → opUnit o.opcode = some unit → o.long = true → o.finished = false → s.boot.halted = false →
    unit o (s.actFor o) = .last st r p t →
    exec (.longOpUnitEnd tag) s = .next ((t.rested.fabricData tag (t.bulkDies o)).updOp tag (fun o => { o with
      state := .running, pause := 0, unitsDone := o.unitsDone + 1, result := r, resume := p, status := st, finished := true }))) ∧
  (∀ (s : State) (tag : Nat) (o : Op), s.op tag = some o → o.long = true → o.finished = true →
    exec (.longOpFinal tag) s = .next (s.finalise tag)) ∧
  (∀ (s : State) (tag : Nat) (st : Status) (r : Nat), (s.finish tag st r).op tag = none)

/-- R71, R80: what IDENTIFY, CREATE_QUEUE_PAIR, DELETE_QUEUE_PAIR, ABORT and HALT do once they start; an ABORT answers how many
operations it cancelled, stopped at a unit boundary, or found finished, and a COMMIT cancelled before it starts takes its session
with it. Log entries 52 and 137 mark the choices of the model in it. -/
def Obligations.AdministrationCommands : Prop :=
  (∀ (s t w : State) (c : Cmd) (o : Op), s.begins 0x00 c = some (o, t) → o.buf % 4096 = 0 →
    t.wrote o o.buf (t.identity ((t.pair o.qp).any (·.ctl))) = some w → exec (.identify c) s = .next (w.finish o.tag .ok 0)) ∧
  (∀ (s t : State) (c : Cmd) (o : Op) (i : Nat), s.begins 0x01 c = some (o, t) → o.p 28 2 = 0xFFFF → o.p 30 1 = 0 →
    ringsOk (o.p 8 8) (o.p 16 8) (o.p 24 2) (o.p 26 2) = true → o.p 32 2 < 2048 → o.p 34 1 < 16 → 1 ≤ o.p 31 1 →
    o.p 31 1 ≤ 16 → o.p 35 1 = 0xFF → partValid t.stg.live (o.p 34 1) = true → t.mayPair (t.opFn o) false (o.p 34 1) = true →
    t.partLink (t.opFn o).link (o.p 34 1) = true → t.freeIndex 2 false = some i →
    exec (.createQueuePair c) s = .next ((t.addPair (QPair.new i (t.opFn o) false (o.p 31 1) (o.p 34 1) (o.p 32 2) (o.p 8 8)
      (o.p 16 8) (o.p 24 2) (o.p 26 2))).finish o.tag .ok i)) ∧
  (∀ (s t : State) (c : Cmd) (o : Op) (q : QPair), s.begins 0x02 c = some (o, t) → t.pair (o.p 8 2) = some q → o.p 8 2 ≠ 0 →
    o.p 8 2 ≠ o.qp → q.deleting = false →
    exec (.deleteQueuePair c) s = .next (State.settle o.tag (.long 2 0 (t.setPair { q with deleting := true })))) ∧
  (∀ (s t w : State) (c : Cmd) (o x : Op) (k : Nat), s.begins 0x03 c = some (o, t) → o.work = .nothing → o.p 8 1 < 3 →
    (o.p 8 1 = 0 ∨ (t.pair (o.p 12 2)).isSome) → t.abortSelects o = [x] → t.abortOne x = (k, w) →
    (x.shortStarted = false ∧ (w.op x.tag).any (·.stopping.isSome) = false →
      exec (.abort c) s = .next (w.finish o.tag .ok (2 ^ (16 * k)))) ∧
    (x.shortStarted = true ∨ (w.op x.tag).any (·.stopping.isSome) = true →
      exec (.abort c) s = .next (State.settle o.tag (.wait .ended (w.setOp o.tag (fun y => { y with
        work := .slots [x.tag], result := 2 ^ (16 * k) })))))) ∧
  (∀ (s t : State) (c : Cmd) (o : Op), s.begins 0x03 c = some (o, t) → o.work = .nothing → o.p 8 1 = 0 → t.abortSelects o = [] →
    exec (.abort c) s = .next (t.finish o.tag .ok (2 ^ 32))) ∧
  (∀ (s : State) (x : Op), s.commitStage x.tag = none →
    (x.started = false → s.abortOne x = (0,
      (if x.opcode = 0x14 ∧ s.stg.session.any (fun y => y.id == x.p 8 2 && y.owner == x.qp) = true then
        { s with stg.session := none } else s).stopAny x.tag .aborted)) ∧
    (x.started = true → x.long = true → x.finished = false → s.abortOne x = (1, s.stopAny x.tag .aborted)) ∧
    (x.started = true → x.long = false ∨ x.finished = true → s.abortOne x = (2, s))) ∧
  (∀ (s : State) (x : Op), s.commitStage x.tag = some true → s.abortOne x = (2, s)) ∧
  (∀ (s : State) (x : Op), s.commitStage x.tag = some false → s.abortOne x = (0, s.stopOp x.tag .aborted)) ∧
  (∀ (s t : State) (c : Cmd) (o : Op), s.begins 0x04 c = some (o, t) → exec (.halt c) s =
    .next ((t.halt 1 ⟨.fatal, 0x0F01, 0x3000 + 0x100 * tagSpan o.tag, some o.tag, none, none, o.p 8 4, false⟩).finish o.tag .ok 0))

/-- R71, R87 to R89: a staging session is opened, written, read, checked, committed and discarded by its own pair. Log entry 139
marks the choice of the model in it. -/
def Obligations.StagingCommands : Prop :=
  (∀ (s t : State) (c : Cmd) (o : Op), s.begins 0x10 c = some (o, t) → t.stagingDenied o = false → 1 ≤ o.p 8 2 →
    o.p 8 2 ≤ 600 → t.stg.session = none →
    exec (.stageOpen c) s = .next (({ t with
      stg.session := some ⟨t.stg.nextSession, o.qp, o.p 8 2, t.clock.now + o.p 8 2 * 10 ^ 9, []⟩
      stg.nextSession := if t.stg.nextSession + 1 < 2 ^ 16 then t.stg.nextSession + 1 else 1 }).finish o.tag .ok
        (t.stg.nextSession + t.stg.epoch % 2 ^ 32 * 2 ^ 32))) ∧
  (∀ (s t : State) (c : Cmd) (o : Op) (x : Session) (b : List Byte) (es : List Item), s.begins 0x11 c = some (o, t) →
    t.stagingDenied o = false → t.sessionOf o = some x → stageArgs o = none → t.got o o.buf (o.p 20 4) = some b →
    es = (chunks (itemSize (o.p 10 2)) (o.p 16 4) b).zipIdx.map (fun p => Item.mk (o.p 10 2) (o.p 12 4 + p.2) (leNat p.1)) →
    es.all (fun e => entryOk e.code e.index e.value) = true →
    exec (.stageWrite c) s = .next ((({ t with stg.session := some { x with
      staged := es ++ x.staged.filter (fun y : Item => !es.any (fun e : Item => e.code == y.code && e.index == y.index)) } }).readFor o o.buf
        (o.p 20 4)).finish o.tag .ok 0)) ∧
  (∀ (s t w : State) (c : Cmd) (o : Op) (x : Session), s.begins 0x12 c = some (o, t) → t.stagingDenied o = false →
    t.sessionOf o = some x → o.p 24 1 < 2 → stageArgs o = none →
    t.wrote o o.buf ((List.range (o.p 16 4)).flatMap (fun i => leBytes (itemSize (o.p 10 2))
      (stagedValue t.stg.live (if o.p 24 1 = 0 then x.staged else []) (o.p 10 2) (o.p 12 4 + i)))) = some w →
    exec (.stageRead c) s = .next (w.finish o.tag .ok 0)) ∧
  (∀ (s t : State) (c : Cmd) (o : Op) (x : Session), s.begins 0x13 c = some (o, t) → t.stagingDenied o = false →
    t.sessionOf o = some x →
    exec (.stageCheck c) s = .next (match t.checks x.staged (t.clock.now + 50000) with
      | some f => t.finish o.tag .checkFailed f.result
      | none => t.finish o.tag .ok 0)) ∧
  (∀ (s t : State) (c : Cmd) (o : Op) (x : Session), s.begins 0x14 c = some (o, t) → t.stagingDenied o = false →
    t.sessionOf o = some x → o.p 10 1 < 2 → t.stg.commit = none →
    t.checks x.staged (max (o.p 16 8) (t.clock.now + 50000)) = none →
    exec (.commit c) s = .next (State.settle o.tag (.long 2 0 { t with
      stg.session := none
      stg.commit := some ⟨o.tag, o.p 10 1 == 1, max (o.p 16 8) (t.clock.now + 50000), false, x.staged⟩ }))) ∧
  (∀ (s t : State) (c : Cmd) (o : Op) (x : Session) (f : CheckFail), s.begins 0x14 c = some (o, t) → t.stagingDenied o = false →
    t.sessionOf o = some x → o.p 10 1 < 2 → t.stg.commit = none →
    t.checks x.staged (max (o.p 16 8) (t.clock.now + 50000)) = some f →
    exec (.commit c) s = .next (t.finish o.tag .checkFailed f.result)) ∧
  (∀ (s t : State) (c : Cmd) (o : Op) (x : Session), s.begins 0x15 c = some (o, t) → t.stagingDenied o = false →
    t.sessionOf o = some x →
    exec (.stageDiscard c) s = .next (({ t with stg.session := none }).finish o.tag .ok 0))

/-- R87, R89, R90: a lease that has run out ends the session; the switch installs the staged entries over the live ones and raises
the epoch by one, and each operation that a REVOKE stops ends with STALE_EPOCH; the drain ends the commit when no operation
carries the old epoch. Log entries 96 and 139 mark the choices of the model in it. -/
def Obligations.SwitchAndDrain : Prop :=
  (∀ (s : State) (x : Session), s.stg.session = some x → x.deadline ≤ s.clock.now →
    exec .stagingLeaseExpiry s = .next { s with stg.session := none }) ∧
  (∀ (s : State) (c : Commit), s.stg.commit = some c → c.switched = false → c.switchAt ≤ s.clock.now → c.revoke = false →
    ∃ u, exec .commitSwitch s = .next u ∧ u.stg.epoch = s.stg.epoch + 1 ∧ u.stg.live = itemOver s.stg.live c.staged ∧
      u.stg.old = s.stg.live) ∧
  (∀ (s : State) (c : Commit), s.stg.commit = some c → c.switched = false → c.switchAt ≤ s.clock.now →
    exec .commitSwitch s = .next (((s.install c).q.ops.map (·.tag)).foldl State.revokeOne (s.install c))) ∧
  (∀ (s : State) (tag : Nat) (o : Op), s.op tag = some o →
    (s.revoked o = true → s.revokeOne tag = s.stopAny tag .staleEpoch) ∧ (s.revoked o = false → s.revokeOne tag = s)) ∧
  (∀ (s : State) (c : Commit), s.stg.commit = some c → c.switched = true →
    (∀ o ∈ s.q.ops, o.epoch < s.stg.epoch → o.tag = c.tag) →
    exec .commitDrainEnd s = .next ((({ s with stg.commit := none, stg.old := [] } : State).setOp c.tag (fun o => { o with
      unitsDone := 2, status := .ok, finished := true })).finalise c.tag))

/-- R94 to R97, R502: CREATE_NAMESPACE puts a namespace of the described geometry at the lowest free index, with a new generation;
QUERY_NAMESPACE writes its record; SET_NAMESPACE changes loss class, lowest tier and AUTOSEAL; DELETE_NAMESPACE is long, and its
namespace is dead from then on. Log entries 56 and 146 mark the choices of the model in it. -/
def Obligations.NamespaceCommands : Prop :=
  (∀ (s t w : State) (c : Cmd) (o : Op) (i group gen h : Nat) (n : Namespace), s.begins 0x20 c = some (o, t) →
    o.nsFieldsOk = true → partValid t.stg.live (o.p 18 1) = true → t.codebookOk o = true → t.pierMaskOk o = true →
    (o.p 14 1 = 8 → t.stripeOk o = true) → (o.expert = true → expertOn (t.itemsOf o) (o.p 18 1) = true) →
    t.mayPart (t.opFn o) (o.p 18 1) = true → lowestFree (t.store.namespaces.map (·.index)) 0 4096 = some i →
    t.chooseGroup (o.p 18 1) (o.p 23 1) = some (group, w) → gen = nextGen 20 (assoc w.store.nsGens i 0) →
    n = o.newNs i gen group 0 (o.p 14 1 == 8) false → h = (if o.p 14 1 = 8 then w.holdersFor n.salt n.params else 1) →
    exec (.createNamespace c) s = .next (((({ w with
      store.namespaces := w.store.namespaces ++ [{ n with
        holders := h, gstate := if o.p 14 1 = 8 ∧ h % 256 ≠ 255 then .forming else .active }]
      store.nsGens := assocSet w.store.nsGens i gen } : State).tellNamespace n true).regroup).finish o.tag .ok
        (mkHandle 12 i gen))) ∧
  (∀ (s t : State) (c : Cmd) (o : Op) (n : Namespace), s.begins 0x21 c = some (o, t) → t.nsAny o.handle = some n →
    (∀ x ∈ t.q.ops, x.opcode = 0x21 → x.handle = o.handle → x.tag ≠ o.tag → x.order < o.order → x.finished = true) →
    t.mayPart (t.opFn o) n.partition = true →
    exec (.deleteNamespace c) s = .next (State.settle o.tag (.long 0xFFFFFFFF 0 (t.killNs n)))) ∧
  (∀ (s : State) (n : Namespace), s.killNs n =
    ((s.updNs n.index (fun n => { n with deleting := true })).tellNamespace n false).regroup) ∧
  (∀ (s t w : State) (c : Cmd) (o : Op) (n : Namespace), s.begins 0x22 c = some (o, t) → t.nsAny o.handle = some n →
    t.wrote o o.buf (t.nsRecord n) = some w → exec (.queryNamespace c) s = .next (w.finish o.tag .ok 0)) ∧
  (∀ (s t : State) (c : Cmd) (o : Op) (n : Namespace), s.begins 0x23 c = some (o, t) → o.work = .nothing → t.nsAny o.handle = some n →
    o.p 8 1 < 2 → o.p 9 1 < (if o.p 8 1 = 1 then 2 else 4) → o.p 10 1 < 2 → t.mayPart (t.opFn o) n.partition = true →
    exec (.setNamespace c) s = .next (((((t.updNs n.index (fun _ => { n with
      dropClass := o.p 8 1 == 1, lowest := o.p 9 1, autoseal := o.p 10 1 == 1
      initialTier := min n.initialTier (o.p 9 1) })).raiseBelow n (o.p 9 1)).sealChains n).finish o.tag .ok 0)))

/-- R103, R106 to R110: a store to a tail window writes the uncommitted bytes of its slot; a store of N commits as APPEND_COMMIT
does; a slot whose rebinding has ended takes stores again. R104, R105, R115: a snapshot or a pin whose time has come lets its
blocks go. Log entries 64 and 90 mark the choices of the model in it. -/
def Obligations.WindowsAndExpiry : Prop :=
  ((∀ (s u : State) (src : Source) (addr h : Nat) (bytes : List Byte), u = s.wake.bumpAt 0x201 1 none (s.wake.hostOfSrc src) →
    s.wake.servesMemory = true → s.wake.shutOut src = false → u.admitted src addr bytes.length true = some h →
    u.clearWay src.link h addr true →
    exec (.tailWindowStore src addr bytes) s = .next ((u.useCap h true).landStore ⟨src, h, addr, .write bytes false⟩ bytes false)) ∧
  (∀ (s u : State) (src : Source) (addr h value : Nat), u = s.wake.bumpAt 0x201 1 none (s.wake.hostOfSrc src) →
    s.wake.servesMemory = true → s.wake.shutOut src = false → u.admitted src addr 8 true = some h →
    u.clearWay src.link h addr true →
    exec (.controlPageNStore src addr value) s = .next ((((u.useCap h true).storeN addr value).respond src.link addr 0).emit
      (.cxlDone h addr (((u.useCap h true).storeN addr value).devLoad src.link)))) ∧
  (∀ (s : State) (r : HeldReq) (bytes : List Byte) (p : Bool) (c : Chain) (n : Namespace) (off : Nat),
    s.windowAt r.addr = some (c, n, off) → off < 2 * n.slotS →
    s.landStore r bytes p = ((s.slotStore c n r.addr (off / n.slotS) (off % n.slotS) bytes p).respond r.src.link r.addr 0).emit
      (.cxlDone r.host r.addr ((s.slotStore c n r.addr (off / n.slotS) (off % n.slotS) bytes p).devLoad r.src.link))) ∧
  (∀ (s : State) (addr value : Nat) (c : Chain) (n : Namespace), s.windowAt addr = some (c, n, 2 * n.slotS) →
    (∀ t, s.advance n c.slot value = .ok t → s.storeN addr value = t) ∧
    (∀ st, s.advance n c.slot value = .error st → s.storeN addr value = s.windowDiscard c n addr st)) ∧
  (∀ (s : State) (chain slot : Nat) (c : Chain) (n : Namespace) (w : Window) (r : Nat × Nat), s.chainAt chain = some c →
    s.chainNs c = some n → c.window = some w → w.rebinding.find? (·.1 == slot) = some r →
    s.recalling (w.base + slot * n.slotS) n.slotS = false ∨ r.2 ≤ s.clock.now →
    exec (.tailRebindEnd chain slot) s = .next (s.updChain chain (fun c => { c with
      window := some { w with rebinding := w.rebinding.filter (·.1 != slot) } })))) ∧
  ((∀ (s : State) (slot : Nat), exec (.snapshotExpiry slot) s = .next ({ s with
    store.snapshots := upd
      (fun x : Snapshot => x.slot == slot && !x.expired && x.expires.any (fun t => decide (t ≤ s.clock.now)))
      (fun x : Snapshot => { x with expired := true, view := { x.view with refs := [], unsealed := [], tail := none } })
      s.store.snapshots } : State).gc) ∧
  (∀ (s : State) (slot : Nat), exec (.pinExpiry slot) s = .next ({ s with
    store.pins := s.store.pins.filter (fun p => !(p.slot == slot && decide (p.expires ≤ s.clock.now))) } : State).gc))

/-- R102, R104, R115 to R120: opening, committing, forking, snapshotting, truncating, pinning, releasing, mapping and querying
chains. Log entries 54, 56, 58, 65 and 144 mark the choices of the model in it. -/
def Obligations.ChainCommands : Prop :=
  (∀ (s t u : State) (c : Cmd) (o : Op) (n : Namespace) (h : Nat), s.begins 0x38 c = some (o, t) → t.nsAny o.handle = some n →
    n.active = true → o.p 24 4 = 0 → o.p 8 16 = 0 → t.openChain n [] = some (h, u) →
    exec (.openChain c) s = .next (u.finish o.tag .ok h)) ∧
  (∀ (s t u : State) (c : Cmd) (o : Op) (n : Namespace) (b : Block) (refs : List BRef) (h : Nat), s.begins 0x38 c = some (o, t) →
    t.nsAny o.handle = some n → n.active = true → o.p 24 4 = b.k + 1 → t.findKey n (BitVec.ofNat 128 (o.p 8 16)) = some b →
    t.refsAt n [] b (o.p 24 4) = some refs → t.openChain n refs = some (h, u) →
    exec (.openChain c) s = .next ((u.touchAll (refs.filterMap BRef.block)).finish o.tag .ok (h + o.p 24 4 * 2 ^ 32))) ∧
  (∀ (s t : State) (c : Cmd) (o : Op) (n : Namespace), s.begins 0x38 c = some (o, t) → t.nsAny o.handle = some n →
    n.active = true → o.p 24 4 ≠ 0 → t.findKey n (BitVec.ofNat 128 (o.p 8 16)) = none →
    exec (.openChain c) s = .next (t.finish o.tag .versionGone 0)) ∧
  (∀ (s t u : State) (c : Cmd) (o : Op) (n : Namespace) (x : Chain), s.begins 0x3A c = some (o, t) → t.onChainOf o n x →
    t.advance n x.slot (o.p 12 4) = .ok u → exec (.appendCommit c) s = .next (u.finish o.tag .ok (o.p 12 4))) ∧
  (∀ (s t u : State) (c : Cmd) (o : Op) (n : Namespace) (v : View) (slot gen : Nat), s.begins 0x3C c = some (o, t) →
    t.onVersion o n v → (v.n / n.geo.b < v.refs.length → v.n % n.geo.b ≠ 0 → (v.blockAt (v.n / n.geo.b)).isSome) →
    (t.forkSource n v).1.length ≤ 1024 →
    (t.setOp o.tag (fun o => { o with view := some v })).newChainSlot = some (slot, gen) →
    ((t.setOp o.tag (fun o => { o with view := some v })).addChain slot gen
      ⟨n.index, n.gen, (t.forkSource n v).1, [], none, v.n, 1⟩ none).forkEnd n v slot = some u →
    exec (.fork c) s = .next (u.finish o.tag .ok (mkHandle 20 slot gen))) ∧
  (∀ (s t u : State) (c : Cmd) (o : Op) (n : Namespace) (v : View) (slot gen id : Nat), s.begins 0x3C c = some (o, t) →
    t.onVersion o n v →
    (v.n / n.geo.b < v.refs.length → v.n % n.geo.b ≠ 0 → (v.blockAt (v.n / n.geo.b)).isSome) →
    1024 < (t.forkSource n v).1.length →
    (t.setOp o.tag (fun o => { o with view := some v })).newChainSlot = some (slot, gen) →
    (t.setOp o.tag (fun o => { o with view := some v })).openBlock n 0 = some (id, u) →
    exec (.fork c) s = .next (State.settle o.tag (.long (cdiv (t.forkSource n v).1.length 1024 + 1) (mkHandle 20 slot gen)
      (u.addChain slot gen ⟨n.index, n.gen, [], [], some id, 0, 1⟩ (some o.tag))))) ∧
  (∀ (s t u : State) (c : Cmd) (o : Op) (n : Namespace) (x : Chain) (h len : Nat), s.begins 0x3D c = some (o, t) →
    t.onChainOf o n x → len = (if o.p 12 4 = 0xFFFFFFFF then x.view.n else o.p 12 4) → len ≤ x.view.n →
    t.addSnapshot (x.view.cut n.geo.b len) (if o.p 16 4 = 0 then none else some (t.clock.now + o.p 16 4 * 1000000)) false =
      some (h, u) →
    exec (.openSnapshot c) s = .next ((u.touchAll (x.view.cut n.geo.b len).blocks).finish o.tag .ok
      (h + (x.view.cut n.geo.b len).version % 2 ^ 32 * 2 ^ 32))) ∧
  (∀ (s t base u w : State) (c : Cmd) (o : Op) (n : Namespace) (x : Chain) (k id : Nat) (src : Option Block),
    s.begins 0x3E c = some (o, t) → t.onChainOf o n x → o.p 12 4 ≤ x.view.n → k = o.p 12 4 / n.geo.b →
    src = (if o.p 12 4 % n.geo.b = 0 then none else t.cutBlock n x.view k) →
    missingOf (fun i => (i < min k x.view.refs.length && (t.cutRefs n x.view k).2 i) ||
      (i = k && o.p 12 4 % n.geo.b != 0 && src.isNone)) 0 (k + 1) = none →
    base = (t.updChain x.slot (fun y => { y with
      view.refs := (t.cutRefs n x.view k).1.take (min k x.view.refs.length)
      view.unsealed := x.view.unsealed.take (k - x.view.refs.length)
      view.tail := none
      view.n := o.p 12 4
      view.version := x.view.version + 1
      next := none })).gc →
    (match src with
      | some b => base.copyBlock n b k (o.p 12 4 % n.geo.b)
      | none => base.openBlock n k) = some (id, u) →
    (u.updChain x.slot (fun y => { y with view.tail := some id })).rebindBoth n x.slot k = some w →
    exec (.truncate c) s = .next ((w.touchControl x n).finish o.tag .ok (x.view.version + 1))) ∧
  (∀ (s t : State) (c : Cmd) (o : Op) (n : Namespace) (v : View) (i : Nat), s.begins 0x3F c = some (o, t) → t.onVersion o n v →
    o.expert = false → 1 ≤ o.p 16 4 → o.p 16 4 ≤ 3600000 →
    lowestFree (t.store.pins.map (·.slot)) 0 (min 65536 (t.store.pins.length + 1)) = some i →
    exec (.pin c) s = .next (({ t with
      store.pins := t.store.pins ++ [Pin.mk i (nextGen 16 (assoc t.store.pinGens i 0))
        ((List.range (v.count n.geo.b)).filterMap (fun k => v.blockAt k)) (t.clock.now + o.p 16 4 * 1000000) none n.partition n.handle]
      store.pinGens := assocSet t.store.pinGens i (nextGen 16 (assoc t.store.pinGens i 0)) }).finish o.tag .ok
        (mkHandle 16 i (nextGen 16 (assoc t.store.pinGens i 0))))) ∧
  (∀ (s t : State) (c : Cmd) (o : Op) (n : Namespace) (x : Chain), s.begins 0x40 c = some (o, t) → t.onChainOf o n x →
    o.p 12 1 = 0 → exec (.release c) s = .next (({ t.dropWindow x n with
      store.chains := (t.dropWindow x n).store.chains.filter (fun y => y.slot != x.slot) } : State).gc.finish o.tag .ok 0)) ∧
  (∀ (s t : State) (c : Cmd) (o : Op) (n : Namespace) (p : Pin), s.begins 0x40 c = some (o, t) → t.nsAny o.handle = some n →
    o.p 12 1 = 2 → t.store.pins.find? (fun p => mkHandle 16 p.slot p.gen == o.p 8 4 && p.ns == n.handle) = some p →
    exec (.release c) s = .next (({ t with
      store.pins := t.store.pins.filter (fun y => y.slot != p.slot) } : State).gc.finish o.tag .ok 0)) ∧
  (∀ (s t : State) (c : Cmd) (o : Op) (n : Namespace) (x : Snapshot), s.begins 0x40 c = some (o, t) →
    t.nsAny o.handle = some n → o.p 12 1 = 1 → t.snapOf n (o.p 8 4) = some x →
    exec (.release c) s = .next (({ t with
      store.snapshots := t.store.snapshots.filter (fun y => y.slot != x.slot) } : State).gc.finish o.tag .ok 0)) ∧
  (∀ (s t : State) (c : Cmd) (o : Op) (n : Namespace) (x : Chain), s.begins 0x41 c = some (o, t) → t.onChainOf o n x →
    o.p 16 8 = 0 → exec (.mapTail c) s = .next ((t.unmapWindow x n).gc.finish o.tag .ok 0)) ∧
  (∀ (s t u : State) (c : Cmd) (o : Op) (n : Namespace) (x : Chain) (e : Extent) (id : Nat), s.begins 0x41 c = some (o, t) →
    t.onChainOf o n x → o.p 16 8 ≠ 0 → o.p 16 8 % 4096 = 0 → t.extentAt (o.p 16 8) n.windowBytes = some e →
    e.partition = n.partition → e.isActive = true → t.fnCovers (t.opFn o) (o.p 16 8) n.windowBytes true = true →
    (∀ y ∈ t.store.chains, y.slot ≠ x.slot → y.window = none) →
    (match x.next with
      | some id => some (id, t.unmapWindow x n)
      | none => (t.unmapWindow x n).openBlock n (x.view.refs.length + x.view.unsealed.length + 1)) = some (id, u) →
    exec (.mapTail c) s = .next ((((u.recallRange (o.p 16 8) n.windowBytes false).mapOver (o.p 16 8) n.windowBytes).updChain x.slot
      (fun y => { y with window := some ⟨o.p 16 8, []⟩, next := some id })).finish o.tag .ok 0)) ∧
  (∀ (s t w : State) (c : Cmd) (o : Op) (n : Namespace) (v : View), s.begins 0x42 c = some (o, t) → t.onVersion o n v →
    t.wrote o o.buf (leBytes 8 v.n ++ leBytes 8 (min v.refs.length (v.n / n.geo.b)) ++ leBytes 8 v.version ++
      leBytes 8 v.unsealed.length ++ leBytes 8 (v.refs.filter BRef.isDropped).length ++ List.replicate 24 0#8) = some w →
    exec (.chainQuery c) s = .next (w.finish o.tag .ok 0))

/-- R110 to R114, R124, Table 4-8: INSERT_BLOCK writes its rows and tokens into the chain's writable block and, with COMMIT,
advances N; with SEAL_AFTER it seals as SEAL does; with REFILL it restores a dropped block. SEAL seals the oldest full unsealed
blocks that no other operation has in hand, and answers the number of sealed blocks with its DEDUP bits. Log entries 62, 63, 66
and 145 mark the choices of the model in it. -/
def Obligations.InsertAndSeal : Prop :=
  (∀ (s t u w v : State) (c : Cmd) (o : Op) (n : Namespace) (x y : Chain) (id : Nat) (toks : List Nat) (data : List (List Byte)),
    s.begins 0x39 c = some (o, t) → o.work = .nothing → t.onChainOf o n x → o.p 18 1 < 4 → 1 ≤ o.p 16 2 →
    o.p 12 4 % n.geo.b + o.p 16 2 ≤ n.geo.b → o.p 20 2 = 0 → o.p 22 2 = n.geo.l → 1 ≤ n.geo.l →
    (2 ≤ o.p 18 1 → n.active = true) → x.view.n ≤ o.p 12 4 →
    t.writableBlock n x (o.p 12 4 / n.geo.b) = .ok (id, u) → readTokens o n u (o.p 12 4 % n.geo.b) (o.p 16 2) = .ok toks →
    readLayers o n u 0 n.geo.l = .ok data →
    w = ((u.readSource o n (o.p 12 4 % n.geo.b) (o.p 16 2) 0 n.geo.l).pagesWritten id 0 n.geo.l
      (n.geo.pageBytes n.geo.fmt * o.p 16 2 / n.geo.b)).updBlock id
        (fun b => b.insertRows n 0 (o.p 12 4 % n.geo.b) (o.p 16 2) data toks) →
    (if o.p 18 1 % 2 = 1 then w.advance n x.slot (o.p 12 4 + o.p 16 2) else .ok w) = .ok v → v.chainAt x.slot = some y →
    (o.p 18 1 < 2 ∨ n.autoseal = true → exec (.insertBlock c) s = .next (v.finish o.tag .ok y.view.n)) ∧
    (2 ≤ o.p 18 1 → n.autoseal = false → ∀ (i : Nat) (l : List Nat),
      y.view.unsealed.filter (fun i => !v.claimed1 o.tag i) = i :: l →
      exec (.insertBlock c) s = .next (State.settle o.tag (sealAnswer o (v.setOp o.tag (fun o => { o with
        work := .sealing x.slot [i] 0, result := 0 })))))) ∧
  (∀ (s t u : State) (c : Cmd) (o : Op) (n : Namespace) (x : Chain) (id ver group : Nat) (key parent : BitVec 128)
    (old toks : List Nat) (data : List (List Byte)),
    s.begins 0x39 c = some (o, t) → o.work = .nothing → t.onChainOf o n x → o.p 18 1 = 4 → n.active = true →
    o.p 12 4 % n.geo.b = 0 → o.p 16 2 = n.geo.b → 1 ≤ n.geo.b → o.p 20 2 = 0 → o.p 22 2 = n.geo.l → 1 ≤ n.geo.l →
    x.view.refs[o.p 12 4 / n.geo.b]? = some (.dropped key parent ver group old) → readTokens o n t 0 n.geo.b = .ok toks →
    readLayers o n t 0 n.geo.l = .ok data →
    (chainKey n.salt parent toks ≠ key →
      exec (.insertBlock c) s = .next ((t.readSource o n 0 n.geo.b 0 n.geo.l).finish o.tag .integrityError 0)) ∧
    (chainKey n.salt parent toks = key → (t.readSource o n 0 n.geo.b 0 n.geo.l).findKey n key = none →
      (t.readSource o n 0 n.geo.b 0 n.geo.l).openBlock n (o.p 12 4 / n.geo.b) = some (id, u) →
      exec (.insertBlock c) s = .next (State.settle o.tag (sealAnswer o (((u.pagesWritten id 0 n.geo.l
        (n.geo.pageBytes n.geo.fmt)).updBlock id (fun b => { b.insertRows n 0 0 n.geo.b data toks with
          key := key, parent := parent, groupVersion := group + 1
          sinkKey := x.view.refs.findSome? (fun r => r.block.bind (fun i =>
            ((u.pagesWritten id 0 n.geo.l (n.geo.pageBytes n.geo.fmt)).block i).bind (·.sinkKey))) })).setOp o.tag (fun o => { o with
              work := .sealing x.slot [id] 0, result := 0 }))))) ∧
    (∀ b : Block, chainKey n.salt parent toks = key → n.width = 1 →
      (t.readSource o n 0 n.geo.b 0 n.geo.l).findKey n key = some b →
      exec (.insertBlock c) s = .next (((t.readSource o n 0 n.geo.b 0 n.geo.l).updChain x.slot (fun y => { y with
        view.refs := y.view.refs.set (o.p 12 4 / n.geo.b) (.held b.id) })).finish o.tag .ok (x.view.n + 2 ^ 32)))) ∧
  (∀ (s t : State) (c : Cmd) (o : Op) (n : Namespace) (x : Chain) (ids : List Nat), s.begins 0x3B c = some (o, t) →
    o.work = .nothing → t.onChainOf o n x → 1 ≤ o.p 12 1 → o.p 12 1 ≤ 2 → n.autoseal = false → n.active = true → o.buf = 0 →
    ids = (x.view.unsealed.filter (fun i => !t.claimed1 o.tag i)).take (o.p 12 1) → ids.length = o.p 12 1 →
    exec (.seal c) s = .next (State.settle o.tag (sealAnswer o (t.setOp o.tag (fun o => { o with
      work := .sealing x.slot ids 0, result := 0 }))))) ∧
  (∀ (s u : State) (tag id i : Nat) (rest : List Nat) (o : Op) (c : Chain) (n : Namespace) (b : Block) (dup : Option Block) (k : Nat),
    s.op tag = some o → o.work = .sealing c.slot (id :: rest) i → s.chainAt c.slot = some c → s.sealTurn tag c id = some id →
    s.block id = some b → s.chainNs c = some n → b.tokensBad = false → n.width = 1 →
    u = (if c.view.unsealed.contains id then s.keyBlock n c id (b.tokenIds n.geo.b) else s) →
    dup = (u.block id).bind (fun b => u.findKey n b.key) →
    sealLoop tag s (k + 1) =
      sealLoop tag ((u.finishSeal n c.slot id (dup.map (·.id)) true).setOp tag (fun o => o.sealed1 dup.isSome)) k) ∧
  (∀ (s t : State) (o p : Op) (slot i : Nat) (c : Chain), sealLoop o.tag s 3 = .done t → t.op o.tag = some p →
    p.work = .sealing slot [] i → t.chainAt slot = some c →
    sealAnswer o s = .done .ok (p.result + if p.opcode = 0x3B then c.view.refs.length else c.view.n) t) ∧
  (∀ (s t : State) (tag k slot i : Nat) (o : Op), s.op tag = some o → o.work = .sealing slot [] i → sealLoop tag s (k + 1) = .done t →
    t = s)

/-- Tables 5-6 to 5-10, R133, R134: a load is accepted and shown as BUSY, its end shows DONE with its code, and an unload ends at
once. -/
def Obligations.CodebookLoader : Prop :=
  (∀ (s : State) (f : Fn) (tee : Bool) (v : Nat) (l : Loader), s.wake.hears f tee = true → s.wake.loaderGo f v = some l →
    s.wake.loaderRefuses l = none →
    exec (.codebookLoad ⟨f, tee⟩ v) s = .next { s.wake.setLoader l with store.loads := (s.wake.setLoader l).store.loads ++ [f] }) ∧
  (∀ (s : State) (f : Fn) (tee : Bool) (v : Nat) (l : Loader), s.wake.hears f tee = true → s.wake.loaderGo f v = some l →
    s.wake.loaderRefuses l = none → exec (.codebookUnload ⟨f, tee⟩ v) s =
      .next ((((s.wake.setLoader l).unloadSet l).2.loaderEnd f ((s.wake.setLoader l).unloadSet l).1 none))) ∧
  (∀ (s : State) (f : Fn) (rest : List Fn), s.store.loads = f :: rest → s.loaderRefuses (s.loader f) = none →
    exec .codebookLoadEnd s =
      .next ((s.loadSet (s.loader f)).2.2.loaderEnd f (s.loadSet (s.loader f)).1 (s.loadSet (s.loader f)).2.1))

/-- R157, R159 to R163: a probe that has stopped by itself, or a short one whose one unit has run, ends as probeEnd says: without
OPEN and without a location buffer it answers depth, cause, slowest tier and false hits, and with OPEN the depth and a new chain
of the blocks that it found; one of more than 256 blocks is long, with one unit for every 256. Log entry 70 marks the choice of
the model in it. -/
def Obligations.ProbeUnits : Prop :=
  (∀ (s t : State) (c : Cmd) (o : Op) (n : Namespace) (r : ProbeRun) (u : State), s.begins 0x30 c = some (o, t) →
    t.nsAny o.handle = some n → o.probeBad n = false → n.active = true → 256 < o.probeBlocks n.geo.b →
    (t.bumpAt 0x040 1 (some n.partition) (some n.index)).probeStart o n = (r, u) →
    exec (.probe c) s = .next (State.settle o.tag (.long (cdiv (o.probeCap n.geo.b) 256) 0
      (u.setOp o.tag (fun o => { o with work := .probe r }))))) ∧
  (∀ (s t : State) (c : Cmd) (o : Op) (n : Namespace) (r r' : ProbeRun) (u u' : State), s.begins 0x30 c = some (o, t) →
    t.nsAny o.handle = some n → o.probeBad n = false → n.active = true → o.probeBlocks n.geo.b ≤ 256 →
    (t.bumpAt 0x040 1 (some n.partition) (some n.index)).probeStart o n = (r, u) →
    ((r.stop.isSome = true ∧ r' = r ∧ u' = u) ∨ (r.stop.isSome = false ∧ probeUnit o n r u = .ok (r', u'))) →
    exec (.probe c) s = .next (State.settle o.tag (probeEnd o n r' u'))) ∧
  (∀ (s : State) (o : Op) (n : Namespace) (r : ProbeRun), o.probeOpens = false → o.p 40 8 = 0 →
    probeEnd o n r s = .done .ok (probeResult (r.depth n (o.p 12 4)) (r.cause o n (r.depth n (o.p 12 4)))
      (r.slowest (o.p 12 4) (r.depth n (o.p 12 4))) r.falseHits) s) ∧
  (∀ (s t : State) (o : Op) (n : Namespace) (r : ProbeRun) (b : Block) (d h : Nat) (refs : List BRef), o.probeOpens = true →
    o.p 40 8 = 0 → d = r.depth n (o.p 12 4) → d ≠ 0 → r.last s (o.p 12 4) d = some b →
    s.refsAt n (r.parent.toList ++ r.found.filterMap (·.block)) b d = some refs → s.openChain n refs = some (h, t) →
    probeEnd o n r s = .done .ok (d + h * 2 ^ 32) t) ∧
  (∀ (s t : State) (c : Cmd) (o : Op) (n : Namespace), s.begins 0x30 c = some (o, t) → t.nsAny o.handle = some n →
    o.probeBad n = false → n.active = false → exec (.probe c) s = .next (State.settle o.tag (probeCapped o n t)))

/-- R145, R158, R164 to R176, R182: searches, tags and evictions of the native index, and the bank commands: the record of every
bank, a global mask, a group formed of free banks and one dissolved. Log entries 5, 24, 27 and 70 mark the choices of the model in
it. -/
def Obligations.IndexCommands : Prop :=
  (∀ (s t : State) (c : Cmd) (o : Op) (n : Namespace), s.begins 0x31 c = some (o, t) → t.nsAny o.handle = some n →
    o.p 24 1 < 2 → (o.p 24 1 = 1 → n.entryWidth = 2) → o.p 25 1 < 2 → (o.p 25 1 = 1 → n.active = true) →
    (o.p 24 1 = 1 ∨ n.entryWidth ≠ 4 ∨ o.buf = 0) →
    exec (.lookup c) s = .next (State.settle o.tag (lookup o n 0 t))) ∧
  (∀ (s t : State) (c : Cmd) (o : Op) (n : Namespace) (l : List Byte), s.begins 0x31 c = some (o, t) →
    t.nsAny o.handle = some n → o.p 24 1 = 2 → n.entryWidth = 4 → o.p 25 1 < 2 → (o.p 25 1 = 1 → n.active = true) →
    t.got o o.buf 32 = some l → leNat l ≠ 0 →
    exec (.lookup c) s = .next (State.settle o.tag ((lookup o n (leNat l) t).after (fun w => w.readFor o o.buf 32)))) ∧
  (∀ (s t u : State) (o : Op) (n : Namespace) (es : List Entry) (k : Nat), o.p 24 1 = 0 →
    t.searchKey n (BitVec.ofNat 128 (o.p 8 16)) (if n.entryWidth = 2 then o.p 28 4 else 0) 0 = (es, k, u) →
    s = u.bumpAt 0x04F 1 (some n.partition) (some n.index) →
    (es = [] → lookup o n 0 t = .done .ok 0 s) ∧
    (∀ (e : Entry) (b : Block), es = [e] → s.firstBad (s.ptrBlocks e.ptr) false = none →
      ((s.ptrBlocks e.ptr).filterMap s.block).find? (lookupPasses o n 0) = some b → o.p 25 1 = 0 →
      lookup o n 0 t = .done .ok (b.k + 1 + b.slowest * 2 ^ 32 + min 255 k * 2 ^ 40)
        ((s.touch b.id).updBlock b.id (fun b => { b with lastHit := s.clock.now }))) ∧
    (∀ e : Entry, es = [e] → s.firstBad (s.ptrBlocks e.ptr) false = none →
      ((s.ptrBlocks e.ptr).filterMap s.block).find? (lookupPasses o n 0) = none →
      lookup o n 0 t = .done .ok 0 (s.bump 0x043 1))) ∧
  (∀ (s t : State) (c : Cmd) (o : Op) (n : Namespace) (x : Chain) (id : Nat) (b : Block) (e : Entry),
    s.begins 0x32 c = some (o, t) → t.onChainOf o n x → o.p 16 1 = 1 → n.entryWidth = 2 →
    x.view.refs[o.p 12 4]? = some (.held id) → t.block id = some b → t.entryOf b = some e →
    exec (.indexTag c) s = .next (((t.updBlock id (fun _ => { b with segment := o.p 20 4 })).swapEntry e
      (({ b with segment := o.p 20 4 } : Block).nativeKey n) e.ptr e.prio (n.width != 8)).finish o.tag .ok 0)) ∧
  (∀ (s t : State) (c : Cmd) (o : Op) (n : Namespace) (x : Chain) (first count : Nat), s.begins 0x33 c = some (o, t) →
    t.onChainOf o n x → evictNames o n x.view = some (first, count) →
    (count ≤ 1024 → exec (.indexEvict c) s = .next ((t.evictRange n (x.view.heldIn first count)).2.finish o.tag .ok
      (t.evictRange n (x.view.heldIn first count)).1)) ∧
    (1024 < count → exec (.indexEvict c) s = .next (State.settle o.tag (.long (cdiv count 1024) 0
      (t.setOp o.tag (fun o => { o with view := some x.view })))))) ∧
  (∀ (s t w : State) (c : Cmd) (o : Op), s.begins 0x37 c = some (o, t) → o.expert = true → o.p 8 1 = 0 →
    t.wrote o o.buf ((List.range 256).flatMap t.bankRecord) = some w →
    exec (.indexBanks c) s = .next (w.finish o.tag .ok 0)) ∧
  (∀ (s t : State) (c : Cmd) (o : Op) (b : List Byte), s.begins 0x37 c = some (o, t) → o.expert = true → o.p 8 1 = 1 →
    4 ≤ o.p 9 1 → o.p 9 1 ≤ 7 → t.got o o.buf 40 = some b →
    exec (.indexBanks c) s = .next ((({ t with idx.masks := assocSet t.idx.masks (o.p 9 1) (leNat b) } : State).readFor o
      o.buf 40).finish o.tag .ok 0)) ∧
  (∀ (s t : State) (c : Cmd) (o : Op) (b : List Byte) (banks : List Nat) (num : Nat), s.begins 0x37 c = some (o, t) →
    o.expert = true → o.p 8 1 = 2 → (o.p 10 1 = 1 ∨ o.p 10 1 = 2 ∨ o.p 10 1 = 4) → o.p 11 1 ≤ 8 →
    partValid (t.itemsOf o) (o.p 12 1) = true → t.mayPart (t.opFn o) (o.p 12 1) = true →
    t.got o o.buf (2 * 2 ^ o.p 11 1) = some b → banks = (chunks 2 (2 ^ o.p 11 1) b).map leNat →
    (∀ x ∈ banks, x < 256 ∧ t.partBankOk (o.p 12 1) x = true ∧ t.bankIsFree x = true) → banks.eraseDups.length = banks.length →
    lowestFree (t.idx.groups.map (·.num)) 0 64 = some num →
    exec (.indexBanks c) s = .next ((({ t with
      idx.banks := banks.map (fun b => Bank.mk b .native (o.p 10 1) (o.p 12 1) num false) ++
        t.idx.banks.filter (fun b => !banks.contains b.num)
      idx.groups := t.idx.groups ++ [⟨num, banks, o.p 10 1, o.p 12 1⟩] } : State).readFor o o.buf
        (2 * 2 ^ o.p 11 1)).finish o.tag .ok num)) ∧
  (∀ (s t : State) (c : Cmd) (o : Op) (g : BankGroup), s.begins 0x37 c = some (o, t) → o.expert = true → o.p 8 1 = 3 →
    t.idx.groups.find? (·.num == o.p 13 1) = some g → t.mayPart (t.opFn o) g.partition = true →
    (∀ n ∈ t.store.namespaces, n.group ≠ g.num) → (∀ b ∈ g.banks, t.bankList b = []) →
    exec (.indexBanks c) s = .next ((t.dissolveGroup g.num).finish o.tag .ok 0))

/-- R183 to R189: a forerunner region is created on free banks, queried, written, searched and deleted bank by bank. Log entries
29 and 30 mark the choices of the model in it. -/
def Obligations.ForerunnerCommands : Prop :=
  (∀ (s t : State) (c : Cmd) (o : Op) (d f gen : Nat) (r : Region), s.begins 0x34 c = some (o, t) → o.p 8 1 = 0 →
    o.p 9 1 < 16 → (∀ x ∈ t.idx.regions, x.num ≠ o.p 9 1) → 1 ≤ o.p 12 1 → o.p 12 1 ≤ 64 →
    (o.p 13 1 = 1 ∨ o.p 13 1 = 2 ∨ o.p 13 1 = 4) → 3 ≤ o.p 14 1 → o.p 14 1 ≤ 8 → (o.p 10 1 < 4 ∨ o.p 10 1 = 0xFF) →
    (o.p 11 1 + o.p 12 1 ≤ 64 ∨ o.p 11 1 = 0xFF) → partValid (t.itemsOf o) (o.p 15 1) = true →
    t.mayPart (t.opFn o) (o.p 15 1) = true → t.regionPlace (o.p 10 1) (o.p 11 1) (o.p 12 1) (o.p 15 1) = some (d, f) →
    gen = nextGen 12 (assoc t.idx.regionGens (o.p 9 1) 0) →
    r = ⟨o.p 9 1, gen, d, f, o.p 12 1, o.p 13 1, 2 ^ o.p 14 1, o.p 15 1⟩ →
    exec (.frRegion c) s = .next (({ t with
      idx.banks := (List.range (o.p 12 1)).map (fun i => Bank.mk (r.base + i) .forerunner (o.p 13 1) (o.p 15 1) (o.p 9 1) false) ++
        t.idx.banks.filter (fun b : Bank => !r.holds b.num)
      idx.regions := t.idx.regions ++ [r]
      idx.regionGens := assocSet t.idx.regionGens (o.p 9 1) gen }).finish o.tag .ok r.handle)) ∧
  (∀ (s t : State) (c : Cmd) (o : Op) (r : Region), s.begins 0x35 c = some (o, t) → t.regionOf (o.p 8 2) = some r →
    (t.regionList r).any (fun e => r.posOf e == o.p 12 4) = true →
    (o.p 10 1 = 2 → exec (.frWrite c) s = .next ((t.setRegionList r
      ((t.regionList r).filter (fun e => r.posOf e != o.p 12 4))).finish o.tag .ok (o.p 12 4))) ∧
    (o.p 10 1 = 3 → exec (.frWrite c) s = .next ((t.setRegionList r (upd (fun e => r.posOf e == o.p 12 4)
      (fun e => { e with ptr := o.p 20 4 }) (t.regionList r))).finish o.tag .ok (o.p 12 4)))) ∧
  (∀ (s t : State) (c : Cmd) (o : Op) (r : Region) (b : List Byte) (h : Nat) (x k : List Entry × Nat) (pos : Nat),
    s.begins 0x35 c = some (o, t) →
    t.regionOf (o.p 8 2) = some r → o.p 10 1 < 2 → t.got o o.buf (20 * r.width) = some b →
    (t.regionList r).length < r.cap → (∀ i, i < r.banks → (t.bank (r.base + i)).lost = false) →
    r.nearHole ((t.regionList r).map r.posOf) (r.target (t.regionList r) (o.p 16 2) (o.p 10 1 == 1)) 0
      ((t.regionList r).length + 2) = some h →
    r.insertAt (t.regionList r) ⟨0, 0, (frImage r.width b).1, (frImage r.width b).2, o.p 16 2, o.p 20 4⟩
      (r.target (t.regionList r) (o.p 16 2) (o.p 10 1 == 1)) h = (x.1, pos, x.2) →
    k = r.keep x.1 x.2 ((t.regionList r).length + 2) →
    exec (.frWrite c) s = .next ((((t.setRegionList r k.1).bump 0x049 k.2).readFor o o.buf (20 * r.width)).finish o.tag .ok
      (pos + x.2 % 2 ^ 16 * 2 ^ 32))) ∧
  (∀ (s t : State) (c : Cmd) (o : Op) (r : Region) (b : List Byte) (e : Entry), s.begins 0x35 c = some (o, t) →
    t.regionOf (o.p 8 2) = some r → o.p 10 1 = 4 → t.got o o.buf (20 * r.width) = some b →
    (t.regionList r).find? (fun e => e.hits (frImage r.width b).1 (frImage r.width b).2) = some e →
    exec (.frWrite c) s = .next (((t.setRegionList r ((t.regionList r).filter (fun x => r.posOf x != r.posOf e))).readFor o o.buf
      (20 * r.width)).finish o.tag .ok (r.posOf e))) ∧
  (∀ (s t u : State) (c : Cmd) (o : Op) (r : Region), s.begins 0x36 c = some (o, t) → t.regionOf (o.p 8 2) = some r →
    t.idx.cascade.waiting.any (·.tag == o.tag) = false → o.p 10 1 = 0 → o.p 11 1 < 8 → r.width = 1 → o.buf = 0 →
    u = ((List.range r.banks).foldl (fun s i => s.searched (r.base + i)) t).bump 0x048 1 →
    exec (.frSearch c) s = .next ((u.finish o.tag .ok (u.frFind r (o.p 16 10) (u.globalMask (o.p 11 1) 1)).2).cascadeRun
      (u.finish o.tag .ok (u.frFind r (o.p 16 10) (u.globalMask (o.p 11 1) 1)).2).idx.cascade.waiting.length)) ∧
  (∀ (s t u : State) (c : Cmd) (o : Op) (r : Region) (b : List Byte), s.begins 0x36 c = some (o, t) →
    t.regionOf (o.p 8 2) = some r → t.idx.cascade.waiting.any (·.tag == o.tag) = false → o.p 10 1 = 0 → o.p 11 1 < 8 →
    r.width ≠ 1 → o.buf ≠ 0 → t.got o o.buf (10 * (r.width - 1)) = some b →
    u = ((List.range r.banks).foldl (fun s i => s.searched (r.base + i)) t).bump 0x048 1 →
    exec (.frSearch c) s = .next (((u.readFor o o.buf (10 * (r.width - 1))).finish o.tag .ok
      (u.frFind r (o.p 16 10 + leNat b * 2 ^ 80) (u.globalMask (o.p 11 1) r.width)).2).cascadeRun
      ((u.readFor o o.buf (10 * (r.width - 1))).finish o.tag .ok
        (u.frFind r (o.p 16 10 + leNat b * 2 ^ 80) (u.globalMask (o.p 11 1) r.width)).2).idx.cascade.waiting.length)) ∧
  (∀ (s t : State) (c : Cmd) (o : Op) (r : Region), s.begins 0x34 c = some (o, t) → o.p 8 1 = 1 →
    t.idx.regions.find? (·.num == o.p 9 1) = some r → t.mayPart (t.opFn o) r.partition = true →
    exec (.frRegion c) s = .next (State.settle o.tag (.long r.banks r.handle (({ t with
      idx.regions := t.idx.regions.filter (·.num != r.num) } : State).setOp o.tag (fun o => { o with
        work := .slots ((List.range r.banks).map (fun i => r.base + i)) }))))) ∧
  (∀ (s t w : State) (c : Cmd) (o : Op) (r : Region), s.begins 0x34 c = some (o, t) → o.p 8 1 = 2 →
    t.idx.regions.find? (·.num == o.p 9 1) = some r → t.mayPart (t.opFn o) r.partition = true →
    t.wrote o o.buf (t.regionRecord r) = some w → exec (.frRegion c) s = .next (w.finish o.tag .ok r.handle)) ∧
  (∀ (s : State) (o : Op) (b : Nat) (rest : List Nat) (t : State), o.work = .slots (b :: rest) →
    t = ({ s with
      idx.entries := s.idx.entries.filter (·.bank != b)
      idx.banks := s.idx.banks.filter (fun x => x.num != b || x.lost) } : State).setOp o.tag (fun o => { o with
        work := .slots rest }) →
    unitFrRegion o s = if rest = [] then .last .ok o.result (o.unitsDone + 1) t else .more o.result (o.unitsDone + 1) t)

/-- R177 to R181, R189 to R192: the events of the trestle: forced writes, the cascade's frames, its time-out and its
resynchronisation, temperatures, parity errors and the records that searches held. Log entry 76 marks the choice of the model in
it. -/
def Obligations.TrestleEvents : Prop :=
  (∀ (s : State) (port : Nat), exec (.forcedWrite port) s =
    .next (s.event ⟨0x04C, 1, none, 0x2000 + 0x100 * (port / 2) + 0x40 + port % 2, none⟩)) ∧
  (∀ (s : State) (hit seqBit guard : Bool), s.idx.cascade.enable = true → s.idx.cascade.head = false →
    s.idx.cascade.desync = false →
    (guard = true → exec (.cascadeFrameReceived hit seqBit guard) s = .next (s.desync 4)) ∧
    (guard = false → s.cascadeOps.length ≤ s.idx.cascade.frames.length →
      exec (.cascadeFrameReceived hit seqBit guard) s = .next (s.desync 3)) ∧
    (guard = false → s.idx.cascade.frames.length < s.cascadeOps.length →
      seqBit ≠ ((s.idx.cascade.expected + s.idx.cascade.frames.length) % 2 == 1) →
      exec (.cascadeFrameReceived hit seqBit guard) s = .next (s.desync 2)) ∧
    (guard = false → s.idx.cascade.frames.length < s.cascadeOps.length →
      seqBit = ((s.idx.cascade.expected + s.idx.cascade.frames.length) % 2 == 1) →
      exec (.cascadeFrameReceived hit seqBit guard) s = .next (({ s with
        idx.cascade.frames := s.idx.cascade.frames ++ [hit] } : State).cascadeRun s.idx.cascade.waiting.length))) ∧
  (∀ (s : State) (up : Bool) (x : CascadeSearch) (k : Nat), s.idx.cascade.upstream = some up →
    s.idx.cascade.waiting.find? (·.seq == s.idx.cascade.expected) = some x →
    s.cascadeRun (k + 1) = (((s.cascadePass x up).finish x.tag .ok (x.answer up)).cascadeRun k)) ∧
  (∀ (s : State) (x : CascadeSearch), x ∈ s.idx.cascade.waiting → s.idx.cascade.enable = true → s.idx.cascade.head = false →
    s.idx.cascade.frames.length ≤ (x.seq + 65536 - s.idx.cascade.expected) % 65536 → x.since + 100000 ≤ s.clock.now →
    exec .cascadeTimeout s = .next (s.desync 1)) ∧
  (∀ (s : State) (f : Fn) (tee : Bool) (v : Nat), s.hears f tee = true → s.wake.boot.link = true → s.wake.mayWrite f = true →
    bit v 31 = true → exec (.cascadeResync ⟨f, tee⟩ v) s = .next (({ s.wake with
      idx.cascade.enable := bit v 30, idx.cascade.head := bit v 29, idx.cascade.region := bits v 19 16
      idx.cascade.nextSeq := bits v 15 0 } : State).resync)) ∧
  (∀ (s : State) (die temp : Nat), ∃ u, exec (.trestleTempSample die temp) s = .next u ∧
    (assoc s.idx.bands die 0 = nextBand (assoc s.idx.bands die 0) temp → u = { s with
      idx.temps := assocSet s.idx.temps die temp
      idx.bands := assocSet s.idx.bands die (nextBand (assoc s.idx.bands die 0) temp) }) ∧
    (assoc s.idx.bands die 0 ≠ nextBand (assoc s.idx.bands die 0) temp → u = ({ s with
      idx.temps := assocSet s.idx.temps die temp
      idx.bands := assocSet s.idx.bands die (nextBand (assoc s.idx.bands die 0) temp) } : State).event
        ⟨0x04D, 1, none, 0x2000 + 0x100 * die, none⟩)) ∧
  (∀ (s u : State) (bank p : Nat) (e : Entry), (s.bankList bank).find? (·.pos == p / max 1 (s.bank bank).width) = some e →
    u = (s.loseEntry e).log ⟨.dataLoss, 0x0123, 0x2000 + 0x100 * (bank / 64) + bank % 64, none, none,
      some (e.pos * max 1 (s.bank bank).width), 0, false⟩ →
    ((u.idx.parity.filter (fun x => u.clock.now < x.2 + 1000000000)).filter (fun x => x.1 == bank)).length < 3 →
    exec (.indexParityScan bank [p]) s = .next { u with
      idx.parity := (bank, u.clock.now) :: u.idx.parity.filter (fun x => u.clock.now < x.2 + 1000000000) }) ∧
  (∀ (s : State) (r : Nat), exec (.blockRecordFree r) s =
    .next { s with idx.releasing := s.idx.releasing.filter (· != r) })

/-- R70, R201 to R215: the device's own placement: demotion above the high watermark while the tier stands above the low one, and
beyond the horizon, eviction from the footing, promotion for each of its reasons, one unit of a move, and what a moved copy
leaves. Log entries 53, 72, 149 and 151 mark the choices of the model in it. -/
def Obligations.PlacementEvents : Prop :=
  (∀ (s : State) (tier : Nat), s.boot.halted = false → (∀ p, p < 16 → quotaLimit s.stg.live p tier = 2 ^ 64 - 1) →
    s.usable tier * policyHigh s.stg.live tier < s.useAll tier * 100 →
    exec (.placementDemoteWatermark tier) s = .next (s.demoteWhile tier 0x01
      (fun u => s.usable tier * policyLow s.stg.live tier / 100 < u.stayingAll tier)
      (fun u c => u.guarantee c.part tier < u.staying c.part tier) (s.cands tier))) ∧
  (∀ (s u : State) (tier p : Nat), s.boot.halted = false → p < 16 → quotaLimit s.stg.live p tier ≠ 2 ^ 64 - 1 →
    quotaLimit s.stg.live p tier * policyHigh s.stg.live tier < s.use p tier * 100 →
    u = s.demoteWhile tier 0x01 (fun u => quotaLimit s.stg.live p tier * policyLow s.stg.live tier / 100 < u.staying p tier)
      (fun _ _ => true) ((s.cands tier).filter (fun c => c.part = p)) →
    (∀ q, q < 16 → q ≠ p → quotaLimit s.stg.live q tier = 2 ^ 64 - 1 ∧ quotaLimit u.stg.live q tier = 2 ^ 64 - 1) →
    u.useAll tier * 100 ≤ u.usable tier * policyHigh s.stg.live tier →
    exec (.placementDemoteWatermark tier) s = .next u) ∧
  (∀ (s : State) (t reason : Nat) (more : State → Bool) (ok : State → Cand → Bool) (c : Cand) (l : List Cand),
    s.demoteWhile t reason more ok (c :: l) =
      (if more s = true ∧ ok s c = true then s.demote t reason c else s).demoteWhile t reason more ok l) ∧
  (∀ (s : State) (tier : Nat), s.boot.halted = false → tier < 3 → exec (.placementDemoteHorizon tier) s =
    .next (((s.cands tier).filter (fun c => match s.candUse c with
      | some u => decide (s.clock.now + policyHorizon s.stg.live tier * 1000000 < u)
      | none => true)).foldl (fun s c => s.demote tier 0x02 c) s)) ∧
  (∀ (s : State), s.boot.halted = false → s.usable 3 * policyHigh s.stg.live 3 < s.useAll 3 * 100 →
    exec (.placementEvict 3) s = .next (s.evictUntil
      (fun s => s.useAll 3 * 100 ≤ s.usable 3 * policyLow s.stg.live 3)
      (sortBy (fun a b => !later (s.nextUse b.1) (s.nextUse a.1))
        ((s.store.blocks.filter (fun b => b.indexed && s.evictable b.id && b.slowest = 3 && !s.hinted b.id 0)).filterMap
          (fun b => (s.nsOf b).map (fun n => (b, n))))))) ∧
  (∀ (s : State) (id : Nat) (b : Block), s.boot.halted = false → s.block id = some b → b.sealed = true → 0 < b.slowest →
    (∀ m ∈ s.tiers.moves, m.blocks.contains b.id = false) →
    (s.tiers.probeHits.contains b.id = true → exec (.placementPromote .probeHit ⟨[id], []⟩) s =
      .next { s.queueMove [b.id] true 0 0x04 true with tiers.probeHits := s.tiers.probeHits.filter (fun i => !([b.id].contains i)) }) ∧
    (∀ why, why = .plan ∨ why = .reader →
      exec (.placementPromote why ⟨[id], []⟩) s = .next (s.queueMove [b.id] false 0 (whyReason why) true)) ∧
    (s.soon b = true → exec (.placementPromote .predicted ⟨[id], []⟩) s = .next (s.queueMove [b.id] false 0 0x06 false)) ∧
    (s.pinTier b.id < b.slowest → exec (.placementPromote .pin ⟨[id], []⟩) s =
      .next (s.queueMove [b.id] false (s.pinTier b.id) 0x08 true)) ∧
    (∀ h : Hint, s.tiers.hints = [h] → h.kind = 0 → exec (.placementPromote .hint ⟨[id], []⟩) s =
      .next (s.queueMove ((s.slowerThan h.blocks h.tier).filter [b.id].contains) false h.tier 0x07 true)) ∧
    (∀ n : Namespace, s.nsOf b = some n →
      exec (.placementPromote .limit ⟨[id], []⟩) s = .next (s.limitMove b.slowest (.block b n)))) ∧
  (∀ (s : State) (slot i : Nat) (w : WeightObj) (x : Tile), s.boot.halted = false → s.tileAt (slot, i) = some (w, x) →
    s.queued (.tile w x) = false →
    (x.tier ≠ 0 → exec (.placementPromote .plan ⟨[], [(slot, i)]⟩) s =
      .next (s.addMove (.ofTile w.slot x.index 0 (whyReason .plan) true true))) ∧
    (x.tier ≠ 0 → s.soonAt (some (s.tileUse x)) = true → exec (.placementPromote .predicted ⟨[], [(slot, i)]⟩) s =
      .next (s.addMove (.ofTile w.slot x.index 0 (whyReason .predicted) false true))) ∧
    exec (.placementPromote .limit ⟨[], [(slot, i)]⟩) s = .next (s.limitMove x.tier (.tile w x))) ∧
  (∀ (s : State) (task : Nat) (m : Move), s.boot.halted = false → s.boot.full = true → s.memoriesAwake = true →
    s.tiers.moves.find? (·.id == task) = some m → exec (.moveUnit task) s =
      .next (s.forTask m.task m.cls 0x3012 (.staging (s.moveHome m)) (fun s =>
        match m.leave, m.tile, m.layered, m.blocks with
        | some (blocks, rank), _, _, _ => s.leaveUnit m blocks rank
        | none, some (slot, i), _, _ => s.tileUnit m slot i
        | none, none, true, _ => s.layeredUnit m
        | none, none, false, id :: _ => s.plainUnit m id
        | none, none, false, [] => s.endMove m))) ∧
  (∀ (s : State) (task cls locus : Nat) (p : Pool) (b : BufPool) (run : State → State),
    (cls = 4 → s.busyBefore 4 = false) → s.q.granted.find? (·.1 == task) = none → s.bufPool p = some b →
    ((b.partFor (2 ^ 16 + task) cls).isSome = true → s.forTask task cls locus p run =
      run (s.setPool { b with waiters := b.waiters.filter (fun w => w.id != 2 ^ 16 + task) })) ∧
    (b.partFor (2 ^ 16 + task) cls = none → s.forTask task cls locus p run =
      s.setPool (b.wait ⟨s.clock.now, locus, 2 ^ 16 + task, cls⟩))) ∧
  (∀ (s : State) (copy : Nat), exec (.oldCopyRelease copy) s = .next { s with
    tiers.oldCopies := s.tiers.oldCopies.filter (fun c => !(c.id == copy && c.holders.isEmpty)) }) ∧
  (∀ (s : State), exec .histogramHalve s = .next { s with
    store.namespaces := s.store.namespaces.map (fun n => { n with stats.hist := n.stats.hist.map (· / 2) }) }) ∧
  (∀ (s : State) (h : Nat), exec (.hintExpiry h) s = .next { s with
    tiers.hints := s.tiers.hints.filter (fun x => !(x.id == h && decide (x.expires ≤ s.clock.now))) })

/-- R203 to R211, R246 to R248: what FETCH, DELIVER, SPILL, PROMOTE, DROP, PLACE_HINT and PLACE_REPORT do once they start. Log
entries 56, 69, 129 and 131 mark the choices of the model in it. -/
def Obligations.PlacementCommands : Prop :=
  (∀ (s t : State) (c : Cmd) (o : Op) (n : Namespace) (v : View) (first count lay layers : Nat), s.begins 0x50 c = some (o, t) →
    t.onVersion o n v → o.selects n v = some (first, count) → o.layersOf n = some (lay, layers) → o.p 28 1 < 4 →
    o.buf % 64 = 0 → t.tooEarly v first count = false →
    (64 < count → exec (.fetch c) s =
      .next (State.settle o.tag (.long count 0 (t.setOp o.tag (fun o => { o with view := some v }))))) ∧
    (∀ b p u, count ≤ 64 → (List.range count).foldl (fun a i => fetchBlock o n v first count lay layers a (first + i))
        (.go 0 0 (t.setOp o.tag (fun o => { o with view := some v }))) = .go b p u →
      exec (.fetch c) s = .next (u.finish o.tag .ok (fetchResult b p)))) ∧
  (∀ (s t : State) (c : Cmd) (o : Op) (n : Namespace) (v : View) (first count lay layers : Nat), s.begins 0x51 c = some (o, t) →
    o.work = .nothing → o.p 29 1 < 4 → o.p 28 1 < 2 → bit (o.p 29 1) 0 = false → t.onVersion o n v →
    o.selects n v = some (first, count) → o.layersOf n = some (lay, layers) → t.tooEarly v first count = false →
    n.active = true → missingResult v.refs first count = none →
    exec (.deliver c) s = .next (State.settle o.tag ((t.setOp o.tag (fun o => { o with view := some v })).startDeliver o
      (.kv n v first count) layers n.partition))) ∧
  (∀ (s t : State) (c : Cmd) (o : Op) (w : WeightObj), s.begins 0x51 c = some (o, t) → o.work = .nothing → o.p 29 1 < 4 →
    bit (o.p 29 1) 0 = true → o.handle = 0 → o.p 28 1 = 0 → o.p 12 1 = 0 → o.p 24 2 = 0 → t.weightOf (o.p 8 4) = some w →
    o.p 16 4 + o.p 20 4 ≤ w.count → t.mayPart (t.opFn o) w.partition = true → t.tilesEarly w (o.p 16 4) (o.p 20 4) = false →
    exec (.deliver c) s = .next (State.settle o.tag (t.startDeliver o (.tiles w (o.p 16 4) (o.p 20 4)) 1 w.partition))) ∧
  (∀ (s t : State) (o : Op) (x : Source2) (layers part : Nat) (p : SPort), t.port (t.portOf o (o.p 30 1)) = some p →
    (o.p 30 1 = 0xFF ∨ o.p 30 1 < 32) → (o.expert = true → o.p 31 1 < 16) → o.p 40 4 = 0 → o.buf % 64 = 0 →
    outboundDenied (t.itemsOf o) (t.portFn o (t.portOf o (o.p 30 1))) o.buf ((layers - 1) * x.y + x.y) = false →
    p.linked = true → 1 ≤ layers * x.unitsPerLayer p.unitSize →
    s = (t.setOp o.tag (fun o => { o with work := .sent [] })).queueDeliver o x layers (t.portOf o (o.p 30 1))
      ((t.setOp o.tag (fun o => { o with work := .sent [] })).queueOf o (t.portOf o (o.p 30 1)) part 1
        (if o.expert then o.p 31 1 else 0)) p.unitSize →
    t.startDeliver o x layers part = if layers * x.unitsPerLayer p.unitSize = 1 then .wait .none s
      else .long (layers * x.unitsPerLayer p.unitSize) 0 s) ∧
  (∀ (s t : State) (c : Cmd) (o : Op) (n : Namespace) (v : View) (first count : Nat), s.begins 0x52 c = some (o, t) →
    t.onVersion o n v → o.selects n v = some (first, count) → 1 ≤ o.p 28 1 → o.p 28 1 ≤ 3 → o.p 29 1 < 2 →
    o.p 28 1 ≤ n.lowest → (o.expert = true → o.p 30 1 < 4 ∨ o.p 30 1 = 0xFF) → t.boot.full = true →
    (o.p 28 1 = 2 → t.hasLease = true) → (o.p 28 1 = 3 → t.foot.sanitising = false) →
    exec (.spill c) s = .next (State.settle o.tag (.long count 0
      (t.setOp o.tag (fun o => { o with view := some { v with unsealed := [], tail := none } }))))) ∧
  (∀ (s t : State) (c : Cmd) (o : Op) (n : Namespace) (v : View) (first count lay layers : Nat), s.begins 0x53 c = some (o, t) →
    t.onVersion o n v → o.selects n v = some (first, count) → o.layersOf n = some (lay, layers) → o.p 28 1 ≤ 2 → o.p 29 1 < 2 →
    t.boot.full = true → (o.p 28 1 = 2 → t.hasLease = true) → exec (.promote c) s = .next (State.settle o.tag (.long (t.promoteUnits o v first count lay layers)
      ((((v.refs.drop first).take count).filter BRef.isDropped).length * 2 ^ 32) (t.setOp o.tag (fun o => { o with
        view := some { v with unsealed := [], tail := none }
        resume := first + (if bit (o.p 29 1) 0 then lay else 0) * 2 ^ 32 }))))) ∧
  (∀ (s t : State) (c : Cmd) (o : Op) (n : Namespace) (v : View) (first count : Nat), s.begins 0x54 c = some (o, t) →
    t.onVersion o n v → o.selects n v = some (first, count) → n.dropClass = true →
    (count ≤ 1024 → t.movedFirst o ((List.range count).filterMap (fun i => v.blockAt (first + i))) = false →
      exec (.drop c) s = .next ((t.dropList ((List.range count).filterMap (fun i => v.blockAt (first + i)))).2.finish o.tag .ok
        (t.dropList ((List.range count).filterMap (fun i => v.blockAt (first + i)))).1)) ∧
    (1024 < count → exec (.drop c) s = .next (State.settle o.tag (.long (cdiv count 1024) 0 (t.setOp o.tag (fun o => { o with
      work := .slots ((List.range count).filterMap (fun i => v.blockAt (first + i))) })))))) ∧
  (∀ (s t u : State) (c : Cmd) (o : Op) (n : Namespace) (v : View) (first count : Nat) (ids : List Nat),
    s.begins 0x55 c = some (o, t) → o.expert = true → t.onVersion o n v → o.selects n v = some (first, count) →
    ids = (List.range count).filterMap (fun i => v.blockAt (first + i)) → o.p 29 1 ≤ 3 →
    (o.p 28 1 = 3 → exec (.placeHint c) s = .next ((t.unhint (fun _ => true) ids).finish o.tag .ok ids.length)) ∧
    (o.p 28 1 < 3 → 1 ≤ o.p 40 4 → o.p 40 4 ≤ 3600000 →
      (t.unhint (fun h => h.kind != o.p 28 1) ids).tiers.hints.length < 65536 →
      u = { t.unhint (fun h => h.kind != o.p 28 1) ids with
        tiers.hints := (t.unhint (fun h => h.kind != o.p 28 1) ids).tiers.hints ++
          [⟨t.tiers.nextHint, o.p 28 1, ids, o.p 29 1, o.p 32 8, t.clock.now + o.p 40 4 * 1000000⟩]
        tiers.nextHint := t.tiers.nextHint + 1 } →
      exec (.placeHint c) s = .next ((if o.p 28 1 = 0 then u.queueMove (u.slowerThan ids (o.p 29 1)) false (o.p 29 1) 0x07 true
        else u).finish o.tag .ok ids.length))) ∧
  (∀ (s t w : State) (c : Cmd) (o : Op) (n : Namespace), s.begins 0x56 c = some (o, t) → o.p 8 1 = 2 → t.nsAny o.handle = some n →
    t.mayPart (t.opFn o) n.partition = true → t.wrote o o.buf (t.nsStats n) = some w →
    exec (.placeReport c) s = .next (w.finish o.tag .ok 0)) ∧
  (∀ (s t : State) (c : Cmd) (o : Op), s.begins 0x56 c = some (o, t) → o.handle = 0 → partValid (t.itemsOf o) (o.p 9 1) = true →
    t.mayPart (t.opFn o) (o.p 9 1) = true →
    (o.p 8 1 = 1 → exec (.placeReport c) s =
      .next (({ t with tiers.rings := t.tiers.rings.filter (·.partition != o.p 9 1) } : State).finish o.tag .ok 0)) ∧
    (o.p 8 1 = 0 → (∃ k, 6 ≤ k ∧ k ≤ 16 ∧ o.p 12 4 = 2 ^ k) → o.buf % 32 = 0 → exec (.placeReport c) s =
      .next (({ t with tiers.rings := t.tiers.rings.filter (·.partition != o.p 9 1) ++
        [⟨o.p 9 1, t.opFn o, o.buf, o.p 12 4, 0⟩] } : State).finish o.tag .ok 0)))

/-- R219 to R222, Table 7-12: the states of a lease, from the request to its end, in either role. Log entries 73, 128 and 150 mark
the choices of the model in it. -/
def Obligations.LeaseStates : Prop :=
  (∀ (s t w : State) (c : Cmd) (o : Op), s.begins 0x57 c = some (o, t) → o.wait = .none → o.p 8 1 = 0 →
    t.wrote o o.buf (((t.tiers.leases.take 16).flatMap (Lease.bytes t.clock.now)) ++ leBytes (32 * (16 - t.tiers.leases.length)) 0) = some w →
    exec (.lease c) s = .next (w.finish o.tag .ok 0)) ∧
  (∀ (s t : State) (c : Cmd) (o : Op) (l : Lease), s.begins 0x57 c = some (o, t) → o.wait = .none → o.expert = true →
    o.p 8 1 = 2 → t.lease (o.p 12 4) = some l → l.state = .active → l.borrower = false →
    exec (.lease c) s = .next (((t.reclaim l).emit (.partner l.partner msgLease none l.id)).finish o.tag .ok l.id)) ∧
  (∀ (s t : State) (c : Cmd) (o : Op) (l : Lease), s.begins 0x57 c = some (o, t) → o.wait = .none → o.expert = true →
    o.p 8 1 = 3 → t.lease (o.p 12 4) = some l → l.state = .active → l.borrower = true →
    exec (.lease c) s = .next ((((t.leaseTo l.id .returning).emit (.partner l.partner msgLease none l.id)).emptyLease l.id
      false).finish o.tag .ok l.id)) ∧
  (∀ (s t : State) (c : Cmd) (o : Op) (p : Nat), s.begins 0x57 c = some (o, t) → o.wait = .none → o.expert = true →
    o.p 8 1 = 1 → p = o.p 10 2 → p < 1024 → 1 ≤ o.p 16 4 → o.p 16 4 ≤ 65535 → 1 ≤ o.p 22 2 → o.p 22 2 ≤ 60 →
    t.lendsWith p = true → t.leaseCount true < 8 → (∀ l ∈ t.tiers.leases, l.borrower = true → l.partner ≠ p) →
    exec (.lease c) s = .next (State.settle o.tag (.wait (.lease (t.requestLease p (o.p 16 4 * 2 ^ 30) (o.p 20 2) (o.p 22 2)
      (o.p 24 4)).1) (t.requestLease p (o.p 16 4 * 2 ^ 30) (o.p 20 2) (o.p 22 2) (o.p 24 4)).2))) ∧
  (∀ (s : State) (p : Nat), policyFlag s.stg.live 3 = true → (∃ t, s.tiers.highSince = some t ∧ t + 1000000000 ≤ s.clock.now) →
    s.usable 3 * policyHigh s.stg.live 3 ≤ s.useAll 3 * 100 → s.claimed = true → s.boot.halted = false →
    s.lenderTurn = some p → s.leaseCount true < 8 →
    exec (.leaseAutoRequest p) s = .next { (s.requestLease p (policyStep s.stg.live * 2 ^ 30) 0 5 0).2 with
      tiers.nextLender := p + 1 }) ∧
  (∀ (s : State) (p id cap rate notice term : Nat), policyFlag s.stg.live 2 = true → s.claimed = true → s.boot.halted = false →
    s.lendsWith p = true → s.leaseCount false < 8 →
    s.lent + cap * 2 ^ 30 ≤ s.lendable * policyShare s.stg.live / 256 →
    exec (.leaseRequestReceived p id cap rate notice term) s = .next (((State.bump { s with tiers.leases := s.tiers.leases ++
        [Lease.mk id false .active p (cap * 2 ^ 30) rate notice term 0 s.clock.now s.clock.now s.clock.now 0] }
      0x090 1).emit (.partner p msgLease none (id + 2 ^ 32))).leaseChanged.noteShort)) ∧
  (∀ (s : State) (id : Nat) (l : Lease), s.lease id = some l → l.borrower = true → l.state = .requested →
    exec (.leaseAnswerReceived id true) s = .next ((((s.leaseTo id .active).updLease id (fun l => { l with
      since := s.clock.now, lastBeat := s.clock.now })).bump 0x090 1).answerLease id .ok) ∧
    exec (.leaseAnswerReceived id false) s = .next ((s.closeLease id).answerLease id .denied) ∧
    (l.changed + 10000000 ≤ s.clock.now →
      exec (.leaseRequestTimeout id) s = .next ((s.closeLease id).answerLease id .denied))) ∧
  (∀ (s : State) (id : Nat) (l : Lease), s.lease id = some l → l.state = .active →
    (l.borrower = true → exec (.leaseReclaimReceived id) s = .next (s.reclaim l)) ∧
    (l.term ≠ 0 → l.since + l.term * 1000000000 ≤ s.clock.now → exec (.leaseTermEnd id) s = .next (s.reclaim l)) ∧
    (l.lastBeat + 10000000 ≤ s.clock.now → exec (.leaseHeartbeatTimeout id) s = .next (s.loseLease id))) ∧
  (∀ (s : State) (id : Nat) (l : Lease), s.lease id = some l → l.state = .reclaiming →
    (l.changed + l.notice * 1000000000 ≤ s.clock.now → exec (.leaseNoticeExpiry id) s = .next (s.loseLease id)) ∧
    (l.used = 0 → exec (.leaseEmpty id) s =
      .next (((s.closeLease id).bump 0x092 1).emit (.partner l.partner msgLease none id)))) ∧
  (∀ (s : State) (id : Nat) (l : Lease), s.lease id = some l → l.state = .lost →
    exec (.leaseLostBookkeeping id) s = .next ((((if l.borrower = true then s.dropLease id else s).log
      (.plain .dataLoss 0x0501 0x3000 (some id))).closeLease id).answerLease id .denied))

/-- R223, R224, Table 7-14: a weight object is created under a binding, queried, and deleted once no operation accepted before
uses it, and its tiles are written. Log entries 6 and 74 mark the choices of the model in it. -/
def Obligations.WeightCommands : Prop :=
  (∀ (s t : State) (c : Cmd) (o : Op) (i : Nat), s.begins 0x58 c = some (o, t) → o.p 8 1 = 0 → o.p 9 1 ≤ 15 → o.p 9 1 ≠ 0xE →
    o.p 10 1 ≤ 15 → partValid (t.itemsOf o) (o.p 10 1) = true → o.p 11 1 ≤ 3 → 1 ≤ o.p 12 4 → o.p 12 4 ≤ 16777216 →
    4096 ≤ o.p 16 4 → o.p 16 4 ≤ 4 * 2 ^ 20 → o.p 16 4 % 4096 = 0 → (t.binding (o.p 20 4)).isSome = true →
    t.mayPart (t.opFn o) (o.p 10 1) = true → t.tileCount + o.p 12 4 ≤ 16777216 →
    lowestFree (t.tiers.weights.map (·.slot)) 0 (min 4096 (t.tiers.weights.length + 1)) = some i →
    exec (.weightObject c) s = .next (({ t with
      tiers.weights := t.tiers.weights ++ [WeightObj.mk i (nextGen 20 (assoc t.tiers.weightGens i 0)) (o.p 9 1) (o.p 10 1)
        (o.p 11 1) (o.p 12 4) (o.p 16 4) (o.p 20 4) [] false]
      tiers.weightGens := assocSet t.tiers.weightGens i (nextGen 20 (assoc t.tiers.weightGens i 0)) }).finish o.tag .ok
        (mkHandle 12 i (nextGen 20 (assoc t.tiers.weightGens i 0))))) ∧
  (∀ (s t w : State) (c : Cmd) (o : Op) (x : WeightObj), s.begins 0x58 c = some (o, t) → o.p 8 1 = 2 →
    t.weightOf (o.p 24 4) = some x → t.mayPart (t.opFn o) x.partition = true → t.wrote o o.buf x.record = some w →
    exec (.weightObject c) s = .next (w.finish o.tag .ok x.handle)) ∧
  (∀ (s t u : State) (c : Cmd) (o : Op) (x : WeightObj), s.begins 0x58 c = some (o, t) → o.p 8 1 = 1 →
    t.tiers.weights.find? (fun w => w.handle == o.p 24 4 && (!w.deleting || o.wait == .ended)) = some x →
    t.mayPart (t.opFn o) x.partition = true → u = { t with
      tiers.weights := upd (fun w : WeightObj => w.slot == x.slot) (fun w : WeightObj => { w with deleting := true }) t.tiers.weights } →
    (x.count ≤ 1024 → u.weightUsed x o.tag = false →
      exec (.weightObject c) s = .next ((u.freeWeight x.slot).finish o.tag .ok (o.p 24 4))) ∧
    (x.count ≤ 1024 → u.weightUsed x o.tag = true →
      exec (.weightObject c) s = .next (State.settle o.tag (.wait .ended u))) ∧
    (1024 < x.count → exec (.weightObject c) s = .next (State.settle o.tag (.long (cdiv x.count 1024) (o.p 24 4) u)))) ∧
  (∀ (s : State) (o : Op) (w : WeightObj), s.tiers.weights.find? (fun w => w.handle == o.p 24 4) = some w →
    s.weightUsed w o.tag = false →
    (o.unitsTotal ≤ o.unitsDone + 1 →
      unitWeightDelete o s = .last .ok o.result ((o.unitsDone + 1) * 1024) (s.freeWeight w.slot)) ∧
    (o.unitsDone + 1 < o.unitsTotal → unitWeightDelete o s = .more o.result ((o.unitsDone + 1) * 1024) (State.leaseUse { s with
      tiers.weights := upd (fun x : WeightObj => x.slot == w.slot) (fun x : WeightObj => { x with
        tiles := x.tiles.filter (fun t => decide ((o.unitsDone + 1) * 1024 ≤ t.index)) }) s.tiers.weights }))) ∧
  (∀ (s t : State) (c : Cmd) (o : Op) (x : WeightObj) (b : Binding), s.begins 0x59 c = some (o, t) →
    t.weightOf (o.p 8 4) = some x → t.binding x.binding = some b → 1 ≤ o.p 16 4 → o.p 16 4 ≤ 64 →
    o.p 12 4 + o.p 16 4 ≤ x.count → t.mayPart (t.opFn o) x.partition = true → (x.tier = 3 → t.foot.sanitising = false) →
    exec (.weightWrite c) s = .next (match writeTiles o b x.slot (o.p 12 4) (o.p 16 4) 0 t with
      | (.ok u, k) => u.finish o.tag .ok k
      | (.stop st u, k) => u.finish o.tag st k
      | (.waits l, _) => State.settle o.tag (.wait (.link l) t))) ∧
  (∀ (s t : State) (c : Cmd) (o : Op) (x : WeightObj) (b : Binding), s.begins 0x59 c = some (o, t) →
    t.weightOf (o.p 8 4) = some x → t.binding x.binding = some b → 64 < o.p 16 4 →
    o.p 12 4 + o.p 16 4 ≤ x.count → t.mayPart (t.opFn o) x.partition = true → (x.tier = 3 → t.foot.sanitising = false) →
    exec (.weightWrite c) s = .next (State.settle o.tag (.long (o.p 16 4) 0 t))) ∧
  (∀ (s : State) (o : Op) (b : Binding) (w : WeightObj) (i n : Nat), s.weight w.slot = some w →
    (w.tiles.any (·.index == i) = true → writeNext o b w.slot (.ok s, n) i = (.stop .immutable s, n)) ∧
    (w.tiles.any (·.index == i) = false → writeNext o b w.slot (.ok s, n) i = (match s.writeTile o w b i with
      | .ok u => (.ok u, n + 1)
      | .stop st u => (.stop st u, n)
      | .waits l => (.waits l, n)))) ∧
  (∀ (s : State) (o : Op) (w : WeightObj) (b : Binding) (i : Nat) (raw : List Byte),
    s.hostRead (s.opFn o) (s.opFn o).link (o.buf + (i - o.p 12 4) * (w.tileSize + 64)) (w.tileSize + 16) = .ok raw →
    ∃ f : List Byte → TileOut, s.writeTile o w b i =
      (Config.gcmOpen b.key (b.iv + i * 2 ^ 64) [] (raw.take w.tileSize) (leNat (raw.drop w.tileSize))).elim
        (.stop .integrityError (s.readFor o (o.buf + (i - o.p 12 4) * (w.tileSize + 64)) (w.tileSize + 16))) f)

/-- R51, R232 to R245: background work of the footing under its gate, the end of a NAND operation of each kind, relocation by age,
compaction of the journal, and a sanitise from its erase of every block to its end. Log entry 82 marks the choice of the model in
it. -/
def Obligations.FootingEvents : Prop :=
  (∀ (s : State) (port : Nat) (w : FtlWork), s.foot.mounted = true → s.foot.sanitising = false → s.boot.halted = false →
    s.memoriesAwake = true → (port = 40 ∨ port = 41) →
    ((s.footNow.ungated w || s.footNow.footGate port) = true →
      exec (.ftlBackgroundOp port w) s = .next (s.footNow.ftlWork (port - 40) w).footForced) ∧
    ((s.footNow.ungated w || s.footNow.footGate port) = false → exec (.ftlBackgroundOp port w) s = .next s.footNow)) ∧
  (∀ (s t : State) (ch : Nat) (x : NandOp) (b : EraseBlock), t = s.nandStart ch → t.nandHead ch = some x → x.started = true →
    t.eraseBlock x.block = some b →
    (x.kind = 2 → exec (.nandOpComplete ch .eraseOk) s = .next (((((((t.nandDone x).bump 0x0A2 1).updDie b.die (fun d => { d with
      bytesErased := d.bytesErased + t.foot.part.elim 0 (·.blockBytes) })).eraseEnds b).footingChanged).nandStart ch))) ∧
    (x.kind = 2 → exec (.nandOpComplete ch .eraseFailed) s =
      .next ((((t.nandDone x).bump 0x0A2 1).retireErase b.id 1).nandStart ch)) ∧
    (x.kind = 1 → exec (.nandOpComplete ch .programOk) s = .next (((((t.nandDone x).bump 0x0A1 1).updDie b.die (fun d => { d with
      bytesProgrammed := d.bytesProgrammed + 16384 })).footForced).nandStart ch)) ∧
    (x.kind = 1 → exec (.nandOpComplete ch .programFailed) s =
      .next ((((t.bump 0x0A1 1).retireErase b.id 0).footForced).nandStart ch)) ∧
    (x.kind = 0 → exec (.nandOpComplete ch (.readOk true)) s = .next (((((t.nandDone x).bump 0x0A0 1).updDie b.die (fun d => { d with
      bytesRead := d.bytesRead + 16384 })).readEnds b x.row (.readOk true)).nandStart ch)) ∧
    (x.kind = 0 → exec (.nandOpComplete ch .readRetried) s =
      .next ((((t.nandDone x).bump 0x0A0 1).readEnds b x.row .readRetried).nandStart ch)) ∧
    (x.kind = 0 → exec (.nandOpComplete ch .readRebuilt) s =
      .next ((((t.nandDone x).bump 0x0A0 1).readEnds b x.row .readRebuilt).nandStart ch)) ∧
    (x.kind = 0 → ∀ other, exec (.nandOpComplete ch (.rowLost other)) s =
      .next ((((t.nandDone x).bump 0x0A0 1).readEnds b x.row (.rowLost other)).nandStart ch)) ∧
    (∀ d, t.die b.die = some d → d.retired = false → exec (.nandOpComplete ch .dieFailed) s =
      .next (((t.retireDie d).footForced).nandStart ch))) ∧
  (∀ (s : State) (id : Nat) (b : EraseBlock), s.eraseBlock id = some b → s.freeErase b = false → s.boot.halted = false →
    (30 * 86400 * 10 ^ 9 ≤ s.clock.now - b.programmedAt → exec (.relocationAgeTrigger id) s = .next (s.hardRelocate id)) ∧
    (14 * 86400 * 10 ^ 9 ≤ s.clock.now - b.programmedAt → s.clock.now - b.programmedAt < 30 * 86400 * 10 ^ 9 →
      s.footGate (40 + s.channelOfErase b / 16) = true →
      exec (.relocationAgeTrigger id) s = .next ((s.relocate 5 id).bump 0x0A7 1))) ∧
  (∀ (s : State), s.foot.mounted = true → s.foot.lastCompact + 60 * 10 ^ 9 ≤ s.clock.now →
    exec .metadataJournalCompact s = .next { s with foot.journal := [], foot.lastCompact := s.clock.now }) ∧
  (∀ (s : State), s.managed = true → s.foot.mounted = true → s.sec.life = .unclaimed → s.foot.sanitising = false →
    exec .sanitise s = .next ((((s.foot.blocks.filter EraseBlock.usable).map (fun b : EraseBlock => b.id)).foldl
      (fun (s : State) id => s.eraseSoon 4 id) { s with
        foot.sanitising := true, foot.queue := [], foot.pages := [], foot.map := [], foot.cache := [], foot.groups := []
        foot.blocks := s.foot.blocks.map (fun b : EraseBlock => { b with written := 0, stale := b.usable })
        }).footingChanged.emit (.mgmt true []))) ∧
  (∀ (s : State), s.foot.sanitising = true → (∀ x ∈ s.foot.queue, x.kind ≠ 2) →
    exec .sanitiseEnd s = .next ({ s with foot.sanitising := false }).footingChanged)

/-- R249 to R260: a plan is made, ticked by command or by doorbell, cancelled and queried. Log entries 77 and 79 mark the choices
of the model in it. -/
def Obligations.PlanCommands : Prop :=
  (∀ (s t : State) (c : Cmd) (o : Op) (n : Namespace) (v : View) (first count : Nat), s.begins 0x60 c = some (o, t) →
    o.p 12 1 ≠ 2 → t.onVersion o n v → o.selects n v = some (first, count) →
    o.p 24 1 + (if o.p 25 1 = 0 then 256 else o.p 25 1) ≤ n.geo.l → count ≠ 0 → t.tooEarly v first count = false →
    missingResult v.refs first count = none →
    exec (.prefetchPlan c) s = .next (State.settle o.tag
      (t.makePlan o (count * n.geo.deliveredBytes n.geo.fmt) n.partition n.index 0 (some v) count))) ∧
  (∀ (s t : State) (c : Cmd) (o : Op) (w : WeightObj) (layers : Nat), s.begins 0x60 c = some (o, t) → o.p 12 1 = 2 → o.handle = 0 →
    o.p 13 1 = 0 → o.p 24 1 = 0 → t.weightOf (o.p 8 4) = some w → layers = (if o.p 25 1 = 0 then 256 else o.p 25 1) →
    o.p 20 4 ≠ 0 → o.p 16 4 + layers * o.p 20 4 ≤ w.count → t.mayPart (t.opFn o) w.partition = true →
    t.tilesEarly w (o.p 16 4) (layers * o.p 20 4) = false →
    exec (.prefetchPlan c) s = .next (State.settle o.tag
      (t.makePlan o (o.p 20 4 * w.tileSize) w.partition 0 w.slot none (o.p 20 4)))) ∧
  (∀ (t : State) (o : Op) (y part ns weight count i ap guard stall idle q layers stride : Nat) (v : Option View),
    ap = (if o.expert then o.p 42 2 else min (2 * o.p 40 2) 256) → guard = (if o.expert then o.p 44 4 else 5000) →
    stall = (if o.expert then o.p 48 2 else 100) → idle = (if o.expert then o.p 50 1 else 1) →
    q = (if o.expert then o.p 51 1 else 0) → layers = (if o.p 25 1 = 0 then 256 else o.p 25 1) →
    stride = (if o.p 28 4 = 0 then y else o.p 28 4) → y ≤ stride →
    o.planBad layers (o.p 26 2) (o.p 40 2) ap guard stall idle q = false →
    outboundDenied (t.itemsOf o) (t.portFn o (t.portOf o (o.p 14 1))) o.buf (o.p 26 2 * stride + 8 * o.p 26 2) = false →
    t.planSlot = some i →
    ∃ p, t.makePlan o y part ns weight v count = t.startPlan o p ∧ p.slot = i ∧ p.tag = o.tag ∧ p.state = .armed ∧ p.view = v ∧
      p.stride = stride ∧ p.guard = guard ∧ p.stallMs = stall ∧ p.idleS = idle ∧ p.promoteAhead = ap ∧
      p.lookahead = o.p 40 2 ∧ p.slots = o.p 26 2 ∧ p.layers = layers ∧ p.base = o.buf ∧ p.issued = 0 ∧ p.firstOut = 0 ∧
      p.missFail = bit (o.p 15 1) 0 ∧ p.noPromote = bit (o.p 15 1) 1 ∧ p.fixedPeriod = bit (o.p 15 1) 2) ∧
  (∀ (s t : State) (c : Cmd) (o : Op) (p : Plan), s.begins 0x61 c = some (o, t) → t.livePlan (o.p 8 4) = some p →
    o.p 24 8 ≤ t.clock.now → (∀ k, p.total = some k → o.p 16 8 ≤ k) →
    exec (.layerTick c) s = .next ((t.tickPlan p (if o.p 24 8 = 0 then t.clock.now else o.p 24 8) (o.p 16 8)).2.finish o.tag .ok
      (b2n (t.tickPlan p (if o.p 24 8 = 0 then t.clock.now else o.p 24 8) (o.p 16 8)).1))) ∧
  (∀ (s : State) (f : Fn) (tee : Bool) (slot v : Nat) (p : Plan), s.hears f tee = true → s.boot.halted = false →
    s.dlv.plans.find? (fun p => p.slot == slot && p.live && p.gen == v / 2 ^ 44 % 2 ^ 20) = some p →
    (∀ k, p.total = some k → v % 2 ^ 44 ≤ k) →
    exec (.tickDoorbell ⟨f, tee⟩ slot 8 v) s = .next (s.tickPlan p s.clock.now (v % 2 ^ 44)).2) ∧
  (∀ (s : State) (f : Fn) (tee : Bool) (slot width v : Nat), s.hears f tee = true → s.boot.halted = false →
    s.dlv.plans.find? (fun p => p.slot == slot && p.live && p.gen == v / 2 ^ 44 % 2 ^ 20) = none →
    exec (.tickDoorbell ⟨f, tee⟩ slot width v) s = .next (s.bump 0x105 1)) ∧
  (∀ (s t u : State) (c : Cmd) (o : Op) (p q : Plan), s.begins 0x62 c = some (o, t) → o.wait = .none →
    t.livePlan (o.p 8 4) = some p → o.p 12 1 = 0 →
    u = ((t.purge (fun u : SUnit => u.off = 0 && (match u.src with
      | .plan x _ => x == p.tag
      | .op _ | .msg .. => false))).setPlan { p with
      ending := some .aborted
      cut := ((List.range (p.issued - p.firstOut)).map (· + p.firstOut)).filter (fun m => t.planUnits p.tag m != 0) }).planCheck p.tag →
    u.livePlan (o.p 8 4) = none → u.plan (o.p 8 4) = some q →
    exec (.cancelPlan c) s = .next (u.finish o.tag .ok q.gapless)) ∧
  (∀ (s t u : State) (c : Cmd) (o : Op) (p q : Plan), s.begins 0x62 c = some (o, t) → o.wait = .none →
    t.livePlan (o.p 8 4) = some p → o.p 12 1 = 1 → p.n < p.issued →
    u = ((t.purge (fun u : SUnit => u.off = 0 && (match u.src with
      | .plan x m => x == p.tag && decide (p.n < m)
      | .op _ | .msg .. => false))).setPlan { p with
      finishTo := some p.n
      cut := ((List.range (p.issued - p.firstOut)).map (· + p.firstOut)).filter (fun m => decide (p.n < m) && t.planUnits p.tag m != 0) }).planCheck p.tag →
    (u.livePlan (o.p 8 4) = some q → exec (.cancelPlan c) s = .next (State.settle o.tag (.wait .ended u))) ∧
    (u.livePlan (o.p 8 4) = none → u.plan (o.p 8 4) = some q → exec (.cancelPlan c) s = .next (u.finish o.tag .ok q.gapless))) ∧
  (∀ (s t w : State) (c : Cmd) (o : Op) (p : Plan), s.begins 0x63 c = some (o, t) → t.plan (o.p 8 4) = some p →
    (p.live = true ∨ ∀ x ∈ t.q.ops, x.tag ≠ p.tag) → t.wrote o o.buf p.record = some w →
    exec (.planQuery c) s = .next (w.finish o.tag .ok 0))

/-- R250, R254 to R257: a landed sequence gets its flag, a sequence late past its guard is a miss, a plan without ticks stalls,
and a stall of the idle limit fails it. R265 to R268, R272, R274: a scheduling port starts the unit that wins, takes over a
pending gate list at its time, opens a new span of it, and colours a red head again. Log entries 79 and 107 mark the choices of
the model in it. -/
def Obligations.DeliveryEvents : Prop :=
  ((∀ (s t : State) (plan m : Nat) (p : Plan) (o : Op), s.livePlan plan = some p → s.unflagged p = some m → s.op p.tag = some o →
    (s.actFor o).hostWrite (s.portFn o p.port) p.port (p.base + p.slots * p.stride + 8 * (m % p.slots)) (leBytes 8 (m + 1)) = .ok t →
    exec (.sequenceLanded plan) s = .next (((((t.rested.pass p.port p.queue (writeUnits p.port 8)).bump 0x101 1).setPlan
      ({ p with landed := p.landed ++ [m] } : Plan).settle).issue p.tag 256).planCheck p.tag)) ∧
  (∀ (s : State) (plan seq d : Nat) (p : Plan), s.livePlan plan = some p → p.state ≠ .stalled → p.deadline seq = some d →
    d < s.clock.now → p.firstOut ≤ seq → seq ∉ p.landed → seq ∉ p.skipped → seq ∉ p.missed → (∀ k, p.total = some k → seq < k) →
    exec (.deadlineMiss plan seq) s = .next ((((({ s with
      dlv.planMisses := min 0xFFFF (s.dlv.planMisses + 1) } : State).bump 0x102 1).setPlan { p with
        misses := p.misses + 1, missed := p.missed ++ [seq]
        ending := if p.missFail then some .deadlineMissed else p.ending }).raiseSrc 3).planCheck p.tag)) ∧
  (∀ (s : State) (plan : Nat) (p : Plan), s.livePlan plan = some p →
    (p.state ≠ .stalled → p.lastTick + p.stallMs * 10 ^ 6 ≤ s.clock.now → exec (.planStallTimeout plan) s =
      .next ((s.setPlan { p with state := .stalled, afterStall := true, stalls := p.stalls + 1, stalledAt := s.clock.now }).bump
        0x106 1)) ∧
    (p.state = .stalled → p.stalledAt + p.idleS * 10 ^ 9 ≤ s.clock.now →
      exec (.planIdleLimit plan) s = .next (s.endPlan p .failed .deadlineMissed)))) ∧
  ((∀ (s : State) (port tag : Nat) (p p' : SPort) (h : Head), s.port port = some p → p.linked = true → p.sentUntil ≤ s.clock.now →
    s.boot.linkwatch = false → s.macShut port = false → pickHead (p.heads s.stg.live s.clock.now) = some h →
    ((s.setPort (p.hold (p.heads s.stg.live s.clock.now))).bump (0x403 + 4 * port)
      ((p.heads s.stg.live s.clock.now).filter (fun h => h.colour = .red)).length).port port = some p' → h.unit.src = .op tag →
    exec (.schedUnitStart port) s = .next ((((s.setPort (p.hold (p.heads s.stg.live s.clock.now))).bump (0x403 + 4 * port)
      ((p.heads s.stg.live s.clock.now).filter (fun h => h.colour = .red)).length).sendPiece p' h).stopDue)) ∧
  (∀ (s : State) (port : Nat) (p : SPort) (g : GateList), s.port port = some p → p.pending = some g → g.takeover ≤ s.clock.now →
    exec (.gateTakeover port) s = .next (s.setPort { p with
      active := if g.entries.isEmpty then none else some g, pending := none, spanDone := [] })) ∧
  (∀ (s : State) (port : Nat) (p : SPort) (g : GateList), s.port port = some p → p.active = some g →
    ∃ mask, exec (.gateEntryChange port) s = .next (s.setPort { p with spanDone := p.spanDone.filter (fun q => bit mask q) }) ∧
      (mask = 0xFFFF ∨ ∃ e ∈ g.entries, mask = e.2)) ∧
  (∀ (s : State) (port queue : Nat) (p : SPort), s.port port = some p →
    ∀ t, t = tollOf s.stg.live port queue → exec (.tollRecolour port queue) s =
      .next (s.setPort { p with queues := upd (·.num == queue) (fun q => { q.fill t s.clock.now with
        red := (q.fill t s.clock.now).red && ((q.fill t s.clock.now).head.any (fun u =>
          (q.fill t s.clock.now).colour t (u.piece port + schedOverhead s.stg.live port) == .red)) }) p.queues })))

/-- R280 to R284, R292 to R306: attention commands judge their descriptor, wait for promoted pages, and then the merge of the
piers' partials writes the result; windows and descriptors are bound, written and read. Log entries 38, 60 and 83 mark the choices
of the model in it. -/
def Obligations.AttentionCommands : Prop :=
  (∀ (s t : State) (c : Cmd) (o : Op) (n : Namespace) (v : View) (d : Mem) (x : AttCtx) (xs : List AttCtx),
    s.begins 0x70 c = some (o, t) → t.onVersion o n v → t.attJudge o n = .ok d →
    ({ o with view := some v } : Op).entries.map (({ o with view := some v } : Op).ctx d [] n) = x :: xs → x.nk ≤ v.n →
    t.attEarly x = false → n.active = true → x.missing = none →
    exec (.attend c) s = .next (State.settle o.tag ((t.setOp o.tag (fun o => { o with view := some v })).withQuery
      { o with view := some v } d (fun s => s.attPromote { o with view := some v } n (x :: xs)
        (s.attended { o with view := some v } (x :: xs)))))) ∧
  (∀ (s t : State) (c : Cmd) (o : Op) (n : Namespace) (v : View) (d : Mem), s.begins 0x71 c = some (o, t) → o.p 12 1 ≠ 2 →
    t.onVersion o n v → t.attJudge o n = .ok d → (∀ e ∈ ({ o with view := some v } : Op).entries, e.2.1 ≤ v.n) →
    exec (.attendSparse c) s = .next (State.settle o.tag
      ((t.setOp o.tag (fun o => { o with view := some v })).sparseRun { o with view := some v } n d))) ∧
  (∀ (s t : State) (c : Cmd) (o : Op) (n : Namespace) (d : Mem) (b : List Byte) (l : List (View × Nat × Nat)),
    s.begins 0x71 c = some (o, t) → o.p 12 1 = 2 → o.view = none → o.work = .nothing → t.nsAny o.handle = some n →
    t.attJudge o n = .ok d → t.got o (o.p 40 8) (16 * o.p 8 4) = some b →
    t.readList n (Mem.write [] 0 b) 0 (o.p 8 4) = .ok l →
    exec (.attendSparse c) s = .next (State.settle o.tag (((t.setOp o.tag (fun o => { o with work := .listed l })).sparseRun
      { o with work := .listed l } n d).after (fun w => w.readFor o (o.p 40 8) (16 * o.p 8 4))))) ∧
  (∀ (s : State) (o : Op) (n : Namespace) (cs : List AttCtx) (l : List (Nat × Nat × Bool)) (piers : List Nat),
    s.belowDeck cs l = [] →
    piers = (l.filterMap (fun x => (cs[x.1]?).bind (fun c => (s.attPage c x.2.1).map (fun y => y.2.home)))).eraseDups →
    ((∀ p ∈ piers, s.ctxUsed p < 2048 ∨ p ∈ o.contexts) →
      s.attPromote o n cs l = .wait .merge (s.setOp o.tag (fun o => { o with contexts := piers }))) ∧
    ((∃ p ∈ piers, 2048 ≤ s.ctxUsed p ∧ p ∉ o.contexts) → s.attPromote o n cs l = .wait .context s)) ∧
  (∀ (s : State) (tag : Nat) (o : Op), s.op tag = some o → o.started = true →
    (o.opcode = 0x70 → exec (.attendResume tag) s = .next (s.start bodyAttend tag)) ∧
    (o.opcode = 0x71 → exec (.attendResume tag) s = .next (s.start bodyAttendSparse tag))) ∧
  (∀ (s t : State) (tag r : Nat) (o : Op) (n : Namespace), s.op tag = some o → o.wait = .merge → o.long = false →
    s.nsAny o.handle = some n → (∀ x ∈ s.attCtxs o n, x.missing = none) →
    s.belowDeck (s.attCtxs o n) (s.attended o (s.attCtxs o n)) = [] →
    s.attWrite o n (s.attCtxs o n) (s.attended o (s.attCtxs o n)) = .ok (r, t) →
    exec (.attendPartialMerge tag) s = .next (t.finish tag .ok r)) ∧
  (∀ (s t : State) (c : Cmd) (o : Op), s.begins 0x72 c = some (o, t) → o.p 8 2 < 4096 → partValid (t.itemsOf o) (o.p 11 1) = true →
    t.mayPart (t.opFn o) (o.p 11 1) = true → (∀ d, t.desc (o.p 8 2) = some d → d.partition = o.p 11 1) →
    (∀ b, o.p 10 1 = 0 → o.buf % 64 = 0 → t.got o o.buf 1024 = some b → descOk (Mem.write [] 0 b) = true →
      exec (.attDesc c) s = .next ((({ t with
        att.descs := Desc.mk (o.p 8 2) (o.p 11 1) (Mem.write [] 0 b) :: t.att.descs.filter (·.slot != o.p 8 2) } : State).readFor o o.buf 1024).finish o.tag .ok 0)) ∧
    (o.p 10 1 = 1 → (t.desc (o.p 8 2)).isSome = true → exec (.attDesc c) s =
      .next (({ t with att.descs := t.att.descs.filter (·.slot != o.p 8 2) }).finish o.tag .ok 0)) ∧
    (∀ d w, o.p 10 1 = 2 → o.buf % 64 = 0 → t.desc (o.p 8 2) = some d → t.wrote o o.buf (d.bytes.read 0 1024) = some w →
      exec (.attDesc c) s = .next (w.finish o.tag .ok 0))) ∧
  (∀ (s t : State) (c : Cmd) (o : Op), s.begins 0x73 c = some (o, t) → 1 ≤ o.p 10 2 → o.p 10 2 ≤ 16 →
    (∀ w, o.p 8 1 = 0 → (o.p 9 1 = 0 ∨ o.p 9 1 = 1 ∨ o.p 9 1 = 0xFF) → (t.att.windows.filter (·.2 == o.qp)).length + o.p 10 2 ≤ 64 →
      ((if o.p 9 1 = 1 then none else t.windowRun 0 (o.p 10 2)).or
        (if o.p 9 1 = 0 then none else t.windowRun 1 (o.p 10 2))) = some w → exec (.attWindows c) s = .next (({ t with
        att.windows := t.att.windows ++ (List.range (o.p 10 2)).map (fun i => (w + i, o.qp)) }).finish o.tag .ok w)) ∧
    (o.p 8 1 = 1 → (o.p 9 1 = 0 ∨ o.p 9 1 = 1 ∨ o.p 9 1 = 0xFF) → (∀ i, i < o.p 10 2 → (i + o.p 12 2, o.qp) ∈ t.att.windows) →
      (t.queryPending ((List.range (o.p 10 2)).map (· + o.p 12 2)) = false →
        exec (.attWindows c) s = .next (({ t with att.windows := t.att.windows.filter (fun w =>
          !((List.range (o.p 10 2)).map (· + o.p 12 2)).contains w.1) }).finish o.tag .ok (o.p 12 2))) ∧
      (t.queryPending ((List.range (o.p 10 2)).map (· + o.p 12 2)) = true →
        exec (.attWindows c) s = .next (State.settle o.tag (.wait .ended t))))) ∧
  (∀ (s : State) (f : Fn) (tee : Bool) (offset : Nat) (bytes : List Byte), s.hears f tee = true → bytes ≠ [] →
    offset % 16384 + bytes.length ≤ 16384 →
    exec (.queryWindowStore ⟨f, tee⟩ offset bytes) s = .next (s.wake.queryStore f (offset / 16384) offset bytes)) ∧
  (∀ (s : State) (f : Fn) (w offset : Nat) (bytes : List Byte), s.windowOwned f w = true →
    (ideRequired s.stg.live = true → s.linkSecure f.link = true) →
    (s.queryStore f w offset bytes).att.content = s.att.content.write offset bytes)

/-- R313 to R316, Table 11-3: an extent is added, zeroed, offered, accepted, given back and taken back. Log entries 85 and 153
mark the choices of the model in it. -/
def Obligations.ExtentStates : Prop :=
  (∀ (s : State) (src : Source) (region a length tag part h : Nat), s.hostOfSrc src = some h → fmTrust s.stg.live = false →
    length ≠ 0 → length % 2 ^ 21 = 0 → a % 2 ^ 21 = 0 → regionBase region ≤ a →
    a + length ≤ regionBase region + regionLength region → partValid s.stg.live part = true →
    (∀ e ∈ s.pool.extents, e.base + e.length ≤ a ∨ a + length ≤ e.base) → s.hostCovers h a length part = true →
    s.pool.extents.length < 8192 → (region = 1 → s.boot.full = true) → s.room part region length = true →
    exec (.dcAdd [src] region (some a) length tag part false) s = .next ({ s with
      pool.extents := s.pool.extents ++ [Extent.mk s.pool.nextExtent region a length tag part false true [(h, .offered)] 1
        (s.placesFor region part) none]
      pool.nextExtent := s.pool.nextExtent + 1 }.emit (.fmReply true [s.pool.nextExtent]))) ∧
  (∀ (s : State) (x : Nat) (e : Extent), s.extent x = some e → e.zeroing = true → ∃ u, exec (.extentZeroEnd x) s = .next u ∧
    u.pool.mem = s.pool.mem.clear e.base e.length ∧ u.pool.extents = (s.updExtent e.id (fun e => { e with zeroing := false })).pool.extents ∧
    u.out = (e.sides.map (fun y => Output.addCapacity y.1 e.id)).reverse ++ s.out) ∧
  (∀ (s : State) (src : Source) (x h : Nat) (e : Extent), s.extent x = some e → s.hostOfSrc src = some h → e.zeroing = false →
    e.side h = some .offered →
    (∀ e', (s.updExtent e.id (fun e => { e with sides := upd (·.1 == h) (fun y => (y.1, SideState.active)) e.sides })).extent x = some e' →
      exec (.addDcResponse src x true) s = .next ((s.updExtent e.id (fun e => { e with
        sides := upd (·.1 == h) (fun y => (y.1, SideState.active)) e.sides })).startMirror e')) ∧
    (e.sides.filter (·.1 != h) = [] → exec (.addDcResponse src x false) s =
      .next ((s.updExtent e.id (fun e' => { e' with sides := [] })).freeExtent e))) ∧
  (∀ (s : State) (src : Source) (x h : Nat) (e : Extent), s.extent x = some e → s.hostOfSrc src = some h →
    (e.activeFor h = true → exec (.releaseDynamicCapacity src x) s = .next (s.leave e h .releasing)) ∧
    (e.zeroing = false → e.holds h = true →
      exec (.dcRelease src x false) s = .next ((s.emit (.releaseCapacity h e.id)).emit (.fmReply true [])) ∧
      ((∀ y ∈ s.pool.snaps, y.extent ≠ e.id) →
        exec (.dcRelease src x true) s = .next ((s.leave e h .revoking).emit (.fmReply true []))))) ∧
  (∀ (s : State) (link : Nat), s.linkUp link = true → exec (.getDcdInfo link) s = .next ((s.fmSeen link).emit
    (.fmReply true [2, 2 ^ 21, regionLength 0, s.offered 0, regionLength 1, s.offered 1]))) ∧
  (∀ (s : State) (link ld region : Nat), s.pool.bound.contains ⟨link, ld⟩ = true →
    exec (.getHostDcRegionConfig link ld) s = .next ((s.fmSeen link).emit
      (.fmReply true [regionBase 0, regionLength 0, 2 ^ 21, regionBase 1, regionLength 1, 2 ^ 21])) ∧
    (region < 2 → exec (.setDcRegionConfig link ld region (2 ^ 21)) s = .next ((s.fmSeen link).emit (.fmReply true [])))) ∧
  (∀ (s : State) (link ld h : Nat), s.hostOf ⟨link, ld⟩ = some h → exec (.getDcRegionExtentLists link ld) s =
    .next ((s.fmSeen link).emit (.fmReply true
      ((s.pool.extents.filter (·.activeFor h)).flatMap (fun e => [e.id, e.base, e.length, e.tag])))))

/-- R312, R320, R324 to R332, R388: requests of CXL.mem are served in their place or answered with poison, recalls end, and hosts
renew, lose and regain their leases. Log entries 86, 90 and 154 mark the choices of the model in it. -/
def Obligations.CxlMemory : Prop :=
  (∀ (s u : State) (src : Source) (addr h a : Nat) (k : LoadKind), a = addr / 64 * 64 →
    u = s.wake.bumpAt 0x200 1 none (s.wake.hostOfSrc src) → s.wake.servesMemory = true → s.wake.shutOut src = false →
    u.admitted src a 64 false = some h → u.clearWay src.link h a false →
    (k = .cached → u.untracked h a false = true ∨ u.setFull (lineGroup a) = false) →
    exec (.cxlMemRead src addr k) s = .next (((if k = .cached ∧ u.untracked h a false = false then u.grant (lineGroup a) h false
      else u).useCap h false).answerLoad ⟨src, h, a, .read (k = .cached)⟩)) ∧
  (∀ (s u : State) (src : Source) (addr h a : Nat) (bytes : List Byte) (poison : Bool), a = addr / 64 * 64 →
    u = s.wake.bumpAt 0x201 1 none (s.wake.hostOfSrc src) → s.wake.servesMemory = true → s.wake.shutOut src = false →
    u.admitted src a 64 true = some h →
    (u.clearWay src.link h a true → exec (.cxlMemWrite src addr .write bytes poison) s =
      .next ((u.useCap h true).landStore ⟨src, h, a, .write bytes poison⟩ bytes poison)) ∧
    (u.clearWay src.link h a false → u.snapping a = false → u.untracked h a false = false → u.setFull (lineGroup a) = false →
      exec (.cxlMemWrite src addr .ownership bytes poison) s = .next ((((u.copyOnWrite (lineGroup a * 256) 256).grant (lineGroup a) h
        true).useCap h false).answerLoad ⟨src, h, a, .own⟩))) ∧
  (∀ (s : State) (r : HeldReq), s.windowAt r.addr = none → s.goneAt r.addr = none →
    s.answerLoad r = ((((if s.dpaBad s.store.chains (r.addr / 64) = true then s.bumpAt 0x207 1 none (some r.host) else s).poolIo r.addr 64
      false).respond r.src.link r.addr 64).emit (.cxlData r.host r.addr ((if s.dpaBad s.store.chains (r.addr / 64) = true then
        s.bumpAt 0x207 1 none (some r.host) else s).dpaRead s.store.chains r.addr 64) (s.dpaBad s.store.chains (r.addr / 64))
          (s.devLoad r.src.link)))) ∧
  (∀ (s : State) (src : Source) (addr : Nat) (k : LoadKind), s.wake.servesMemory = true → s.wake.shutOut src = true →
    exec (.cxlMemRead src addr k) s =
      .next (s.wake.answerPoison src.link ((s.wake.hostOfSrc src).getD 0) (addr / 64 * 64))) ∧
  (∀ (s : State) (src : Source) (addr : Nat) (k : LoadKind), s.wake.servesMemory = false → exec (.cxlMemRead src addr k) s =
    .next ((s.wake.discardStore (s.wake.hostOfSrc src) (addr / 64 * 64)).answerPoison src.link ((s.wake.hostOfSrc src).getD 0)
      (addr / 64 * 64))) ∧
  (∀ (s : State) (host addr : Nat) (dirty : List Byte) (r : Recall), r ∈ s.pool.recalls → r.group = lineGroup addr →
    r.waiting.contains host = true →
    (dirty = [] → exec (.backInvalidateResponse host addr dirty) s = .next (s.recallEnds (lineGroup addr) host).settlePool) ∧
    (dirty ≠ [] → s.sec.life ≠ .releasing → exec (.backInvalidateResponse host addr dirty) s =
      .next ((s.dpaStore (lineGroup addr * 256) dirty false).recallEnds (lineGroup addr) host).settlePool) ∧
    (fmTrust s.stg.live = false → r.since + hostRecallUs s.stg.live host * 1000 ≤ s.clock.now → s.sec.life ≠ .releasing →
      exec (.recallTimeout host addr) s = .next (s.declareDead host))) ∧
  (∀ (s t : State) (c : Cmd) (o : Op) (h : Nat), s.begins 0x85 c = some (o, t) → t.hostOf (t.opFn o) = some h →
    (o.p 8 1 = 0 → 10 ≤ o.p 12 4 → o.p 12 4 ≤ 60000 → exec (.poolLease c) s =
      .next ((t.setHost { t.hostState h with lease := some (o.p 12 4), renewed := t.clock.now }).finish o.tag .ok 0)) ∧
    (o.p 8 1 = 1 → exec (.poolLease c) s = .next ((t.setHost { t.hostState h with lease := none }).finish o.tag .ok 0)) ∧
    (o.p 8 1 = 2 → (t.hostState h).lease = none → exec (.poolLease c) s = .next (t.finish o.tag .ok 0)) ∧
    (∀ x, o.p 8 1 = 2 → (t.hostState h).lease = some x → exec (.poolLease c) s = .next (t.finish o.tag .ok
      (x + ((t.hostState h).renewed / 1000000 + x - t.clock.now / 1000000) % 2 ^ 32 * 2 ^ 32)))) ∧
  (∀ (s : State) (f : Fn) (tee : Bool) (h : Nat), s.wake.hears f tee = true → s.wake.hostOf f = some h →
    ((s.wake.hostState h).dead = false → (s.wake.hostState h).lease.isSome = true →
      exec (.heartbeatRenew ⟨f, tee⟩) s = .next (s.wake.setHost { s.wake.hostState h with renewed := s.wake.clock.now })) ∧
    ((s.wake.hostState h).dead = true → (s.wake.hostState h).needsReset = false →
      exec (.heartbeatRejoin ⟨f, tee⟩) s = .next ((s.wake.setHost { s.wake.hostState h with
        dead := false, rejoined := some s.wake.clock.now, renewed := s.wake.clock.now }).routeWaiting.partyDead
          ((s.wake.setHost { s.wake.hostState h with
            dead := false, rejoined := some s.wake.clock.now, renewed := s.wake.clock.now }).fnOfHost h) false))) ∧
  (∀ (s : State) (h t : Nat), (s.hostState h).lease = some t → (s.hostState h).renewed + t * 1000000 ≤ s.clock.now →
    exec (.hostLeaseExpiry h) s = .next (s.declareDead h)) ∧
  (∀ (s : State) (h : Nat) (f : Fn), s.fnOfHost h = some f → exec (.hostUnbind h) s = .next ({ s.declareDead h with
      pool.bound := (s.declareDead h).pool.bound.filter (fun g => some g != some f) }.dropParties (fun p =>
        Party.names .host f.link f.ld p))) ∧
  (∀ (s : State) (a : Nat) (w : MirrorWait), s.pool.mirrorWaits.find? (·.addr == a) = some w → exec (.mirrorPartnerAck a) s =
    .next ((({ s with pool.mirrorWaits := s.pool.mirrorWaits.erase w } : State).respond w.link w.addr 0).emit
      (.cxlDone w.host w.addr (s.devLoad w.link)))) ∧
  (∀ (s : State) (x : Nat) (e : Extent), s.extent x = some e → s.pool.unmirrored.contains e.id = true →
    exec (.remirrorStart x) s = .next (s.startMirror e))

/-- R329, R333 to R340: the near-memory operations run their one unit over the range, or are long above 4 MiB; a pool snapshot is
created, released, restored, queried and expires. Log entries 87 and 88 mark the choices of the model in it. -/
def Obligations.NearMemory : Prop :=
  (∀ (s t u : State) (c : Cmd) (o p : Op) (op : Nat) (i : Instr) (srcs : List NearSrc), s.begins op c = some (o, t) → o.opcode = op →
    ((op = 0x80 ∧ i = .fill c) ∨ (op = 0x81 ∧ i = .copy c) ∨ (op = 0x82 ∧ i = .compare c)) → o.nearFieldsOk = true →
    o.work = .nothing → p = { o with work := .near [] false, tails := some (t.tailsFor o) } → u = t.setOp o.tag (fun _ => p) →
    u.nearSrcs p = .ok srcs → u.judgeNear p srcs 0 (o.p 16 8) = none →
    (4 * 2 ^ 20 < o.p 16 8 → exec i s =
      .next ((State.settle o.tag (.long (cdiv (o.p 16 8) (4 * 2 ^ 20)) p.nearStart u)).atAcceptance o.tag)) ∧
    (o.p 16 8 ≤ 4 * 2 ^ 20 → (u.nearRecall p srcs 0 (o.p 16 8)).nearWaits p srcs 0 (o.p 16 8) = false →
      exec i s = .next (((u.nearRecall p srcs 0 (o.p 16 8)).nearUnit p srcs 0 (o.p 16 8)).1.finish o.tag
        (if ((u.nearRecall p srcs 0 (o.p 16 8)).nearUnit p srcs 0 (o.p 16 8)).2.2 then .poisoned else .ok)
        (if op = 0x82 then (((u.nearRecall p srcs 0 (o.p 16 8)).nearUnit p srcs 0 (o.p 16 8)).2.1.getD p.nearStart)
          else o.p 16 8)))) ∧
  (∀ (s t : State) (c : Cmd) (o p : Op) (b : List Byte) (l : List Nat), s.begins 0x83 c = some (o, t) → o.nearFieldsOk = true →
    o.opcode = 0x83 → o.work = .nothing → t.got o o.buf (8 * o.p 26 1) = some b →
    l = (List.range (o.p 26 1)).map (fun i => leNat ((b.drop (8 * i)).take 8)) →
    p = { o with work := .near l false, tails := some (t.tailsFor o) } →
    exec (.reduce c) s = .next ((State.settle o.tag (((t.setOp o.tag (fun _ => p)).nearRun p).after
      (fun u => u.readFor o o.buf (8 * o.p 26 1)))).atAcceptance o.tag)) ∧
  (∀ (s : State) (o : Op) (srcs : List NearSrc), s.nearSrcs o = .ok srcs → s.judgeNear o srcs 0 (o.p 16 8) = none →
    o.p 16 8 ≤ 4 * 2 ^ 20 → (s.nearRecall o srcs 0 (o.p 16 8)).nearWaits o srcs 0 (o.p 16 8) = false → o.opcode ≠ 0x82 →
    s.nearRun o = .done (if ((s.nearRecall o srcs 0 (o.p 16 8)).nearUnit o srcs 0 (o.p 16 8)).2.2 then .poisoned else .ok)
      (o.p 16 8) ((s.nearRecall o srcs 0 (o.p 16 8)).nearUnit o srcs 0 (o.p 16 8)).1) ∧
  (∀ (s t u : State) (c : Cmd) (o : Op) (e : Extent) (h i : Nat) (x : PoolSnap), s.begins 0x84 c = some (o, t) → o.p 8 1 = 0 →
    t.making o.tag = none → o.p 16 8 % 4096 = 0 → o.p 24 8 ≠ 0 → o.p 24 8 % 4096 = 0 →
    t.extentAt (o.p 16 8) (o.p 24 8) = some e → t.hostOf (t.opFn o) = some h → e.activeFor h = true →
    t.rangeAllowed (t.opFn o) (o.p 16 8) (o.p 24 8) false = true →
    lowestFree (t.pool.snaps.map (·.slot)) 0 (min 4096 (t.pool.snaps.length + 1)) = some i →
    x = { slot := i, gen := nextGen 20 (assoc t.pool.snapGens i 0), extent := e.id, base := o.p 16 8, length := o.p 24 8
          budget := o.p 32 8, used := 0, version := 0, ttl := o.p 40 4, maker := some o.tag, expires := none, expired := none
          released := none, copies := [], bad := [] } →
    u = { t with pool.snaps := t.pool.snaps ++ [x], pool.snapGens := assocSet t.pool.snapGens i x.gen } →
    exec (.poolSnapshot c) s = .next (State.settle o.tag (if 256 * 2 ^ 20 < o.p 24 8 then
      .long (cdiv (o.p 24 8) (256 * 2 ^ 20)) 0 u else u.snapRun x))) ∧
  (∀ (s t : State) (c : Cmd) (o : Op) (x : PoolSnap), s.begins 0x84 c = some (o, t) →
    t.pool.snaps.find? (fun x => x.handle == o.p 12 4 && x.maker.isNone && x.released.isNone) = some x →
    (o.p 8 1 = 1 → exec (.poolSnapshot c) s = .next (({ t with pool.snaps := (upd (fun y : PoolSnap => y.slot == x.slot)
      (fun y : PoolSnap => { y with released := some t.q.accepted }) t.pool.snaps).filterMap (PoolSnap.kept t.q.ops) }).finish
        o.tag .ok 0)) ∧
    (∀ w, o.p 8 1 = 3 → t.wrote o o.buf (leBytes 8 x.base ++ leBytes 8 x.length ++ leBytes 8 x.used ++ leBytes 8 x.version ++
      leBytes 8 (b2n x.expired.isSome) ++ leBytes 24 0) = some w → exec (.poolSnapshot c) s = .next (w.finish o.tag .ok 0))) ∧
  (∀ (s t : State) (c : Cmd) (o : Op) (x : PoolSnap), s.begins 0x84 c = some (o, t) → o.p 8 1 = 2 →
    t.poolSnap (o.p 12 4) o.order = .ok x → t.judgeRanges (t.opFn o) [(x.base, x.length, true)] = none →
    (∀ u, x.length ≤ 4 * 2 ^ 20 → t.restoreUnit x 0 x.length = some u →
      exec (.poolSnapshot c) s = .next (u.finish o.tag .ok 0)) ∧
    (4 * 2 ^ 20 < x.length →
      exec (.poolSnapshot c) s = .next (State.settle o.tag (.long (cdiv x.length (4 * 2 ^ 20)) 0 t)))) ∧
  (∀ (s : State) (slot t : Nat) (x : PoolSnap),
    s.pool.snaps.find? (fun x => x.slot == slot && x.expires.any (fun t => decide (t ≤ s.clock.now))) = some x →
    x.expires = some t → exec (.poolSnapshotExpiry slot) s = .next (s.expireSnap x))

/-- R51, R415, R418 to R423, R430: what the patrol scrub finds in a line of the pool, of a page, of a tile, of a block's record,
of a summary and of a codebook copy is recorded, a corrected row counted, a line rebuilt or lost, and a word of SRAM or of the
directory is corrected, refetched or rebuilt; links that come up or go down change the ports that they name. Log entries 89, 107,
113 and 152 mark the choices of the model in it. -/
def Obligations.ScrubAndLinks : Prop :=
  (∀ (s : State) (l : ScrubLine) (f : LineCheck), s.boot.halted = false → s.memoriesAwake = true → f ≠ .clean →
    (∀ x, l ≠ .sram x) → (∀ x, l ≠ .directory x) → exec (.patrolScrub l f) s = .next (s.scrubLine l f)) ∧
  (∀ (s : State) (l : ScrubLine), (∀ x, l ≠ .directory x) → exec (.patrolScrub l .clean) s = .next s) ∧
  (∀ (s t : State) (tier home chan key : Nat) (copied rebuilt : Bool) (addr : Option Nat) (lose : State → State),
    rebuilt = (decide (tier = 0) && s.deckRebuilds || copied) →
    (t = s.log (lineReport tier .corrected rebuilt (tierLocus tier home chan) addr) →
      s.lineFound tier home chan key .corrected copied addr lose = if tier = 0 then t.rowCorrected home key else t) ∧
    (t = (if rebuilt = true then s.log (lineReport tier .uncorrectable rebuilt (tierLocus tier home chan) addr)
        else lose (s.log (lineReport tier .uncorrectable rebuilt (tierLocus tier home chan) addr))) →
      s.lineFound tier home chan key .uncorrectable copied addr lose = if tier = 1 then t.channelBad chan else t)) ∧
  (∀ (s : State) (a : Nat), (s.dirEntry (lineGroup a)).any (·.state == .owned) = false →
    s.scrubLine (.pool a) .corrected = (s.poolLineEvent a).lineFound (if a < regionBase 1 then 0 else 1) (s.placeOf a) (s.placeOf a) a
      .corrected (((s.extentAt (a / 64 * 64) 64).bind (·.mirrored)).isSome) (some a) (State.poolLineLost · a)) ∧
  (∀ (s : State) (a : Nat), s.scrubLine (.pool a) .uncorrectable = (s.poolLineEvent a).lineFound (if a < regionBase 1 then 0 else 1)
    (s.placeOf a) (s.placeOf a) a .uncorrectable (((s.extentAt (a / 64 * 64) 64).bind (·.mirrored)).isSome) (some a)
      (State.poolLineLost · a)) ∧
  (∀ (s : State) (w i : Nat) (o : WeightObj) (t : Tile) (f : LineCheck), s.weight w = some o → o.tiles.find? (·.index == i) = some t →
    t.tier < 2 → s.scrubLine (.tile w i) f = s.lineFound t.tier t.home t.chan (2 ^ 49 + w) f false none
      (State.updTile · w i (fun t => { t with poisoned := true }))) ∧
  (∀ (s : State) (id : Nat) (b : Block) (f : LineCheck), s.block id = some b →
    s.scrubLine (.record id) f = s.lineFound b.recordTier b.recordHome b.recordChan (2 ^ 50 + id) f false none
      (State.updBlock · id (fun b => { b with recordBad := true })) ∧
    s.scrubLine (.tokens id) f = s.lineFound b.recordTier b.recordHome b.recordChan (2 ^ 50 + id) f false none
      (State.updBlock · id (fun b => { b with tokensBad := true }))) ∧
  (∀ (s : State) (x : Nat), exec (.patrolScrub (.sram x) .corrected) s =
      .next (s.log { cls := .corrected, code := 0x0121, locus := x, tag := none, object := none, addr := none, detail := 0, poison := false }) ∧
    exec (.patrolScrub (.sram x) .uncorrectable) s =
      .next (s.log { cls := .recovered, code := 0x0122, locus := x, tag := none, object := none, addr := none, detail := 0, poison := false })) ∧
  (∀ (s : State) (g : Nat), exec (.patrolScrub (.directory g) .uncorrectable) s =
    .next (((s.sramFound .uncorrectable 0x4000 (some (g * 256))).updDir g (fun e => { e with
      coarse := true, holders := List.range 16 })).startRecall g false)) ∧
  (∀ (s : State) (k : Nat) (flit : Bool), exec (.linkUp (.cxl k) flit) s = .next (s.cxlUp k flit) ∧
    exec (.linkDown (.cxl k)) s = .next (s.cxlDown k)) ∧
  (∀ (s : State) (n : Nat) (flit : Bool), n < 8 → s.boot.link = true → s.boot.linkwatch = false → s.boot.halted = false →
    s.linkUp (32 + n) = false → ∀ t, t = (s.portUp (32 + n) (s.ethRate (32 + n))).sameRate (fun i => i / 2 = (32 + n) / 2)
      (s.ethRate (32 + n)) →
    exec (.linkUp (.eth n) flit) s = .next ({ t with boot.ethUp := t.ethMask } : State).linkChanged) ∧
  (∀ (s u : State) (n : Nat), n < 8 → s.linkUp (32 + n) = true →
    u = (({ s with
      dlv.ports := upd (fun p : SPort => p.num = 32 + n) (fun p => { p with linked := false }) s.dlv.ports } : State).log
        (.plain .degraded 0x0221 (linkLocus (32 + n)) none)).linkChanged →
    exec (.linkDown (.eth n)) s = .next ({ u with boot.ethUp := u.ethMask }.connPortsDown (· = 32 + n)))

/-- R347 to R349, Tables 12-2 and 12-6: connections are created, armed, queried and closed; regions are registered, queried,
rewritten in place and removed. Log entries 41, 42 and 94 mark the choices of the model in it. -/
def Obligations.ConnectionCommands : Prop :=
  (∀ (s t : State) (c : Cmd) (o : Op) (i : Nat), s.begins 0x90 c = some (o, t) → o.p 8 1 = 0 → 32 ≤ o.p 9 1 → o.p 9 1 < 40 →
    partValid t.stg.live (o.p 10 1) = true → t.mayPart (t.opFn o) (o.p 10 1) = true → t.ethAllowed (o.p 9 1) (o.p 10 1) = true →
    t.ethReady (o.p 9 1) = true →
    lowestFree (t.rma.conns.map (·.slot)) 0 (min 16384 (t.rma.conns.length + 1)) = some i →
    ∃ x : Conn, exec (.rmaConnect c) s = .next (({ t with
        rma.conns := t.rma.conns ++ [x]
        rma.connGens := assocSet t.rma.connGens i (nextGen 18 (assoc t.rma.connGens i 0)) }).finish o.tag .ok
          (x.handle + x.qpn * 2 ^ 32)) ∧
      x.slot = i ∧ x.gen = nextGen 18 (assoc t.rma.connGens i 0) ∧ x.state = .created ∧ x.port = o.p 9 1 ∧
      x.partition = o.p 10 1 ∧ x.span = tagSpan o.tag ∧ x.msgs = [] ∧ x.counter = 0) ∧
  (∀ (s t : State) (c : Cmd) (o : Op) (x : Conn), s.begins 0x90 c = some (o, t) → t.conn (o.p 12 4) = some x →
    t.mayPart (t.opFn o) x.partition = true →
    (o.p 8 1 = 2 → exec (.rmaConnect c) s = .next ((t.closeConn x).finish o.tag .ok 0)) ∧
    (o.p 8 1 = 1 → x.state = .created → o.p 11 1 < 4 → o.p 44 1 < 64 → o.p 45 1 < 3 → 1 ≤ o.p 46 1 % 32 → o.p 46 1 % 32 ≤ 20 →
      (bit (o.p 11 1) 1 = false → o.p 42 2 = 0) → (bit (o.p 11 1) 0 = false → o.p 24 12 = 0) → (o.expert = true → o.p 48 1 < 16) →
      t.ethReady x.port = true → exec (.rmaConnect c) s = .next ((t.updConn x.slot (fun x => { x with
        state := .ready, ipv6 := bit (o.p 11 1) 0, vlan := if bit (o.p 11 1) 1 then some (o.p 42 2) else none
        peerQpn := o.p 16 3, peerIp := o.p 20 16, peerMac := o.p 36 6, dscp := o.p 44 1, mtu := 1024 * 2 ^ o.p 45 1
        ackCode := o.p 46 1 % 32, retry := o.p 46 1 / 32, rnrCode := o.p 47 1 % 32, rnrRetry := o.p 47 1 / 32
        queue := if o.expert then o.p 48 1 else 0 })).finish o.tag .ok 0)) ∧
    (∀ w, o.p 8 1 = 3 → x.state ≠ .error → t.wrote o o.buf x.record = some w →
      exec (.rmaConnect c) s = .next (w.finish o.tag .ok 0))) ∧
  (∀ (s t : State) (c : Cmd) (o : Op), s.begins 0x91 c = some (o, t) → o.p 8 1 = 0 → o.handle = 0 → 1 ≤ o.p 32 1 → o.p 32 1 < 4 →
    partValid t.stg.live (o.p 33 1) = true → t.mayPart (t.opFn o) (o.p 33 1) = true → t.scopeOk (o.p 12 4) (o.p 33 1) = none →
    t.regionRange (o.p 16 8) (o.p 24 8) (o.p 33 1) = none →
    exec (.rmaRegion c) s = .next (State.settle o.tag (t.addRegion o
      { slot := 0, gen := 0, check := 0, pages := none, base := o.p 16 8, length := o.p 24 8, readable := bit (o.p 32 1) 0
        writable := bit (o.p 32 1) 1, partition := o.p 33 1, scope := 0, pinSlot := none, dead := false, dying := false }))) ∧
  (∀ (s u w : State) (o : Op) (r r' : RRegion) (i : Nat) (b : BitVec 64),
    lowestFree (s.rma.regions.map (·.slot)) 0 (min 65536 (s.rma.regions.length + 1)) = some i → s.entropyOk = true →
    u = { s with sec.waiting := s.sec.waiting.filter (·.1 != .op o.tag) } → u.draw = (b, w) →
    r' = { r with slot := i, gen := nextGen 8 (assoc u.rma.regionGens i 0), check := b.toNat % 256, scope := o.p 12 4 } →
    s.addRegion o r = .done .ok (r'.key + cdiv r'.length 64 % 2 ^ 32 * 2 ^ 32) { w with
      rma.regions := w.rma.regions ++ [r']
      rma.regionGens := assocSet w.rma.regionGens i r'.gen }) ∧
  (∀ (s t u : State) (c : Cmd) (o : Op) (n : Namespace) (v : View) (h count : Nat), s.begins 0x91 c = some (o, t) → o.p 8 1 = 1 →
    t.nsAny o.handle = some n → t.named n (o.p 16 4) (o.p 20 1) = .view v → (o.expert = true → o.p 33 1 = 0) →
    t.mayPart (t.opFn o) n.partition = true →
    count = (if o.p 28 4 = 0 then v.count n.geo.b - o.p 24 4 else o.p 28 4) → o.p 24 4 + count ≤ v.count n.geo.b → count ≠ 0 →
    t.scopeOk (o.p 12 4) n.partition = none → t.entropyOk = true →
    ({ t with sec.waiting := t.sec.waiting.filter (·.1 != .op o.tag) } : State).addSnapshot v none true = some (h, u) →
    ∀ r w, u.addRegion o
        { slot := 0, gen := 0, check := 0, pages := some (h, o.p 24 4, count), base := 0
          length := n.geo.l * count * n.geo.deliveredBytes n.geo.fmt, readable := true, writable := false
          partition := n.partition, scope := 0, pinSlot := none, dead := false, dying := false } = .done .ok r w →
      exec (.rmaRegion c) s = .next (w.finish o.tag .ok r)) ∧
  (∀ (s t : State) (c : Cmd) (o : Op) (r : RRegion), s.begins 0x91 c = some (o, t) → o.handle = 0 →
    t.rma.regions.find? (fun r => r.key == o.p 12 4 && (!r.dying || (o.p 8 1 = 2 && o.wait = .ended))) = some r →
    t.mayPart (t.opFn o) r.partition = true →
    (∀ u, o.p 8 1 = 2 → u = ({ t with
        rma.regions := upd (fun x : RRegion => x.slot == r.slot) (fun x => { x with dying := true }) t.rma.regions } : State) →
      u.regionUsed r = false → exec (.rmaRegion c) s = .next ((u.dropRegion r).finish o.tag .ok 0)) ∧
    (∀ w, o.p 8 1 = 3 → t.wrote o o.buf r.record = some w →
      exec (.rmaRegion c) s = .next (w.finish o.tag .ok (r.key + cdiv r.length 64 % 2 ^ 32 * 2 ^ 32))) ∧
    (∀ new : RRegion, o.p 8 1 = 4 → r.dead = false → o.expert = true → r.pages = none → 1 ≤ o.p 32 1 → o.p 32 1 < 4 →
      o.p 33 1 = r.partition → directWrite (t.itemsOf o) r.partition = true →
      t.regionRange (o.p 16 8) (o.p 24 8) r.partition = none → new = { r with
        base := o.p 16 8, length := o.p 24 8, readable := bit (o.p 32 1) 0, writable := bit (o.p 32 1) 1, dead := false } →
      exec (.rmaRegion c) s = .next (({ t with
        rma.regions := upd (fun x : RRegion => x.slot == r.slot) (fun _ => new) t.rma.regions
        rma.stale := ⟨r, t.clock.now + 512000⟩ :: t.rma.stale.filter (fun x => t.clock.now ≤ x.until_) } : State).finish o.tag .ok
          (r.key + cdiv new.length 64 % 2 ^ 32 * 2 ^ 32))))

/-- R350, R353 to R359: RMA_WRITE and RMA_READ queue one message for each unit; notification queues are created, destroyed,
matched and queried; a wait ends at its count or at its time. Log entries 42 and 92 mark the choices of the model in it. -/
def Obligations.RmaCommands : Prop :=
  (∀ (s t u w : State) (c : Cmd) (o : Op) (op : Nat) (i : Instr) (x : Conn) (p : SPort) (e r : RRegion) (ms : List Msg),
    s.begins op c = some (o, t) →
    o.opcode = op → ((op = 0x92 ∧ i = .rmaWrite c ∧ (bit (o.p 12 1) 0 = false → o.p 48 4 = 0)) ∨
      (op = 0x93 ∧ i = .rmaRead c ∧ o.p 12 1 = 0 ∧ r.pages = none)) →
    o.work = .nothing → o.p 12 1 < 2 → 1 ≤ o.p 40 8 → o.p 40 8 ≤ 2 ^ 31 → t.conn (o.p 8 4) = some x →
    t.mayPart (t.opFn o) x.partition = true → x.state = .ready → t.rmaBehind o = false → t.pickKey (o.p 16 4) = (some e, u) →
    u.entryNow e = some r → u.port x.port = some p → u.ethReady x.port = true → r.partition = u.opPart o → r.serves x = true →
    u.regionLive r = true → o.p 24 8 + o.p 40 8 ≤ r.length → ms = rmaMessages o (some r) p.messageSize →
    w = ms.foldl (fun s m => s.addMsg x.slot m) (u.setOp o.tag (fun o => { o with work := .sent [] })) →
    exec i s = .next (State.settle o.tag (if ms.length = 1 then .wait .none w else .long ms.length 0 w))) ∧
  (∀ (s t u : State) (c : Cmd) (o : Op) (x : Conn) (p : SPort) (ms : List Msg), s.begins 0x92 c = some (o, t) → o.opcode = 0x92 →
    o.work = .nothing → o.p 12 1 = 1 → o.p 40 8 = 0 → t.conn (o.p 8 4) = some x → t.mayPart (t.opFn o) x.partition = true →
    x.state = .ready → t.rmaBehind o = false → t.port x.port = some p → t.ethReady x.port = true →
    ms = rmaMessages o none p.messageSize →
    u = ms.foldl (fun s m => s.addMsg x.slot m) (t.setOp o.tag (fun o => { o with work := .sent [] })) →
    exec (.rmaWrite c) s = .next (State.settle o.tag (.wait .none u))) ∧
  (∀ (s t : State) (c : Cmd) (o : Op) (i : Nat) (q : NQ), s.begins 0x94 c = some (o, t) → o.p 8 1 = 0 → 64 ≤ o.p 32 4 →
    o.p 32 4 ≤ 65536 → 2 ^ Nat.log2 (o.p 32 4) = o.p 32 4 → o.p 36 1 < 32 → partValid t.stg.live (o.p 37 1) = true →
    o.p 38 2 < 2048 → o.p 40 8 % 4096 = 0 → t.mayPart (t.opFn o) (o.p 37 1) = true → t.partLink (o.p 36 1) (o.p 37 1) = true →
    lowestFree (t.rma.nqs.map (·.slot)) 0 (min 1024 (t.rma.nqs.length + 1)) = some i →
    q = { slot := i, gen := nextGen 22 (assoc t.rma.nqGens i 0), owner := t.opFn o, port := o.p 36 1, base := o.p 40 8
          entries := o.p 32 4, tail := 0, count := 0, phase := true, partition := o.p 37 1, vector := o.p 38 2, counter := 0
          armed := true } →
    exec (.rmaNotify c) s = .next (({ t with
      rma.nqs := t.rma.nqs ++ [q], rma.nqGens := assocSet t.rma.nqGens i q.gen } : State).finish o.tag .ok q.handle)) ∧
  (∀ (s t : State) (c : Cmd) (o : Op) (q : NQ), s.begins 0x94 c = some (o, t) → t.nq (o.p 12 4) = some q →
    t.mayPart (t.opFn o) q.partition = true →
    (o.p 8 1 = 1 → (∀ x ∈ t.q.ops, x.opcode = 0x95 → x.wait ≠ .counter) → exec (.rmaNotify c) s = .next (({ t with
      rma.nqs := t.rma.nqs.filter (fun x => x.slot != q.slot)
      rma.matchSlots := t.rma.matchSlots.filter (fun x => x.nq != q.slot) } : State).finish o.tag .ok 0)) ∧
    (o.p 8 1 = 2 → o.p 28 2 < 4096 → (o.p 24 4 ≠ 0 → (t.conn (o.p 24 4)).isSome = true) →
      (∀ x, t.conn (o.p 24 4) = some x → x.state ≠ .error) → exec (.rmaNotify c) s = .next (({ t with
      rma.matchSlots := ⟨o.p 28 2, q.slot, o.p 16 4, o.p 20 4, o.p 24 4⟩ :: t.rma.matchSlots.filter (fun x => x.slot != o.p 28 2) } :
        State).finish o.tag .ok 0)) ∧
    (o.p 8 1 = 3 → (∃ x ∈ t.rma.matchSlots, x.slot = o.p 28 2 ∧ x.nq = q.slot) → exec (.rmaNotify c) s = .next (({ t with
      rma.matchSlots := t.rma.matchSlots.filter (fun x => x.slot != o.p 28 2) } : State).finish o.tag .ok 0)) ∧
    (∀ w, o.p 8 1 = 4 → t.wrote o o.buf q.record = some w → exec (.rmaNotify c) s = .next (w.finish o.tag .ok 0))) ∧
  (∀ (s t : State) (c : Cmd) (o : Op) (x : Conn) (k : Nat), s.begins 0x95 c = some (o, t) → o.p 12 1 = 0 → 1 ≤ o.p 24 4 →
    o.p 24 4 ≤ 60000 → t.waitCounter o = some k → t.conn (o.p 8 4) = some x → t.mayPart (t.opFn o) x.partition = true →
    x.state ≠ .error →
    ((k % 2 ^ 64 + 2 ^ 64 - o.p 16 8) % 2 ^ 64 < 2 ^ 63 → exec (.rmaWait c) s = .next (t.finish o.tag .ok (k % 2 ^ 64))) ∧
    (2 ^ 63 ≤ (k % 2 ^ 64 + 2 ^ 64 - o.p 16 8) % 2 ^ 64 → o.work = .nothing → exec (.rmaWait c) s =
      .next (State.settle o.tag (.wait .counter (t.setOp o.tag (fun o => { o with work := .slots [t.clock.now] })))))) ∧
  (∀ (s : State) (tag k t : Nat) (l : List Nat) (o : Op), s.op tag = some o → o.opcode = 0x95 → o.work = .slots (t :: l) →
    o.wait = .counter → t + o.p 24 4 * 1000000 ≤ s.clock.now → s.waitCounter o = some k →
    exec (.rmaWaitTimeout tag) s = .next (s.finish tag .deadlineMissed (k % 2 ^ 64)))

/-- R345, R350 to R352, R355, R356: packets from the network: a request next in sequence moves the expected PSN past its packets
and waits for its memory with the key as it was on arrival; acknowledgements, refusals, congestion and time-outs; and the host's
release of notification entries. Log entries 91, 93 and 94 mark the choices of the model in it. -/
def Obligations.RemoteInbound : Prop :=
  (∀ (s u w : State) (m : Inbound) (kind imm length k start : Nat) (b : List Byte) (c : Conn) (r : Option RRegion),
    s.connIn m.qpn = some c → c.state = .ready → s.boot.halted = false → s.boot.linkwatch = false → m.ce = false →
    k = (if kind = 2 then 1 else packetsOf c.mtu length) → start = psnSub m.psn (k - 1) →
    psnDiff c.expectPsn start = 0 → u = s.bumpAt 0x281 k (some c.partition) (some c.handle) →
    u.admitRemote c m.key m.offset length (kind != 2) = (r, w) →
    (kind = 0 → length = b.length → exec (.inboundRdmaWrite m b) s = .next ((w.updConn c.slot (fun c => { c with
      expectPsn := psnAdd start (packetsOf c.mtu length) })).request ⟨⟨0, 0, 0, true⟩, 0, 0,
        .inbound ⟨0, m.qpn, m.psn, r, none, m.offset, b, 0, length⟩⟩)) ∧
    (kind = 1 → length = b.length → exec (.inboundRdmaWriteImm m b imm) s = .next ((w.updConn c.slot (fun c => { c with
      expectPsn := psnAdd start (packetsOf c.mtu length) })).request ⟨⟨0, 0, 0, true⟩, 0, 0,
        .inbound ⟨1, m.qpn, m.psn, r, (w.matchImm c imm).map (·.slot), m.offset, b, imm, length⟩⟩)) ∧
    (kind = 2 → exec (.inboundRdmaRead m length) s = .next ((w.updConn c.slot (fun c => { c with
      expectPsn := psnAdd start (packetsOf c.mtu length) })).request ⟨⟨0, 0, 0, true⟩, 0, 0,
        .inbound ⟨2, m.qpn, m.psn, r, none, m.offset, [], 0, length⟩⟩))) ∧
  (∀ (s : State) (qpn psn : Nat) (c : Conn), s.connIn qpn = some c → c.state = .ready →
    (c.inFlight psn = true → exec (.inboundAck qpn psn) s =
      .next ((s.bumpAt 0x281 1 (some c.partition) (some c.handle)).ackSeen c psn)) ∧
    (c.oldest.isSome = true →
      exec (.inboundNak qpn .remoteAccess) s =
        .next ((s.bumpAt 0x281 1 (some c.partition) (some c.handle)).connError c.slot .denied) ∧
      exec (.inboundNak qpn .invalidRequest) s =
        .next ((s.bumpAt 0x281 1 (some c.partition) (some c.handle)).connError c.slot .badParam) ∧
      exec (.inboundNak qpn .remoteOperational) s =
        .next ((s.bumpAt 0x281 1 (some c.partition) (some c.handle)).connError c.slot .mediaError) ∧
      exec (.inboundNak qpn .sequence) s =
        .next ((s.bumpAt 0x281 1 (some c.partition) (some c.handle)).connError c.slot .retry) ∧
      (∀ k, c.rnrRetry ≠ 7 → c.rnrRetry ≤ c.rnrTries → exec (.inboundNak qpn (.rnr k)) s =
        .next ((s.bumpAt 0x281 1 (some c.partition) (some c.handle)).connError c.slot .retry)))) ∧
  (∀ (s : State) (qpn psn : Nat) (b : List Byte) (c c' : Conn) (m : Msg) (u : State), s.connIn qpn = some c → c.state = .ready →
    b ≠ [] → b.length ≤ c.mtu → psn < 2 ^ 24 → psn = c.acked → c.inFlight psn = true → s.pool.heldReqs = [] →
    u = s.bumpAt 0x281 (packetsOf c.mtu b.length) (some c.partition) (some c.handle) → packetsOf c.mtu b.length = 1 →
    u.rma.conns.find? (·.slot == c.slot) = some c' → c'.oldest = some m → m.read = true →
    psnAdd (m.psn.getD 0) (m.got / c.mtu) = psn → m.got + b.length ≤ m.length → u.pool.heldReqs = [] →
    exec (.inboundReadResponse qpn psn b) s = .next (u.request ⟨⟨0, 0, 0, true⟩, 0, 0,
      .inbound ⟨3, qpn, psn, m.region, none, m.local_ + m.got, b, 0, b.length⟩⟩)) ∧
  (∀ (s : State) (qpn : Nat) (c : Conn), s.connIn qpn = some c → exec (.inboundCnp qpn) s =
    .next (((s.bumpAt 0x281 1 (some c.partition) (some c.handle)).bumpAt 0x286 1 (some c.partition) (some c.handle)).updConn
      c.slot (fun c => { c with rate := Config.dcqcnRate c.rate }))) ∧
  (∀ (s : State) (qpn t : Nat) (c : Conn), s.connOfQpn qpn = some c → c.state = .ready →
    (c.rnrWait = false → c.oldest.isSome = true → c.timer = some t → t + 4096 * 2 ^ c.ackCode ≤ s.clock.now →
      (c.retry ≤ c.retries → exec (.ackTimeout qpn) s = .next (s.connError c.slot .retry)) ∧
      (c.retries < c.retry → exec (.ackTimeout qpn) s =
        .next ((s.updConn c.slot (fun c => { c with retries := c.retries + 1 })).resend c))) ∧
    (c.rnrWait = true → exec (.rnrTimerExpiry qpn) s = .next (s.resend c))) ∧
  (∀ (s : State) (f : Fn) (tee : Bool) (nq v d : Nat) (q : NQ), s.rma.nqs.find? (fun q => q.slot == nq) = some q → q.owner = f →
    s.hears f tee = true → v % 2 ^ 16 < q.entries →
    d = (v % 2 ^ 16 + q.entries - (q.tail + q.entries - q.count) % q.entries) % q.entries →
    (0 < d → d < q.count → exec (.nqHeadDoorbell ⟨f, tee⟩ nq v) s = .next ((s.wake.setNq { q with
      count := q.count - d, armed := true }).nqEvent { q with count := q.count - d, armed := true })) ∧
    (0 < d → d = q.count →
      exec (.nqHeadDoorbell ⟨f, tee⟩ nq v) s = .next (s.wake.setNq { q with count := 0, armed := true })))

/-- R365 to R368, R399, Table 13-2: partners greet, attest, beat, become SUSPECT and DOWN. -/
def Obligations.PartnerEvents : Prop :=
  (∀ (s : State), s.boot.link = true →
    (s.boot.halted = false → ∃ u, exec .partnerGreeting s = .next u ∧ u.grp.lastGreeting = s.clock.now ∧
      u.out = ((s.mgmt.parties.filter (·.kind == .partner)).map (fun p => Output.greeting p.route Config.identityDigest s.slot s.boot.tray s.inSession)).reverse ++
        s.out) ∧
    (s.boot.halted = false → ∃ u, exec .partnerHeartbeatSend s = .next u ∧ u.grp.lastHeartbeat = s.clock.now ∧
      u.out = (s.grp.partners.map (fun p => Output.heartbeat p.entry s.sec.session
        (if s.boot.linkwatch then some s.boot.livePort else none) (s.sec.life = .releasing))).reverse ++ s.out) ∧
    (s.boot.halted = true → exec .partnerHeartbeatSend s = .next s)) ∧
  (∀ (s : State) (id : BitVec 128) (slot tray route : Nat) (claimed : Bool), s.wake.grp.devices.find? (·.identity == id) = none →
    s.grp.devices.length < 1024 → s.wake.inSession = false → ∃ u,
    exec (.partnerGreetingReceived id slot tray claimed route) s = .next u ∧
      u.grp.devices = s.grp.devices ++ [⟨id, slot, tray, claimed, route, false, 0, s.clock.now⟩]) ∧
  (∀ (s : State) (p tenant session : Nat) (id : BitVec 128), s.wake.inSession = true → tenant = s.sec.tenant →
    (partnerValid s.stg.live p = false ∨ partnerId s.stg.live p = id.toNat) → s.wake.entropyOk = true →
    exec (.partnerAttestation p true true id tenant session) s = .next (s.wake.partnerAttested p id session)) ∧
  (∀ (s : State) (i session route : Nat) (watch : Bool) (p : Partner), s.partner i = some p → session = p.session →
    p.state ≠ .down → exec (.partnerHeartbeatReceived i session watch route false) s =
      .next ((s.updPartner i (fun p => { p with
        linkWatch := watch, route := if watch then route else partnerRoute s.stg.live i })).partnerBeat p true)) ∧
  (∀ (s : State) (i : Nat) (p : Partner), s.partner i = some p →
    (p.state = .up → p.lastBeat + 3000000 ≤ s.clock.now → exec (.partnerSuspectTimeout i) s =
      .next (s.updPartner i (fun p => { p with state := .suspect })).groupChanged) ∧
    (p.state ≠ .down → p.lastBeat + 10000000 ≤ s.clock.now → exec (.partnerDownTimeout i) s = .next (s.partnerDown i false)) ∧
    (∀ t, p.alertSince = some t → t + 100000 ≤ s.clock.now → exec (.alertAnswerTimeout i) s = .next (s.partnerDown i false)) ∧
    (p.keySince.isSome = true → exec (.partnerKeyLimit i) s = .next (((s.partnerDown i false).updPartner i (fun p => { p with
        attested := false, keySince := none })).updDevice
          (partnerId ((s.partnerDown i false).updPartner i (fun p => { p with attested := false, keySince := none })).stg.live i)
          (fun d => { d with attested := false })))) ∧
  (∀ (s : State) (i : Nat) (p : Partner), trayPartners s.stg.live s.slot = [i] → s.partner i = some p → p.state ≠ .down →
    exec .trayAlertFall s = .next ((s.emit (.partner i msgHeartbeatRequest none 0)).updPartner i (fun p' => { p' with
      alertSince := some s.clock.now })))

/-- R368, R370 to R378: votes, commits, aborts, evictions, drops and lists between the members of a group; a device in link-watch
keeps what arrives until its deck is back. Log entries 23, 43 and 96 mark the choices of the model in it. -/
def Obligations.GroupProtocol : Prop :=
  (∀ (s : State) (slot : Nat) (b : GroupBlock) (dup f : Bool) (salt : BitVec 128) (lines : List ReconcileLine),
    s.wake.boot.linkwatch = true → s.wake.boot.awakeDeck = false →
    exec (.voteReceived slot b dup f) s = .next { s.wake with grp.held := s.wake.grp.held ++ [.vote slot b f] } ∧
    exec (.groupCommitReceived b f) s = .next { s.wake with grp.held := s.wake.grp.held ++ [.commit b f] } ∧
    exec (.groupAbortReceived b) s = .next { s.wake with grp.held := s.wake.grp.held ++ [.abort b] } ∧
    exec (.evictionProposalReceived slot b) s = .next { s.wake with grp.held := s.wake.grp.held ++ [.proposal slot b] } ∧
    exec (.evictionQueryReceived b) s = .next { s.wake with grp.held := s.wake.grp.held ++ [.query b] } ∧
    exec (.evictionAnswerReceived slot b f) s = .next { s.wake with grp.held := s.wake.grp.held ++ [.answer slot b f] } ∧
    exec (.groupEvictionOrder b) s = .next { s.wake with grp.held := s.wake.grp.held ++ [.evict b] } ∧
    exec (.dropReportReceived b) s = .next { s.wake with grp.held := s.wake.grp.held ++ [.dropReport b] } ∧
    exec (.groupDropOrder b) s = .next { s.wake with grp.held := s.wake.grp.held ++ [.drop b] } ∧
    exec (.unindexReportReceived b) s = .next { s.wake with grp.held := s.wake.grp.held ++ [.unindexReport b] } ∧
    exec (.groupUnindexOrder b) s = .next { s.wake with grp.held := s.wake.grp.held ++ [.unindex b] } ∧
    exec (.reconcileListReceived slot salt lines) s =
      .next { s.wake with grp.held := s.wake.grp.held ++ [.lines slot salt lines] }) ∧
  (∀ (s : State) (b : GroupBlock) (f : Bool), s.boot.linkwatch = false →
    exec (.groupCommitReceived b f) s = .next (s.groupCommit b f) ∧
    exec (.groupAbortReceived b) s = .next (s.groupAbort b) ∧
    exec (.groupEvictionOrder b) s = .next (s.groupEvict b) ∧
    exec (.groupDropOrder b) s = .next (s.groupDrop b) ∧
    exec (.groupUnindexOrder b) s = .next (s.groupUnindex b)) ∧
  (∀ (s : State) (slot : Nat) (b : GroupBlock) (n : Namespace), s.boot.linkwatch = false → s.groupNs b.salt = some n →
    s.leads n = true → n.active = true →
    (∀ dup full v, s.memberUp slot = true → (s.castVote slot b full).decided b = some v →
      exec (.voteReceived slot b dup full) s =
        .next (((s.castVote slot b full).closeBallot b msgCommit (b2n v)).groupCommit b v)) ∧
    (∀ dup full, s.memberUp slot = true → (s.castVote slot b full).decided b = none →
      exec (.voteReceived slot b dup full) s = .next (s.castVote slot b full)) ∧
    exec (.dropReportReceived b) s = .next ((s.toMembers msgDrop (some b) 0).groupDrop b) ∧
    exec (.unindexReportReceived b) s = .next ((s.toMembers msgUnindex (some b) 0).groupUnindex b) ∧
    (s.memberUp slot = true → (∀ p ∈ s.grp.proposals, p.block ≠ b) →
      exec (.evictionProposalReceived slot b) s = .next (({ s with
        grp.proposals := ⟨b, if s.groupFree b then 2 ^ s.slot else 0, !s.groupFree b, s.clock.now, false⟩ ::
          s.grp.proposals.filter (fun p => p.block != b) } : State).toMembers msgQuery (some b) 0))) ∧
  (∀ (s : State) (slot : Nat) (b : GroupBlock) (full : Bool), (∀ x ∈ s.grp.ballots, x.block ≠ b) → slot < 8 →
    (s.castVote slot b full).grp.ballots = s.grp.ballots ++ [⟨b, 2 ^ slot, full, s.clock.now, s.stg.epoch⟩] ∧
    (s.castVote slot b full).decided b = none) ∧
  (∀ (s : State) (b : GroupBlock) (x : Ballot), x ∈ s.grp.ballots → x.block = b → x.since + 5000000 ≤ s.clock.now →
    exec (.voteTimeout b) s = .next ((s.closeBallot b msgAbort 0).groupAbort b)) ∧
  (∀ (s : State) (b : GroupBlock) (x : Prepared), x ∈ s.grp.prepared → x.block = b → x.since + 6000000 ≤ s.clock.now →
    exec (.voteAnswerTimeout b) s = .next (s.groupAbort b)) ∧
  (∀ (s : State) (slot : Nat) (b : GroupBlock) (n : Namespace), s.boot.linkwatch = false → s.groupNs b.salt = some n →
    exec (.evictionQueryReceived b) s = .next (s.toLeader n msgAnswer b (b2n (s.groupFree b))) ∧
    (∀ p free, s.grp.proposals.find? (fun p => p.block == b && !p.refused) = some p → s.leads n = true →
      s.clock.now < p.since + 1000000 →
      (free = true → Nat.lor p.free (2 ^ slot) % 256 = 255 → exec (.evictionAnswerReceived slot b free) s =
        .next ((s.toMembers msgEvict (some b) 0).groupEvict b)) ∧
      (free = true → Nat.lor p.free (2 ^ slot) % 256 ≠ 255 → exec (.evictionAnswerReceived slot b free) s = .next { s with
        grp.proposals := upd (fun p : Proposal => p.block == b) (fun x => { x with
          free := Nat.lor p.free (2 ^ slot), refused := false }) s.grp.proposals }) ∧
      (free = false → exec (.evictionAnswerReceived slot b free) s = .next { s with
        grp.proposals := upd (fun p : Proposal => p.block == b) (fun x => { x with free := p.free, refused := true })
          s.grp.proposals }))) ∧
  (∀ (s : State) (b : GroupBlock), (∀ p ∈ s.grp.proposals, p.mine = false) → exec (.evictionProposalLapse b) s =
    .next { s with grp.proposals := s.grp.proposals.filter (fun p => !(p.block == b && decide (p.since + 1000000 ≤ s.clock.now))) }) ∧
  (∀ (s : State) (slot : Nat) (salt : BitVec 128) (lines : List ReconcileLine) (n : Namespace), s.boot.linkwatch = false →
    s.groupNs salt = some n →
    (s.leads n = true → n.gstate ≠ .reconciling → exec (.reconcileListReceived slot salt lines) s = .next { s with
      grp.lists := (slot, salt, lines) :: s.grp.lists.filter (fun l => !(l.1 == slot && l.2.1 == salt)) }) ∧
    (s.leads n = false → n.gstate = .reconciling → s.leader n = some slot →
      exec (.reconcileListReceived slot salt lines) s = .next (s.reconciled n)))

/-- R393 to R395: a failed health test stops the source and is recorded, a restart serves again, and what waited longer than 10 ms
fails; a number served clears the consecutive failures. Log entry 99 marks the choice of the model in it. -/
def Obligations.EntropyEvents : Prop :=
  (∀ (s : State) (test : EntropyTest), s.boot.phase = .up → s.sec.consecFail = 0 → s.sec.latched = false →
    exec (.entropyHealthFail test) s = .next ((({ s with
      sec.sourceOk := false
      sec.requests := 0
      sec.consecFail := 1
      sec.fails := min 255 (s.sec.fails + 1)
      sec.apt := test == EntropyTest.adaptiveProportion
      sec.rct := test == EntropyTest.repetitionCount
      sec.latched := false } : State).log (.plain .recovered 0x0601 0x6000 none)).bump 0x303 1).securityChanged) ∧
  (∀ (s u : State), s.sec.sourceOk = false → s.sec.latched = false →
    u = ({ s with sec.sourceOk := true, sec.requests := 0 } : State).securityChanged →
    (s.sec.waiting = [] → exec .entropyRestartDone s = .next { u with sec.waiting := [] }) ∧
    (∀ t a, s.sec.waiting = [(.op t, a)] → exec .entropyRestartDone s = .next { u with sec.waiting := [(.op t, a)] }) ∧
    (∀ p id n a, s.sec.waiting = [(.partner p id n, a)] → exec .entropyRestartDone s =
      .next (({ u with sec.waiting := [] } : State).partnerAttested p id n))) ∧
  (∀ (s : State) (r : Nat), s.sec.sourceOk = false → exec (.entropyWaitTimeout r) s =
    .next (s.failWaiting (fun x => x.1 = r && x.2.2 + 10000000 ≤ s.clock.now))) ∧
  (∀ (s : State), s.sec.sourceOk = true → s.sec.latched = false → s.sec.consecFail ≠ 0 →
    exec .consecFailClear s = .next ({ s with sec.consecFail := 0 }).securityChanged)

/-- R58, R475, R479, R480, Tables 16-10 and 18-3: what a write of a register that a command does not carry does, what a read
answers, and the RC fields that it clears. R424 to R433: RAS_HEAD releases records and arms the source again, RESUME leaves a halt
that is not fatal, and CLEAR_LOST zeroes the lost counters. Log entries 111, 121 and 140 mark the choices of the model in it. -/
def Obligations.RegisterRows : Prop :=
  (∀ (s : State) (f : Fn) (tee : Bool) (v : Nat), s.boot.link = true → s.hears f tee = true →
    (s.wake.mayWrite f = true → exec (.registerWrite ⟨f, tee⟩ ⟨0, 0x58⟩ 8 (some v)) s =
      .next { s.wake with clock.wakeAt := v % 2 ^ 64 }) ∧
    (s.wake.mayWrite f = false → exec (.registerWrite ⟨f, tee⟩ ⟨0, 0x58⟩ 8 (some v)) s = .next s.wake) ∧
    ((s.wake.adminOf f).enable = false →
      exec (.registerWrite ⟨f, tee⟩ ⟨0, 0x100000⟩ 8 (some v)) s =
        .next (s.wake.setAdmin { s.wake.adminOf f with sqBase := v % 2 ^ 64 / 4096 * 4096 }) ∧
      exec (.registerWrite ⟨f, tee⟩ ⟨0, 0x100008⟩ 8 (some v)) s =
        .next (s.wake.setAdmin { s.wake.adminOf f with cqBase := v % 2 ^ 64 / 4096 * 4096 }) ∧
      exec (.registerWrite ⟨f, tee⟩ ⟨0, 0x100010⟩ 4 (some v)) s = .next (s.wake.setAdmin { s.wake.adminOf f with depth := v % 2 ^ 32 })) ∧
    ((s.wake.adminOf f).enable = true → exec (.registerWrite ⟨f, tee⟩ ⟨0, 0x100000⟩ 8 (some v)) s = .next s.wake ∧
      exec (.registerWrite ⟨f, tee⟩ ⟨0, 0x100008⟩ 8 (some v)) s = .next s.wake ∧
      exec (.registerWrite ⟨f, tee⟩ ⟨0, 0x100010⟩ 4 (some v)) s = .next s.wake) ∧
    (∀ n, n < 2048 → exec (.registerWrite ⟨f, tee⟩ ⟨0, 0xF21000 + 4 * n⟩ 4 (some v)) s = .next (s.wake.setVector {
      s.wake.vector f n with timer := bits (v % 2 ^ 32) 25 16, count := bits (v % 2 ^ 32) 7 0 })) ∧
    (bit (v % 2 ^ 32) 31 = true → exec (.registerWrite ⟨f, tee⟩ ⟨0, 0xF20000⟩ 4 (some v)) s =
      .next { s.wake with tel.bankHold := f :: s.wake.tel.bankHold.filter (· != f) }) ∧
    (∀ off, exec (.registerWrite ⟨f, tee⟩ ⟨0, off⟩ 4 none) s =
      .next ((s.wake.readClears f off).emit (.read f (some (s.readBar0 f off 4))))) ∧
    (s.mayWrite f = true → (s.readClears f 0x700008).pool.timeouts = 0 ∧ (s.readClears f 0x601000).dlv.planMisses = 0) ∧
    (s.mayWrite f = false → ∀ off, s.readClears f off = s) ∧
    (∀ n, n < 2 ^ 13 → exec (.registerWrite ⟨f, tee⟩ ⟨2, 64 * n + 8⟩ 4 none) s =
      .next (s.wake.emit (.read f (some ((s.pair n).elim 0 QPair.qstatus))))) ∧
    (∀ off, off < 0x58 → off % 4 = 0 → exec (.registerWrite ⟨f, tee⟩ ⟨0, off⟩ 4 (some v)) s = .next s.wake)) ∧
  (∀ (s : State) (f : Fn) (tee : Bool) (v : Nat), s.boot.link = true → s.hears f tee = true →
    (s.mayWrite f = true → (v % 2 ^ 13 + 8192 - s.ras.head) % 8192 = s.ras.unread → s.wake.ras.tail = v % 2 ^ 13 →
      s.ras.tail < 8192 → exec (.rasHeadWrite ⟨f, tee⟩ v) s = .next { s.wake with ras.head := v % 2 ^ 13, tel.rasArmed := true }) ∧
    (bits v 31 16 = 0x5EB7 → bit v 1 = true → s.wake.boot.halted = true → s.wake.ras.haltSource ≠ 4 →
      s.wake.boot.haltN = false → s.wake.tenantFn f = true → ∃ u, exec (.rasResume ⟨f, tee⟩ v) s = .next u ∧
        u = ({ s.wake with
          boot.halted := false
          ras.haltSource := 0
          store.namespaces := upd (fun n : Namespace => n.width == 8 && n.gstate == .active)
            (fun n : Namespace => { n with gstate := .degraded }) s.wake.store.namespaces } : State).readyChanged.regroup) ∧
    (s.mayWrite f = true → exec (.rasClearLost ⟨f, tee⟩) s = .next { s.wake with ras.lost := [0, 0, 0, 0, 0, 0] }))

/-- R382 to R391, Table 14-1: the lifecycle: UNCLAIMED, CLAIMING, CLAIMED, OPERATING, RELEASING, and the reports of it. Log
entries 98 and 104 mark the choices of the model in it. -/
def Obligations.TenantLifecycle : Prop :=
  (∀ (s t : State) (c : Cmd) (o : Op) (x : Spdm), s.begins 0xA0 c = some (o, t) → t.sec.claimOp ≠ some o.tag →
    t.spdmOn (t.opFn o) (o.p 8 4) = some x → t.sec.life = .unclaimed → x.mutualAuth = true → x.key ≠ 0 →
    (t.mgmt.policy = [] ∨ x.root ∈ t.mgmt.policy) →
    (∀ u, u = ({ t with
        sec.life := .claiming
        sec.claimOp := some o.tag
        sec.claimFn := some x.fn
        sec.tenantKey := x.key } : State).securityChanged → u.sec.latched = false →
      ((u.senseFuses false).boot.marginal = u.boot.marginal) → (u.senseFuses false).boot.rollback ≤ (u.senseFuses false).boot.svn →
      exec (.tenantClaim c) s = .next (State.settle o.tag (claimRest o (u.senseFuses false))))) ∧
  (∀ (o : Op) (s : State), s.boot.deck = true → s.sec.cleanFailed = false → s.entropyOk = true →
    ∃ (root id : Nat) (w u : State),
      ((({ s with sec.waiting := s.sec.waiting.filter (·.1 != .op o.tag) } : State).drawN 6).1 = root ∧
        (({ s with sec.waiting := s.sec.waiting.filter (·.1 != .op o.tag) } : State).drawN 6).2.drawN 1 = (id, w)) ∧
      (claimRest o s = if id = 0 then .wait .entropy { w with sec.requests := 0 }
        else .done .ok id ((State.securityChanged u).bump 0x301 1).attestAll) ∧
      u.sec.session = id ∧ u.sec.life = .claimed ∧ u.sec.claimOp = none ∧ u.sec.keysPresent = true ∧ u.sec.root = some root ∧
      u.boot.claims = s.boot.claims + 1) ∧
  (∀ (s : State) (tag : Nat) (o : Op), s.sec.claimOp = some tag → s.op tag = some o → o.long = false → o.started = true →
    o.finished = false → o.opcode = 0xA0 → s.boot.halted = false → s.awakeFor 0xA0 = true → (s.actFor o).sec.claimOp = some o.tag →
    exec .claimResume s = .next (State.settle tag (claimRest o (s.actFor o)))) ∧
  (∀ (s t : State) (c : Cmd) (o : Op), s.begins 0xA1 c = some (o, t) → t.tenantSession (t.opFn o) (o.p 8 4) = true →
    t.sec.life = .claimed → o.p 16 8 = t.sec.session → t.boot.rollback ≤ t.boot.svn →
    exec (.tenantActivate c) s = .next (({ t with sec.life := .operating } : State).securityChanged.finish o.tag .ok 0)) ∧
  (∀ (s t : State) (c : Cmd) (o : Op), s.begins 0xA2 c = some (o, t) → o.wait = .none →
    t.tenantSession (t.opFn o) (o.p 8 4) = true → t.inSession = true → exec (.tenantRelease c) s =
      .next (State.settle o.tag (.wait .release (t.beginRelease (some o.tag))))) ∧
  (∀ (s : State) (tag : Nat), s.sec.life = .releasing → s.sec.releaseAt = none → s.pool.recalls = [] →
    s.sec.releaseOp = some tag → exec .releaseWalkEnd s =
      .next (({ s with sec.releaseAt := some s.clock.now, sec.releaseOp := none } : State).finish tag .ok 0)) ∧
  (∀ (s : State) (t : Nat), s.sec.releaseAt = some t → s.sec.life = .releasing → t + 1000000 ≤ s.clock.now →
    exec .releaseResetTimer s = .next (s.warmReset (if s.sec.releaseMgmt then 2 else 1))) ∧
  (∀ (s t w : State) (c : Cmd) (o : Op), s.begins 0xA3 c = some (o, t) → t.wrote o o.buf t.tenantStatus = some w →
    exec (.tenantStatus c) s = .next (w.finish o.tag .ok 0)) ∧
  (∀ (s t w : State) (c : Cmd) (o : Op), s.begins 0xA4 c = some (o, t) → o.buf % 64 = 0 →
    t.wrote o o.buf (t.signedReport (o.p 8 32) ++ leBytes 32 0) = some w →
    exec (.attestReport c) s = .next (w.finish o.tag .ok 0))

/-- R404, R406: weight keys are bound and unbound and network keys set and removed inside the tenant's session; MKA then secures
the port. Log entries 6 and 105 mark the choices of the model in it. -/
def Obligations.KeyCommands : Prop :=
  (∀ (s t : State) (c : Cmd) (o : Op) (b : List Byte), s.begins 0xA5 c = some (o, t) →
    t.tenantSession (t.opFn o) (o.p 20 4) = true → o.p 8 1 = 0 → 320 ≤ o.p 16 4 → o.p 16 4 ≤ 128 + 192 * 4096 →
    t.got o o.buf (o.p 16 4) = some b → blobOk (b.take 128) (o.p 16 4) = true → exec (.weightBind c) s =
      .next (State.settle o.tag ((bindBlob b t).after (fun u => u.readFor o o.buf (o.p 16 4))))) ∧
  (∀ (s : State) (b : List Byte),
    (beNat (((b.take 128).drop 8).take 48) = 0 ∨ beNat (((b.take 128).drop 8).take 48) = s.sec.tenant) →
    leNat (((b.take 128).drop 56).take 4) ≤ s.boot.svn →
    bindBlob b s = (match blobEntry b with
      | none => .done .denied 0 s
      | some e => match Config.gcmOpen (Config.hkdf (Config.ecdh (beNat ((e.drop 48).take 96))) labelBind) 0 (b.take 128)
          ((e.drop 144).take 32) (leNat ((e.drop 176).take 16)) with
        | none => .done .integrityError 0 s
        | some k => s.addBinding (leNat k) (leNat (((b.take 128).drop 60).take 8)))) ∧
  (∀ (s : State) (key iv i : Nat), lowestFree (s.sec.bindings.map (·.slot)) 0 256 = some i →
    ∃ g, g = nextGen 24 (assoc s.sec.bindingGens i 0) ∧ s.addBinding key iv = .done .ok (mkHandle 8 i g)
      { s with sec.bindings := s.sec.bindings ++ [⟨i, g, key, iv⟩], sec.bindingGens := assocSet s.sec.bindingGens i g }) ∧
  (∀ (s t : State) (c : Cmd) (o : Op) (x : Binding), s.begins 0xA5 c = some (o, t) →
    t.tenantSession (t.opFn o) (o.p 20 4) = true → o.p 8 1 = 1 → t.binding (o.p 12 4) = some x →
    (∀ w ∈ t.tiers.weights, w.binding ≠ o.p 12 4) → exec (.weightBind c) s =
      .next (({ t with sec.bindings := t.sec.bindings.filter (·.slot != x.slot) }).finish o.tag .ok (o.p 12 4))) ∧
  (∀ (s t : State) (c : Cmd) (o : Op), s.begins 0xA6 c = some (o, t) → t.tenantSession (t.opFn o) (o.p 12 4) = true →
    o.p 8 1 < 4 →
    (o.p 9 1 = 1 → (∀ m ∈ t.sec.macsec, m.port = o.p 8 1 → m.stopped = false) →
      exec (.netKey c) s = .next ((t.setMac (o.p 8 1) []).finish o.tag .ok 0)) ∧
    (∀ m, o.p 9 1 = 1 → m ∈ t.sec.macsec → m.port = o.p 8 1 → m.stopped = true →
      exec (.netKey c) s = .next ((t.setMac (o.p 8 1) [⟨o.p 8 1, none, false, false, true⟩]).finish o.tag .ok 0)) ∧
    (∀ b, o.p 9 1 = 0 → o.p 10 1 < 2 → t.got o o.buf 80 = some b → leNat (b.drop 76) = 0 →
      exec (.netKey c) s = .next (match Config.gcmOpen (Config.hkdf (Config.exportSecret (o.p 12 4)) labelNetkey)
          (leNat (b.take 12)) [] ((b.drop 12).take 48) (leNat ((b.drop 60).take 16)) with
        | none => (t.readFor o o.buf 80).finish o.tag .integrityError 0
        | some k => ((t.setMac (o.p 8 1) [⟨o.p 8 1, some (leNat (k.take 32)), bit (o.p 10 1) 0, false,
          t.sec.macsec.any (fun m => m.port == o.p 8 1 && m.stopped)⟩]).readFor o o.buf 80).finish o.tag .ok 0))) ∧
  (∀ (s : State) (port : Nat) (m : MacSec), m ∈ s.sec.macsec → m.port = port → m.cak.isSome = true → m.secured = false →
    exec (.mkaSecured port) s = .next ({ s with
      sec.macsec := upd (fun m : MacSec => m.port == port) (fun m => { m with secured := true, stopped := false }) s.sec.macsec } :
        State).securityChanged)

/-- R396, R397, R400 to R403: SPDM, IDE and TDISP: sessions, key sets and interfaces move between their states. R411 to R414: JTAG
answers BYPASS and IDCODE always, nothing else while debug is locked, and an unlocked device that is not UNCLAIMED ends its
session with cause 4 and resets. Log entries 100, 101, 102, 103, 105 and 106 mark the choices of the model in it. -/
def Obligations.LinkAndDebugSecurity : Prop :=
  ((∀ (s : State) (f : Fn), s.doe f = true → exec (.spdmRequest f .getVersion) s = .next (s.wake.emit (.spdm f true [0x12, 0x13])) ∧
    (∀ id x, s.wake.spdmOn f id = some x → exec (.spdmRequest f (.endSession id)) s =
      .next (((s.wake.updSpdm id (fun x => { x with records := x.records + 1 })).endSpdm id).emit (.spdm f true []))) ∧
    (∀ id auth key root x, x ∈ s.wake.sec.spdms → x.id = id → x.fn = f → x.established = false →
      exec (.spdmRequest f (.finish id auth key root)) s = .next (((s.wake.updSpdm id (fun x => { x with
        established := true, mutualAuth := auth, key := key % 2 ^ 384, root := root
        lastBeat := s.wake.clock.now })).bump 0x300 1).emit (.spdm f true []))) ∧
    (∀ hb, s.wake.sec.spdms.length < 16 → s.wake.entropyOk = true →
      exec (.spdmKeyExchange f hb) s = .next (s.wake.keyExchange f hb)) ∧
    (∀ hb, 16 ≤ s.wake.sec.spdms.length → exec (.spdmKeyExchange f hb) s = .next (s.wake.emit (.spdm f false [])))) ∧
  (∀ (s : State) (id : Nat) (x : Spdm), x ∈ s.sec.spdms → x.id = id →
    ((2 ^ 32 ≤ x.records ∨ x.since + 86400000000000 ≤ s.clock.now) → exec (.spdmSessionLimit id) s = .next (s.endSpdm id)) ∧
    (x.established = true → x.hbeat ≠ 0 → x.lastBeat + x.hbeat * 1000000000 ≤ s.clock.now →
      exec (.spdmHeartbeatTimeout id) s = .next (s.endSpdm id))) ∧
  (∀ (s u : State) (link id : Nat) (st : IdeStream) (x : Spdm), s.spdmOn ⟨link, 0⟩ id = some x →
    u = s.wake.updSpdm id (fun x => { x with records := x.records + 1 }) →
    (exec (.ideKmQuery link id) s = .next (u.emit (.ideKm link true (1 + 8 * 2 ^ 8 + b2n (u.ideOk link (.mem true)) * 2 ^ 16)))) ∧
    (u.ideOk link st = true → u.ide link st = none → exec (.ideKmKeyProg link id st 0) s =
      .next ((u.setIde ⟨link, st, some u.clock.now, none, none, false, false⟩).emit (.ideKm link true 0))) ∧
    (∀ y t, u.ide link st = some y → y.k0 = some t →
      exec (.ideKmKSetGo link id st 0) s =
        .next (((u.setIde { y with active := some 0, secure := true, left := false }).ideReady link).emit (.ideKm link true 0)) ∧
      (y.active ≠ some 0 → exec (.ideKmKSetStop link id st 0) s =
        .next ((u.setIde { y with k0 := none }).emit (.ideKm link true 0))) ∧
      (y.active = some 0 → exec (.ideKmKSetStop link id st 0) s =
        .next (((u.setIde { y with k0 := none }).ideLeaves { y with k0 := none }).emit (.ideKm link true 0))))) ∧
  (∀ (s : State) (link : Nat) (st : IdeStream) (x : Ide), s.ide link st = some x →
    exec (.ideKeyLimit link st) s = .next (s.ideLeaves x)) ∧
  (∀ (s : State) (f : Fn), (s.tdi f = .unlocked → s.mayLock f = true →
      exec (.lockInterfaceRequest f) s = .next (s.setTdi f .locked)) ∧
    (s.tdi f = .locked → exec (.startInterfaceRequest f) s = .next (s.setTdi f .run)) ∧
    (s.tdi f ≠ .locked → exec (.startInterfaceRequest f) s = .next (s.emit (.tdisp f false (s.tdi f)))) ∧
    (s.hostOf f = none → (s.killPairs f).hostOf f = none →
      exec (.stopInterfaceRequest f) s = .next (((s.killPairs f).discardBank f).setTdi f .unlocked))) ∧
  (∀ (s : State) (f : Fn), ∃ u, exec (.functionLevelReset f) s = .next u ∧ (∀ x ∈ u.sec.config, x.1 ≠ f) ∧
    (∀ a ∈ u.q.admin, a.fn ≠ f) ∧ (∀ v ∈ u.tel.vectors, v.fn ≠ f) ∧ f ∉ u.tel.bankHold ∧ f ∉ u.tel.funcMask ∧
    (∀ x ∈ u.pool.hdm, x.1 ≠ f)) ∧
  (∀ (s : State) (f : Fn) (bars cmd : Nat), s.configOf f ≠ (bars, cmd) → exec (.configurationSpaceWrite f bars cmd) s =
    .next (({ s with sec.config := (f, bars, cmd) :: s.sec.config.filter (·.1 != f) }).failTdis (· == f)))) ∧
  (∀ (s : State), exec (.jtagInstruction true) s = .next (s.emit (.jtag true)) ∧
    (s.sec.debugOpen = false → exec (.jtagInstruction false) s = .next (s.emit (.jtag false))) ∧
    (s.sec.debugOpen = true → s.sec.life = .unclaimed → exec (.jtagInstruction false) s = .next (s.emit (.jtag true))) ∧
    (s.sec.debugOpen = true → s.sec.life ≠ .unclaimed → ∃ u, exec (.jtagInstruction false) s = .next u ∧ u.sec.lastCause = 4 ∧
      u.sec.life = .unclaimed ∧ u.sec.keysPresent = false ∧ u.pool.mem = [] ∧ u.store = Store.reset ∧ u.boot.link = false))

/-- R417 to R423, R434, Table 15-3: components that fail leave service with their record; a fatal fault destroys the session and
halts; and a halted device stops what it was doing. Log entries 108, 110 and 112 mark the choices of the model in it. -/
def Obligations.ComponentFaults : Prop :=
  (∀ (s : State) (n : Nat), fabricLink n = true → s.ras.out.contains (.fabricLink n) = false →
    exec (.fabricLinkAckTimeout n) s =
      .next (((s.takeOut (.fabricLink n)).fabricReroute n).log
        (.plain .degraded 0x0202 (0x7000 + 0x100 * (n / 16) + n % 16) none)) ∧
    (s.ras.out.contains (.fabricHalf n) = false → exec (.fabricLaneDown n) s =
      .next ((s.takeOut (.fabricHalf n)).log
        (.plain .degraded 0x0201 (0x7000 + 0x100 * (n / 16) + n % 16) none)))) ∧
  (∀ (s t : State) (n : Nat), n < 6 → bit s.boot.stackOk n = true → t = ({ s with
      boot.stackOk := s.boot.stackOk - 2 ^ n } : State).readyChanged.log (.plain .degraded 0x0105 (0x1000 + 0x100 * n + 0x13) none) →
    (s.deckRebuilds = true → exec (.hbmStackTimeout n) s = .next t) ∧
    (s.deckRebuilds = false → s.store.blocks = [] → exec (.hbmStackTimeout n) s =
      .next (((((t.loseTails []).loseTiles (fun _ x => x.tier = 0 && x.home = n)).poisonPlace 0 n).noteShort)))) ∧
  (∀ (s : State) (n c : Nat), n < 6 → c < 32 → bit s.boot.stackOk n = true →
    (4 ≤ s.laneFaults n c → exec (.hbmDataLaneFault n c) s = .next (s.loseStack n)) ∧
    (s.laneFaults n c < 4 → exec (.hbmDataLaneFault n c) s = .next ((s.takeOut (.hbmLane n c 1)).log
      ⟨.recovered, 0x0104, 0x1000 + 0x100 * n + 0x13, none, none, none, c, false⟩))) ∧
  (∀ (s : State) (c : Nat), c < 8 → bit s.boot.causewayOk c = true → s.store.blocks = [] → s.tiers.leases = [] →
    exec (.ddrChannelTimeout c) s = .next ((((({ s with boot.causewayOk := s.boot.causewayOk - 2 ^ c } : State).readyChanged.log
      (.plain .degraded 0x0115 (0x5000 + 0x100 * (c / 4) + 0x20 + c) none)).loseTiles
        (fun _ x => x.tier = 1 && x.chan = c)).poisonPlace 1 c).noteShort)) ∧
  (∀ (s : State) (b : Nat), b < 256 → (s.bank b).lost = false → s.bankList b = [] → exec (.bankPortTimeout b) s =
    .next (({ s with idx.banks := { s.bank b with lost := true } :: s.idx.banks.filter (·.num != b) } : State).log
      (.plain .degraded 0x0124 (0x2000 + 0x100 * (b / 64) + b % 64) none))) ∧
  (∀ (s : State) (l : Nat), s.boot.phase = .up →
    exec (.fatalFault (.dieFailed l)) s = .next ({ s with sec.fatalPersists := true }.fatal (fatalReport l 1)) ∧
    exec (.fatalFault (.secondFault l)) s = .next (s.fatal (fatalReport l 3)) ∧
    exec (.fatalFault (.tableUncorrectable l)) s =
      .next ((s.log (.plain .fatal 0x0122 l none)).fatal (fatalReport l 2)) ∧
    (s.sec.life ≠ .claiming → exec (.fatalFault .cleanState) s = .next { s with sec.cleanFailed := true })) ∧
  (∀ (s : State), s.boot.halted = true → (∀ o ∈ s.q.ops, haltedAccepts o.opcode = true) → (∀ p ∈ s.dlv.ports, p.num < 32) →
    exec .haltComplete s = .next { s with boot.ethUp := 0 }) ∧
  (∀ (s : State), s.boot.halted = false → exec .haltComplete s = .next s) ∧
  (∀ (s : State) (pier slice : Nat), pier < 6 → slice < 16 → (pier, slice) ∉ s.att.slicesOut →
    exec (.attentionSliceWatchdog pier slice) s = .next { s with att.slicesOut := (pier, slice) :: s.att.slicesOut }) ∧
  (∀ (s : State) (span core : Nat), span < 2 → core < 8 → s.ras.out.contains (.core span core) = false →
    exec (.controlCoreWatchdog span core) s =
      .next ((s.takeOut (.core span core)).log (.plain .recovered 0x0304 (0x3000 + 0x100 * span + core) none)))

/-- R437 to R455: monitors clear, dumps start, stop and take their instants, shared sources are acknowledged, moderation timers
send, holds clear, and fixed-rate periods end. Log entries 115 and 116 mark the choices of the model in it. -/
def Obligations.TelemetryRows : Prop :=
  (∀ (s : State) (f : Fn) (tee : Bool) (n : Nat), s.mayCount f tee = true → n < 64 → exec (.monitorClear ⟨f, tee⟩ n) s =
    .next (s.wake.setMonitor { s.monitor n with count := 0, hit := false })) ∧
  (∀ (s t : State) (c : Cmd) (o : Op), s.begins 0xB0 c = some (o, t) →
    (∀ d, o.p 8 1 = 1 → t.tel.dump = some d → d.qp = o.qp →
      exec (.cntDump c) s = .next (({ t with tel.dump := none }).finish o.tag .ok 0)) ∧
    (∀ k, o.p 8 1 = 0 → k = t.portOf o (o.p 28 1) → k < 32 → o.buf % 4096 = 0 →
      o.p 12 2 ∈ [2, 4, 8, 16, 32, 64, 128, 256] → 100 ≤ o.p 24 4 → o.p 24 4 ≤ 10000000 → o.time + 100000 ≤ o.p 16 8 →
      t.tel.dump = none → outboundDenied t.stg.live (t.portFn o k) o.buf (o.p 12 2 * 17408) = false → t.linkUp k = true →
      o.buf + o.p 12 2 * 17408 ≤ 2 ^ 64 →
      exec (.cntDump c) s = .next (({ t with
        tel.dump := some ⟨o.qp, o.buf, o.p 12 2, o.p 16 8, o.p 24 4, k, 0, 0, none⟩, tel.dumpFault := false }).finish o.tag .ok
          (o.p 16 8))) ∧
    (∀ k b u, o.p 8 1 = 2 → k = t.portOf o (o.p 28 1) → k < 32 → o.buf % 4096 = 0 → o.work = .snapshot b →
      t.hostWrite (t.portFn o k) k o.buf (slotWith 2 b) = .ok u →
      exec (.cntDump c) s = .next ((u.dumpSent o.qp k 17408).snapTaken.finish o.tag .ok 0))) ∧
  (∀ (s t : State) (d : Dump) (b : List Byte), s.tel.dump = some d → d.first + d.seq * d.period * 1000 ≤ s.clock.now →
    b = s.slotBytes (d.first + d.seq * d.period * 1000) d.seq d.skipped →
    (d.latched.isSome = true → exec .snapshotInstant s = .next (({ s with
      tel.dump := some { d with seq := d.seq + 1, skipped := d.skipped + 1 }
      tel.dumpSkipped := min 0xFFFF (s.tel.dumpSkipped + 1) } : State).bump 0x606 1)) ∧
    (d.latched = none → (s.boot.halted = false ∨ s.ras.haltSource ≠ 4) →
      s.hostWrite (s.dumpFn d.qp d.port) d.port (d.slotAt d.seq) (slotWith ((2 * d.seq + 1) % 2 ^ 32) b) = .ok t →
      exec .snapshotInstant s = .next { t.dumpSent d.qp d.port 17408 with
        tel.dump := some { d with seq := d.seq + 1, latched := some (d.seq, b) } })) ∧
  (∀ (s t : State) (d : Dump) (q : Nat) (b : List Byte), s.tel.dump = some d → d.latched = some (q, b) →
    (s.boot.halted = false ∨ s.ras.haltSource ≠ 4) →
    s.hostWrite (s.dumpFn d.qp d.port) d.port (d.slotAt q) (slotWith ((2 * q + 2) % 2 ^ 32) b) = .ok t →
    exec .dumpSlotWritten s =
      .next ({ t.dumpSent d.qp d.port 4 with tel.dump := some { d with latched := none } } : State).snapTaken) ∧
  (∀ (s : State) (f : Fn) (tee : Bool), s.mayCount f tee = true → exec (.irqSharedAck ⟨f, tee⟩ 0xFFFF) s = .next
    (((List.range 16).filter (fun i => bit 0xFFFF i && ({ s.wake with tel.shared := 0, tel.waiting := 0 } : State).levelHolds i)).foldl
      State.raiseSrc { s.wake with tel.shared := 0, tel.waiting := 0 })) ∧
  (∀ (s : State) (f : Fn) (n : Nat), (s.vector f n).pending ≠ 0 → (s.vector f n).timer ≠ 0 →
    (s.vector f n).firstAt + (s.vector f n).timer * 1000 ≤ s.clock.now → s.held (s.vector f n) = false →
    exec (.irqModerationTimer f n) s = .next (s.sendVector (s.vector f n))) ∧
  (∀ (s : State) (f : Fn) (tee : Bool), s.boot.link = true → s.hears f tee = true →
    exec (.irqHoldClear ⟨f, tee⟩) s = .next (s.wake.holdClear f)) ∧
  (∀ (s : State), fixedRate s.stg.live = true → s.tel.fixedAt + fixedPeriod s.stg.live * 1000 ≤ s.clock.now →
    ∃ u, u = ({ s with
      tel.fixedAt := s.tel.fixedAt + fixedPeriod s.stg.live * 1000
      tel.fixedStep := s.tel.fixedPeak
      tel.fixedPeak := s.clampStep } : State).sampleLoad.settleDeferred.refreshRegs ∧
      exec .fixedRatePeriodBoundary s = .next (if u.tel.fixedStep = s.tel.fixedStep then u else u.raiseSrc 9))

/-- R456 to R464, R490, Table 17-3: an authenticated management action where its state permits it. -/
def Obligations.ManagementActions : Prop :=
  (∀ (s : State), s.managed = true →
    (s.boot.link = true → exec .mgmtHalt s =
      .next ((s.wake.halt 2 (.plain .fatal 0x0F02 0x6000 none)).emit (.mgmt true []))) ∧
    (s.inSession = true → exec .mgmtRelease s = .next (s.wake.beginRelease none)) ∧
    (s.resettable = true → exec .mgmtWarmReset s = .next ((s.wake.warmReset 6).emit (.mgmt true []))) ∧
    (∀ port, s.sec.life = .unclaimed → s.boot.link = true → s.boot.halted = false → s.boot.linkwatch = false → port < 8 →
      (s.mayWatch = true → exec (.mgmtEnterLinkWatch port) s = .next ((s.watch port).emit (.mgmt true []))) ∧
      (s.mayWatch = false → exec (.mgmtEnterLinkWatch port) s = .next (s.emit (.mgmt false [0x10])))) ∧
    (exec (.mgmtRead .devReady) s = .next (s.wake.emit (.mgmt true [s.wake.devReady]))) ∧
    (exec (.mgmtRead .sensors) s =
      .next (s.wake.emit (.mgmt true [s.wake.mgmt.lastPower, s.wake.mgmt.logicMax, s.wake.mgmt.hbmMax]))) ∧
    (∀ i, exec (.mgmtRead (.counter i)) s = .next (s.wake.emit (.mgmt true [s.wake.counterReg i]))) ∧
    (∀ w, 300 ≤ w → w ≤ 1000 → exec (.mgmtSetPowerCeiling w false) s =
      .next ({ s.wake with mgmt.ceiling := w, mgmt.boostWanted := false, mgmt.boostEn := false }.emit (.mgmt true []))) ∧
    (∀ l : List Nat, s.sec.life = .unclaimed → l.length ≤ 16 →
      exec (.mgmtSetClaimPolicy l) s = .next ({ s.wake with mgmt.policy := l }.emit (.mgmt true []))) ∧
    (∀ z k, k < 4 → exec (.mgmtSetFootingMode z k) s = .next ({ s.wake with
      foot.setZoned := z, foot.setShare := [0, 128, 64, 32].getD k 64 }.emit (.mgmt true []))) ∧
    (∀ sl im, s.boot.running ≠ some sl → exec (.mgmtFirmwareWrite sl im) s =
      .next ({ s.wake with boot := s.wake.boot.writeSlot sl im }.emit
        (.mgmt ((s.wake.boot.writeSlot sl im).slotValid sl) []))) ∧
    (∀ sl, s.resettable = true → s.sec.life = .unclaimed → s.boot.slotValid sl = true → exec (.mgmtFirmwareActivate sl) s =
      .next (({ s.wake with boot.selector := sl }.warmReset 6).emit (.mgmt true []))) ∧
    (∀ a b p, exec (.mgmtSetPtp a b p) s = .next ({ s.wake with
      clock.profile := a, clock.domain := b, clock.ppsOut := p }.emit (.mgmt true []))) ∧
    (∀ a, s.mgmt.anchors.length < 4 → a ∉ s.mgmt.anchors → exec (.mgmtTrustAnchorChange a true) s =
      .next ({ s.wake with mgmt.anchors := s.mgmt.anchors ++ [a] }.emit (.mgmt true []))) ∧
    (∀ a, a ∈ s.mgmt.anchors → 1 < s.mgmt.anchors.length → exec (.mgmtTrustAnchorChange a false) s =
      .next ({ s.wake with mgmt.anchors := s.mgmt.anchors.erase a }.emit (.mgmt true []))) ∧
    (∀ sl, s.sec.life = .unclaimed → s.boot.running = some sl → s.boot.slotValid sl.other = false →
      exec .mgmtAdvanceRollback s = .next ({ s.wake with
        boot.fuses := blowAll s.wake.boot.fuses (s.wake.boot.svn - s.wake.boot.rollback) }.emit (.mgmt true [])))) ∧
  (∀ (s : State) (a : Nat), s.boot.phase ≠ .off → s.mgmt.anchors = [] →
    exec (.enrol a) s = .next ({ s.wake with mgmt.anchors := [a] }.emit (.mgmt true []))) ∧
  (∀ (s : State) (a : Nat), s.mgmt.anchors ≠ [] → exec (.enrol a) s = .next s.mgmtDenied)

/-- R465 to R471, R490 to R496, R463, R10: samples, faults, parties and clocks. Log entries 97, 117, 118, 119, 120, 122 and 141
mark the choices of the model in it. -/
def Obligations.PowerAndTime : Prop :=
  (∀ (s : State) (n : Nat), exec (.coolantFlowReport n) s = .next { s with
    mgmt.flow := n, mgmt.boostEn := s.mgmt.boostWanted && 2000 ≤ n }) ∧
  (∀ (s : State) (mw n level : Nat), s.boot.phase = .up → s.boot.linkwatch = false → s.raise mw = some (n, level) →
    exec (.powerSample mw) s = .next (({ s.spend mw with
      mgmt.lastPower := mw
      mgmt.peak1ms := (s.clock.now, mw) :: (s.spend mw).mgmt.peak1ms.filter (fun x => s.clock.now < x.1 + 1000000)
      mgmt.raiseLevel := level
      mgmt.belowSince := none } : State).setSteps (min 15 ((s.spend mw).mgmt.powerStep + n)) (s.spend mw).mgmt.thermalStep)) ∧
  (∀ (s : State) (logic hbm locus : Nat), s.boot.phase = .up → s.mgmt.thermal ≠ .trip →
    Thermal.next s.mgmt.thermal logic hbm = .trip → ∃ u : State, exec (.thermalSample logic hbm locus) s = .next (u.trip locus) ∧
      u.mgmt.thermal = .trip ∧ u.mgmt.logicMax = logic ∧ u.mgmt.hbmMax = hbm ∧ u.store = s.store ∧ u.boot = s.boot) ∧
  (∀ (s : State) (link route : Nat), s.linkUp link = true → route < 16 → s.pool.bound.contains ⟨link, route⟩ = true →
    exec (.discoveryUpdate .host link route ⟨true, none⟩) s = .next (s.routeWaiting.seeParty .host link route)) ∧
  (∀ (s : State) (k : PartyKind) (link route : Nat), k ≠ .host →
    exec (.discoveryUpdate k link route ⟨true, none⟩) s = .next (s.seeParty k link route)) ∧
  (∀ (s : State) (link route t : Nat), exec (.discoveryUpdate .fabricManager link route ⟨true, some t⟩) s =
    .next (({ s with boot.tray := t } : State).seeParty .fabricManager link route)) ∧
  (∀ (s : State) (link : Nat), exec (.fmKeepaliveTimeout link) s = .next (s.dropParties (fun p =>
    p.kind == .fabricManager && p.link = link && p.seen + 30 * 10 ^ 9 ≤ s.clock.now))) ∧
  (∀ (s : State), s.boot.phase ≠ .off → exec .ppsInEdge s = .next { s with clock.lastPps := some s.clock.now }) ∧
  (∀ (s : State) (rail : Nat), s.boot.phase = .up → exec (.supplyFault rail) s =
    .next ((s.holdDies .supplyHeld).log ⟨.fatal, 0x0F06, 0x6000, none, none, none,
      rail * 2 ^ 56 + s.clock.now % 2 ^ 56, false⟩)) ∧
  (∀ (s : State) (time offset : Int), s.boot.phase ≠ .off → exec (.ptpMessageReceived .client time offset) s = .next { s with
    clock.role := .client
    clock.now := time.toNat
    clock.offset := max (-8388607) (min 8388607 offset)
    clock.locked := decide (-100 ≤ offset) && decide (offset ≤ 100) }) ∧
  (∀ (s : State) (p : Nat), p < 8 → bit s.boot.perst p = true → ∃ u : State, exec (.perstNAssert p) s = .next { u with
      boot.perst := u.boot.perst - 2 ^ p
      sec.config := u.sec.config.filter (fun x => x.1.link / 4 != p) } ∧
    u = (List.range 4).foldl (fun s j => s.cxlDown (4 * p + j)) s) ∧
  (∀ (s : State) (h : Nat), exec (.hostCapWindow h) s =
    .next (s.setHost { s.hostState h with readUsed := 0, writeUsed := 0 }).serveHeld) ∧
  (∀ (s : State) (slot : Nat) (salt : BitVec 128) (ps : MemberParams), slot ≠ s.wake.slot →
    s.wake.groupNs salt = none → exec (.memberNamespaceReport slot salt true ps) s = .next { s.wake with
      grp.reports := s.wake.grp.reports.filter (fun r => !(r.1 == slot && r.2.1 == salt)) ++ [(slot, salt, ps)] }) ∧
  (∀ (s : State), s.boot.waking = true →
    exec (.wakePartBack .deck) s = .next ({ s with boot.awakeDeck := true } : State).answerHeld.serveHeld ∧
    exec (.wakePartBack .causeway) s = .next ({ s with boot.awakeCauseway := true } : State).serveHeld ∧
    exec (.wakePartBack .ports) s = .next ({ s with dlv.ports := s.fullRate, boot.awakePorts := true } : State).serveHeld)
end

