-- ==== Sys2Proof/Laws/Commands.lean ====
section
/-! SUPPORT. Commands.lean: what a command row does once its command is accepted and starts. -/
namespace Sys2Proof.Machine

theorem State.op_tag {s : State} {tag : Nat} {o : Op} (h : s.op tag = some o) : o.tag = tag := by
  have := List.find?_some h
  simpa using this

/-- A command that begins runs its first unit, and its answer is settled. -/
theorem State.submit_begins {s t : State} {op : Nat} {c : Cmd} {o : Op} (body : Op → State → BodyOut)
    (h : s.begins op c = some (o, t)) : s.submit op body c = State.settle o.tag (body o t) := by
  unfold State.begins at h
  unfold State.submit
  split at h
  · cases h
  · rename_i tag u e
    rw [e]
    simp only [State.start]
    cases hu : u.op tag with
    | none => simp [hu] at h
    | some p =>
      simp only [hu, Option.bind_some] at h
      split at h
      · cases h
      · rename_i hc
        simp only [Bool.or_eq_true, not_or, Bool.not_eq_true] at hc
        obtain ⟨⟨⟨⟨⟨h1, h2⟩, h3⟩, h4⟩, h5⟩, h6⟩ := hc
        cases hl : u.launch tag p with
        | none => simp [hl] at h
        | some w =>
          simp only [hl, Option.bind_some, Option.map_eq_some_iff] at h
          obtain ⟨q, hq, e2⟩ := h
          cases e2
          simp [h1, h2, h3, h4, h5, h6, State.op_tag hq]
          rw [hl]; simp [hq]

/-- A command that has part of its effect at its acceptance, as it begins: its first unit, and then what acceptance still gives it. -/
theorem State.submitTaking_begins {s t : State} {op : Nat} {c : Cmd} {o : Op} (body : Op → State → BodyOut)
    (h : s.begins op c = some (o, t)) :
    s.submitTaking op body c = (State.settle o.tag (body o t)).atAcceptance o.tag := by
  have e := State.submit_begins body h
  unfold State.begins at h
  unfold State.submit at e
  unfold State.submitTaking
  split at h
  · cases h
  · rename_i tag u e2
    rw [e2] at e ⊢
    dsimp only at e ⊢
    have ht : o.tag = tag := by
      simp only [Option.bind_eq_some_iff] at h
      obtain ⟨p, hp, h⟩ := h
      split at h
      · cases h
      · simp only [Option.bind_eq_some_iff, Option.map_eq_some_iff] at h
        obtain ⟨w, _, q, hq, e3⟩ := h
        cases e3
        exact State.op_tag hq
    rw [e, ht]

/-- An operation that has ended, or that runs, takes nothing more at acceptance. -/
theorem State.atAcceptance_eq {s : State} {tag : Nat} (h : (s.op tag).all (·.started) = true) : s.atAcceptance tag = s := by
  unfold State.atAcceptance
  cases e : s.op tag with
  | none => rfl
  | some o => simp_all

/-- A body that is done ends its operation. -/
@[simp] theorem State.settle_done (tag : Nat) (st : Status) (r : Nat) (s : State) :
    State.settle tag (.done st r s) = s.finish tag st r := rfl

/-- A body that waits leaves its operation waiting. -/
theorem State.settle_wait (tag : Nat) (w : Wait) (s : State) :
    State.settle tag (.wait w s) = s.rested.updOp tag (fun o => { o with wait := w }) := rfl

/-- A written output buffer goes on with the state that it leaves. -/
theorem State.writeThen_wrote {s w : State} {o : Op} {a : Nat} {b : List Byte} (k : State → BodyOut)
    (h : s.wrote o a b = some w) : s.writeThen o a b k = k w := by
  unfold State.wrote at h
  unfold State.writeThen
  cases e : s.hostWrite (s.opFn o) (s.opFn o).link a b <;> simp_all

/-- A read input buffer goes on with its bytes. -/
theorem State.withRead_got {s : State} {o : Op} {a n : Nat} {b : List Byte} (k : List Byte → BodyOut)
    (h : s.got o a n = some b) : s.withRead o a n k = (k b).after (fun t => t.readFor o a n) := by
  unfold State.got at h
  unfold State.withRead
  cases e : s.hostRead (s.opFn o) (s.opFn o).link a n <;> simp_all

/-- A command on a namespace goes on with it. -/
theorem State.withNs_some {s : State} {o : Op} {n : Namespace} (k : Namespace → BodyOut) (h : s.nsAny o.handle = some n) :
    s.withNs o k = k n := by
  unfold State.withNs
  rw [h]

/-- A command on a chain goes on with it. -/
theorem State.withChain_on {s : State} {o : Op} {n : Namespace} {c : Chain} (k : Namespace → Chain → BodyOut)
    (h : s.onChainOf o n c) : s.withChain o k = k n c := by
  obtain ⟨h1, h2, h3, h4⟩ := h
  simp [State.withChain, State.withNs_some _ h1, h2, State.onChain, Chain.lostOnce, h3, h4]

/-- A command on a version goes on with it. -/
theorem State.withView_on {s : State} {o : Op} {n : Namespace} {v : View} (k : Namespace → View → BodyOut)
    (h : s.onVersion o n v) : s.withView o k = k n v := by
  obtain ⟨h1, h2, h3⟩ := h
  have hc : ∀ c, o.p 12 1 = 0 → s.chainOf n (o.p 8 4) = some c → c.lost = none ∧ s.filling c = false := by
    intro c hz hs
    rcases h2 with h2 | h2
    · exact absurd hz h2
    · simpa [hs] using h2
  simp only [State.withView, State.withNs_some _ h1]
  rcases h3 with h3 | ⟨h3, h4⟩ <;> simp only [h3]
  all_goals (first | rw [h4] | skip)
  all_goals split
  all_goals first | rfl | skip
  all_goals
    rename_i c hs
    by_cases hz : o.p 12 1 = 0
    · simp [hz] at hs
      obtain ⟨h5, h6⟩ := hc c hz hs
      simp [State.onChain, Chain.lostOnce, h5, h6]
    · simp [hz] at hs

end Sys2Proof.Machine
end

