-- ==== Sys2Proof/Laws/State.lean ====
section
/-! SUPPORT. State.lean: what the plain updates of State leave as it was, one lemma for each group of State, each true by
definition. -/
namespace Sys2Proof.Machine

/-! ### emit -/

@[simp] theorem State.emit_boot (s : State) (o : Output) : (s.emit o).boot = s.boot := rfl
@[simp] theorem State.emit_fab (s : State) (o : Output) : (s.emit o).fab = s.fab := rfl
@[simp] theorem State.emit_clock (s : State) (o : Output) : (s.emit o).clock = s.clock := rfl
@[simp] theorem State.emit_q (s : State) (o : Output) : (s.emit o).q = s.q := rfl
@[simp] theorem State.emit_stg (s : State) (o : Output) : (s.emit o).stg = s.stg := rfl
@[simp] theorem State.emit_store (s : State) (o : Output) : (s.emit o).store = s.store := rfl
@[simp] theorem State.emit_idx (s : State) (o : Output) : (s.emit o).idx = s.idx := rfl
@[simp] theorem State.emit_tiers (s : State) (o : Output) : (s.emit o).tiers = s.tiers := rfl
@[simp] theorem State.emit_foot (s : State) (o : Output) : (s.emit o).foot = s.foot := rfl
@[simp] theorem State.emit_dlv (s : State) (o : Output) : (s.emit o).dlv = s.dlv := rfl
@[simp] theorem State.emit_att (s : State) (o : Output) : (s.emit o).att = s.att := rfl
@[simp] theorem State.emit_pool (s : State) (o : Output) : (s.emit o).pool = s.pool := rfl
@[simp] theorem State.emit_rma (s : State) (o : Output) : (s.emit o).rma = s.rma := rfl
@[simp] theorem State.emit_grp (s : State) (o : Output) : (s.emit o).grp = s.grp := rfl
@[simp] theorem State.emit_sec (s : State) (o : Output) : (s.emit o).sec = s.sec := rfl
@[simp] theorem State.emit_ras (s : State) (o : Output) : (s.emit o).ras = s.ras := rfl
@[simp] theorem State.emit_tel (s : State) (o : Output) : (s.emit o).tel = s.tel := rfl
@[simp] theorem State.emit_mgmt (s : State) (o : Output) : (s.emit o).mgmt = s.mgmt := rfl
@[simp] theorem State.emit_host (s : State) (o : Output) : (s.emit o).host = s.host := rfl
@[simp] theorem State.emit_hostBad (s : State) (o : Output) : (s.emit o).hostBad = s.hostBad := rfl
@[simp] theorem State.emit_free (s : State) (o : Output) : (s.emit o).free = s.free := rfl
@[simp] theorem State.emit_pending (s : State) (o : Output) : (s.emit o).pending = s.pending := rfl

/-! ### addCounter -/

@[simp] theorem State.addCounter_boot (s : State) (i n : Nat) : (s.addCounter i n).boot = s.boot := rfl
@[simp] theorem State.addCounter_fab (s : State) (i n : Nat) : (s.addCounter i n).fab = s.fab := rfl
@[simp] theorem State.addCounter_clock (s : State) (i n : Nat) : (s.addCounter i n).clock = s.clock := rfl
@[simp] theorem State.addCounter_q (s : State) (i n : Nat) : (s.addCounter i n).q = s.q := rfl
@[simp] theorem State.addCounter_stg (s : State) (i n : Nat) : (s.addCounter i n).stg = s.stg := rfl
@[simp] theorem State.addCounter_store (s : State) (i n : Nat) : (s.addCounter i n).store = s.store := rfl
@[simp] theorem State.addCounter_idx (s : State) (i n : Nat) : (s.addCounter i n).idx = s.idx := rfl
@[simp] theorem State.addCounter_tiers (s : State) (i n : Nat) : (s.addCounter i n).tiers = s.tiers := rfl
@[simp] theorem State.addCounter_foot (s : State) (i n : Nat) : (s.addCounter i n).foot = s.foot := rfl
@[simp] theorem State.addCounter_dlv (s : State) (i n : Nat) : (s.addCounter i n).dlv = s.dlv := rfl
@[simp] theorem State.addCounter_att (s : State) (i n : Nat) : (s.addCounter i n).att = s.att := rfl
@[simp] theorem State.addCounter_pool (s : State) (i n : Nat) : (s.addCounter i n).pool = s.pool := rfl
@[simp] theorem State.addCounter_rma (s : State) (i n : Nat) : (s.addCounter i n).rma = s.rma := rfl
@[simp] theorem State.addCounter_grp (s : State) (i n : Nat) : (s.addCounter i n).grp = s.grp := rfl
@[simp] theorem State.addCounter_sec (s : State) (i n : Nat) : (s.addCounter i n).sec = s.sec := rfl
@[simp] theorem State.addCounter_ras (s : State) (i n : Nat) : (s.addCounter i n).ras = s.ras := rfl
@[simp] theorem State.addCounter_mgmt (s : State) (i n : Nat) : (s.addCounter i n).mgmt = s.mgmt := rfl
@[simp] theorem State.addCounter_host (s : State) (i n : Nat) : (s.addCounter i n).host = s.host := rfl
@[simp] theorem State.addCounter_hostBad (s : State) (i n : Nat) : (s.addCounter i n).hostBad = s.hostBad := rfl
@[simp] theorem State.addCounter_out (s : State) (i n : Nat) : (s.addCounter i n).out = s.out := rfl
@[simp] theorem State.addCounter_free (s : State) (i n : Nat) : (s.addCounter i n).free = s.free := rfl
@[simp] theorem State.addCounter_pending (s : State) (i n : Nat) : (s.addCounter i n).pending = s.pending := rfl

/-! ### setVector -/

@[simp] theorem State.setVector_boot (s : State) (v : Vector) : (s.setVector v).boot = s.boot := rfl
@[simp] theorem State.setVector_fab (s : State) (v : Vector) : (s.setVector v).fab = s.fab := rfl
@[simp] theorem State.setVector_clock (s : State) (v : Vector) : (s.setVector v).clock = s.clock := rfl
@[simp] theorem State.setVector_q (s : State) (v : Vector) : (s.setVector v).q = s.q := rfl
@[simp] theorem State.setVector_stg (s : State) (v : Vector) : (s.setVector v).stg = s.stg := rfl
@[simp] theorem State.setVector_store (s : State) (v : Vector) : (s.setVector v).store = s.store := rfl
@[simp] theorem State.setVector_idx (s : State) (v : Vector) : (s.setVector v).idx = s.idx := rfl
@[simp] theorem State.setVector_tiers (s : State) (v : Vector) : (s.setVector v).tiers = s.tiers := rfl
@[simp] theorem State.setVector_foot (s : State) (v : Vector) : (s.setVector v).foot = s.foot := rfl
@[simp] theorem State.setVector_dlv (s : State) (v : Vector) : (s.setVector v).dlv = s.dlv := rfl
@[simp] theorem State.setVector_att (s : State) (v : Vector) : (s.setVector v).att = s.att := rfl
@[simp] theorem State.setVector_pool (s : State) (v : Vector) : (s.setVector v).pool = s.pool := rfl
@[simp] theorem State.setVector_rma (s : State) (v : Vector) : (s.setVector v).rma = s.rma := rfl
@[simp] theorem State.setVector_grp (s : State) (v : Vector) : (s.setVector v).grp = s.grp := rfl
@[simp] theorem State.setVector_sec (s : State) (v : Vector) : (s.setVector v).sec = s.sec := rfl
@[simp] theorem State.setVector_ras (s : State) (v : Vector) : (s.setVector v).ras = s.ras := rfl
@[simp] theorem State.setVector_mgmt (s : State) (v : Vector) : (s.setVector v).mgmt = s.mgmt := rfl
@[simp] theorem State.setVector_host (s : State) (v : Vector) : (s.setVector v).host = s.host := rfl
@[simp] theorem State.setVector_hostBad (s : State) (v : Vector) : (s.setVector v).hostBad = s.hostBad := rfl
@[simp] theorem State.setVector_out (s : State) (v : Vector) : (s.setVector v).out = s.out := rfl
@[simp] theorem State.setVector_free (s : State) (v : Vector) : (s.setVector v).free = s.free := rfl
@[simp] theorem State.setVector_pending (s : State) (v : Vector) : (s.setVector v).pending = s.pending := rfl

/-! ### setPair -/

@[simp] theorem State.setPair_boot (s : State) (q : QPair) : (s.setPair q).boot = s.boot := rfl
@[simp] theorem State.setPair_fab (s : State) (q : QPair) : (s.setPair q).fab = s.fab := rfl
@[simp] theorem State.setPair_clock (s : State) (q : QPair) : (s.setPair q).clock = s.clock := rfl
@[simp] theorem State.setPair_stg (s : State) (q : QPair) : (s.setPair q).stg = s.stg := rfl
@[simp] theorem State.setPair_store (s : State) (q : QPair) : (s.setPair q).store = s.store := rfl
@[simp] theorem State.setPair_idx (s : State) (q : QPair) : (s.setPair q).idx = s.idx := rfl
@[simp] theorem State.setPair_tiers (s : State) (q : QPair) : (s.setPair q).tiers = s.tiers := rfl
@[simp] theorem State.setPair_foot (s : State) (q : QPair) : (s.setPair q).foot = s.foot := rfl
@[simp] theorem State.setPair_dlv (s : State) (q : QPair) : (s.setPair q).dlv = s.dlv := rfl
@[simp] theorem State.setPair_att (s : State) (q : QPair) : (s.setPair q).att = s.att := rfl
@[simp] theorem State.setPair_pool (s : State) (q : QPair) : (s.setPair q).pool = s.pool := rfl
@[simp] theorem State.setPair_rma (s : State) (q : QPair) : (s.setPair q).rma = s.rma := rfl
@[simp] theorem State.setPair_grp (s : State) (q : QPair) : (s.setPair q).grp = s.grp := rfl
@[simp] theorem State.setPair_sec (s : State) (q : QPair) : (s.setPair q).sec = s.sec := rfl
@[simp] theorem State.setPair_ras (s : State) (q : QPair) : (s.setPair q).ras = s.ras := rfl
@[simp] theorem State.setPair_tel (s : State) (q : QPair) : (s.setPair q).tel = s.tel := rfl
@[simp] theorem State.setPair_mgmt (s : State) (q : QPair) : (s.setPair q).mgmt = s.mgmt := rfl
@[simp] theorem State.setPair_host (s : State) (q : QPair) : (s.setPair q).host = s.host := rfl
@[simp] theorem State.setPair_hostBad (s : State) (q : QPair) : (s.setPair q).hostBad = s.hostBad := rfl
@[simp] theorem State.setPair_out (s : State) (q : QPair) : (s.setPair q).out = s.out := rfl
@[simp] theorem State.setPair_free (s : State) (q : QPair) : (s.setPair q).free = s.free := rfl
@[simp] theorem State.setPair_pending (s : State) (q : QPair) : (s.setPair q).pending = s.pending := rfl

/-! ### setOp -/

@[simp] theorem State.setOp_boot (s : State) (tag : Nat) (f : Op → Op) : (s.setOp tag f).boot = s.boot := rfl
@[simp] theorem State.setOp_fab (s : State) (tag : Nat) (f : Op → Op) : (s.setOp tag f).fab = s.fab := rfl
@[simp] theorem State.setOp_clock (s : State) (tag : Nat) (f : Op → Op) : (s.setOp tag f).clock = s.clock := rfl
@[simp] theorem State.setOp_stg (s : State) (tag : Nat) (f : Op → Op) : (s.setOp tag f).stg = s.stg := rfl
@[simp] theorem State.setOp_store (s : State) (tag : Nat) (f : Op → Op) : (s.setOp tag f).store = s.store := rfl
@[simp] theorem State.setOp_idx (s : State) (tag : Nat) (f : Op → Op) : (s.setOp tag f).idx = s.idx := rfl
@[simp] theorem State.setOp_tiers (s : State) (tag : Nat) (f : Op → Op) : (s.setOp tag f).tiers = s.tiers := rfl
@[simp] theorem State.setOp_foot (s : State) (tag : Nat) (f : Op → Op) : (s.setOp tag f).foot = s.foot := rfl
@[simp] theorem State.setOp_dlv (s : State) (tag : Nat) (f : Op → Op) : (s.setOp tag f).dlv = s.dlv := rfl
@[simp] theorem State.setOp_att (s : State) (tag : Nat) (f : Op → Op) : (s.setOp tag f).att = s.att := rfl
@[simp] theorem State.setOp_pool (s : State) (tag : Nat) (f : Op → Op) : (s.setOp tag f).pool = s.pool := rfl
@[simp] theorem State.setOp_rma (s : State) (tag : Nat) (f : Op → Op) : (s.setOp tag f).rma = s.rma := rfl
@[simp] theorem State.setOp_grp (s : State) (tag : Nat) (f : Op → Op) : (s.setOp tag f).grp = s.grp := rfl
@[simp] theorem State.setOp_sec (s : State) (tag : Nat) (f : Op → Op) : (s.setOp tag f).sec = s.sec := rfl
@[simp] theorem State.setOp_ras (s : State) (tag : Nat) (f : Op → Op) : (s.setOp tag f).ras = s.ras := rfl
@[simp] theorem State.setOp_tel (s : State) (tag : Nat) (f : Op → Op) : (s.setOp tag f).tel = s.tel := rfl
@[simp] theorem State.setOp_mgmt (s : State) (tag : Nat) (f : Op → Op) : (s.setOp tag f).mgmt = s.mgmt := rfl
@[simp] theorem State.setOp_host (s : State) (tag : Nat) (f : Op → Op) : (s.setOp tag f).host = s.host := rfl
@[simp] theorem State.setOp_hostBad (s : State) (tag : Nat) (f : Op → Op) : (s.setOp tag f).hostBad = s.hostBad := rfl
@[simp] theorem State.setOp_out (s : State) (tag : Nat) (f : Op → Op) : (s.setOp tag f).out = s.out := rfl
@[simp] theorem State.setOp_free (s : State) (tag : Nat) (f : Op → Op) : (s.setOp tag f).free = s.free := rfl
@[simp] theorem State.setOp_pending (s : State) (tag : Nat) (f : Op → Op) : (s.setOp tag f).pending = s.pending := rfl

/-! ### writeRec -/

@[simp] theorem State.writeRec_boot (s : State) (o : Op) : (s.writeRec o).boot = s.boot := rfl
@[simp] theorem State.writeRec_fab (s : State) (o : Op) : (s.writeRec o).fab = s.fab := rfl
@[simp] theorem State.writeRec_clock (s : State) (o : Op) : (s.writeRec o).clock = s.clock := rfl
@[simp] theorem State.writeRec_stg (s : State) (o : Op) : (s.writeRec o).stg = s.stg := rfl
@[simp] theorem State.writeRec_store (s : State) (o : Op) : (s.writeRec o).store = s.store := rfl
@[simp] theorem State.writeRec_idx (s : State) (o : Op) : (s.writeRec o).idx = s.idx := rfl
@[simp] theorem State.writeRec_tiers (s : State) (o : Op) : (s.writeRec o).tiers = s.tiers := rfl
@[simp] theorem State.writeRec_foot (s : State) (o : Op) : (s.writeRec o).foot = s.foot := rfl
@[simp] theorem State.writeRec_dlv (s : State) (o : Op) : (s.writeRec o).dlv = s.dlv := rfl
@[simp] theorem State.writeRec_att (s : State) (o : Op) : (s.writeRec o).att = s.att := rfl
@[simp] theorem State.writeRec_pool (s : State) (o : Op) : (s.writeRec o).pool = s.pool := rfl
@[simp] theorem State.writeRec_rma (s : State) (o : Op) : (s.writeRec o).rma = s.rma := rfl
@[simp] theorem State.writeRec_grp (s : State) (o : Op) : (s.writeRec o).grp = s.grp := rfl
@[simp] theorem State.writeRec_sec (s : State) (o : Op) : (s.writeRec o).sec = s.sec := rfl
@[simp] theorem State.writeRec_ras (s : State) (o : Op) : (s.writeRec o).ras = s.ras := rfl
@[simp] theorem State.writeRec_tel (s : State) (o : Op) : (s.writeRec o).tel = s.tel := rfl
@[simp] theorem State.writeRec_mgmt (s : State) (o : Op) : (s.writeRec o).mgmt = s.mgmt := rfl
@[simp] theorem State.writeRec_host (s : State) (o : Op) : (s.writeRec o).host = s.host := rfl
@[simp] theorem State.writeRec_hostBad (s : State) (o : Op) : (s.writeRec o).hostBad = s.hostBad := rfl
@[simp] theorem State.writeRec_out (s : State) (o : Op) : (s.writeRec o).out = s.out := rfl
@[simp] theorem State.writeRec_free (s : State) (o : Op) : (s.writeRec o).free = s.free := rfl
@[simp] theorem State.writeRec_pending (s : State) (o : Op) : (s.writeRec o).pending = s.pending := rfl

/-! ### setPool -/

@[simp] theorem State.setPool_boot (s : State) (b : BufPool) : (s.setPool b).boot = s.boot := rfl
@[simp] theorem State.setPool_fab (s : State) (b : BufPool) : (s.setPool b).fab = s.fab := rfl
@[simp] theorem State.setPool_clock (s : State) (b : BufPool) : (s.setPool b).clock = s.clock := rfl
@[simp] theorem State.setPool_stg (s : State) (b : BufPool) : (s.setPool b).stg = s.stg := rfl
@[simp] theorem State.setPool_store (s : State) (b : BufPool) : (s.setPool b).store = s.store := rfl
@[simp] theorem State.setPool_idx (s : State) (b : BufPool) : (s.setPool b).idx = s.idx := rfl
@[simp] theorem State.setPool_tiers (s : State) (b : BufPool) : (s.setPool b).tiers = s.tiers := rfl
@[simp] theorem State.setPool_foot (s : State) (b : BufPool) : (s.setPool b).foot = s.foot := rfl
@[simp] theorem State.setPool_dlv (s : State) (b : BufPool) : (s.setPool b).dlv = s.dlv := rfl
@[simp] theorem State.setPool_att (s : State) (b : BufPool) : (s.setPool b).att = s.att := rfl
@[simp] theorem State.setPool_pool (s : State) (b : BufPool) : (s.setPool b).pool = s.pool := rfl
@[simp] theorem State.setPool_rma (s : State) (b : BufPool) : (s.setPool b).rma = s.rma := rfl
@[simp] theorem State.setPool_grp (s : State) (b : BufPool) : (s.setPool b).grp = s.grp := rfl
@[simp] theorem State.setPool_sec (s : State) (b : BufPool) : (s.setPool b).sec = s.sec := rfl
@[simp] theorem State.setPool_ras (s : State) (b : BufPool) : (s.setPool b).ras = s.ras := rfl
@[simp] theorem State.setPool_tel (s : State) (b : BufPool) : (s.setPool b).tel = s.tel := rfl
@[simp] theorem State.setPool_mgmt (s : State) (b : BufPool) : (s.setPool b).mgmt = s.mgmt := rfl
@[simp] theorem State.setPool_host (s : State) (b : BufPool) : (s.setPool b).host = s.host := rfl
@[simp] theorem State.setPool_hostBad (s : State) (b : BufPool) : (s.setPool b).hostBad = s.hostBad := rfl
@[simp] theorem State.setPool_out (s : State) (b : BufPool) : (s.setPool b).out = s.out := rfl
@[simp] theorem State.setPool_free (s : State) (b : BufPool) : (s.setPool b).free = s.free := rfl
@[simp] theorem State.setPool_pending (s : State) (b : BufPool) : (s.setPool b).pending = s.pending := rfl

/-! ### updBlock -/

@[simp] theorem State.updBlock_boot (s : State) (id : Nat) (f : Block → Block) : (s.updBlock id f).boot = s.boot := rfl
@[simp] theorem State.updBlock_fab (s : State) (id : Nat) (f : Block → Block) : (s.updBlock id f).fab = s.fab := rfl
@[simp] theorem State.updBlock_clock (s : State) (id : Nat) (f : Block → Block) : (s.updBlock id f).clock = s.clock := rfl
@[simp] theorem State.updBlock_q (s : State) (id : Nat) (f : Block → Block) : (s.updBlock id f).q = s.q := rfl
@[simp] theorem State.updBlock_stg (s : State) (id : Nat) (f : Block → Block) : (s.updBlock id f).stg = s.stg := rfl
@[simp] theorem State.updBlock_idx (s : State) (id : Nat) (f : Block → Block) : (s.updBlock id f).idx = s.idx := rfl
@[simp] theorem State.updBlock_tiers (s : State) (id : Nat) (f : Block → Block) : (s.updBlock id f).tiers = s.tiers := rfl
@[simp] theorem State.updBlock_foot (s : State) (id : Nat) (f : Block → Block) : (s.updBlock id f).foot = s.foot := rfl
@[simp] theorem State.updBlock_dlv (s : State) (id : Nat) (f : Block → Block) : (s.updBlock id f).dlv = s.dlv := rfl
@[simp] theorem State.updBlock_att (s : State) (id : Nat) (f : Block → Block) : (s.updBlock id f).att = s.att := rfl
@[simp] theorem State.updBlock_pool (s : State) (id : Nat) (f : Block → Block) : (s.updBlock id f).pool = s.pool := rfl
@[simp] theorem State.updBlock_rma (s : State) (id : Nat) (f : Block → Block) : (s.updBlock id f).rma = s.rma := rfl
@[simp] theorem State.updBlock_grp (s : State) (id : Nat) (f : Block → Block) : (s.updBlock id f).grp = s.grp := rfl
@[simp] theorem State.updBlock_sec (s : State) (id : Nat) (f : Block → Block) : (s.updBlock id f).sec = s.sec := rfl
@[simp] theorem State.updBlock_ras (s : State) (id : Nat) (f : Block → Block) : (s.updBlock id f).ras = s.ras := rfl
@[simp] theorem State.updBlock_tel (s : State) (id : Nat) (f : Block → Block) : (s.updBlock id f).tel = s.tel := rfl
@[simp] theorem State.updBlock_mgmt (s : State) (id : Nat) (f : Block → Block) : (s.updBlock id f).mgmt = s.mgmt := rfl
@[simp] theorem State.updBlock_host (s : State) (id : Nat) (f : Block → Block) : (s.updBlock id f).host = s.host := rfl
@[simp] theorem State.updBlock_hostBad (s : State) (id : Nat) (f : Block → Block) : (s.updBlock id f).hostBad = s.hostBad := rfl
@[simp] theorem State.updBlock_out (s : State) (id : Nat) (f : Block → Block) : (s.updBlock id f).out = s.out := rfl
@[simp] theorem State.updBlock_free (s : State) (id : Nat) (f : Block → Block) : (s.updBlock id f).free = s.free := rfl
@[simp] theorem State.updBlock_pending (s : State) (id : Nat) (f : Block → Block) : (s.updBlock id f).pending = s.pending := rfl

/-! ### updNs -/

@[simp] theorem State.updNs_boot (s : State) (i : Nat) (f : Namespace → Namespace) : (s.updNs i f).boot = s.boot := rfl
@[simp] theorem State.updNs_fab (s : State) (i : Nat) (f : Namespace → Namespace) : (s.updNs i f).fab = s.fab := rfl
@[simp] theorem State.updNs_clock (s : State) (i : Nat) (f : Namespace → Namespace) : (s.updNs i f).clock = s.clock := rfl
@[simp] theorem State.updNs_q (s : State) (i : Nat) (f : Namespace → Namespace) : (s.updNs i f).q = s.q := rfl
@[simp] theorem State.updNs_stg (s : State) (i : Nat) (f : Namespace → Namespace) : (s.updNs i f).stg = s.stg := rfl
@[simp] theorem State.updNs_idx (s : State) (i : Nat) (f : Namespace → Namespace) : (s.updNs i f).idx = s.idx := rfl
@[simp] theorem State.updNs_tiers (s : State) (i : Nat) (f : Namespace → Namespace) : (s.updNs i f).tiers = s.tiers := rfl
@[simp] theorem State.updNs_foot (s : State) (i : Nat) (f : Namespace → Namespace) : (s.updNs i f).foot = s.foot := rfl
@[simp] theorem State.updNs_dlv (s : State) (i : Nat) (f : Namespace → Namespace) : (s.updNs i f).dlv = s.dlv := rfl
@[simp] theorem State.updNs_att (s : State) (i : Nat) (f : Namespace → Namespace) : (s.updNs i f).att = s.att := rfl
@[simp] theorem State.updNs_pool (s : State) (i : Nat) (f : Namespace → Namespace) : (s.updNs i f).pool = s.pool := rfl
@[simp] theorem State.updNs_rma (s : State) (i : Nat) (f : Namespace → Namespace) : (s.updNs i f).rma = s.rma := rfl
@[simp] theorem State.updNs_grp (s : State) (i : Nat) (f : Namespace → Namespace) : (s.updNs i f).grp = s.grp := rfl
@[simp] theorem State.updNs_sec (s : State) (i : Nat) (f : Namespace → Namespace) : (s.updNs i f).sec = s.sec := rfl
@[simp] theorem State.updNs_ras (s : State) (i : Nat) (f : Namespace → Namespace) : (s.updNs i f).ras = s.ras := rfl
@[simp] theorem State.updNs_tel (s : State) (i : Nat) (f : Namespace → Namespace) : (s.updNs i f).tel = s.tel := rfl
@[simp] theorem State.updNs_mgmt (s : State) (i : Nat) (f : Namespace → Namespace) : (s.updNs i f).mgmt = s.mgmt := rfl
@[simp] theorem State.updNs_host (s : State) (i : Nat) (f : Namespace → Namespace) : (s.updNs i f).host = s.host := rfl
@[simp] theorem State.updNs_hostBad (s : State) (i : Nat) (f : Namespace → Namespace) : (s.updNs i f).hostBad = s.hostBad := rfl
@[simp] theorem State.updNs_out (s : State) (i : Nat) (f : Namespace → Namespace) : (s.updNs i f).out = s.out := rfl
@[simp] theorem State.updNs_free (s : State) (i : Nat) (f : Namespace → Namespace) : (s.updNs i f).free = s.free := rfl
@[simp] theorem State.updNs_pending (s : State) (i : Nat) (f : Namespace → Namespace) : (s.updNs i f).pending = s.pending := rfl

/-! ### updChain -/

@[simp] theorem State.updChain_boot (s : State) (i : Nat) (f : Chain → Chain) : (s.updChain i f).boot = s.boot := rfl
@[simp] theorem State.updChain_fab (s : State) (i : Nat) (f : Chain → Chain) : (s.updChain i f).fab = s.fab := rfl
@[simp] theorem State.updChain_clock (s : State) (i : Nat) (f : Chain → Chain) : (s.updChain i f).clock = s.clock := rfl
@[simp] theorem State.updChain_q (s : State) (i : Nat) (f : Chain → Chain) : (s.updChain i f).q = s.q := rfl
@[simp] theorem State.updChain_stg (s : State) (i : Nat) (f : Chain → Chain) : (s.updChain i f).stg = s.stg := rfl
@[simp] theorem State.updChain_idx (s : State) (i : Nat) (f : Chain → Chain) : (s.updChain i f).idx = s.idx := rfl
@[simp] theorem State.updChain_tiers (s : State) (i : Nat) (f : Chain → Chain) : (s.updChain i f).tiers = s.tiers := rfl
@[simp] theorem State.updChain_foot (s : State) (i : Nat) (f : Chain → Chain) : (s.updChain i f).foot = s.foot := rfl
@[simp] theorem State.updChain_dlv (s : State) (i : Nat) (f : Chain → Chain) : (s.updChain i f).dlv = s.dlv := rfl
@[simp] theorem State.updChain_att (s : State) (i : Nat) (f : Chain → Chain) : (s.updChain i f).att = s.att := rfl
@[simp] theorem State.updChain_pool (s : State) (i : Nat) (f : Chain → Chain) : (s.updChain i f).pool = s.pool := rfl
@[simp] theorem State.updChain_rma (s : State) (i : Nat) (f : Chain → Chain) : (s.updChain i f).rma = s.rma := rfl
@[simp] theorem State.updChain_grp (s : State) (i : Nat) (f : Chain → Chain) : (s.updChain i f).grp = s.grp := rfl
@[simp] theorem State.updChain_sec (s : State) (i : Nat) (f : Chain → Chain) : (s.updChain i f).sec = s.sec := rfl
@[simp] theorem State.updChain_ras (s : State) (i : Nat) (f : Chain → Chain) : (s.updChain i f).ras = s.ras := rfl
@[simp] theorem State.updChain_tel (s : State) (i : Nat) (f : Chain → Chain) : (s.updChain i f).tel = s.tel := rfl
@[simp] theorem State.updChain_mgmt (s : State) (i : Nat) (f : Chain → Chain) : (s.updChain i f).mgmt = s.mgmt := rfl
@[simp] theorem State.updChain_host (s : State) (i : Nat) (f : Chain → Chain) : (s.updChain i f).host = s.host := rfl
@[simp] theorem State.updChain_hostBad (s : State) (i : Nat) (f : Chain → Chain) : (s.updChain i f).hostBad = s.hostBad := rfl
@[simp] theorem State.updChain_out (s : State) (i : Nat) (f : Chain → Chain) : (s.updChain i f).out = s.out := rfl
@[simp] theorem State.updChain_free (s : State) (i : Nat) (f : Chain → Chain) : (s.updChain i f).free = s.free := rfl
@[simp] theorem State.updChain_pending (s : State) (i : Nat) (f : Chain → Chain) : (s.updChain i f).pending = s.pending := rfl

/-! ### purge -/

@[simp] theorem State.purge_boot (s : State) (sel : SUnit → Bool) : (s.purge sel).boot = s.boot := rfl
@[simp] theorem State.purge_fab (s : State) (sel : SUnit → Bool) : (s.purge sel).fab = s.fab := rfl
@[simp] theorem State.purge_clock (s : State) (sel : SUnit → Bool) : (s.purge sel).clock = s.clock := rfl
@[simp] theorem State.purge_q (s : State) (sel : SUnit → Bool) : (s.purge sel).q = s.q := rfl
@[simp] theorem State.purge_stg (s : State) (sel : SUnit → Bool) : (s.purge sel).stg = s.stg := rfl
@[simp] theorem State.purge_store (s : State) (sel : SUnit → Bool) : (s.purge sel).store = s.store := rfl
@[simp] theorem State.purge_idx (s : State) (sel : SUnit → Bool) : (s.purge sel).idx = s.idx := rfl
@[simp] theorem State.purge_tiers (s : State) (sel : SUnit → Bool) : (s.purge sel).tiers = s.tiers := rfl
@[simp] theorem State.purge_foot (s : State) (sel : SUnit → Bool) : (s.purge sel).foot = s.foot := rfl
@[simp] theorem State.purge_att (s : State) (sel : SUnit → Bool) : (s.purge sel).att = s.att := rfl
@[simp] theorem State.purge_pool (s : State) (sel : SUnit → Bool) : (s.purge sel).pool = s.pool := rfl
@[simp] theorem State.purge_rma (s : State) (sel : SUnit → Bool) : (s.purge sel).rma = s.rma := rfl
@[simp] theorem State.purge_grp (s : State) (sel : SUnit → Bool) : (s.purge sel).grp = s.grp := rfl
@[simp] theorem State.purge_sec (s : State) (sel : SUnit → Bool) : (s.purge sel).sec = s.sec := rfl
@[simp] theorem State.purge_ras (s : State) (sel : SUnit → Bool) : (s.purge sel).ras = s.ras := rfl
@[simp] theorem State.purge_tel (s : State) (sel : SUnit → Bool) : (s.purge sel).tel = s.tel := rfl
@[simp] theorem State.purge_mgmt (s : State) (sel : SUnit → Bool) : (s.purge sel).mgmt = s.mgmt := rfl
@[simp] theorem State.purge_host (s : State) (sel : SUnit → Bool) : (s.purge sel).host = s.host := rfl
@[simp] theorem State.purge_hostBad (s : State) (sel : SUnit → Bool) : (s.purge sel).hostBad = s.hostBad := rfl
@[simp] theorem State.purge_out (s : State) (sel : SUnit → Bool) : (s.purge sel).out = s.out := rfl
@[simp] theorem State.purge_free (s : State) (sel : SUnit → Bool) : (s.purge sel).free = s.free := rfl
@[simp] theorem State.purge_pending (s : State) (sel : SUnit → Bool) : (s.purge sel).pending = s.pending := rfl

/-! ### setPort -/

@[simp] theorem State.setPort_boot (s : State) (p : SPort) : (s.setPort p).boot = s.boot := rfl
@[simp] theorem State.setPort_fab (s : State) (p : SPort) : (s.setPort p).fab = s.fab := rfl
@[simp] theorem State.setPort_clock (s : State) (p : SPort) : (s.setPort p).clock = s.clock := rfl
@[simp] theorem State.setPort_q (s : State) (p : SPort) : (s.setPort p).q = s.q := rfl
@[simp] theorem State.setPort_stg (s : State) (p : SPort) : (s.setPort p).stg = s.stg := rfl
@[simp] theorem State.setPort_store (s : State) (p : SPort) : (s.setPort p).store = s.store := rfl
@[simp] theorem State.setPort_idx (s : State) (p : SPort) : (s.setPort p).idx = s.idx := rfl
@[simp] theorem State.setPort_tiers (s : State) (p : SPort) : (s.setPort p).tiers = s.tiers := rfl
@[simp] theorem State.setPort_foot (s : State) (p : SPort) : (s.setPort p).foot = s.foot := rfl
@[simp] theorem State.setPort_att (s : State) (p : SPort) : (s.setPort p).att = s.att := rfl
@[simp] theorem State.setPort_pool (s : State) (p : SPort) : (s.setPort p).pool = s.pool := rfl
@[simp] theorem State.setPort_rma (s : State) (p : SPort) : (s.setPort p).rma = s.rma := rfl
@[simp] theorem State.setPort_grp (s : State) (p : SPort) : (s.setPort p).grp = s.grp := rfl
@[simp] theorem State.setPort_sec (s : State) (p : SPort) : (s.setPort p).sec = s.sec := rfl
@[simp] theorem State.setPort_ras (s : State) (p : SPort) : (s.setPort p).ras = s.ras := rfl
@[simp] theorem State.setPort_tel (s : State) (p : SPort) : (s.setPort p).tel = s.tel := rfl
@[simp] theorem State.setPort_mgmt (s : State) (p : SPort) : (s.setPort p).mgmt = s.mgmt := rfl
@[simp] theorem State.setPort_host (s : State) (p : SPort) : (s.setPort p).host = s.host := rfl
@[simp] theorem State.setPort_hostBad (s : State) (p : SPort) : (s.setPort p).hostBad = s.hostBad := rfl
@[simp] theorem State.setPort_out (s : State) (p : SPort) : (s.setPort p).out = s.out := rfl
@[simp] theorem State.setPort_free (s : State) (p : SPort) : (s.setPort p).free = s.free := rfl
@[simp] theorem State.setPort_pending (s : State) (p : SPort) : (s.setPort p).pending = s.pending := rfl

/-! ### setPlan -/

@[simp] theorem State.setPlan_boot (s : State) (p : Plan) : (s.setPlan p).boot = s.boot := rfl
@[simp] theorem State.setPlan_fab (s : State) (p : Plan) : (s.setPlan p).fab = s.fab := rfl
@[simp] theorem State.setPlan_clock (s : State) (p : Plan) : (s.setPlan p).clock = s.clock := rfl
@[simp] theorem State.setPlan_q (s : State) (p : Plan) : (s.setPlan p).q = s.q := rfl
@[simp] theorem State.setPlan_stg (s : State) (p : Plan) : (s.setPlan p).stg = s.stg := rfl
@[simp] theorem State.setPlan_store (s : State) (p : Plan) : (s.setPlan p).store = s.store := rfl
@[simp] theorem State.setPlan_idx (s : State) (p : Plan) : (s.setPlan p).idx = s.idx := rfl
@[simp] theorem State.setPlan_tiers (s : State) (p : Plan) : (s.setPlan p).tiers = s.tiers := rfl
@[simp] theorem State.setPlan_foot (s : State) (p : Plan) : (s.setPlan p).foot = s.foot := rfl
@[simp] theorem State.setPlan_att (s : State) (p : Plan) : (s.setPlan p).att = s.att := rfl
@[simp] theorem State.setPlan_pool (s : State) (p : Plan) : (s.setPlan p).pool = s.pool := rfl
@[simp] theorem State.setPlan_rma (s : State) (p : Plan) : (s.setPlan p).rma = s.rma := rfl
@[simp] theorem State.setPlan_grp (s : State) (p : Plan) : (s.setPlan p).grp = s.grp := rfl
@[simp] theorem State.setPlan_sec (s : State) (p : Plan) : (s.setPlan p).sec = s.sec := rfl
@[simp] theorem State.setPlan_ras (s : State) (p : Plan) : (s.setPlan p).ras = s.ras := rfl
@[simp] theorem State.setPlan_tel (s : State) (p : Plan) : (s.setPlan p).tel = s.tel := rfl
@[simp] theorem State.setPlan_mgmt (s : State) (p : Plan) : (s.setPlan p).mgmt = s.mgmt := rfl
@[simp] theorem State.setPlan_host (s : State) (p : Plan) : (s.setPlan p).host = s.host := rfl
@[simp] theorem State.setPlan_hostBad (s : State) (p : Plan) : (s.setPlan p).hostBad = s.hostBad := rfl
@[simp] theorem State.setPlan_out (s : State) (p : Plan) : (s.setPlan p).out = s.out := rfl
@[simp] theorem State.setPlan_free (s : State) (p : Plan) : (s.setPlan p).free = s.free := rfl
@[simp] theorem State.setPlan_pending (s : State) (p : Plan) : (s.setPlan p).pending = s.pending := rfl

/-! ### updExtent -/

@[simp] theorem State.updExtent_boot (s : State) (id : Nat) (f : Extent → Extent) : (s.updExtent id f).boot = s.boot := rfl
@[simp] theorem State.updExtent_fab (s : State) (id : Nat) (f : Extent → Extent) : (s.updExtent id f).fab = s.fab := rfl
@[simp] theorem State.updExtent_clock (s : State) (id : Nat) (f : Extent → Extent) : (s.updExtent id f).clock = s.clock := rfl
@[simp] theorem State.updExtent_q (s : State) (id : Nat) (f : Extent → Extent) : (s.updExtent id f).q = s.q := rfl
@[simp] theorem State.updExtent_stg (s : State) (id : Nat) (f : Extent → Extent) : (s.updExtent id f).stg = s.stg := rfl
@[simp] theorem State.updExtent_store (s : State) (id : Nat) (f : Extent → Extent) : (s.updExtent id f).store = s.store := rfl
@[simp] theorem State.updExtent_idx (s : State) (id : Nat) (f : Extent → Extent) : (s.updExtent id f).idx = s.idx := rfl
@[simp] theorem State.updExtent_tiers (s : State) (id : Nat) (f : Extent → Extent) : (s.updExtent id f).tiers = s.tiers := rfl
@[simp] theorem State.updExtent_foot (s : State) (id : Nat) (f : Extent → Extent) : (s.updExtent id f).foot = s.foot := rfl
@[simp] theorem State.updExtent_dlv (s : State) (id : Nat) (f : Extent → Extent) : (s.updExtent id f).dlv = s.dlv := rfl
@[simp] theorem State.updExtent_att (s : State) (id : Nat) (f : Extent → Extent) : (s.updExtent id f).att = s.att := rfl
@[simp] theorem State.updExtent_rma (s : State) (id : Nat) (f : Extent → Extent) : (s.updExtent id f).rma = s.rma := rfl
@[simp] theorem State.updExtent_grp (s : State) (id : Nat) (f : Extent → Extent) : (s.updExtent id f).grp = s.grp := rfl
@[simp] theorem State.updExtent_sec (s : State) (id : Nat) (f : Extent → Extent) : (s.updExtent id f).sec = s.sec := rfl
@[simp] theorem State.updExtent_ras (s : State) (id : Nat) (f : Extent → Extent) : (s.updExtent id f).ras = s.ras := rfl
@[simp] theorem State.updExtent_tel (s : State) (id : Nat) (f : Extent → Extent) : (s.updExtent id f).tel = s.tel := rfl
@[simp] theorem State.updExtent_mgmt (s : State) (id : Nat) (f : Extent → Extent) : (s.updExtent id f).mgmt = s.mgmt := rfl
@[simp] theorem State.updExtent_host (s : State) (id : Nat) (f : Extent → Extent) : (s.updExtent id f).host = s.host := rfl
@[simp] theorem State.updExtent_hostBad (s : State) (id : Nat) (f : Extent → Extent) : (s.updExtent id f).hostBad = s.hostBad := rfl
@[simp] theorem State.updExtent_out (s : State) (id : Nat) (f : Extent → Extent) : (s.updExtent id f).out = s.out := rfl
@[simp] theorem State.updExtent_free (s : State) (id : Nat) (f : Extent → Extent) : (s.updExtent id f).free = s.free := rfl
@[simp] theorem State.updExtent_pending (s : State) (id : Nat) (f : Extent → Extent) : (s.updExtent id f).pending = s.pending := rfl

/-! ### updDir -/

@[simp] theorem State.updDir_boot (s : State) (g : Nat) (f : DirEntry → DirEntry) : (s.updDir g f).boot = s.boot := rfl
@[simp] theorem State.updDir_fab (s : State) (g : Nat) (f : DirEntry → DirEntry) : (s.updDir g f).fab = s.fab := rfl
@[simp] theorem State.updDir_clock (s : State) (g : Nat) (f : DirEntry → DirEntry) : (s.updDir g f).clock = s.clock := rfl
@[simp] theorem State.updDir_q (s : State) (g : Nat) (f : DirEntry → DirEntry) : (s.updDir g f).q = s.q := rfl
@[simp] theorem State.updDir_stg (s : State) (g : Nat) (f : DirEntry → DirEntry) : (s.updDir g f).stg = s.stg := rfl
@[simp] theorem State.updDir_store (s : State) (g : Nat) (f : DirEntry → DirEntry) : (s.updDir g f).store = s.store := rfl
@[simp] theorem State.updDir_idx (s : State) (g : Nat) (f : DirEntry → DirEntry) : (s.updDir g f).idx = s.idx := rfl
@[simp] theorem State.updDir_tiers (s : State) (g : Nat) (f : DirEntry → DirEntry) : (s.updDir g f).tiers = s.tiers := rfl
@[simp] theorem State.updDir_foot (s : State) (g : Nat) (f : DirEntry → DirEntry) : (s.updDir g f).foot = s.foot := rfl
@[simp] theorem State.updDir_dlv (s : State) (g : Nat) (f : DirEntry → DirEntry) : (s.updDir g f).dlv = s.dlv := rfl
@[simp] theorem State.updDir_att (s : State) (g : Nat) (f : DirEntry → DirEntry) : (s.updDir g f).att = s.att := rfl
@[simp] theorem State.updDir_rma (s : State) (g : Nat) (f : DirEntry → DirEntry) : (s.updDir g f).rma = s.rma := rfl
@[simp] theorem State.updDir_grp (s : State) (g : Nat) (f : DirEntry → DirEntry) : (s.updDir g f).grp = s.grp := rfl
@[simp] theorem State.updDir_sec (s : State) (g : Nat) (f : DirEntry → DirEntry) : (s.updDir g f).sec = s.sec := rfl
@[simp] theorem State.updDir_ras (s : State) (g : Nat) (f : DirEntry → DirEntry) : (s.updDir g f).ras = s.ras := rfl
@[simp] theorem State.updDir_tel (s : State) (g : Nat) (f : DirEntry → DirEntry) : (s.updDir g f).tel = s.tel := rfl
@[simp] theorem State.updDir_mgmt (s : State) (g : Nat) (f : DirEntry → DirEntry) : (s.updDir g f).mgmt = s.mgmt := rfl
@[simp] theorem State.updDir_host (s : State) (g : Nat) (f : DirEntry → DirEntry) : (s.updDir g f).host = s.host := rfl
@[simp] theorem State.updDir_hostBad (s : State) (g : Nat) (f : DirEntry → DirEntry) : (s.updDir g f).hostBad = s.hostBad := rfl
@[simp] theorem State.updDir_out (s : State) (g : Nat) (f : DirEntry → DirEntry) : (s.updDir g f).out = s.out := rfl
@[simp] theorem State.updDir_free (s : State) (g : Nat) (f : DirEntry → DirEntry) : (s.updDir g f).free = s.free := rfl
@[simp] theorem State.updDir_pending (s : State) (g : Nat) (f : DirEntry → DirEntry) : (s.updDir g f).pending = s.pending := rfl

/-! ### updConn -/

@[simp] theorem State.updConn_boot (s : State) (i : Nat) (f : Conn → Conn) : (s.updConn i f).boot = s.boot := rfl
@[simp] theorem State.updConn_fab (s : State) (i : Nat) (f : Conn → Conn) : (s.updConn i f).fab = s.fab := rfl
@[simp] theorem State.updConn_clock (s : State) (i : Nat) (f : Conn → Conn) : (s.updConn i f).clock = s.clock := rfl
@[simp] theorem State.updConn_q (s : State) (i : Nat) (f : Conn → Conn) : (s.updConn i f).q = s.q := rfl
@[simp] theorem State.updConn_stg (s : State) (i : Nat) (f : Conn → Conn) : (s.updConn i f).stg = s.stg := rfl
@[simp] theorem State.updConn_store (s : State) (i : Nat) (f : Conn → Conn) : (s.updConn i f).store = s.store := rfl
@[simp] theorem State.updConn_idx (s : State) (i : Nat) (f : Conn → Conn) : (s.updConn i f).idx = s.idx := rfl
@[simp] theorem State.updConn_tiers (s : State) (i : Nat) (f : Conn → Conn) : (s.updConn i f).tiers = s.tiers := rfl
@[simp] theorem State.updConn_foot (s : State) (i : Nat) (f : Conn → Conn) : (s.updConn i f).foot = s.foot := rfl
@[simp] theorem State.updConn_dlv (s : State) (i : Nat) (f : Conn → Conn) : (s.updConn i f).dlv = s.dlv := rfl
@[simp] theorem State.updConn_att (s : State) (i : Nat) (f : Conn → Conn) : (s.updConn i f).att = s.att := rfl
@[simp] theorem State.updConn_pool (s : State) (i : Nat) (f : Conn → Conn) : (s.updConn i f).pool = s.pool := rfl
@[simp] theorem State.updConn_grp (s : State) (i : Nat) (f : Conn → Conn) : (s.updConn i f).grp = s.grp := rfl
@[simp] theorem State.updConn_sec (s : State) (i : Nat) (f : Conn → Conn) : (s.updConn i f).sec = s.sec := rfl
@[simp] theorem State.updConn_ras (s : State) (i : Nat) (f : Conn → Conn) : (s.updConn i f).ras = s.ras := rfl
@[simp] theorem State.updConn_tel (s : State) (i : Nat) (f : Conn → Conn) : (s.updConn i f).tel = s.tel := rfl
@[simp] theorem State.updConn_mgmt (s : State) (i : Nat) (f : Conn → Conn) : (s.updConn i f).mgmt = s.mgmt := rfl
@[simp] theorem State.updConn_host (s : State) (i : Nat) (f : Conn → Conn) : (s.updConn i f).host = s.host := rfl
@[simp] theorem State.updConn_hostBad (s : State) (i : Nat) (f : Conn → Conn) : (s.updConn i f).hostBad = s.hostBad := rfl
@[simp] theorem State.updConn_out (s : State) (i : Nat) (f : Conn → Conn) : (s.updConn i f).out = s.out := rfl
@[simp] theorem State.updConn_free (s : State) (i : Nat) (f : Conn → Conn) : (s.updConn i f).free = s.free := rfl
@[simp] theorem State.updConn_pending (s : State) (i : Nat) (f : Conn → Conn) : (s.updConn i f).pending = s.pending := rfl

/-! ### updSpdm -/

@[simp] theorem State.updSpdm_boot (s : State) (id : Nat) (f : Spdm → Spdm) : (s.updSpdm id f).boot = s.boot := rfl
@[simp] theorem State.updSpdm_fab (s : State) (id : Nat) (f : Spdm → Spdm) : (s.updSpdm id f).fab = s.fab := rfl
@[simp] theorem State.updSpdm_clock (s : State) (id : Nat) (f : Spdm → Spdm) : (s.updSpdm id f).clock = s.clock := rfl
@[simp] theorem State.updSpdm_q (s : State) (id : Nat) (f : Spdm → Spdm) : (s.updSpdm id f).q = s.q := rfl
@[simp] theorem State.updSpdm_stg (s : State) (id : Nat) (f : Spdm → Spdm) : (s.updSpdm id f).stg = s.stg := rfl
@[simp] theorem State.updSpdm_store (s : State) (id : Nat) (f : Spdm → Spdm) : (s.updSpdm id f).store = s.store := rfl
@[simp] theorem State.updSpdm_idx (s : State) (id : Nat) (f : Spdm → Spdm) : (s.updSpdm id f).idx = s.idx := rfl
@[simp] theorem State.updSpdm_tiers (s : State) (id : Nat) (f : Spdm → Spdm) : (s.updSpdm id f).tiers = s.tiers := rfl
@[simp] theorem State.updSpdm_foot (s : State) (id : Nat) (f : Spdm → Spdm) : (s.updSpdm id f).foot = s.foot := rfl
@[simp] theorem State.updSpdm_dlv (s : State) (id : Nat) (f : Spdm → Spdm) : (s.updSpdm id f).dlv = s.dlv := rfl
@[simp] theorem State.updSpdm_att (s : State) (id : Nat) (f : Spdm → Spdm) : (s.updSpdm id f).att = s.att := rfl
@[simp] theorem State.updSpdm_pool (s : State) (id : Nat) (f : Spdm → Spdm) : (s.updSpdm id f).pool = s.pool := rfl
@[simp] theorem State.updSpdm_rma (s : State) (id : Nat) (f : Spdm → Spdm) : (s.updSpdm id f).rma = s.rma := rfl
@[simp] theorem State.updSpdm_grp (s : State) (id : Nat) (f : Spdm → Spdm) : (s.updSpdm id f).grp = s.grp := rfl
@[simp] theorem State.updSpdm_ras (s : State) (id : Nat) (f : Spdm → Spdm) : (s.updSpdm id f).ras = s.ras := rfl
@[simp] theorem State.updSpdm_tel (s : State) (id : Nat) (f : Spdm → Spdm) : (s.updSpdm id f).tel = s.tel := rfl
@[simp] theorem State.updSpdm_mgmt (s : State) (id : Nat) (f : Spdm → Spdm) : (s.updSpdm id f).mgmt = s.mgmt := rfl
@[simp] theorem State.updSpdm_host (s : State) (id : Nat) (f : Spdm → Spdm) : (s.updSpdm id f).host = s.host := rfl
@[simp] theorem State.updSpdm_hostBad (s : State) (id : Nat) (f : Spdm → Spdm) : (s.updSpdm id f).hostBad = s.hostBad := rfl
@[simp] theorem State.updSpdm_out (s : State) (id : Nat) (f : Spdm → Spdm) : (s.updSpdm id f).out = s.out := rfl
@[simp] theorem State.updSpdm_free (s : State) (id : Nat) (f : Spdm → Spdm) : (s.updSpdm id f).free = s.free := rfl
@[simp] theorem State.updSpdm_pending (s : State) (id : Nat) (f : Spdm → Spdm) : (s.updSpdm id f).pending = s.pending := rfl

/-! ### takeOut -/

@[simp] theorem State.takeOut_boot (s : State) (x : Out) : (s.takeOut x).boot = s.boot := rfl
@[simp] theorem State.takeOut_fab (s : State) (x : Out) : (s.takeOut x).fab = s.fab := rfl
@[simp] theorem State.takeOut_clock (s : State) (x : Out) : (s.takeOut x).clock = s.clock := rfl
@[simp] theorem State.takeOut_q (s : State) (x : Out) : (s.takeOut x).q = s.q := rfl
@[simp] theorem State.takeOut_stg (s : State) (x : Out) : (s.takeOut x).stg = s.stg := rfl
@[simp] theorem State.takeOut_store (s : State) (x : Out) : (s.takeOut x).store = s.store := rfl
@[simp] theorem State.takeOut_idx (s : State) (x : Out) : (s.takeOut x).idx = s.idx := rfl
@[simp] theorem State.takeOut_tiers (s : State) (x : Out) : (s.takeOut x).tiers = s.tiers := rfl
@[simp] theorem State.takeOut_foot (s : State) (x : Out) : (s.takeOut x).foot = s.foot := rfl
@[simp] theorem State.takeOut_dlv (s : State) (x : Out) : (s.takeOut x).dlv = s.dlv := rfl
@[simp] theorem State.takeOut_att (s : State) (x : Out) : (s.takeOut x).att = s.att := rfl
@[simp] theorem State.takeOut_pool (s : State) (x : Out) : (s.takeOut x).pool = s.pool := rfl
@[simp] theorem State.takeOut_rma (s : State) (x : Out) : (s.takeOut x).rma = s.rma := rfl
@[simp] theorem State.takeOut_grp (s : State) (x : Out) : (s.takeOut x).grp = s.grp := rfl
@[simp] theorem State.takeOut_sec (s : State) (x : Out) : (s.takeOut x).sec = s.sec := rfl
@[simp] theorem State.takeOut_tel (s : State) (x : Out) : (s.takeOut x).tel = s.tel := rfl
@[simp] theorem State.takeOut_mgmt (s : State) (x : Out) : (s.takeOut x).mgmt = s.mgmt := rfl
@[simp] theorem State.takeOut_host (s : State) (x : Out) : (s.takeOut x).host = s.host := rfl
@[simp] theorem State.takeOut_hostBad (s : State) (x : Out) : (s.takeOut x).hostBad = s.hostBad := rfl
@[simp] theorem State.takeOut_out (s : State) (x : Out) : (s.takeOut x).out = s.out := rfl
@[simp] theorem State.takeOut_free (s : State) (x : Out) : (s.takeOut x).free = s.free := rfl
@[simp] theorem State.takeOut_pending (s : State) (x : Out) : (s.takeOut x).pending = s.pending := rfl

/-! ### setAdmin -/

@[simp] theorem State.setAdmin_boot (s : State) (a : AdminRegs) : (s.setAdmin a).boot = s.boot := rfl
@[simp] theorem State.setAdmin_fab (s : State) (a : AdminRegs) : (s.setAdmin a).fab = s.fab := rfl
@[simp] theorem State.setAdmin_clock (s : State) (a : AdminRegs) : (s.setAdmin a).clock = s.clock := rfl
@[simp] theorem State.setAdmin_stg (s : State) (a : AdminRegs) : (s.setAdmin a).stg = s.stg := rfl
@[simp] theorem State.setAdmin_store (s : State) (a : AdminRegs) : (s.setAdmin a).store = s.store := rfl
@[simp] theorem State.setAdmin_idx (s : State) (a : AdminRegs) : (s.setAdmin a).idx = s.idx := rfl
@[simp] theorem State.setAdmin_tiers (s : State) (a : AdminRegs) : (s.setAdmin a).tiers = s.tiers := rfl
@[simp] theorem State.setAdmin_foot (s : State) (a : AdminRegs) : (s.setAdmin a).foot = s.foot := rfl
@[simp] theorem State.setAdmin_dlv (s : State) (a : AdminRegs) : (s.setAdmin a).dlv = s.dlv := rfl
@[simp] theorem State.setAdmin_att (s : State) (a : AdminRegs) : (s.setAdmin a).att = s.att := rfl
@[simp] theorem State.setAdmin_pool (s : State) (a : AdminRegs) : (s.setAdmin a).pool = s.pool := rfl
@[simp] theorem State.setAdmin_rma (s : State) (a : AdminRegs) : (s.setAdmin a).rma = s.rma := rfl
@[simp] theorem State.setAdmin_grp (s : State) (a : AdminRegs) : (s.setAdmin a).grp = s.grp := rfl
@[simp] theorem State.setAdmin_sec (s : State) (a : AdminRegs) : (s.setAdmin a).sec = s.sec := rfl
@[simp] theorem State.setAdmin_ras (s : State) (a : AdminRegs) : (s.setAdmin a).ras = s.ras := rfl
@[simp] theorem State.setAdmin_tel (s : State) (a : AdminRegs) : (s.setAdmin a).tel = s.tel := rfl
@[simp] theorem State.setAdmin_mgmt (s : State) (a : AdminRegs) : (s.setAdmin a).mgmt = s.mgmt := rfl
@[simp] theorem State.setAdmin_host (s : State) (a : AdminRegs) : (s.setAdmin a).host = s.host := rfl
@[simp] theorem State.setAdmin_hostBad (s : State) (a : AdminRegs) : (s.setAdmin a).hostBad = s.hostBad := rfl
@[simp] theorem State.setAdmin_out (s : State) (a : AdminRegs) : (s.setAdmin a).out = s.out := rfl
@[simp] theorem State.setAdmin_free (s : State) (a : AdminRegs) : (s.setAdmin a).free = s.free := rfl
@[simp] theorem State.setAdmin_pending (s : State) (a : AdminRegs) : (s.setAdmin a).pending = s.pending := rfl

/-! ### What the updates write -/

@[simp] theorem State.emit_out (s : State) (o : Output) : (s.emit o).out = o :: s.out := rfl
@[simp] theorem State.setOp_ops (s : State) (tag : Nat) (f : Op → Op) :
    (s.setOp tag f).q.ops = upd (·.tag == tag) f s.q.ops := rfl
@[simp] theorem State.setOp_records (s : State) (tag : Nat) (f : Op → Op) : (s.setOp tag f).q.records = s.q.records := rfl
@[simp] theorem State.setPair_pairs (s : State) (q : QPair) :
    (s.setPair q).q.pairs = upd (·.index == q.index) (fun _ => q) s.q.pairs := rfl
@[simp] theorem State.setPair_ops (s : State) (q : QPair) : (s.setPair q).q.ops = s.q.ops := rfl
@[simp] theorem State.writeRec_ops (s : State) (o : Op) : (s.writeRec o).q.ops = s.q.ops := rfl
@[simp] theorem State.writeRec_pairs (s : State) (o : Op) : (s.writeRec o).q.pairs = s.q.pairs := rfl
@[simp] theorem State.setVector_shared (s : State) (v : Vector) : (s.setVector v).tel.shared = s.tel.shared := rfl
@[simp] theorem State.addCounter_shared (s : State) (i n : Nat) : (s.addCounter i n).tel.shared = s.tel.shared := rfl
@[simp] theorem State.updBlock_chains (s : State) (id : Nat) (f : Block → Block) :
    (s.updBlock id f).store.chains = s.store.chains := rfl
@[simp] theorem State.updBlock_namespaces (s : State) (id : Nat) (f : Block → Block) :
    (s.updBlock id f).store.namespaces = s.store.namespaces := rfl
@[simp] theorem State.updChain_blocks (s : State) (i : Nat) (f : Chain → Chain) :
    (s.updChain i f).store.blocks = s.store.blocks := rfl
@[simp] theorem State.updNs_chains (s : State) (i : Nat) (f : Namespace → Namespace) :
    (s.updNs i f).store.chains = s.store.chains := rfl

end Sys2Proof.Machine
end

