-- ==== Sys2Proof/Laws/Frames.lean ====
section
/-! SUPPORT. Frames.lean: what the shared operations of Ops.lean can change: signalling (counters, monitors, vectors, interrupts) writes
only telemetry, the pairs' pending counts and the outputs; error records add the RAS rings; a completion adds host memory, the
scheduling ports, the fabric and the free counter. -/
namespace Sys2Proof.Machine

/-- `t` is `s` but for telemetry, the queues and the outputs. -/
def Signals (s t : State) : Prop := ∃ q tel out, t = { s with q := q, tel := tel, out := out }

/-- `t` is `s` but for telemetry, the queues, the outputs and the RAS rings. -/
def Reports (s t : State) : Prop := ∃ q tel out ras, t = { s with q := q, tel := tel, out := out, ras := ras }

/-- `t` is `s` but for what a completion touches: telemetry, queues, outputs, RAS, host memory, ports, fabric, free counter. -/
def Completes (s t : State) : Prop :=
  ∃ q tel out ras host dlv fab free, t = { s with
    q := q, tel := tel, out := out, ras := ras, host := host, dlv := dlv, fab := fab, free := free }

theorem Signals.refl (s : State) : Signals s s := ⟨_, _, _, rfl⟩
theorem Reports.refl (s : State) : Reports s s := ⟨_, _, _, _, rfl⟩
theorem Completes.refl (s : State) : Completes s s := ⟨_, _, _, _, _, _, _, _, rfl⟩

theorem Signals.trans {s t u : State} : Signals s t → Signals t u → Signals s u := by
  rintro ⟨_, _, _, rfl⟩ ⟨_, _, _, rfl⟩
  exact ⟨_, _, _, rfl⟩

theorem Reports.trans {s t u : State} : Reports s t → Reports t u → Reports s u := by
  rintro ⟨_, _, _, _, rfl⟩ ⟨_, _, _, _, rfl⟩
  exact ⟨_, _, _, _, rfl⟩

theorem Completes.trans {s t u : State} : Completes s t → Completes t u → Completes s u := by
  rintro ⟨_, _, _, _, _, _, _, _, rfl⟩ ⟨_, _, _, _, _, _, _, _, rfl⟩
  exact ⟨_, _, _, _, _, _, _, _, rfl⟩

theorem Signals.reports {s t : State} : Signals s t → Reports s t := by
  rintro ⟨_, _, _, rfl⟩
  exact ⟨_, _, _, _, rfl⟩

theorem Reports.completes {s t : State} : Reports s t → Completes s t := by
  rintro ⟨_, _, _, _, rfl⟩
  exact ⟨_, _, _, _, _, _, _, _, rfl⟩

/-- A fold of steps that signal signals. -/
theorem Signals.foldl {α : Type} (f : State → α → State) (h : ∀ s x, Signals s (f s x)) (l : List α) :
    ∀ s, Signals s (l.foldl f s) := by
  induction l with
  | nil => exact Signals.refl
  | cons x l ih => exact fun s => (h s x).trans (ih _)

/-! ### Counters, vectors, shared sources -/

theorem State.addCounter_signals (s : State) (i n : Nat) : Signals s (s.addCounter i n) := ⟨_, _, _, rfl⟩
theorem State.setVector_signals (s : State) (v : Vector) : Signals s (s.setVector v) := ⟨_, _, _, rfl⟩
theorem State.emit_signals (s : State) (o : Output) : Signals s (s.emit o) := ⟨_, _, _, rfl⟩
theorem State.setPair_signals (s : State) (q : QPair) : Signals s (s.setPair q) := ⟨_, _, _, rfl⟩

theorem State.countIrq_signals (s : State) (i n : Nat) : Signals s (s.countIrq i n) := ⟨_, _, _, rfl⟩

theorem State.sendOne_signals (s : State) (v : Vector) : Signals s (s.sendOne v) := by
  unfold State.sendOne
  refine Signals.trans ?_ (State.emit_signals _ _)
  refine Signals.trans ?_ (State.setVector_signals _ _)
  refine Signals.trans (t := ((if v.pending > 1 then (s.countIrq 0x600 1).countIrq 0x601 (v.pending - 1) else s.countIrq 0x600 1).countIrq
    (0x400 + 4 * v.fn.link) ((4 + schedOverhead s.stg.live v.fn.link) / 64)).countIrq (0x401 + 4 * v.fn.link) 1) ?_ ?_
  · refine Signals.trans ?_ ((State.countIrq_signals _ _ _).trans (State.countIrq_signals _ _ _))
    split
    · exact (State.countIrq_signals _ _ _).trans (State.countIrq_signals _ _ _)
    · exact State.countIrq_signals _ _ _
  · split <;> exact ⟨_, _, _, rfl⟩

theorem State.pendOne_signals (s : State) (f : Fn) (n : Nat) (now : Bool) : Signals s (s.pendOne f n now) := by
  unfold State.pendOne
  extract_lets v idle w
  clear_value v idle w
  split
  · exact State.setVector_signals _ _
  · split
    · exact State.sendOne_signals _ _
    · split
      · exact (State.countIrq_signals _ _ _).trans (State.sendOne_signals _ _)
      · exact State.setVector_signals _ _

theorem State.pendSrcOne_signals (s : State) (src : Nat) (f : Fn) (n : Nat) : Signals s (s.pendSrcOne src f n) := by
  simp only [State.pendSrcOne]
  split
  · exact State.pendOne_signals _ _ _ _
  · exact (State.pendOne_signals _ _ _ _).trans (State.setVector_signals _ _)

theorem State.takeSrc_signals (s : State) (src : Nat) : Signals s (s.takeSrc src) := ⟨_, _, _, rfl⟩

theorem State.raiseOne_signals (s : State) (src : Nat) : Signals s (s.raiseOne src) := by
  simp only [State.raiseOne]
  split
  · exact Signals.refl s
  · split
    · exact Signals.trans ⟨_, _, _, rfl⟩ (State.pendSrcOne_signals _ _ _ _)
    · exact ⟨_, _, _, rfl⟩

/-- Raising the MONITOR source after a step that signals signals. -/
theorem State.noteHit_signals {s t : State} (h : Signals s t) : Signals s (s.noteHit t) := by
  unfold State.noteHit
  split
  · exact h.trans (State.raiseOne_signals _ _)
  · exact h

theorem State.sendVector_signals (s : State) (v : Vector) : Signals s (s.sendVector v) :=
  State.noteHit_signals (State.sendOne_signals s v)

theorem State.pendVector_signals (s : State) (f : Fn) (n : Nat) (now : Bool) : Signals s (s.pendVector f n now) :=
  State.noteHit_signals (State.pendOne_signals s f n now)

theorem State.pendSrc_signals (s : State) (src : Nat) (f : Fn) (n : Nat) : Signals s (s.pendSrc src f n) :=
  State.noteHit_signals (State.pendSrcOne_signals s src f n)

theorem State.raiseSrc_signals (s : State) (src : Nat) : Signals s (s.raiseSrc src) :=
  State.noteHit_signals (State.raiseOne_signals s src)

theorem State.discardSome_signals (s : State) (v : Vector) (k : Nat) : Signals s (s.discardSome v k) := by
  unfold State.discardSome
  split
  · exact Signals.refl s
  · exact State.noteHit_signals ((State.countIrq_signals _ _ _).trans (State.setVector_signals _ _))

theorem State.discardVector_signals (s : State) (f : Fn) (n : Nat) : Signals s (s.discardVector f n) :=
  State.discardSome_signals _ _ _

theorem State.releaseOne_signals (s : State) (v : Vector) : Signals s (s.releaseOne v) :=
  State.noteHit_signals ((State.countIrq_signals _ _ _).trans (State.sendOne_signals _ _))

theorem State.setMonitors_signals (s : State) (l : List Monitor) : Signals s (s.setMonitors l) := by
  simp only [State.setMonitors]
  split
  · exact Signals.trans ⟨_, _, _, rfl⟩ (State.raiseSrc_signals _ _)
  · exact ⟨_, _, _, rfl⟩

theorem State.count_signals (s : State) (e : Event) : Signals s (s.count e) := by
  simp only [State.count]
  split
  · exact (State.addCounter_signals _ _ _).trans (State.setMonitors_signals _ _)
  · exact State.addCounter_signals _ _ _

theorem State.event_signals (s : State) (e : Event) : Signals s (s.event e) := by
  unfold State.event
  split
  · exact ⟨_, _, _, rfl⟩
  · exact State.count_signals s e

theorem State.bump_signals (s : State) (src n : Nat) : Signals s (s.bump src n) := by
  unfold State.bump
  split
  · exact Signals.refl s
  · exact State.event_signals _ _

theorem State.bumpAt_signals (s : State) (src n : Nat) (part obj : Option Nat) : Signals s (s.bumpAt src n part obj) := by
  unfold State.bumpAt
  split
  · exact Signals.refl s
  · exact State.event_signals _ _

theorem State.pendCq_signals (s : State) (i : Nat) : Signals s (s.pendCq i) := by
  simp only [State.pendCq]
  split
  · exact Signals.refl s
  · split
    · exact State.pendVector_signals _ _ _ _
    · exact (State.pendVector_signals _ _ _ _).trans ⟨_, _, _, rfl⟩

theorem State.discardCq_signals (s : State) (i : Nat) : Signals s (s.discardCq i) := by
  simp only [State.discardCq]
  split
  · exact Signals.refl s
  · split
    · exact Signals.refl s
    · exact (State.discardSome_signals _ _ _).trans (State.setPair_signals _ _)

/-! ### Operations and their records -/

theorem State.setOp_signals (s : State) (tag : Nat) (f : Op → Op) : Signals s (s.setOp tag f) := ⟨_, _, _, rfl⟩
theorem State.writeRec_signals (s : State) (o : Op) : Signals s (s.writeRec o) := ⟨_, _, _, rfl⟩

theorem State.updOp_signals (s : State) (tag : Nat) (f : Op → Op) : Signals s (s.updOp tag f) := by
  simp only [State.updOp]
  split
  · exact (State.setOp_signals _ _ _).trans (State.writeRec_signals _ _)
  · exact State.setOp_signals _ _ _

theorem State.setTags_signals (s : State) (span : Nat) (t : TagPool) : Signals s (s.setTags span t) := by
  unfold State.setTags
  split
  · exact ⟨_, _, _, rfl⟩
  · exact ⟨_, _, _, rfl⟩

/-! ### Error records -/

theorem State.logFatal_reports (s : State) (r : Report) : Reports s (s.logFatal r) := by
  have h : Signals s ((s.event ⟨0x345, 1, none, r.locus, r.object⟩).emit
      (.fatalReport (r.record (s.dieTime r.locus) s.ras.seq s.stg.epoch))) :=
    (State.event_signals _ _).trans (State.emit_signals _ _)
  simp only [State.logFatal]
  refine h.reports.trans ?_
  split
  · split
    · exact Reports.trans ⟨_, _, _, _, rfl⟩ (State.raiseSrc_signals _ _).reports
    · exact ⟨_, _, _, _, rfl⟩
  · exact Reports.trans ⟨_, _, _, _, rfl⟩ (State.bump_signals _ _ _).reports

theorem State.log_reports (s : State) (r : Report) : Reports s (s.log r) := by
  simp only [State.log]
  split
  · exact State.logFatal_reports s r
  · refine (State.event_signals s ⟨0x33F + r.cls.code, 1, none, r.locus, r.object⟩).reports.trans ?_
    repeat' split
    · exact Reports.trans ⟨_, _, _, _, rfl⟩ (State.bump_signals _ _ _).reports
    · exact Reports.trans ⟨_, _, _, _, rfl⟩ (State.bump_signals _ _ _).reports
    · exact Reports.trans ⟨_, _, _, _, rfl⟩ (State.raiseSrc_signals _ _).reports
    · exact ⟨_, _, _, _, rfl⟩

/-! ### Host memory and completions -/

/-- A write to host memory that takes place writes just the bytes of its range on its link. -/
theorem State.hostWrite_ok {s t : State} {f : Fn} {link a : Nat} {b : List Byte} (h : s.hostWrite f link a b = .ok t) :
    s.xferOk f link a b.length true = none ∧ t = { s with host := s.host.write (hostKey link a) b } := by
  unfold State.hostWrite at h
  split at h
  · cases h
  · rename_i hx
    cases h
    exact ⟨hx, rfl⟩

/-- A read of host memory that takes place gives the bytes of its range and changes nothing. -/
theorem State.hostRead_ok {s : State} {f : Fn} {link a n : Nat} {b : List Byte} (h : s.hostRead f link a n = .ok b) :
    s.xferOk f link a n false = none ∧ b = s.host.read (hostKey link a) n := by
  unfold State.hostRead at h
  split at h
  · cases h
  · rename_i hx
    cases h
    exact ⟨hx, rfl⟩

theorem State.pass_completes (s : State) (link num : Nat) (units : List Nat) : Completes s (s.pass link num units) := by
  unfold State.pass
  extract_lets l cs u
  have h : Completes s u := ((State.bump_signals _ _ _).trans (State.bump_signals _ _ _)).reports.completes
  clear_value u
  split
  · exact h
  · exact h.trans ⟨_, _, _, _, _, _, _, _, rfl⟩

theorem State.charge_completes (s : State) (link part cls : Nat) (units : List Nat) : Completes s (s.charge link part cls units) :=
  State.pass_completes _ _ _ _

theorem State.fabricSend_completes (s : State) (c : Traffic) (b : FabBody) (src dst : Nat) : Completes s (s.fabricSend c b src dst) := by
  unfold State.fabricSend
  split
  · exact Completes.refl s
  · unfold State.fabricPut
    extract_lets next
    split
    · exact ⟨_, _, _, _, _, _, _, _, rfl⟩
    · exact ⟨_, _, _, _, _, _, _, _, rfl⟩

theorem State.handBack_completes (s : State) (o : Op) : Completes s (s.handBack o) := by
  unfold State.handBack
  split
  · exact Completes.refl s
  · exact State.fabricSend_completes _ _ _ _ _

theorem State.settleTarget_completes (s : State) (o : Op) (q : QPair) : Completes s (s.settleTarget o q) := by
  unfold State.settleTarget
  split
  · split
    · exact Completes.refl s
    · exact (State.charge_completes _ _ _ _ _).trans (State.emit_signals _ _).reports.completes
  · exact Completes.refl s

theorem State.queueError_reports (s : State) (q : QPair) (kind : Nat) : Reports s (s.queueError q kind) := by
  simp only [State.queueError]
  exact (((State.setPair_signals _ _).trans (State.bumpAt_signals _ _ _ _ _)).reports.trans (State.log_reports _ _)).trans
    (State.pendVector_signals _ _ _ _).reports

theorem State.writeCqe_completes (s : State) (q : QPair) (h : HeldCqe) : Completes s (s.writeCqe q h) := by
  unfold State.writeCqe
  split
  · exact Completes.refl s
  · split
    · exact (State.setPair_signals _ _).reports.completes
    · extract_lets c
      clear_value c
      split
      · rename_i t ht
        obtain ⟨-, rfl⟩ := State.hostWrite_ok ht
        have hw : ∀ host link part cls units (x : QPair) o,
            Completes s (((({ s with host := host, free := s.free + 1 } : State).charge link part cls units).setPair x).emit o) :=
          fun host link part cls units x o =>
            (Completes.trans ⟨_, _, _, _, _, _, _, _, rfl⟩ (State.charge_completes _ _ _ _ _)).trans
              ((State.setPair_signals _ _).trans (State.emit_signals _ _)).reports.completes
        refine Completes.trans ?_ (State.pendCq_signals _ _).reports.completes
        split
        · exact (hw _ _ _ _ _ _ _).trans (State.bumpAt_signals _ _ _ _ _).reports.completes
        · exact hw _ _ _ _ _ _ _
      · exact (State.setPair_signals _ _).reports.completes
      · exact (State.queueError_reports _ _ _).completes

theorem State.complete_completes (s : State) (o : Op) (st : Status) (result progress : Nat) :
    Completes s (s.complete o st result progress) := by
  unfold State.complete
  split
  · exact (((State.bumpAt_signals _ _ _ _ _).reports.completes.trans (State.settleTarget_completes _ _ _)).trans
      (State.handBack_completes _ _)).trans (State.writeCqe_completes _ _ _)
  · exact Completes.refl s

end Sys2Proof.Machine
end

