-- ==== Sys2Proof/Laws/Memory.lean ====
section
/-! SUPPORT. Memory.lean: every operation on byte memory keeps the canonical form: addresses strictly rising, no listed byte 0. -/
namespace Sys2Proof.Machine

/-- A non-empty canonical list, taken apart: its first byte is not 0, its tail is canonical, and the tail lies above it. -/
theorem Mem.wf_cons_iff (c : Nat × Byte) (m : Mem) :
    Mem.wf (c :: m) = true ↔ c.2 ≠ 0#8 ∧ (∀ d ∈ m.head?, c.1 < d.1) ∧ Mem.wf m = true := by
  cases m <;> simp [Mem.wf, and_assoc]

/-- What a one-byte write puts first: the written address or the old first. -/
theorem Mem.set_head (m : Mem) (a : Nat) (b : Byte) :
    ∀ d ∈ (Mem.set m a b).head?, d.1 = a ∨ d ∈ m.head? ∨ ∃ c t, m = c :: t ∧ c.1 = a ∧ d ∈ t.head? := by
  intro d hd
  cases m with
  | nil =>
    by_cases hb : b = 0#8
    · simp [Mem.set, hb] at hd
    · simp only [Mem.set, hb, if_false, List.head?_cons, Option.mem_def, Option.some.injEq] at hd
      exact .inl (by rw [← hd])
  | cons c t =>
    unfold Mem.set at hd
    split at hd
    · exact .inr (.inl (by simpa using hd))
    · split at hd
      · split at hd
        · exact .inr (.inr ⟨c, t, rfl, by assumption, hd⟩)
        · simp only [List.head?_cons, Option.mem_def, Option.some.injEq] at hd
          exact .inl (by rw [← hd])
      · split at hd
        · exact .inr (.inl (by simpa using hd))
        · simp only [List.head?_cons, Option.mem_def, Option.some.injEq] at hd
          exact .inl (by rw [← hd])

/-- A one-byte write keeps the canonical form. -/
theorem Mem.set_wf (m : Mem) (a : Nat) (b : Byte) (h : Mem.wf m = true) : Mem.wf (Mem.set m a b) = true := by
  induction m with
  | nil => by_cases hb : b = 0#8 <;> simp [Mem.set, Mem.wf, hb]
  | cons c t ih =>
    obtain ⟨h1, h2, h3⟩ := (Mem.wf_cons_iff c t).1 h
    unfold Mem.set
    split
    · refine (Mem.wf_cons_iff _ _).2 ⟨h1, fun d hd => ?_, ih h3⟩
      rcases Mem.set_head t a b d hd with h4 | h4 | ⟨e, u, rfl, h5, h6⟩
      · omega
      · exact h2 d h4
      · have := h2 e (by simp)
        obtain ⟨-, h7, -⟩ := (Mem.wf_cons_iff e u).1 h3
        have := h7 d h6
        omega
    · split
      · split
        · exact h3
        · exact (Mem.wf_cons_iff _ _).2 ⟨by assumption, by simp_all, h3⟩
      · split
        · exact h
        · refine (Mem.wf_cons_iff _ _).2 ⟨by assumption, fun d hd => ?_, h⟩
          simp only [List.head?_cons, Option.mem_def, Option.some.injEq] at hd
          subst hd
          show a < c.1
          omega

/-- A write of bytes keeps the canonical form. -/
theorem Mem.write_wf (l : List Byte) (m : Mem) (a : Nat) (h : Mem.wf m = true) : Mem.wf (Mem.write m a l) = true := by
  induction l generalizing m a with
  | nil => exact h
  | cons b t ih => exact ih _ _ (Mem.set_wf m a b h)

/-- Every byte of a canonical list after the first lies above the first. -/
theorem Mem.wf_above (c : Nat × Byte) (m : Mem) (h : Mem.wf (c :: m) = true) : ∀ d ∈ m, c.1 < d.1 := by
  induction m generalizing c with
  | nil => simp
  | cons e t ih =>
    obtain ⟨-, h2, h3⟩ := (Mem.wf_cons_iff c (e :: t)).1 h
    have h4 := h2 e (by simp)
    intro d hd
    rcases List.mem_cons.1 hd with rfl | hd
    · exact h4
    · exact Nat.lt_trans h4 (ih e h3 d hd)

/-- Leaving bytes out keeps the canonical form. -/
theorem Mem.filter_wf (p : Nat × Byte → Bool) (m : Mem) (h : Mem.wf m = true) : Mem.wf (m.filter p) = true := by
  induction m with
  | nil => rfl
  | cons c t ih =>
    obtain ⟨h1, -, h3⟩ := (Mem.wf_cons_iff c t).1 h
    rw [List.filter_cons]
    split
    · refine (Mem.wf_cons_iff _ _).2 ⟨h1, fun d hd => ?_, ih h3⟩
      exact Mem.wf_above c t h d (List.mem_filter.1 (List.mem_of_mem_head? hd)).1
    · exact ih h3

/-- Initialising a range keeps the canonical form (R310). -/
theorem Mem.clear_wf (m : Mem) (a n : Nat) (h : Mem.wf m = true) : Mem.wf (Mem.clear m a n) = true := Mem.filter_wf _ m h

end Sys2Proof.Machine
end

