-- ==== Sys2Proof/WellFormed.lean ====
section
/-! DEFINITION. WellFormed.lean: which commands and events can occur at the device's boundary at all: operands within
the ranges that the pins, packets and registers carry.  exec does not rely on it. -/
namespace Sys2Proof

/-- A function: link 0-31, logical device 0-15 (R262, Table 11-1). -/
def fnOk (f : Fn) : Bool := decide (f.link < 32) && decide (f.ld < 16)

/-- A source: a function and a 12-bit SPID (Table 11-4). -/
def sourceOk (x : Source) : Bool := decide (x.link < 32) && decide (x.ld < 16) && decide (x.spid < 4096)

/-- A pool of a die that exists (Table 3-13). -/
def poolOk : Pool → Bool
  | .parameter n => decide (n < 2)
  | .transfer n => decide (n < 2)
  | .staging n => decide (n < 6)

/-- A link or an Ethernet port. -/
def linkOk : LinkId → Bool
  | .cxl n => decide (n < 32)
  | .eth n => decide (n < 4)

/-- An inbound message: 24-bit QPN and PSN, 32-bit key, 64-bit offset (Table 12-1). -/
def inboundOk (m : Inbound) : Bool :=
  decide (m.qpn < 2 ^ 24) && decide (m.psn < 2 ^ 24) && decide (m.key < 2 ^ 32) && decide (m.offset < 2 ^ 64)

/-- A stream of Table 14-12: 8 selective streams a link. -/
def streamOk : IdeStream → Bool
  | .selective i ld => decide (i < 8) && decide (ld < 16)
  | .io => true
  | .mem _ => true

/-- Well-formed commands and events. -/
def Instr.wf : Instr → Bool
  | .coldStart slot => decide (slot < 8)
  | .porNAssert => true
  | .perstNDeassert port => decide (port < 8)
  | .firmwareVerified => true
  | .fabricLinksTrained => true
  | .readyLink => true
  | .ddr5CalibrationComplete dimms => dimms.all (fun x => decide (x.1 < 8) && decide (x.2.1 < 3))
  | .hbmTrainingComplete failingLanes => failingLanes.all (fun x => decide (x.1 < 6) && decide (x.2.1 < 32))
  | .readyDeck => true
  | .nandCalibrationComplete channels => channels.all (fun x => decide (x.channel < 32) && [0, 1600, 2400, 3600].contains x.rate)
  | .causewayScanComplete bad => bad.all (fun x => decide (x.1 < 8))
  | .footingMountComplete => true
  | .haltNAssert => true
  | .haltNDeassert => true
  | .entropyHealthFail _ => true
  | .entropyRestartDone => true
  | .entropyWaitTimeout _ => true
  | .enterLinkWatch c => decide (c.qp < 8192)
  | .linkWatchWake _ => true
  | .devWakeAtReached => true
  | .linkWatchServiceRestored => true
  | .ethernetLinksTrained ports => decide (ports < 16)
  | .warmReset => true
  | .devResetWarm r _ => fnOk r.fn
  | .registerWrite r reg width _ => fnOk r.fn && [0, 2, 4, 7].contains reg.bar && decide (reg.offset < 2 ^ 25) &&
      [1, 2, 4, 8].contains width
  | .adminQueueEnable r _ => fnOk r.fn
  | .adminQueueDisable r => fnOk r.fn
  | .sqTailDoorbell r qp _ => fnOk r.fn && decide (qp < 8192)
  | .cqHeadDoorbell r qp _ => fnOk r.fn && decide (qp < 8192)
  | .commandFetch span => decide (span < 2)
  | .operationStart tag => decide (tag < 65536)
  | .bufferGrant pool => poolOk pool
  | .longOpUnitEnd tag => decide (tag < 65536)
  | .longOpFinal tag => decide (tag < 65536)
  | .identify c => decide (c.qp < 8192)
  | .createQueuePair c => decide (c.qp < 8192)
  | .deleteQueuePair c => decide (c.qp < 8192)
  | .abort c => decide (c.qp < 8192)
  | .halt c => decide (c.qp < 8192)
  | .stageOpen c => decide (c.qp < 8192)
  | .stageWrite c => decide (c.qp < 8192)
  | .stageRead c => decide (c.qp < 8192)
  | .stageCheck c => decide (c.qp < 8192)
  | .commit c => decide (c.qp < 8192)
  | .stageDiscard c => decide (c.qp < 8192)
  | .stagingLeaseExpiry => true
  | .commitSwitch => true
  | .commitDrainEnd => true
  | .createNamespace c => decide (c.qp < 8192)
  | .deleteNamespace c => decide (c.qp < 8192)
  | .queryNamespace c => decide (c.qp < 8192)
  | .setNamespace c => decide (c.qp < 8192)
  | .tailWindowStore src _ bytes => sourceOk src && decide (0 < bytes.length && bytes.length ≤ 64)
  | .controlPageNStore src _ _ => sourceOk src
  | .tailRebindEnd chain slot => decide (chain < 1048576) && decide (slot < 2)
  | .probe c => decide (c.qp < 8192)
  | .openChain c => decide (c.qp < 8192)
  | .insertBlock c => decide (c.qp < 8192)
  | .appendCommit c => decide (c.qp < 8192)
  | .seal c => decide (c.qp < 8192)
  | .fork c => decide (c.qp < 8192)
  | .openSnapshot c => decide (c.qp < 8192)
  | .truncate c => decide (c.qp < 8192)
  | .pin c => decide (c.qp < 8192)
  | .release c => decide (c.qp < 8192)
  | .mapTail c => decide (c.qp < 8192)
  | .chainQuery c => decide (c.qp < 8192)
  | .snapshotExpiry slot => decide (slot < 262144)
  | .pinExpiry slot => decide (slot < 65536)
  | .codebookLoad r _ => fnOk r.fn
  | .codebookUnload r _ => fnOk r.fn
  | .codebookLoadEnd => true
  | .lookup c => decide (c.qp < 8192)
  | .indexTag c => decide (c.qp < 8192)
  | .indexEvict c => decide (c.qp < 8192)
  | .frRegion c => decide (c.qp < 8192)
  | .frWrite c => decide (c.qp < 8192)
  | .frSearch c => decide (c.qp < 8192)
  | .indexBanks c => decide (c.qp < 8192)
  | .forcedWrite port => decide (port < 8)
  | .cascadeFrameReceived _ _ _ => true
  | .cascadeTimeout => true
  | .cascadeResync r _ => fnOk r.fn
  | .trestleTempSample die temperature => decide (die < 4) && decide (temperature < 65536)
  | .indexParityScan bank bad => decide (bank < 256) && bad.all (fun x => decide (x < 2 ^ 19))
  | .blockRecordFree _ => true
  | .placementDemoteWatermark tier => decide (tier < 4)
  | .placementDemoteHorizon tier => decide (tier < 4)
  | .placementEvict tier => decide (tier < 4)
  | .placementPromote _ _ => true
  | .moveUnit _ => true
  | .oldCopyRelease _ => true
  | .histogramHalve => true
  | .fetch c => decide (c.qp < 8192)
  | .deliver c => decide (c.qp < 8192)
  | .spill c => decide (c.qp < 8192)
  | .promote c => decide (c.qp < 8192)
  | .drop c => decide (c.qp < 8192)
  | .placeHint c => decide (c.qp < 8192)
  | .hintExpiry _ => true
  | .placeReport c => decide (c.qp < 8192)
  | .lease c => decide (c.qp < 8192)
  | .leaseAutoRequest partner => decide (partner < 1024)
  | .leaseRequestReceived partner _ _ _ _ _ => decide (partner < 1024)
  | .leaseAnswerReceived _ _ => true
  | .leaseRequestTimeout _ => true
  | .leaseReclaimReceived _ => true
  | .leaseTermEnd _ => true
  | .leaseNoticeExpiry _ => true
  | .leaseHeartbeatTimeout _ => true
  | .leaseEmpty _ => true
  | .leaseLostBookkeeping _ => true
  | .weightObject c => decide (c.qp < 8192)
  | .weightWrite c => decide (c.qp < 8192)
  | .ftlBackgroundOp port _ => decide (port < 2)
  | .nandOpComplete channel _ => decide (channel < 32)
  | .relocationAgeTrigger _ => true
  | .metadataJournalCompact => true
  | .sanitise => true
  | .sanitiseEnd => true
  | .prefetchPlan c => decide (c.qp < 8192)
  | .layerTick c => decide (c.qp < 8192)
  | .tickDoorbell r slot width _ => fnOk r.fn && decide (slot < 4096) && decide (width ≤ 8)
  | .sequenceLanded plan => decide (plan < 4096)
  | .deadlineMiss plan _ => decide (plan < 4096)
  | .planStallTimeout plan => decide (plan < 4096)
  | .planIdleLimit plan => decide (plan < 4096)
  | .cancelPlan c => decide (c.qp < 8192)
  | .planQuery c => decide (c.qp < 8192)
  | .schedUnitStart port => decide (port < 42)
  | .gateTakeover port => decide (port < 42)
  | .gateEntryChange port => decide (port < 42)
  | .tollRecolour port queue => decide (port < 42) && decide (queue < 16)
  | .attend c => decide (c.qp < 8192)
  | .attendResume tag => decide (tag < 65536)
  | .attendPartialMerge tag => decide (tag < 65536)
  | .attendSparse c => decide (c.qp < 8192)
  | .attDesc c => decide (c.qp < 8192)
  | .attWindows c => decide (c.qp < 8192)
  | .queryWindowStore r offset bytes => fnOk r.fn && decide (offset < 2 ^ 25) && decide (0 < bytes.length)
  | .dcAdd hosts region _ _ _ partition _ => hosts.all sourceOk && decide (region < 2) && decide (partition < 16)
  | .extentZeroEnd _ => true
  | .addDcResponse host _ _ => sourceOk host
  | .releaseDynamicCapacity host _ => sourceOk host
  | .dcRelease host _ _ => sourceOk host
  | .getDcdInfo link => decide (link < 32)
  | .getHostDcRegionConfig link ld => decide (link < 32) && decide (ld < 16)
  | .setDcRegionConfig link ld region _ => decide (link < 32) && decide (ld < 16) && decide (region < 2)
  | .getDcRegionExtentLists link ld => decide (link < 32) && decide (ld < 16)
  | .cxlMemRead src _ _ => sourceOk src
  | .cxlMemWrite src _ kind bytes _ => sourceOk src && (kind == .ownership || bytes.length == 64)
  | .backInvalidateResponse host _ dirty => decide (host < 1024) && (dirty == [] || dirty.length == 256)
  | .recallTimeout host _ => decide (host < 1024)
  | .poolLease c => decide (c.qp < 8192)
  | .heartbeatRenew r => fnOk r.fn
  | .heartbeatRejoin r => fnOk r.fn
  | .hostLeaseExpiry host => decide (host < 1024)
  | .hostUnbind host => decide (host < 1024)
  | .poolSnapshot c => decide (c.qp < 8192)
  | .poolSnapshotExpiry slot => decide (slot < 4096)
  | .fill c => decide (c.qp < 8192)
  | .copy c => decide (c.qp < 8192)
  | .compare c => decide (c.qp < 8192)
  | .reduce c => decide (c.qp < 8192)
  | .mirrorPartnerAck _ => true
  | .remirrorStart _ => true
  | .patrolScrub _ _ => true
  | .linkUp l _ => linkOk l
  | .linkDown l => linkOk l
  | .rmaConnect c => decide (c.qp < 8192)
  | .rmaRegion c => decide (c.qp < 8192)
  | .rmaWrite c => decide (c.qp < 8192)
  | .rmaRead c => decide (c.qp < 8192)
  | .rmaNotify c => decide (c.qp < 8192)
  | .rmaWait c => decide (c.qp < 8192)
  | .rmaWaitTimeout tag => decide (tag < 65536)
  | .inboundRdmaWrite m _ => inboundOk m
  | .inboundRdmaWriteImm m _ immediate => inboundOk m && decide (immediate < 2 ^ 32)
  | .inboundRdmaRead m _ => inboundOk m
  | .inboundAck qpn psn => decide (qpn < 2 ^ 24) && decide (psn < 2 ^ 24)
  | .inboundNak qpn _ => decide (qpn < 2 ^ 24)
  | .inboundReadResponse qpn psn _ => decide (qpn < 2 ^ 24) && decide (psn < 2 ^ 24)
  | .inboundCnp qpn => decide (qpn < 2 ^ 24)
  | .ackTimeout qpn => decide (qpn < 2 ^ 24)
  | .rnrTimerExpiry qpn => decide (qpn < 2 ^ 24)
  | .nqHeadDoorbell r nq _ => fnOk r.fn && decide (nq < 1024)
  | .partnerGreeting => true
  | .partnerGreetingReceived _ slot _ _ _ => decide (slot < 8)
  | .partnerAttestation partner _ _ _ _ _ => decide (partner < 1024)
  | .partnerHeartbeatSend => true
  | .partnerHeartbeatReceived partner _ _ _ _ => decide (partner < 1024)
  | .partnerSuspectTimeout partner => decide (partner < 1024)
  | .partnerDownTimeout partner => decide (partner < 1024)
  | .trayAlertFall => true
  | .alertAnswerTimeout partner => decide (partner < 1024)
  | .partnerKeyLimit partner => decide (partner < 1024)
  | .voteReceived slot _ _ _ => decide (slot < 8)
  | .groupCommitReceived _ _ => true
  | .voteTimeout _ => true
  | .voteAnswerTimeout _ => true
  | .groupAbortReceived _ => true
  | .evictionProposalReceived slot _ => decide (slot < 8)
  | .evictionQueryReceived _ => true
  | .evictionAnswerReceived slot _ _ => decide (slot < 8)
  | .evictionProposalLapse _ => true
  | .groupEvictionOrder _ => true
  | .dropReportReceived _ => true
  | .groupDropOrder _ => true
  | .unindexReportReceived _ => true
  | .groupUnindexOrder _ => true
  | .reconcileListReceived slot _ _ => decide (slot < 8)
  | .tenantClaim c => decide (c.qp < 8192)
  | .claimResume => true
  | .tenantActivate c => decide (c.qp < 8192)
  | .tenantRelease c => decide (c.qp < 8192)
  | .releaseWalkEnd => true
  | .releaseResetTimer => true
  | .tenantStatus c => decide (c.qp < 8192)
  | .attestReport c => decide (c.qp < 8192)
  | .weightBind c => decide (c.qp < 8192)
  | .netKey c => decide (c.qp < 8192)
  | .mkaSecured port => decide (port < 4)
  | .spdmRequest f _ => fnOk f
  | .spdmKeyExchange f hbeat => fnOk f && decide (hbeat < 256)
  | .spdmSessionLimit _ => true
  | .ideKmQuery link _ => decide (link < 32)
  | .ideKmKeyProg link _ stream keySet => decide (link < 32) && streamOk stream && decide (keySet < 2)
  | .ideKmKSetGo link _ stream keySet => decide (link < 32) && streamOk stream && decide (keySet < 2)
  | .ideKmKSetStop link _ stream keySet => decide (link < 32) && streamOk stream && decide (keySet < 2)
  | .ideKeyLimit link stream => decide (link < 32) && streamOk stream
  | .lockInterfaceRequest f => fnOk f
  | .stopInterfaceRequest f => fnOk f
  | .jtagInstruction _ => true
  | .fabricLinkAckTimeout link => decide (link < 98)
  | .hbmStackTimeout stack => decide (stack < 6)
  | .ddrChannelTimeout channel => decide (channel < 8)
  | .bankPortTimeout bank => decide (bank < 256)
  | .fatalFault _ => true
  | .haltComplete => true
  | .rasHeadWrite r _ => fnOk r.fn
  | .rasResume r _ => fnOk r.fn
  | .rasClearLost r => fnOk r.fn
  | .monitorClear r monitor => fnOk r.fn && decide (monitor < 64)
  | .cntDump c => decide (c.qp < 8192)
  | .snapshotInstant => true
  | .dumpSlotWritten => true
  | .irqSharedAck r _ => fnOk r.fn
  | .irqModerationTimer f vector => fnOk f && decide (vector < 2048)
  | .irqHoldClear r => fnOk r.fn
  | .mgmtHalt => true
  | .mgmtRelease => true
  | .mgmtWarmReset => true
  | .mgmtEnterLinkWatch port => decide (port < 8)
  | .mgmtRead _ => true
  | .mgmtSetPowerCeiling _ _ => true
  | .mgmtSetClaimPolicy _ => true
  | .mgmtSetFootingMode _ writeShare => decide (writeShare < 4)
  | .mgmtFirmwareWrite _ _ => true
  | .mgmtFirmwareActivate _ => true
  | .mgmtAdvanceRollback => true
  | .mgmtSetPtp _ domain _ => decide (domain < 256)
  | .enrol _ => true
  | .mgmtTrustAnchorChange _ _ => true
  | .coolantFlowReport _ => true
  | .powerSample _ => true
  | .thermalSample logicMax hbmMax locus => decide (logicMax < 65536) && decide (hbmMax < 65536) && decide (locus < 65536)
  | .discoveryUpdate _ link _ seen => decide (link < 32) && seen.tray.all (fun t => decide (t < 512))
  | .fmKeepaliveTimeout link => decide (link < 32)
  | .ppsInEdge => true
  | .supplyFault rail => decide (rail < 64)
  | .fixedRatePeriodBoundary => true
  | .startInterfaceRequest f => fnOk f
  | .functionLevelReset f => fnOk f
  | .configurationSpaceWrite f _ _ => fnOk f
  | .fabricLaneDown link => decide (link < 98)
  | .attentionSliceWatchdog pier slice => decide (pier < 6) && decide (slice < 16)
  | .controlCoreWatchdog span core => decide (span < 2) && decide (core < 8)
  | .hbmDataLaneFault stack channel => decide (stack < 6) && decide (channel < 32)
  | .memberNamespaceReport slot _ _ _ => decide (slot < 8)
  | .spdmHeartbeatTimeout _ => true
  | .ptpMessageReceived _ _ _ => true
  | .perstNAssert port => decide (port < 8)
  | .hostCapWindow host => decide (host < 1024)
  | .consecFailClear => true
  | .wakePartBack _ => true

end Sys2Proof
end

