-- ==== Sys2Proof/Tests/Setup.lean ====
section
/-! SUPPORT. Setup.lean: the small states and packets from which the tests and the witnesses start. -/
namespace Sys2Proof.Tests
open Sys2Proof.Machine

/-- A packet from its fields: the byte at which each begins, and its value (R8, Table 3-3). -/
def pkt (l : List (Nat × Nat)) : BitVec 512 := BitVec.ofNat 512 (l.foldl (fun a x => a + x.2 * 2 ^ (8 * x.1)) 0)

/-- Function 0 of link 0. -/
def f0 : Fn := ⟨0, 0⟩

/-- A command through the CTL pair 0 and one through the DATA pair 2. -/
def ctl (l : List (Nat × Nat)) : Cmd := ⟨0, pkt l⟩
def dat (l : List (Nat × Nat)) : Cmd := ⟨2, pkt l⟩

/-- The tenant's session with function 0. -/
def spdm0 : Spdm := ⟨1, f0, true, 1, 2, true, 0, 0, 0, 0⟩

def pair0 : QPair := QPair.new 0 f0 true 1 0 0 0x10000 0x20000 16 16
def pair2 : QPair := QPair.new 2 f0 false 1 0 0 0x30000 0x40000 16 16

/-- A running device in OPERATING with a CTL and a DATA pair on link 0. -/
def base : State := { State.reset with
  boot.phase := .up, boot.porN := false, boot.perst := 1, boot.link := true, boot.deck := true, boot.full := true
  boot.running := some .a, boot.stackOk := 0x3F, boot.causewayOk := 0xFF, boot.deckTrained := true, boot.memoryActive := true
  boot.ddrDone := true, boot.nandDone := true, boot.scanDone := true, boot.stacksAtStart := 6, boot.ddrRate := 6400
  boot.dimms := (List.range 8).map (fun c => (c, 1, 2 ^ 36))
  sec.life := .operating, sec.session := 7, sec.tenantKey := 1, sec.keysPresent := true, sec.spdms := [spdm0]
  q.pairs := [pair0, pair2]
  dlv.ports := [{ SPort.fresh [] 0 64 with linked := true, mem := true }], pool.bound := [f0] }

/-- An operation of a tag as its acceptance leaves it. -/
def op0 (tag qp opcode : Nat) (p : BitVec 512) : Op :=
  { tag := tag, inc := 1, order := 0, qp := qp, opcode := opcode, pkt := p, time := 0, epoch := 1, started := false
    long := false, state := .queued, pause := 0, unitsTotal := 0, unitsDone := 0, result := 0, resume := 0, status := .ok
    finished := false, wait := .none, view := none, work := .nothing, buffers := []
    contexts := [], announced := false, stopping := none, target := none, tails := none }

/-- A namespace of 16-token blocks and two layers, handle 0x1000 (R94, R97). -/
def ns0 : Namespace :=
  { index := 0, gen := 1, geo := ⟨16, 2, 1, 32, 3, false⟩, width := 1, member := 0, dropClass := false, lowest := 3, partition := 0
    tokenStore := true, keySummary := false, autoseal := false, window := 0, sinks := 0, entryWidth := 2, salt := 5
    adapter := 0, codebook := 0xFFFF, pierMask := 0, initialTier := 0, blockCode := 0, group := 0, deleting := false
    gstate := .active, holders := 1, mismatch := false, stats := ⟨[], 0, 0, 0, 0, 0, 0, [], []⟩ }

/-- A page of one layer, on the deck. -/
def page (layer : Nat) : Page := ⟨layer, 0, 0, 0, 3, false, false, 4096, 0, [], none, 0, none, []⟩

/-- A block of that namespace. -/
def blk (id k : Nat) (sealed : Bool) : Block :=
  { id := id, ns := 0, gen := 1, k := k, sealed := sealed, key := BitVec.ofNat 128 (100 + id), parent := 0, sinkKey := none
    tokens := [], pages := [page 0, page 1], groupVersion := 1, indexed := false, prepared := false, digest := 0
    segment := 0, lastTouch := 0, touches := 0, reuse := 0, lastHit := 0, run := none, recordBad := false
    tokensBad := false }

/-- A version of a sealed block, block 0, and a tail, block 1, with 20 tokens committed. -/
def view0 : View := ⟨0, 1, [.held 0], [], some 1, 20, 0⟩

/-- Its chain, handle 0x100000 (R104). -/
def chain0 : Chain := ⟨0, 1, view0, none, none, none, none, 0⟩

/-- An extent of 2 MiB, active for host 0 (R313). -/
def ext0 : Extent := ⟨0, 0, 2 ^ 32, 2 ^ 21, 0, 0, false, false, [(0, .active)], 1, [0], none⟩

/-- The device with that namespace, its two blocks and the chain over them. -/
def stored : State := { base with
  store.namespaces := [ns0], store.nsGens := [(0, 1)], store.blocks := [blk 0 0 true, blk 1 1 false]
  store.chains := [chain0], store.chainGens := [(0, 1)]
  stg.live := [⟨1, 0, 1 + 0x3F * 2 ^ 16 + 0xFF * 2 ^ 24 + 0xFFFFFFFF * 2 ^ 32⟩]
  pool.extents := [ext0] }

/-- The same with the chain's tail window at the extent's base; the window's second slot is being rebound (R106, R108). -/
def windowed : State := { stored with store.chains := [{ chain0 with window := some ⟨ext0.base, [(1, 100)]⟩, next := some 2 }]
                                      store.blocks := [blk 0 0 true, blk 1 1 false, blk 2 2 false] }

/-- The same with block 0 in the index, in bank 5 of bank group 0, with the partition's banks (R145, R155, R164). -/
def indexed : State := { stored with
  store.blocks := [{ blk 0 0 true with indexed := true }, blk 1 1 false]
  stg.live := [⟨1, 0, 1 + 0x3F * 2 ^ 16 + 0xFF * 2 ^ 24 + 0xFFFFFFFF * 2 ^ 32 + (2 ^ 256 - 1) * 2 ^ 128⟩]
  idx.groups := [⟨0, [5], 2, 0⟩], idx.banks := [⟨5, .native, 2, 0, 0, false⟩]
  idx.entries := [⟨5, 1, 100, 2 ^ 160 - 1, 1, 0⟩] }

/-- A forerunner region of one bank, handle 0x10, with an entry at place 1 (R183, R184). -/
def forerun : State := { indexed with
  idx.regions := [⟨0, 1, 0, 9, 1, 1, 8, 0⟩], idx.banks := [⟨9, .forerunner, 1, 0, 0, false⟩]
  idx.entries := [⟨9, 1, 3, 2 ^ 80 - 1, 4, 6⟩] }

/-- The cascade on, below the head, with a search that waits for frame 5 (R189, R192). -/
def cascaded : State := { forerun with idx.cascade := ⟨true, false, 0, 6, false, 0, 5, [⟨9, 5, true, 77, 10⟩], []⟩ }

/-- LEASE_ACCEPT and LEASE_AUTO on, with an attested partner that lends (R219 to R222). -/
def lending : State := { indexed with
  stg.live := indexed.stg.live ++ [⟨5, 3, 1 + 4⟩, ⟨9, 0, policyReset + 12 + 128 * 2 ^ 208⟩]
  grp.partners := [⟨3, .up, 9, true, 0, none, false, 0, none⟩] }

/-- An active lease that this device granted to partner 3. -/
def lease5 : Lease := ⟨5, false, .active, 3, 2 ^ 30, 0, 5, 0, 0, 0, 0, 0, 0⟩

/-- A weight object of 100 tiles, handle 0x1000, bound to key binding 0x100 (R223, R406). -/
def weighed : State := { stored with
  sec.bindings := [⟨0, 1, 5, 6⟩], tiers.weights := [⟨0, 1, 3, 0, 0, 100, 4096, 0x100, [], false⟩] }

/-- A mounted footing of one die and one erase block that holds a page; its erase is queued (R225, R230, R238). -/
def footed : State := { stored with
  foot.mounted := true, foot.part := some ⟨0, 1, false, 1, 100, 2 ^ 20, 1000, 5000, true⟩
  foot.dies := [⟨0, 0, 0, 0, false, 0, 0, [], 0, 0, 0⟩]
  foot.blocks := [⟨3, 0, false, 0, 0, 1, 0, 0, false, none⟩], foot.pages := [⟨false, 0, 0, 0, 1⟩]
  foot.map := [⟨0, 3, 0, 1⟩], foot.groups := [⟨0, 0, [3], false, false, 1⟩]
  foot.queue := [⟨0, 0, 4, 2, 3, 0, false, true, 0⟩], mgmt.anchors := [1] }

/-- A plan of namespace 0 that delivers one block's two layers to link 0; handle 0x1002 (R249). -/
def plan0 : Plan :=
  { slot := 2, gen := 1, tag := 40, qp := 2, ns := 0, kind := 0, view := some view0, weight := 0, layout := 0, port := 0
    missFail := false, noPromote := true, fixedPeriod := false, first := 0, count := 1, firstLayer := 0, layers := 2
    slots := 4, stride := 4096, nominal := 1000, passes := 1, lookahead := 1, promoteAhead := 2, guard := 0, stallMs := 100
    idleS := 1, queue := 0, base := 0x80000, state := .armed, tick := none, afterStall := false, period := 0, issued := 0
    landed := [], skipped := [], missed := [], cut := [], firstOut := 0, gapless := 0, misses := 0, skips := 0, late := 0
    ignored := 0, stalls := 0, lastTick := 0, stalledAt := 0, finishTo := none, ending := none }

/-- The device with that plan and the operation that made it. -/
def planned : State := { stored with
  dlv.plans := [plan0], q.ops := [{ op0 40 2 0x60 0 with long := true, started := true, state := .running }] }

/-- A port with one DELIVER unit of 4 KiB at the head of queue 1 (R248, R266). -/
def sending : State := { stored with
  dlv.ports := [{ SPort.fresh [] 0 64 with
    linked := true, mem := true, queues := [⟨1, 0, some 5, [⟨.op 41, 0, 4096, 0, none, 256⟩], 0, 0, 0, false⟩] }]
  q.ops := [{ op0 41 2 0x51 0 with long := true, started := true, state := .running, work := .sent [] }] }

/-- An attention descriptor of one head of 32 channels with BF16 queries (R285). -/
def desc0 : List Byte := [1#8, 0#8, 1#8, 1#8, 32#8, 0#8, 32#8, 0#8, 1#8]

/-- The device with that descriptor in slot 7 and window 0 bound to pair 2; the namespace keeps key summaries (R284, R299). -/
def attending : State := { stored with
  store.namespaces := [{ ns0 with keySummary := true }], att.descs := [⟨7, 0, Mem.write [] 0 desc0⟩], att.windows := [(0, 2)] }

/-- Host entry 0 names function 0 with every right, and range 0 covers the first 64 GiB (R318, R320). -/
def hosted : State := { stored with
  stg.live := stored.stg.live ++ [⟨3, 0, 29 + 0xFFFF * 2 ^ 48⟩, ⟨4, 0, 2 ^ 36 * 2 ^ 64 + 3 * 2 ^ 144 + 2 ^ 176⟩] }

/-- A pool snapshot of 64 KiB, handle 0x1001 (R333). -/
def snap0 : PoolSnap := ⟨1, 1, 0, 2 ^ 32, 65536, 65536, 0, 1, 0, none, none, none, none, [], []⟩

/-- The version that a command names (R103, R104). -/
def viewOf (s : State) (o : Op) (n : Namespace) : Option View :=
  match o.view with
  | some v => some v
  | none => match s.named n (o.p 8 4) (o.p 12 1) with
    | .view v => some v
    | _ => none

/-- An operation that has not started. -/
def unstarted : State := { base with q.ops := [op0 9 2 0x80 0] }

/-- A full unsealed block between the sealed one and the tail (R112). -/
def unsealed2 : State := { stored with
  store.chains := [{ chain0 with view := ⟨0, 1, [.held 0], [1], some 2, 40, 0⟩ }]
  store.blocks := [blk 0 0 true, { blk 1 1 false with tokens := List.replicate 16 0 }, blk 2 2 false] }

/-- A chain whose block was dropped with a key (R180). -/
def dropped1 (key : Nat) : State := { stored with
  store.chains := [{ chain0 with view := ⟨0, 1, [.dropped (BitVec.ofNat 128 key) 0 1 0 []], [], some 1, 20, 0⟩ }] }

/-- The same with an equal block in the index (R116). -/
def refound : State := { indexed with
  store.blocks := [{ blk 0 0 true with indexed := true, key := chainKey 5 0 (List.replicate 16 0), tokens := List.replicate 16 0 }, blk 1 1 false]
  idx.entries := [⟨5, 1, (chainKey 5 0 (List.replicate 16 0)).toNat % 2 ^ 64, 2 ^ 160 - 1, 1, 0⟩]
  store.chains := [{ chain0 with view := ⟨0, 1, [.dropped (chainKey 5 0 (List.replicate 16 0)) 0 1 0 []], [], some 1, 20, 0⟩ }] }

/-- EXPERT commands allowed (R66). -/
def expertise : State := { indexed with stg.live := indexed.stg.live ++ [⟨0x0C, 0, 1⟩] }

/-- Block 0 lies in the causeway. -/
def cold : State := { stored with
  store.blocks := [{ blk 0 0 true with pages := [{ page 0 with tier := 1 }, { page 1 with tier := 1 }] }, blk 1 1 false] }

/-- A tile in the deck. -/
def tile0 : Tile := ⟨0, 1, 0, 0, true, false, false, 4096, 0, 0, 0, none, []⟩

/-- The weight object holds that tile (R223). -/
def tiled : State := { weighed with tiers.weights := [⟨0, 1, 3, 0, 0, 100, 4096, 0x100, [tile0], false⟩] }

/-- A queued move of block 0 (R204). -/
def move0 : Move := ⟨4, [0], false, 0, 0, 0, 6, false, none, 0, true, none⟩

/-- A chain of 70 blocks. -/
def many : State := { stored with
  store.chains := [{ chain0 with view := ⟨0, 1, List.replicate 70 (.held 0), [], some 1, 1124, 0⟩ }] }

/-- A chain of `k` blocks whose loss class allows drops (R211). -/
def dropping (k : Nat) : State := { stored with
  store.namespaces := [{ ns0 with dropClass := true }]
  store.chains := [{ chain0 with view := ⟨0, 1, List.replicate k (.held 0), [], some 1, 16 * k + 4, 0⟩ }] }

/-- The device with one lease (R219). -/
def leased (l : Lease) : State := { lending with tiers.leases := [l], clock.now := 10 ^ 12 }

/-- A NAND operation of a kind on channel 0 (R243). -/
def nandOp (kind : Nat) : NandOp := ⟨0, 0, 4, kind, 3, 0, false, true, 0⟩

/-- That operation at the head of its channel. -/
def nanding (kind : Nat) : State := { footed with foot.queue := [nandOp kind] }

/-- An ATTEND packet over that chain. -/
def attPkt (l : List (Nat × Nat)) : Cmd := dat ([(4, 0x1000), (8, 0x100000), (14, 7), (18, 1), (48, 0xFF)] ++ l)

/-- A window list of 16 in host memory (R309). -/
def listing : State := { attending with host := Mem.write [] 0x1000 [0#8, 0#8, 0x10#8] }

/-- An ATTEND that waits for its copies (R307). -/
def merging : State := { attending with
  q.ops := [{ op0 5 2 0x70 (attPkt []).pkt with started := true, wait := .merge, view := some view0 }]
  att.copies := [] }

/-- A recall of a line group of host 0 that runs (R330). -/
def recalling : State := { hosted with
  pool.recalls := [⟨2 ^ 24, [0], [0], false, true, 0⟩], pool.dir := [⟨2 ^ 24, .recalling, false, [0], 0⟩] }

/-- The pool snapshot (R333). -/
def snapped : State := { hosted with pool.snaps := [snap0] }

/-- Ethernet port 0, linked. -/
def ethPort : SPort := { SPort.fresh [] 32 50 with linked := true }

/-- A READY connection on port 32 (R341). -/
def conn0 : Conn := ⟨0, 1, 0, 32, 0, .ready, 5, 7, 9, none, false, 0, 1, 14, 3, 5, 7, 0, 0, 0, 0, 0, 0, 0, [], 0, 100, none, false, none, 0⟩

/-- A region of 64 KiB (R344). -/
def reg0 : RRegion := ⟨0, 1, 7, none, 2 ^ 32, 65536, true, true, 0, 0, none, false, false⟩

/-- The device with both (R341, R344). -/
def remote : State := { hosted with
  dlv.ports := hosted.dlv.ports ++ [ethPort], rma.conns := [conn0], rma.regions := [reg0]
  stg.live := ⟨1, 0, 1 + 2 ^ 7 + 0x3F * 2 ^ 16 + 0xFF * 2 ^ 24 + 0xFFFFFFFF * 2 ^ 32⟩ :: hosted.stg.live.drop 1 }

/-- A block as its partners name it (R370). -/
def gb0 : GroupBlock := ⟨5, 0, 100, 1⟩

/-- A width-8 namespace (R363). -/
def grouped : State := { lending with store.namespaces := [{ ns0 with width := 8 }] }

/-- Partner 3 in a state (R354). -/
def partner3 (st : MemberState) : Partner := ⟨3, st, 9, true, 0, none, false, 0, none⟩

/-- The device with that partner alone. -/
def partnered (p : Partner) : State := { lending with grp.partners := [p] }

/-- A notification queue (R349). -/
def nq0 : NQ := ⟨0, 1, f0, 0, 0x90000, 64, 5, 3, true, 0, 0, 0, true⟩

/-- A message of the connection, of operation 5. -/
def msg0 (r : Bool) : Msg := ⟨0, some 5, 0, r, some reg0, 0, 0, 0, 64, none, some 0, 0⟩

/-- The connection with that message sent (R346). -/
def flying (r : Bool) (c : Conn) : State := { remote with
  rma.conns := [{ c with psn := 1, msgs := [msg0 r], timer := some 0 }]
  q.ops := [{ op0 5 2 0x92 (pkt [(8, conn0.handle), (40, 64)]) with started := true, work := .sent [] }]
  clock.now := 10 ^ 12 }

/-- The device with that notification queue and a match slot (R349, R350). -/
def notified : State := { remote with rma.nqs := [nq0], rma.matchSlots := [⟨9, 0, 1, 0, 0⟩] }

/-- The entropy source has failed (R393). -/
def entropyOff : State := { base with sec.sourceOk := false }

/-- An unclaimed device (R383). -/
def spdming : State := { base with sec.life := .unclaimed, sec.session := 0, sec.tenantKey := 0 }

/-- A device with a trust anchor, so a controller may act (R456). -/
def managing : State := { base with mgmt.anchors := [1] }

/-- The running device with these queue pairs. -/
def paired (l : List QPair) : State := { base with q.pairs := l }

/-- Neither firmware slot holds a verified image (R448). -/
def oneSlot : State := { managing with sec.life := .unclaimed, boot.slotAValid := false, boot.slotBValid := false }

/-- Host 0 with the right MEM, and its streams secure (R399, R402). -/
def secured : State := { hosted with
  stg.live := stored.stg.live ++ [⟨3, 0, 61 + 0xFFFF * 2 ^ 48⟩]
  sec.ides := [⟨0, .mem true, some 0, none, some 0, true, false⟩, ⟨0, .selective 0 0, some 0, none, some 0, true, false⟩] }

end Sys2Proof.Tests
end

