-- ==== Sys2Proof/Tests/Slice0.lean ====
section
/-! SUPPORT. Slice0.lean: the refusals of WellFormed, small tests whose results the spec gives, and for every statement of
Obligations.lean a state and operands that meet the hypotheses of each of its clauses. -/
namespace Sys2Proof.Tests
open Sys2Proof.Machine
set_option linter.unusedVariables false
set_option Elab.async false

/-! ### Well-formedness -/

def req0 : Req := ⟨f0, false⟩
def src0 : Source := ⟨0, 0, 0, false⟩
def inb0 : Inbound := ⟨0, 0, 0, 0, false⟩
def par0 : MemberParams := ⟨0, 0, 0, 0, 0, 0, false, false, false, false, 0, 0, 0⟩

/-- A command of every opcode: a pair number past 8,191 is refused, 8,191 is not (R57). -/
def packetCommands : List (Cmd → Instr) := [
    .enterLinkWatch, .identify, .createQueuePair, .deleteQueuePair, .abort, .halt, .stageOpen, .stageWrite, .stageRead,
    .stageCheck, .commit, .stageDiscard, .createNamespace, .deleteNamespace, .queryNamespace, .setNamespace, .probe,
    .openChain, .insertBlock, .appendCommit, .seal, .fork, .openSnapshot, .truncate, .pin, .release, .mapTail, .chainQuery,
    .lookup, .indexTag, .indexEvict, .frRegion, .frWrite, .frSearch, .indexBanks, .fetch, .deliver, .spill, .promote, .drop,
    .placeHint, .placeReport, .lease, .weightObject, .weightWrite, .prefetchPlan, .layerTick, .cancelPlan, .planQuery,
    .attend, .attendSparse, .attDesc, .attWindows, .poolLease, .poolSnapshot, .fill, .copy, .compare, .reduce, .rmaConnect,
    .rmaRegion, .rmaWrite, .rmaRead, .rmaNotify, .rmaWait, .tenantClaim, .tenantActivate, .tenantRelease, .tenantStatus,
    .attestReport, .weightBind, .netKey, .cntDump]

theorem test_wf_pair : packetCommands.all (fun f => !(f ⟨8192, 0⟩).wf && (f ⟨8191, 0⟩).wf) = true := by decide +kernel

/-- Each of these has one operand out of its range. -/
theorem test_wf_refuses1 : ([
    .coldStart 8, .perstNDeassert 8, .ethernetLinksTrained 16, .devResetWarm ⟨⟨32, 0⟩, false⟩ 0,
    .devResetWarm ⟨⟨0, 16⟩, false⟩ 0, .registerWrite ⟨⟨32, 0⟩, false⟩ ⟨0, 0⟩ 4 none, .adminQueueEnable ⟨⟨32, 0⟩, false⟩ 0,
    .adminQueueDisable ⟨⟨32, 0⟩, false⟩, .sqTailDoorbell ⟨⟨32, 0⟩, false⟩ 0 0, .sqTailDoorbell req0 8192 0,
    .cqHeadDoorbell ⟨⟨32, 0⟩, false⟩ 0 0, .cqHeadDoorbell req0 8192 0, .commandFetch 2, .operationStart 65536,
    .longOpUnitEnd 65536, .longOpFinal 65536, .tailWindowStore ⟨32, 0, 0, false⟩ 0 [0],
    .tailWindowStore ⟨0, 16, 0, false⟩ 0 [0], .tailWindowStore ⟨0, 0, 4096, false⟩ 0 [0],
    .controlPageNStore ⟨32, 0, 0, false⟩ 0 0, .tailRebindEnd 1048576 0, .tailRebindEnd 0 2, .snapshotExpiry 262144,
    .pinExpiry 65536, .codebookLoad ⟨⟨32, 0⟩, false⟩ 0, .codebookUnload ⟨⟨32, 0⟩, false⟩ 0, .forcedWrite 8,
    .cascadeResync ⟨⟨32, 0⟩, false⟩ 0, .trestleTempSample 4 0, .trestleTempSample 0 65536, .indexParityScan 256 [],
    .placementDemoteWatermark 4, .placementDemoteHorizon 4, .placementEvict 4, .leaseAutoRequest 1024,
    .leaseRequestReceived 1024 0 0 0 0 0, .ftlBackgroundOp 2 .fold, .nandOpComplete 32 .readRetried,
    .tickDoorbell ⟨⟨32, 0⟩, false⟩ 0 0 0, .tickDoorbell req0 4096 0 0, .tickDoorbell req0 0 9 0, .sequenceLanded 4096,
    .deadlineMiss 4096 0, .planStallTimeout 4096, .planIdleLimit 4096, .schedUnitStart 42, .gateTakeover 42,
    .gateEntryChange 42, .tollRecolour 42 0, .tollRecolour 0 16] : List Instr).all (fun i => !i.wf) = true := by
  decide +kernel

/-- Each of these has one operand out of its range. -/
theorem test_wf_refuses2 : ([
    .attendResume 65536, .attendPartialMerge 65536, .queryWindowStore ⟨⟨32, 0⟩, false⟩ 0 [0],
    .queryWindowStore req0 (2 ^ 25) [0], .dcAdd [src0] 2 none 0 0 0 false, .dcAdd [src0] 0 none 0 0 16 false,
    .addDcResponse ⟨32, 0, 0, false⟩ 0 false, .releaseDynamicCapacity ⟨32, 0, 0, false⟩ 0,
    .dcRelease ⟨32, 0, 0, false⟩ 0 false, .getDcdInfo 32, .getHostDcRegionConfig 32 0, .getHostDcRegionConfig 0 16,
    .setDcRegionConfig 32 0 0 0, .setDcRegionConfig 0 16 0 0, .setDcRegionConfig 0 0 2 0, .getDcRegionExtentLists 32 0,
    .getDcRegionExtentLists 0 16, .cxlMemRead ⟨32, 0, 0, false⟩ 0 .cached, .cxlMemWrite ⟨32, 0, 0, false⟩ 0 .write [0] false,
    .backInvalidateResponse 1024 0 [0], .recallTimeout 1024 0, .heartbeatRenew ⟨⟨32, 0⟩, false⟩,
    .heartbeatRejoin ⟨⟨32, 0⟩, false⟩, .hostLeaseExpiry 1024, .hostUnbind 1024, .poolSnapshotExpiry 4096,
    .rmaWaitTimeout 65536, .inboundRdmaWriteImm inb0 [0] (2 ^ 32), .inboundAck (2 ^ 24) 0, .inboundAck 0 (2 ^ 24),
    .inboundNak (2 ^ 24) .sequence, .inboundReadResponse (2 ^ 24) 0 [0], .inboundReadResponse 0 (2 ^ 24) [0],
    .inboundCnp (2 ^ 24), .ackTimeout (2 ^ 24), .rnrTimerExpiry (2 ^ 24), .nqHeadDoorbell ⟨⟨32, 0⟩, false⟩ 0 0,
    .nqHeadDoorbell req0 1024 0, .partnerGreetingReceived 0 8 0 false 0, .partnerAttestation 1024 false false 0 0 0,
    .partnerHeartbeatReceived 1024 0 false 0 false, .partnerSuspectTimeout 1024, .partnerDownTimeout 1024,
    .alertAnswerTimeout 1024, .partnerKeyLimit 1024, .voteReceived 8 gb0 false false, .evictionProposalReceived 8 gb0,
    .evictionAnswerReceived 8 gb0 false, .reconcileListReceived 8 0 [], .mkaSecured 4] : List Instr).all (fun i => !i.wf) = true := by
  decide +kernel

/-- Each of these has one operand out of its range. -/
theorem test_wf_refuses3 : ([
    .spdmRequest ⟨32, 0⟩ .getVersion, .spdmKeyExchange ⟨32, 0⟩ 0, .spdmKeyExchange f0 256, .ideKmQuery 32 0,
    .ideKmKeyProg 32 0 .io 0, .ideKmKeyProg 0 0 (.selective 8 0) 0, .ideKmKeyProg 0 0 .io 2, .ideKmKSetGo 32 0 .io 0,
    .ideKmKSetGo 0 0 (.selective 8 0) 0, .ideKmKSetGo 0 0 .io 2, .ideKmKSetStop 32 0 .io 0,
    .ideKmKSetStop 0 0 (.selective 8 0) 0, .ideKmKSetStop 0 0 .io 2, .ideKeyLimit 32 .io, .ideKeyLimit 0 (.selective 8 0),
    .ideKeyLimit 0 (.selective 0 16), .lockInterfaceRequest ⟨32, 0⟩, .stopInterfaceRequest ⟨32, 0⟩, .fabricLinkAckTimeout 98,
    .hbmStackTimeout 6, .ddrChannelTimeout 8, .bankPortTimeout 256, .rasHeadWrite ⟨⟨32, 0⟩, false⟩ 0,
    .rasResume ⟨⟨32, 0⟩, false⟩ 0, .rasClearLost ⟨⟨32, 0⟩, false⟩, .monitorClear ⟨⟨32, 0⟩, false⟩ 0, .monitorClear req0 64,
    .irqSharedAck ⟨⟨32, 0⟩, false⟩ 0, .irqModerationTimer ⟨32, 0⟩ 0, .irqModerationTimer f0 2048,
    .irqHoldClear ⟨⟨32, 0⟩, false⟩, .mgmtEnterLinkWatch 8, .mgmtSetFootingMode false 4, .mgmtSetPtp 0 256 false,
    .thermalSample 65536 0 0, .thermalSample 0 65536 0, .thermalSample 0 0 65536, .discoveryUpdate .host 32 0 ⟨true, none⟩,
    .fmKeepaliveTimeout 32, .supplyFault 64, .startInterfaceRequest ⟨32, 0⟩, .functionLevelReset ⟨32, 0⟩,
    .configurationSpaceWrite ⟨32, 0⟩ 0 0, .fabricLaneDown 98, .attentionSliceWatchdog 6 0, .attentionSliceWatchdog 0 16,
    .controlCoreWatchdog 2 0, .controlCoreWatchdog 0 8, .hbmDataLaneFault 6 0, .hbmDataLaneFault 0 32] : List Instr).all (fun i => !i.wf) = true := by
  decide +kernel

/-- Each of these has one operand out of its range. -/
theorem test_wf_refuses4 : ([
    .memberNamespaceReport 8 0 false par0, .perstNAssert 8, .hostCapWindow 1024, .ddr5CalibrationComplete [(8, 1, 0)],
    .ddr5CalibrationComplete [(0, 3, 0)], .hbmTrainingComplete [(6, 0, 0)], .hbmTrainingComplete [(0, 32, 0)],
    .nandCalibrationComplete [⟨32, 1600, []⟩], .nandCalibrationComplete [⟨0, 800, []⟩], .causewayScanComplete [(8, 0)],
    .registerWrite req0 ⟨1, 0⟩ 4 none, .registerWrite req0 ⟨0, 2 ^ 25⟩ 4 none, .registerWrite req0 ⟨0, 0⟩ 3 none,
    .bufferGrant (.parameter 2), .bufferGrant (.transfer 2), .bufferGrant (.staging 6), .tailWindowStore src0 0 [],
    .tailWindowStore src0 0 (List.replicate 65 0), .indexParityScan 0 [2 ^ 19], .queryWindowStore req0 0 [],
    .dcAdd [⟨32, 0, 0, false⟩] 0 none 0 0 0 false, .cxlMemWrite src0 0 .write [0] false, .backInvalidateResponse 0 0 [0],
    .linkUp (.cxl 32) false, .linkUp (.eth 4) false, .linkDown (.cxl 32), .inboundRdmaWrite ⟨2 ^ 24, 0, 0, 0, false⟩ [0],
    .inboundRdmaWrite ⟨0, 2 ^ 24, 0, 0, false⟩ [0], .inboundRdmaWriteImm ⟨0, 0, 2 ^ 32, 0, false⟩ [0] 0,
    .inboundRdmaRead ⟨0, 0, 0, 2 ^ 64, false⟩ 0, .discoveryUpdate .host 0 0 ⟨true, some 512⟩] : List Instr).all (fun i => !i.wf) = true := by
  decide +kernel

/-! ### Results that the spec's worked examples and tables give -/

/-- M72 on one device, in FP8 E4M3 (the examples after R97 and R107). -/
def m72 : Namespace := { ns0 with geo := ⟨64, 72, 2, 128, 3, false⟩ }

/-- A layer-page of M72 occupies 32 KiB, and 8 KiB in KVQ (the example after R97). -/
theorem test_m72_page : m72.geo.pageBytes 3 = 32 * 2 ^ 10 ∧ m72.geo.pageBytes 14 = 8 * 2 ^ 10 := by decide +kernel

/-- For M72, S is 2,308 KiB and the window occupies 4,620 KiB (the example after R107). -/
theorem test_m72_window : m72.slotS = 2308 * 2 ^ 10 ∧ m72.windowBytes = 4620 * 2 ^ 10 := by decide +kernel

/-- 3.3, 1.25 and -0.2 as an MXFP4 row: codes 5, 2 and 8 under the scale code 0x7F (the example after R131). -/
theorem test_mxfp4_row :
    (convertRow 0xA (0x40533333 :: 0x3FA00000 :: 0xBE4CCCCD :: List.replicate 29 0) []).1.take 3 = [5, 2, 8] ∧
    (convertRow 0xA (0x40533333 :: 0x3FA00000 :: 0xBE4CCCCD :: List.replicate 29 0) []).2.1 = [0x7F] := by decide +kernel

/-- The largest FP8 E4M3 datum is 448, and S.1111.111 alone is NaN (Table 5-1). -/
theorem test_e4m3_ends : fp32.convert .nearestEven (plainElem 3 0x7E) = 0x43E00000 ∧ plainElem 3 0x7F = .nan := by
  decide +kernel

/-- A negative NaN keeps its sign in MXFP8 (R128). -/
theorem test_mxfp8_nan : (convertRow 8 (0xFFC00000 :: List.replicate 31 0) []).1.head? = some 0xFF := by decide +kernel

/-- 256 TB without a write region over eight DIMMs: 80 GiB of map reserve (the example after R231). -/
theorem test_map_reserve : mapReserve (256 * 10 ^ 12) 0 8 false false = 80 * 2 ^ 30 := by decide +kernel

/-- Generations run from 1 and wrap to 1, so no handle is 0 (R94, R134). -/
theorem test_generation_wraps : nextGen 8 255 = 1 ∧ nextGen 8 1 = 2 := by decide +kernel

/-- A completion occupies 32 bytes (Table 3-6). -/
theorem test_cqe_length (c : Cqe) : (c.bytes true).length = 32 ∧ (c.bytes false).length = 32 := by
  simp [Cqe.bytes, leBytes]


/-! ### Witnesses -/

/-- StepKeepsPoolMemory: a state and operands that meet the hypotheses of each clause. -/
theorem witness_StepKeepsPoolMemory :
    (let s : State := State.reset; let t : State := s; decide (s.pool.mem.wf = true) &&
      (match step s with | .next t => decide (t.pool.mem.wf = true) | _ => false)) = true := by
  decide +kernel

/-- MemoryLaws: a state and operands that meet the hypotheses of each clause. -/
theorem witness_MemoryLaws :
    (
    (let m : Mem := [(4, 7#8), (9, 1#8)]; let a : Nat := 9; let x : Nat := 4; let b : Byte := 0#8; decide (m.wf = true) &&
      decide (x ≠ a)) &&
    (let m : Mem := [(4, 7#8), (9, 1#8)]; let a : Nat := 9; let x : Nat := 4; let b : Byte := 0#8; decide (m.wf = true)) &&
    (let m : Mem := [(4, 7#8), (9, 1#8)]; let a : Nat := 9; let x : Nat := 4; let l : List Byte := [1#8, 0#8];
      decide (m.wf = true)) &&
    (let m : Mem := [(4, 7#8), (9, 1#8)]; let a : Nat := 9; let x : Nat := 4; let l : List Byte := [1#8, 0#8];
      decide (m.wf = true)) &&
    (let m : Mem := [(4, 7#8), (9, 1#8)]; let k : Mem := [(4, 7#8), (9, 1#8)]; decide (m.wf = true) && decide (k.wf = true) &&
      decide (m = k))
    ) = true := by
  decide +kernel

/-- SchedulerPick: a state and operands that meet the hypotheses of each clause. -/
theorem witness_SchedulerPick :
    (
    (let l : List Head := [(Head.mk (SQueue.mk 1 0 none [] 0 0 0 false) 5 (SUnit.mk (.op 1) 0 64 0 none 256) 64 .yellow true), (Head.mk (SQueue.mk 2 0 none [] 0 0 0 false) 9 (SUnit.mk (.op 1) 0 64 0 none 256) 64 .red false)];
      (l).any (fun x => decide (x.colour ≠ .red) && (pickHead l).any (fun h => decide (h.deferred = true)))) &&
    (let l : List Head := [(Head.mk (SQueue.mk 1 0 none [] 0 0 0 false) 5 (SUnit.mk (.op 1) 0 64 0 none 256) 64 .green false), (Head.mk (SQueue.mk 2 0 none [] 0 0 0 false) 9 (SUnit.mk (.op 1) 0 64 0 none 256) 64 .red false)];
      (pickHead l).any (fun h => true)) &&
    (let l : List Head := [(Head.mk (SQueue.mk 1 0 none [] 0 0 0 false) 5 (SUnit.mk (.op 1) 0 64 0 none 256) 64 .green false), (Head.mk (SQueue.mk 2 0 none [] 0 0 0 false) 5 (SUnit.mk (.op 1) 0 64 0 none 256) 64 .green false)];
      (decide (l.Pairwise (fun a b => a.queue.num < b.queue.num))) && (l).any (fun x => decide (x.colour ≠ .red) &&
      (pickHead l).any (fun h => decide (h.queue.num ≠ 0) && decide (x.deferred = h.deferred))))
    ) = true := by
  decide +kernel

/-- ExecKeepsQueue: a state and operands that meet the hypotheses of each clause. -/
theorem witness_ExecKeepsQueue :
    (let i : Instr := .ppsInEdge; let s : State := base; let t : State := s;
      (match exec .ppsInEdge s with | .next _ => true | _ => false)) = true := by
  decide +kernel

/-- TrustedStores: a state and operands that meet the hypotheses of each clause. -/
theorem witness_TrustedStores :
    (
    (let i : Instr := .mgmtAdvanceRollback;
      let s : State := { base with mgmt.anchors := [1], sec.life := .unclaimed, boot.slotB := none, boot.slotBValid := false, boot.slotA := some ⟨0, true, 3, 1, 0⟩ };
      let t : State := s;
      (match exec .mgmtAdvanceRollback s with | .next u => decide (u.boot.fuses ≠ s.boot.fuses) | _ => false)) &&
    (let i : Instr := .enrol 5; let s : State := base; let t : State := s;
      (match exec (.enrol 5) s with | .next u => decide (u.mgmt.anchors ≠ s.mgmt.anchors) | _ => false))
    ) = true := by
  decide +kernel

/-- EpochCheck: a state and operands that meet the hypotheses of each clause. -/
theorem witness_EpochCheck :
    (
    (let s : State := base; let q : QPair := pair0; let op : Nat := 0x00; let pkt : BitVec 512 := pkt [(1, 16), (52, 9)];
      decide (bit (pf pkt 1 1) 4 = true) && decide (pf pkt 52 4 ≠ s.stg.epoch % 2 ^ 32) &&
      decide (({ s with stg.epoch := pf pkt 52 4 } : State).reject q op pkt = none)) &&
    (let s : State := base; let q : QPair := pair0; let op : Nat := 0x00; let pkt : BitVec 512 := pkt [(1, 16), (52, 9)];
      decide (bit (pf pkt 1 1) 4 = true) && decide (pf pkt 52 4 ≠ s.stg.epoch % 2 ^ 32)) &&
    (let s : State := base; let q : QPair := pair0; let op : Nat := 0x00; let c : Cmd := ctl [(1, 16), (52, 9)];
      let body : Op → State → BodyOut := bodyIdentify; decide (s.wake.pair c.qp = some q) &&
      decide (s.wake.reject q op c.pkt = some (.staleEpoch, 0))) &&
    (let s : State := base; let qp : Nat := 0; let op : Nat := 0x00; let pkt : BitVec 512 := pkt [(1, 16), (52, 9)];
      (match s.accept qp op pkt with | (none, t) => true | _ => false))
    ) = true := by
  decide +kernel

/-- HaltHoldsStart: a state and operands that meet the hypotheses of each clause. -/
theorem witness_HaltHoldsStart :
    (
    (let s : State := { base with boot.phase := .sensing, boot.haltN := true, boot.running := none, boot.slotA := some ⟨0, true, 3, 1, 0⟩ };
      decide (s.boot.haltN = true) && decide (s.boot.phase = .sensing) && decide (s.boot.running = none) &&
      decide (s.entropyOk = true) && (s.boot.bootSlot).any (fun sl => true)) &&
    (let s : State := { base with boot.phase := .sensing, boot.haltN := true }; let d := ([] : List (Nat × Nat × Nat));
      decide (s.boot.haltN = true) && decide (s.boot.phase = .sensing)) &&
    (let s : State := { base with boot.phase := .sensing, boot.haltN := true }; let l := ([] : List Nat);
      decide (s.boot.haltN = true) && decide (s.boot.phase = .sensing)) &&
    (let s : State := { base with boot.phase := .sensing, boot.haltN := true }; let c := ([] : List NandChannel);
      decide (s.boot.haltN = true) && decide (s.boot.phase = .sensing)) &&
    (let s : State := { base with boot.phase := .sensing, boot.haltN := true }; decide (s.boot.haltN = true) &&
      decide (s.boot.phase = .sensing)) &&
    (let s : State := { base with boot.phase := .sensing, boot.haltN := true }; decide (s.boot.haltN = true) &&
      decide (s.boot.phase = .sensing) && decide (s.boot.running.isSome = true))
    ) = true := by
  decide +kernel

/-- BeginsFrame: a state and operands that meet the hypotheses of each clause. -/
theorem witness_BeginsFrame :
    (let s : State := base; let op : Nat := 0x00; let c : Cmd := ctl [(56, 0x1000)]; (s.begins op c).any (fun (o, t) => true)) = true := by
  decide +kernel

/-- ReadOnlyFrame: a state and operands that meet the hypotheses of each clause. -/
theorem witness_ReadOnlyFrame :
    (
    (let c : Cmd := ctl [(56, 0x1000)]; let i : Instr := .tenantStatus c; let s : State := base; let a := 0;
      decide (i ∈ [Instr.identify c, .stageRead c, .stageCheck c, .queryNamespace c, .chainQuery c, .planQuery c, .tenantStatus c, .attestReport c]) &&
      (match exec i s with | .next u => true | _ => false)) &&
    (let c : Cmd := ctl [(56, 0x1000)]; let i : Instr := .tenantStatus c; let s : State := base;
      decide (i ∈ [Instr.identify c, .stageRead c, .stageCheck c, .queryNamespace c, .chainQuery c, .planQuery c, .tenantStatus c, .attestReport c]) &&
      (match exec i s with | .next u => true | _ => false))
    ) = true := by
  decide +kernel

/-- Pins: a state and operands that meet the hypotheses of each clause. -/
theorem witness_Pins :
    (
    (let s : State := State.reset; let slot : Nat := 7; decide (s.boot.porN = true)) &&
    (let s : State := base; decide (s.boot.link = true) && decide (s.boot.haltN = false)) &&
    (let s : State := State.reset; decide (s.boot.link = false)) &&
    (let s : State := { base with boot.phase := .sensing, boot.haltN := true }; decide (s.boot.phase = .sensing) &&
      decide (s.boot.running.isSome = true)) &&
    (let s : State := base; decide (s.boot.phase ≠ .sensing))
    ) = true := by
  decide +kernel

/-- StartUp: a state and operands that meet the hypotheses of each clause. -/
theorem witness_StartUp :
    (
    (let s : State := { base with boot.phase := .sensing, boot.running := none, boot.slotA := some ⟨0, true, 3, 1, 0⟩ };
      decide (s.boot.phase = .sensing) && decide (s.boot.running = none) && decide (s.entropyOk = true) &&
      (s.boot.bootSlot).any (fun sl => true)) &&
    (let b : Boot := { Boot.reset with slotA := some ⟨0, true, 3, 1, 0⟩ }; decide (b.accepts b.selector = true)) &&
    (let b : Boot := { Boot.reset with selector := .b, slotB := none, slotA := some ⟨0, true, 3, 1, 0⟩ };
      decide (b.accepts b.selector = false) && decide (b.accepts b.selector.other = true)) &&
    (let s : State := { base with boot.phase := .sensing, boot.running := none, boot.slotA := none, boot.slotB := none };
      decide (s.boot.phase = .sensing) && decide (s.boot.running = none) && decide (s.entropyOk = true) &&
      decide (s.boot.accepts .a = false) && decide (s.boot.accepts .b = false)) &&
    (let s : State := { base with boot.phase := .verified, sec.fabricKey := some 0 }; decide (s.boot.phase = .verified) &&
      decide (s.sec.fabricKey.isSome = true)) &&
    (let s : State := { base with boot.phase := .linksTrained, boot.link := false }; decide (s.boot.phase = .linksTrained) &&
      decide (s.boot.perst ≠ 0) && decide (s.boot.link = false) && decide (s.sec.fatalPersists = false)) &&
    (let s : State := { base with boot.deck := false }; decide (s.released = true) && decide (s.boot.deckTrained = true) &&
      decide (s.boot.deck = false) && decide (s.sec.fatalPersists = false)) &&
    (let s : State := { base with boot.full := false, boot.dimms := [(0, 0, 0)] }; decide (s.boot.deck = true) &&
      decide (s.boot.full = false) && decide (s.boot.scanDone = true) && decide (s.boot.nandDone = true) &&
      decide (s.noFooting = true)) &&
    (let s : State := { base with boot.full := false, foot.channels := [⟨0, 1600, [⟨0, 1, false, 1, 100, 2 ^ 20, 1000, 5000, true⟩]⟩] };
      decide (s.boot.deck = true) && decide (s.boot.full = false) && decide (s.foot.mounted = false) &&
      decide (s.noFooting = false) && decide (s.boot.scanDone = true) && decide (s.boot.nandDone = true)) &&
    (let s : State := { base with boot.nandDone := false }; let channels : List NandChannel := []; decide (s.released = true) &&
      decide (s.boot.nandDone = false)) &&
    (let s : State := { base with boot.scanDone := false }; let bad : List (Nat × Nat) := [(7, 128)];
      decide (s.boot.ddrDone = true) && decide (s.boot.scanDone = false))
    ) = true := by
  decide +kernel

/-- MemoryTraining: a state and operands that meet the hypotheses of each clause. -/
theorem witness_MemoryTraining :
    (
    (let s : State := { base with boot.ddrDone := false }; let dimms : List (Nat × Nat × Nat) := [(0, 2, 2 ^ 35), (7, 1, 0)];
      decide (s.released = true) && decide (s.boot.ddrDone = false)) &&
    (let s : State := { base with boot.deckTrained := false }; let lanes : List (Nat × Nat × Nat) := [(5, 31, 5)];
      decide (s.released = true) && decide (s.boot.deckTrained = false))
    ) = true := by
  decide +kernel

/-- LinkWatch: a state and operands that meet the hypotheses of each clause. -/
theorem witness_LinkWatch :
    (
    (let s : State := base; let c : Cmd := ctl [(8, 7)]; (s.begins 0x05 c).any (fun (o, t) => decide (o.p 8 1 < 8) &&
      decide (t.mayWatch = true))) &&
    (let s : State := unstarted; let c : Cmd := ctl [(8, 7)]; (s.begins 0x05 c).any (fun (o, t) => decide (o.p 8 1 < 8) &&
      decide (t.mayWatch = false))) &&
    (let s : State := base; let port : Nat := 7; decide (s.clock.wakeAt = 0 ∨ s.clock.now < s.clock.wakeAt)) &&
    (let s : State := { base with boot.linkwatch := true }; let w : WakeSource := .management; decide (s.boot.linkwatch = true) &&
      decide (s.boot.waking = false)) &&
    (let s : State := { base with boot.linkwatch := true, clock.wakeAt := 5, clock.now := 5 }; decide (s.boot.linkwatch = true) &&
      decide (s.boot.waking = false) && decide (s.clock.wakeAt ≠ 0) && decide (s.clock.wakeAt ≤ s.clock.now)) &&
    (let s : State := { base with boot.linkwatch := true, boot.waking := true }; decide (s.boot.linkwatch = true) &&
      decide (s.boot.waking = true)) &&
    (let s : State := base; decide (s.boot.linkwatch = false) && decide (s.boot.link = true) && decide (s.boot.halted = false)) &&
    (let s : State := base; let n : Nat := 3; decide (n < 4) && decide (s.boot.linkwatch = false) &&
      decide (s.boot.link = true) && decide (s.boot.halted = false))
    ) = true := by
  decide +kernel

/-- WarmResetClears: a state and operands that meet the hypotheses of each clause. -/
theorem witness_WarmResetClears :
    (
    (let s : State := base; let i : Instr := .warmReset; let cause : Nat := 6;
      decide (s.boot.phase ≠ .off ∧ s.boot.phase ≠ .tripped ∧ s.boot.phase ≠ .supplyHeld)) &&
    (let s : State := base; let f : Fn := f0; let tee : Bool := true; let v : Nat := 1; decide (bits v 31 16 ≠ 0xA5C3))
    ) = true := by
  decide +kernel

/-- AdminQueue: a state and operands that meet the hypotheses of each clause. -/
theorem witness_AdminQueue :
    (
    (let s : State := { base with q.admin := [⟨f0, 0x10000, 0x20000, 16 + 16 * 2 ^ 16, false, 0, false, false, 0, 0⟩], q.pairs := [] };
      let f : Fn := f0; let tee : Bool := false; let v : Nat := 2 ^ 31; decide (s.boot.link = true) &&
      decide (s.hears f tee = true) && decide (bit v 31 = true) && decide ((s.adminOf f).enable = false) &&
      decide ((s.adminOf f).busy = false) && decide (s.wake.mayPair f true 0 = true) &&
      decide (s.wake.partLink f.link 0 = true) &&
      decide (ringsOk (s.adminOf f).sqBase (s.adminOf f).cqBase ((s.adminOf f).depth % 2 ^ 16) ((s.adminOf f).depth / 2 ^ 16 % 2 ^ 16) = true) &&
      ((if s.wake.q.firstAdmin then s.wake.freeIndex 2 true else some 0)).any (fun i => decide (s.pair i = none))) &&
    (let s : State := base; let f : Fn := f0; let tee : Bool := false; let v : Nat := 2 ^ 31; decide (s.boot.link = true) &&
      decide (s.hears f tee = true) && decide (bit v 31 = true) && decide ((s.adminOf f).enable = false) &&
      decide ((s.adminOf f).busy = false) &&
      decide (ringsOk (s.adminOf f).sqBase (s.adminOf f).cqBase ((s.adminOf f).depth % 2 ^ 16) ((s.adminOf f).depth / 2 ^ 16 % 2 ^ 16) = false)) &&
    (let s : State := { base with q.admin := [⟨f0, 0x10000, 0x20000, 16 + 16 * 2 ^ 16, false, 0, false, false, 0, 0⟩], pool.bound := [] };
      let f : Fn := f0; let tee : Bool := false; let v : Nat := 2 ^ 31; decide (s.boot.link = true) &&
      decide (s.hears f tee = true) && decide (bit v 31 = true) && decide ((s.adminOf f).enable = false) &&
      decide ((s.adminOf f).busy = false) &&
      decide (ringsOk (s.adminOf f).sqBase (s.adminOf f).cqBase ((s.adminOf f).depth % 2 ^ 16) ((s.adminOf f).depth / 2 ^ 16 % 2 ^ 16) = true) &&
      decide (s.wake.mayPair f true 0 = false)) &&
    (let s : State := { base with q.admin := [⟨f0, 0x10000, 0x20000, 16 + 16 * 2 ^ 16, true, 0, true, false, 0, 0⟩] };
      let f : Fn := f0; let tee : Bool := false; decide (s.boot.link = true) && decide (s.hears f tee = true) &&
      decide ((s.adminOf f).enable = true) && decide (∀ o ∈ s.q.ops, o.qp ≠ (s.adminOf f).index) &&
      decide (∀ a ∈ s.q.admin, a.busy = false)) &&
    (let s : State := { base with q.admin := [⟨f0, 0x10000, 0x20000, 16 + 16 * 2 ^ 16, true, 0, true, false, 0, 0⟩] };
      let f : Fn := f0; let tee : Bool := false; decide (s.boot.link = true) && decide (s.hears f tee = true) &&
      decide ((s.adminOf f).enable = true))
    ) = true := by
  decide +kernel

/-- Doorbells: a state and operands that meet the hypotheses of each clause. -/
theorem witness_Doorbells :
    (
    (let s : State := base; let f : Fn := f0; let tee : Bool := false; let qp : Nat := 0; let v : Nat := 15;
      decide (s.hears f tee = true) && (s.pair qp).any (fun q => decide (q.owner = f) && decide (v % 2 ^ 12 < q.sqDepth) &&
      decide ((q.sqTail + q.sqDepth - q.sqHead) % q.sqDepth + (v % 2 ^ 12 + q.sqDepth - q.sqTail) % q.sqDepth < q.sqDepth))) &&
    (let s : State := base; let f : Fn := f0; let tee : Bool := false; let qp : Nat := 0; let v : Nat := 16;
      decide (s.hears f tee = true) && (s.pair qp).any (fun q => decide (q.owner = f) && decide (q.sqDepth ≤ v % 2 ^ 12))) &&
    (let s : State := paired [{ pair0 with sqTail := 10 }]; let f : Fn := f0; let tee : Bool := false; let qp : Nat := 0;
      let v : Nat := 3; decide (s.hears f tee = true) && (s.pair qp).any (fun q => decide (q.owner = f) &&
      decide (v % 2 ^ 12 < q.sqDepth) &&
      decide (q.sqDepth ≤ (q.sqTail + q.sqDepth - q.sqHead) % q.sqDepth + (v % 2 ^ 12 + q.sqDepth - q.sqTail) % q.sqDepth))) &&
    (let s : State := paired [{ pair0 with cqCount := 4, cqTail := 4 }]; let f : Fn := f0; let tee : Bool := false;
      let qp : Nat := 0; let v : Nat := 3; decide (s.hears f tee = true) && (s.pair qp).any (fun q => decide (q.owner = f) &&
      decide (v % 2 ^ 14 < q.cqDepth) && decide (0 < (v % 2 ^ 14 + q.cqDepth - q.cqHead) % q.cqDepth) &&
      decide ((v % 2 ^ 14 + q.cqDepth - q.cqHead) % q.cqDepth < q.cqCount))) &&
    (let s : State := paired [{ pair0 with cqCount := 4, cqTail := 4 }]; let f : Fn := f0; let tee : Bool := false;
      let qp : Nat := 0; let v : Nat := 4; decide (s.hears f tee = true) && (s.pair qp).any (fun q => decide (q.owner = f) &&
      decide (v % 2 ^ 14 < q.cqDepth) && decide ((v % 2 ^ 14 + q.cqDepth - q.cqHead) % q.cqDepth = q.cqCount) &&
      decide (0 < q.cqCount))) &&
    (let s : State := base; let f : Fn := f0; let tee : Bool := false; let qp : Nat := 0; let v : Nat := 16;
      decide (s.hears f tee = true) && (s.pair qp).any (fun q => decide (q.owner = f) && decide (q.cqDepth ≤ v % 2 ^ 14))) &&
    (let s : State := base; let f : Fn := ⟨1, 0⟩; let tee : Bool := false; let qp : Nat := 0; let v : Nat := 15;
      (s.pair qp).any (fun q => decide (q.owner ≠ f)))
    ) = true := by
  decide +kernel

/-- FetchPriority: a state and operands that meet the hypotheses of each clause. -/
theorem witness_FetchPriority :
    (
    (let s : State := paired [{ pair0 with sqTail := 1 }, { pair2 with sqTail := 2 }]; let span : Nat := 0;
      let q : QPair := { pair0 with sqTail := 1 }; decide ((s.q.pairs.filter (fun q => q.index % 2 == span &&
      s.fetchable q)).find? (·.ctl) = some q)) &&
    (let s : State := paired [pair0, { pair2 with sqTail := 2, turns := 1 }]; let span : Nat := 0;
      let q : QPair := { pair2 with sqTail := 2, turns := 1 };
      decide (∀ x ∈ s.q.pairs, x.index % 2 = span → s.fetchable x = true → x.ctl = false) &&
      decide ((s.q.pairs.filter (fun q => q.index % 2 == span && s.fetchable q)).find? (fun q => q.turns != 0) = some q)) &&
    (let s : State := paired [{ pair0 with sqTail := 1 }, { pair2 with sqTail := 2 }]; let i : Nat := 0;
      (s.pair i).any (fun q => decide (s.fetchable q = true) &&
      (match s.hostRead q.owner q.owner.link (q.sqBase + 64 * q.sqHead) 64 with | .ok b => decide (s.tableRoom (s.spanOf i (pf (BitVec.ofNat 512 (leNat b)) 0 1) (BitVec.ofNat 512 (leNat b))) q.ctl = true) && (match ((s.charge q.owner.link q.partition (if q.ctl then 0 else 1) (readUnits q.owner.link (q.sqBase + 64 * q.sqHead) 64)).setPair { q with sqHead := if q.sqHead + 1 = q.sqDepth then 0 else q.sqHead + 1 }).accept i (pf (BitVec.ofNat 512 (leNat b)) 0 1) (BitVec.ofNat 512 (leNat b)) with | (r, t) => true) | _ => false)))
    ) = true := by
  decide +kernel

/-- OperationLife: a state and operands that meet the hypotheses of each clause. -/
theorem witness_OperationLife :
    (
    (let s : State := { base with q.ops := [op0 5 0 0x00 (pkt [(56, 0x1000)])] }; let tag : Nat := 5;
      (s.op tag).any (fun o => decide (s.revoked o = false) && decide (o.wait ≠ .merge) && decide (o.long = false) &&
      decide (o.finished = false) && decide (s.startable o = true) && decide (o.opcode ≠ 0x36) &&
      (opBody o.opcode).any (fun b => (s.launch tag o).any (fun w => (w.op tag).any (fun p => true))))) &&
    (let s : State := { base with q.pools := [⟨.parameter 0, 0, 0, 0, 0, 0, [⟨4, 0x1000, 5, 1⟩]⟩], q.ops := [op0 5 0 0x00 0] };
      let pool : Pool := .parameter 0;
      (s.bufPool pool).any (fun b => (b.grantee).any (fun (x, part, b') => decide (x.id < 2 ^ 16)))) &&
    (let b : BufPool := ⟨.parameter 0, 0, 0, 0, 0, 0, [⟨4, 0x1000, 5, 1⟩]⟩; (b.grantee).any (fun (x, part, b') => true)) &&
    (let s : State := { stored with q.ops := [{ op0 5 2 0x21 (pkt [(4, 0x1000)]) with long := true, started := true, state := .running }] };
      let tag : Nat := 5; decide (s.boot.halted = false) && (s.op tag).any (fun o => decide (s.revoked o = false) &&
      decide (o.long = true) && decide (o.finished = false) &&
      (opUnit o.opcode).any (fun unit => (match unit o (s.actFor o) with | .more r p t => true | _ => false)))) &&
    (let s : State := { stored with store.blocks := [], store.chains := [], store.namespaces := [{ ns0 with deleting := true }], q.ops := [{ op0 5 2 0x21 (pkt [(4, 0x1000)]) with long := true, started := true, state := .running }] };
      let tag : Nat := 5; decide (s.boot.halted = false) && (s.op tag).any (fun o => decide (s.revoked o = false) &&
      decide (o.long = true) && decide (o.finished = false) &&
      (opUnit o.opcode).any (fun unit => (match unit o (s.actFor o) with | .last st r p t => true | _ => false)))) &&
    (let s : State := { base with q.ops := [{ op0 5 2 0x21 0 with long := true, finished := true }] }; let tag : Nat := 5;
      (s.op tag).any (fun o => decide (o.long = true) && decide (o.finished = true)))
    ) = true := by
  decide +kernel

/-- AdministrationCommands: a state and operands that meet the hypotheses of each clause. -/
theorem witness_AdministrationCommands :
    (
    (let s : State := base; let c : Cmd := ctl [(56, 0x1000)]; (s.begins 0x00 c).any (fun (o, t) => decide (o.buf % 4096 = 0) &&
      (t.wrote o o.buf (t.identity ((t.pair o.qp).any (·.ctl)))).any (fun w => true))) &&
    (let s : State := stored;
      let c : Cmd := ctl [(8, 0x50000), (16, 0x60000), (24, 16), (26, 16), (28, 0xFFFF), (31, 16), (32, 2047), (35, 0xFF)];
      (s.begins 0x01 c).any (fun (o, t) => decide (o.p 28 2 = 0xFFFF) && decide (o.p 30 1 = 0) &&
      decide (ringsOk (o.p 8 8) (o.p 16 8) (o.p 24 2) (o.p 26 2) = true) && decide (o.p 32 2 < 2048) && decide (o.p 34 1 < 16) &&
      decide (1 ≤ o.p 31 1) && decide (o.p 31 1 ≤ 16) && decide (o.p 35 1 = 0xFF) &&
      decide (partValid t.stg.live (o.p 34 1) = true) && decide (t.mayPair (t.opFn o) false (o.p 34 1) = true) &&
      decide (t.partLink (t.opFn o).link (o.p 34 1) = true) && (t.freeIndex 2 false).any (fun i => true))) &&
    (let s : State := base; let c : Cmd := ctl [(8, 2)]; (s.begins 0x02 c).any (fun (o, t) => decide (o.p 8 2 ≠ 0) &&
      decide (o.p 8 2 ≠ o.qp) && (t.pair (o.p 8 2)).any (fun q => decide (q.deleting = false)))) &&
    (let s : State := { base with q.ops := [op0 9 2 0x50 0] }; let c : Cmd := ctl [(8, 0), (10, 9), (12, 2)];
      (s.begins 0x03 c).any (fun (o, t) => decide (o.work = .nothing) && decide (o.p 8 1 < 3) &&
      decide (o.p 8 1 = 0 ∨ (t.pair (o.p 12 2)).isSome) &&
      (match t.abortSelects o with | [x] => decide (x.shortStarted = false) && (match t.abortOne x with | (k, w) => decide ((w.op x.tag).any (·.stopping.isSome) = false)) | _ => false))) &&
    (let s : State := { base with q.ops := [{ op0 9 2 0x51 0 with started := true }] };
      let c : Cmd := ctl [(8, 0), (10, 9), (12, 2)]; (s.begins 0x03 c).any (fun (o, t) => decide (o.work = .nothing) &&
      decide (o.p 8 1 < 3) && decide (o.p 8 1 = 0 ∨ (t.pair (o.p 12 2)).isSome) &&
      (match t.abortSelects o with | [x] => (match t.abortOne x with | (k, w) => decide (x.shortStarted = true ∨ (w.op x.tag).any (·.stopping.isSome) = true)) | _ => false))) &&
    (let s : State := base; let c : Cmd := ctl [(8, 0), (10, 9), (12, 2)];
      (s.begins 0x03 c).any (fun (o, t) => decide (o.work = .nothing) && decide (o.p 8 1 = 0) &&
      decide (t.abortSelects o = []))) &&
    (let s : State := base; let x : Op := op0 9 2 0x50 0; decide (s.commitStage x.tag = none) && decide (x.started = false)) &&
    (let s : State := base; let x : Op := { op0 9 2 0x50 0 with started := true, long := true };
      decide (s.commitStage x.tag = none) && decide (x.started = true) && decide (x.long = true) &&
      decide (x.finished = false)) &&
    (let s : State := base; let x : Op := { op0 9 2 0x50 0 with started := true, long := true, finished := true };
      decide (s.commitStage x.tag = none) && decide (x.started = true) && decide (x.long = false ∨ x.finished = true)) &&
    (let s : State := { base with stg.commit := some ⟨9, false, 0, true, []⟩ }; let x : Op := op0 9 0 0x14 0;
      decide (s.commitStage x.tag = some true)) &&
    (let s : State := { base with stg.commit := some ⟨9, false, 0, false, []⟩ }; let x : Op := op0 9 0 0x14 0;
      decide (s.commitStage x.tag = some false)) &&
    (let s : State := base; let c : Cmd := ctl [(8, 77)]; (s.begins 0x04 c).any (fun (o, t) => true))
    ) = true := by
  decide +kernel

/-- StagingCommands: a state and operands that meet the hypotheses of each clause. -/
theorem witness_StagingCommands :
    (
    (let s : State := base; let c : Cmd := ctl [(8, 600)];
      (s.begins 0x10 c).any (fun (o, t) => decide (t.stagingDenied o = false) && decide (1 ≤ o.p 8 2) && decide (o.p 8 2 ≤ 600) &&
      decide (t.stg.session = none))) &&
    (let s : State := { base with stg.session := some ⟨4, 0, 600, 600 * 10 ^ 9, []⟩ };
      let c : Cmd := ctl [(8, 4), (10, 1), (12, 15), (16, 1), (20, 64), (56, 0x1000)];
      (s.begins 0x11 c).any (fun (o, t) => decide (t.stagingDenied o = false) && decide (stageArgs o = none) &&
      (t.sessionOf o).any (fun x => (t.got o o.buf (o.p 20 4)).any (fun b => let es : List Item := (chunks (itemSize (o.p 10 2)) (o.p 16 4) b).zipIdx.map (fun p => Item.mk (o.p 10 2) (o.p 12 4 + p.2) (leNat p.1));
      decide (es.all (fun e => entryOk e.code e.index e.value) = true))))) &&
    (let s : State := { base with stg.session := some ⟨4, 0, 600, 600 * 10 ^ 9, []⟩ };
      let c : Cmd := ctl [(8, 4), (10, 1), (12, 15), (16, 1), (20, 64), (24, 1), (56, 0x1000)];
      (s.begins 0x12 c).any (fun (o, t) => decide (t.stagingDenied o = false) && decide (o.p 24 1 < 2) &&
      decide (stageArgs o = none) &&
      (t.sessionOf o).any (fun x => (t.wrote o o.buf ((List.range (o.p 16 4)).flatMap (fun i => leBytes (itemSize (o.p 10 2)) (stagedValue t.stg.live (if o.p 24 1 = 0 then x.staged else []) (o.p 10 2) (o.p 12 4 + i))))).any (fun w => true)))) &&
    (let s : State := { base with stg.session := some ⟨4, 0, 600, 600 * 10 ^ 9, []⟩ }; let c : Cmd := ctl [(8, 4)];
      (s.begins 0x13 c).any (fun (o, t) => decide (t.stagingDenied o = false) && (t.sessionOf o).any (fun x => true))) &&
    (let s : State := { base with stg.session := some ⟨4, 0, 600, 600 * 10 ^ 9, []⟩ }; let c : Cmd := ctl [(8, 4), (10, 1)];
      (s.begins 0x14 c).any (fun (o, t) => decide (t.stagingDenied o = false) && decide (o.p 10 1 < 2) &&
      decide (t.stg.commit = none) &&
      (t.sessionOf o).any (fun x => decide (t.checks x.staged (max (o.p 16 8) (t.clock.now + 50000)) = none)))) &&
    (let s : State := { base with stg.session := some ⟨4, 0, 600, 600 * 10 ^ 9, [⟨5, 0, 1⟩, ⟨1, 1, 0x8001⟩]⟩ };
      let c : Cmd := ctl [(8, 4)]; (s.begins 0x14 c).any (fun (o, t) => decide (t.stagingDenied o = false) &&
      decide (o.p 10 1 < 2) && decide (t.stg.commit = none) &&
      (t.sessionOf o).any (fun x => (t.checks x.staged (max (o.p 16 8) (t.clock.now + 50000))).any (fun f => true)))) &&
    (let s : State := { base with stg.session := some ⟨4, 0, 600, 600 * 10 ^ 9, []⟩ }; let c : Cmd := ctl [(8, 4)];
      (s.begins 0x15 c).any (fun (o, t) => decide (t.stagingDenied o = false) && (t.sessionOf o).any (fun x => true)))
    ) = true := by
  decide +kernel

/-- SwitchAndDrain: a state and operands that meet the hypotheses of each clause. -/
theorem witness_SwitchAndDrain :
    (
    (let s : State := { base with stg.session := some ⟨4, 0, 600, 0, []⟩ };
      (s.stg.session).any (fun x => decide (x.deadline ≤ s.clock.now))) &&
    (let s : State := { base with stg.commit := some ⟨9, false, 0, false, []⟩ };
      (s.stg.commit).any (fun c => decide (c.switched = false) && decide (c.switchAt ≤ s.clock.now) &&
      decide (c.revoke = false))) &&
    (let s : State := { base with stg.commit := some ⟨9, true, 0, false, []⟩ };
      (s.stg.commit).any (fun c => decide (c.switched = false) && decide (c.switchAt ≤ s.clock.now))) &&
    (let s : State := { stored with stg.epoch := 2, stg.old := stored.stg.live, stg.live := [⟨1, 0, 0⟩], stg.commit := some ⟨9, true, 0, true, []⟩, q.ops := [op0 5 2 0x22 (pkt [(4, 0x1000), (56, 0x1000)])] };
      let tag : Nat := 5; (s.op tag).any (fun o => decide (s.revoked o = true))) &&
    (let s : State := { base with q.ops := [op0 5 2 0x22 0] }; let tag : Nat := 5;
      (s.op tag).any (fun o => decide (s.revoked o = false))) &&
    (let s : State := { base with stg.epoch := 2, stg.commit := some ⟨9, false, 0, true, []⟩, q.ops := [op0 9 0 0x14 0] };
      (s.stg.commit).any (fun c => decide (c.switched = true) && decide (∀ o ∈ s.q.ops, o.epoch < s.stg.epoch → o.tag = c.tag)))
    ) = true := by
  decide +kernel

/-- NamespaceCommands: a state and operands that meet the hypotheses of each clause. -/
theorem witness_NamespaceCommands :
    (
    (let s : State := indexed;
      let c : Cmd := dat [(8, 0), (9, 3), (10, 2), (12, 64), (13, 16), (14, 1), (17, 3), (20, 2), (23, 2)];
      (s.begins 0x20 c).any (fun (o, t) => decide (o.nsFieldsOk = true) && decide (partValid t.stg.live (o.p 18 1) = true) &&
      decide (t.codebookOk o = true) && decide (t.pierMaskOk o = true) && decide (o.p 14 1 = 8 → t.stripeOk o = true) &&
      decide (o.expert = true → expertOn (t.itemsOf o) (o.p 18 1) = true) && decide (t.mayPart (t.opFn o) (o.p 18 1) = true) &&
      (lowestFree (t.store.namespaces.map (·.index)) 0 4096).any (fun i => (t.chooseGroup (o.p 18 1) (o.p 23 1)).any (fun (group, w) => let gen : Nat := nextGen 20 (assoc w.store.nsGens i 0);
      let n : Namespace := o.newNs i gen group 0 (o.p 14 1 == 8) false;
      let h : Nat := (if o.p 14 1 = 8 then w.holdersFor n.salt n.params else 1); true)))) &&
    (let s : State := stored; let c : Cmd := dat [(4, 0x1000)];
      (s.begins 0x21 c).any (fun (o, t) => decide (∀ x ∈ t.q.ops, x.opcode = 0x21 → x.handle = o.handle → x.tag ≠ o.tag → x.order < o.order → x.finished = true) &&
      (t.nsAny o.handle).any (fun n => decide (t.mayPart (t.opFn o) n.partition = true)))) &&
    (let s : State := stored; let c : Cmd := dat [(4, 0x1000), (56, 0x1000)];
      (s.begins 0x22 c).any (fun (o, t) => (t.nsAny o.handle).any (fun n => (t.wrote o o.buf (t.nsRecord n)).any (fun w => true)))) &&
    (let s : State := stored; let c : Cmd := dat [(4, 0x1000), (8, 1), (9, 1), (10, 1)];
      (s.begins 0x23 c).any (fun (o, t) => decide (o.work = .nothing) && decide (o.p 8 1 < 2) &&
      decide (o.p 9 1 < (if o.p 8 1 = 1 then 2 else 4)) && decide (o.p 10 1 < 2) &&
      (t.nsAny o.handle).any (fun n => decide (t.mayPart (t.opFn o) n.partition = true))))
    ) = true := by
  decide +kernel

/-- WindowsAndExpiry: a state and operands that meet the hypotheses of each clause. -/
theorem witness_WindowsAndExpiry :
    (
    (let s : State := stored; let src : Source := ⟨0, 0, 0, false⟩; let addr : Nat := 2 ^ 32; let bytes : List Byte := [1#8];
      decide (s.wake.servesMemory = true) && decide (s.wake.shutOut src = false) &&
      (let u : State := s.wake.bumpAt 0x201 1 none (s.wake.hostOfSrc src); decide (u.pool.heldReqs = []) &&
      decide (u.recalling (Machine.lineGroup addr * 256) 256 = false) && decide (u.poolAwake src.link addr = true) &&
      (u.admitted src addr bytes.length true).any (fun h => decide (u.hostDead h = false) &&
      decide ((u.activeAt h addr).isSome) && decide (u.capped h true = false) &&
      decide ((u.dirEntry (Machine.lineGroup addr)).all (fun e => (u.holdersOf e).all (fun x => x == h)) = true)))) &&
    (let s : State := windowed; let src : Source := ⟨0, 0, 0, false⟩; let addr : Nat := 2 ^ 32; let value : Nat := 20;
      decide (s.wake.servesMemory = true) && decide (s.wake.shutOut src = false) &&
      (let u : State := s.wake.bumpAt 0x201 1 none (s.wake.hostOfSrc src); decide (u.pool.heldReqs = []) &&
      decide (u.recalling (Machine.lineGroup addr * 256) 256 = false) && decide (u.poolAwake src.link addr = true) &&
      (u.admitted src addr 8 true).any (fun h => decide (u.hostDead h = false) && decide ((u.activeAt h addr).isSome) &&
      decide (u.capped h true = false) &&
      decide ((u.dirEntry (Machine.lineGroup addr)).all (fun e => (u.holdersOf e).all (fun x => x == h)) = true)))) &&
    (let s : State := windowed; let r : HeldReq := ⟨⟨0, 0, 0, false⟩, 0, 2 ^ 32, .own⟩; let bytes : List Byte := [1#8];
      let p : Bool := false; (s.windowAt r.addr).any (fun (c, n, off) => decide (off < 2 * n.slotS))) &&
    (let s : State := windowed; let addr : Nat := 2 ^ 32 + 2 * ns0.slotS; let value : Nat := 21;
      (match s.windowAt addr with | some (c, n, off) => (match s.advance n c.slot value with | .ok t => true | _ => false) | _ => false)) &&
    (let s : State := windowed; let addr : Nat := 2 ^ 32 + 2 * ns0.slotS; let value : Nat := 7;
      (match s.windowAt addr with | some (c, n, off) => (match s.advance n c.slot value with | .error st => true | _ => false) | _ => false)) &&
    (let s : State := windowed; let chain : Nat := 0; let slot : Nat := 1;
      (s.chainAt chain).any (fun c => (s.chainNs c).any (fun n => (c.window).any (fun w => (w.rebinding.find? (·.1 == slot)).any (fun r => decide (s.recalling (w.base + slot * n.slotS) n.slotS = false ∨ r.2 ≤ s.clock.now))))))
    ) = true := by
  decide +kernel

/-- ChainCommands: a state and operands that meet the hypotheses of each clause. -/
theorem witness_ChainCommands :
    (
    (let s : State := stored; let c : Cmd := dat [(4, 0x1000)]; (s.begins 0x38 c).any (fun (o, t) => decide (o.p 24 4 = 0) &&
      decide (o.p 8 16 = 0) && (t.nsAny o.handle).any (fun n => decide (n.active = true) &&
      (t.openChain n []).any (fun (h, u) => true)))) &&
    (let s : State := indexed; let c : Cmd := dat [(4, 0x1000), (8, 100), (24, 1)];
      (s.begins 0x38 c).any (fun (o, t) => (t.nsAny o.handle).any (fun n => decide (n.active = true) &&
      (t.findKey n (BitVec.ofNat 128 (o.p 8 16))).any (fun b => decide (o.p 24 4 = b.k + 1) &&
      (t.refsAt n [] b (o.p 24 4)).any (fun refs => (t.openChain n refs).any (fun (h, u) => true)))))) &&
    (let s : State := stored; let c : Cmd := dat [(4, 0x1000), (8, 7), (24, 1)];
      (s.begins 0x38 c).any (fun (o, t) => decide (o.p 24 4 ≠ 0) && (t.nsAny o.handle).any (fun n => decide (n.active = true) &&
      decide (t.findKey n (BitVec.ofNat 128 (o.p 8 16)) = none)))) &&
    (let s : State := stored; let c : Cmd := dat [(4, 0x1000), (8, 0x100000), (12, 32)];
      (s.begins 0x3A c).any (fun (o, t) => (t.nsAny o.handle).any (fun n => (t.chainOf n (o.p 8 4)).any (fun x => decide (x.lost = none) &&
      decide (t.filling x = false) && (match t.advance n x.slot (o.p 12 4) with | .ok u => true | _ => false))))) &&
    (let s : State := stored; let c : Cmd := dat [(4, 0x1000), (8, 0x100000)];
      (s.begins 0x3C c).any (fun (o, t) => (t.nsAny o.handle).any (fun n => decide ((o.p 12 1 ≠ 0 ∨ (t.chainOf n (o.p 8 4)).all (fun c => c.lost.isNone &&
      !t.filling c) = true)) &&
      (viewOf t o n).any (fun v => decide (v.n / n.geo.b < v.refs.length → v.n % n.geo.b ≠ 0 → (v.blockAt (v.n / n.geo.b)).isSome) &&
      decide ((t.forkSource n v).1.length ≤ 1024) &&
      ((t.setOp o.tag (fun o => { o with view := some v })).newChainSlot).any (fun (slot, gen) => (((t.setOp o.tag (fun o => { o with view := some v })).addChain slot gen ⟨n.index, n.gen, (t.forkSource n v).1, [], none, v.n, 1⟩ none).forkEnd n v slot).any (fun u => true)))))) &&
    (let s : State := { stored with store.chains := [{ chain0 with view := ⟨0, 1, List.replicate 1025 (.held 0), [], some 1, 16405, 0⟩ }] };
      let c : Cmd := dat [(4, 0x1000), (8, 0x100000)];
      (s.begins 0x3C c).any (fun (o, t) => (t.nsAny o.handle).any (fun n => decide ((o.p 12 1 ≠ 0 ∨ (t.chainOf n (o.p 8 4)).all (fun c => c.lost.isNone &&
      !t.filling c) = true)) &&
      (viewOf t o n).any (fun v => decide (v.n / n.geo.b < v.refs.length → v.n % n.geo.b ≠ 0 → (v.blockAt (v.n / n.geo.b)).isSome) &&
      decide (1024 < (t.forkSource n v).1.length) &&
      ((t.setOp o.tag (fun o => { o with view := some v })).newChainSlot).any (fun (slot, gen) => ((t.setOp o.tag (fun o => { o with view := some v })).openBlock n 0).any (fun (id, u) => true)))))) &&
    (let s : State := stored; let c : Cmd := dat [(4, 0x1000), (8, 0x100000), (12, 0xFFFFFFFF), (16, 5)];
      (s.begins 0x3D c).any (fun (o, t) => (t.nsAny o.handle).any (fun n => (t.chainOf n (o.p 8 4)).any (fun x => decide (x.lost = none) &&
      decide (t.filling x = false) && (let len : Nat := (if o.p 12 4 = 0xFFFFFFFF then x.view.n else o.p 12 4);
      decide (len ≤ x.view.n) &&
      (t.addSnapshot (x.view.cut n.geo.b len) (if o.p 16 4 = 0 then none else some (t.clock.now + o.p 16 4 * 1000000)) false).any (fun (h, u) => true)))))) &&
    (let s : State := stored; let c : Cmd := dat [(4, 0x1000), (8, 0x100000), (12, 20)];
      (s.begins 0x3E c).any (fun (o, t) => (t.nsAny o.handle).any (fun n => (t.chainOf n (o.p 8 4)).any (fun x => decide (x.lost = none) &&
      decide (t.filling x = false) && decide (o.p 12 4 ≤ x.view.n) && (let k : Nat := o.p 12 4 / n.geo.b;
      let src : Option Block := (if o.p 12 4 % n.geo.b = 0 then none else t.cutBlock n x.view k);
      decide (missingOf (fun i => (i < min k x.view.refs.length && (t.cutRefs n x.view k).2 i) || (i = k &&
      o.p 12 4 % n.geo.b != 0 && src.isNone)) 0 (k + 1) = none) &&
      (let base : State := (t.updChain x.slot (fun y => { y with view.refs := (t.cutRefs n x.view k).1.take (min k x.view.refs.length), view.unsealed := x.view.unsealed.take (k - x.view.refs.length), view.tail := none, view.n := o.p 12 4, view.version := x.view.version + 1, next := none })).gc;
      (match (match src with | some b => base.copyBlock n b k (o.p 12 4 % n.geo.b) | none => base.openBlock n k : Option (Nat × State)) with | some (id, u) => (match (u.updChain x.slot (fun y => { y with view.tail := some id })).rebindBoth n x.slot k with | some w => true | _ => false) | _ => false))))))) &&
    (let s : State := stored; let c : Cmd := dat [(4, 0x1000), (8, 0x100000), (16, 3600000)];
      (s.begins 0x3F c).any (fun (o, t) => decide (o.expert = false) && decide (1 ≤ o.p 16 4) && decide (o.p 16 4 ≤ 3600000) &&
      (t.nsAny o.handle).any (fun n => decide ((o.p 12 1 ≠ 0 ∨ (t.chainOf n (o.p 8 4)).all (fun c => c.lost.isNone &&
      !t.filling c) = true)) &&
      (viewOf t o n).any (fun v => (lowestFree (t.store.pins.map (·.slot)) 0 (min 65536 (t.store.pins.length + 1))).any (fun i => true))))) &&
    (let s : State := stored; let c : Cmd := dat [(4, 0x1000), (8, 0x100000)];
      (s.begins 0x40 c).any (fun (o, t) => decide (o.p 12 1 = 0) &&
      (t.nsAny o.handle).any (fun n => (t.chainOf n (o.p 8 4)).any (fun x => decide (x.lost = none) &&
      decide (t.filling x = false))))) &&
    (let s : State := { stored with store.pins := [⟨0, 1, [0], 5, none, 0, 0x1000⟩] };
      let c : Cmd := dat [(4, 0x1000), (8, 0x10000), (12, 2)]; (s.begins 0x40 c).any (fun (o, t) => decide (o.p 12 1 = 2) &&
      (t.nsAny o.handle).any (fun n => (t.store.pins.find? (fun p => mkHandle 16 p.slot p.gen == o.p 8 4 &&
      p.ns == n.handle)).any (fun p => true)))) &&
    (let s : State := { stored with store.snapshots := [⟨0, 1, view0, none, false, false⟩] };
      let c : Cmd := dat [(4, 0x1000), (8, 0x40000), (12, 1)]; (s.begins 0x40 c).any (fun (o, t) => decide (o.p 12 1 = 1) &&
      (t.nsAny o.handle).any (fun n => (t.snapOf n (o.p 8 4)).any (fun x => true)))) &&
    (let s : State := windowed; let c : Cmd := dat [(4, 0x1000), (8, 0x100000)];
      (s.begins 0x41 c).any (fun (o, t) => decide (o.p 16 8 = 0) &&
      (t.nsAny o.handle).any (fun n => (t.chainOf n (o.p 8 4)).any (fun x => decide (x.lost = none) &&
      decide (t.filling x = false))))) &&
    (let s : State := stored; let c : Cmd := dat [(4, 0x1000), (8, 0x100000), (16, 2 ^ 32)];
      (s.begins 0x41 c).any (fun (o, t) => decide (o.p 16 8 ≠ 0) && decide (o.p 16 8 % 4096 = 0) &&
      (t.nsAny o.handle).any (fun n => decide (t.fnCovers (t.opFn o) (o.p 16 8) n.windowBytes true = true) &&
      (t.chainOf n (o.p 8 4)).any (fun x => decide (x.lost = none) && decide (t.filling x = false) &&
      decide (∀ y ∈ t.store.chains, y.slot ≠ x.slot → y.window = none) &&
      (t.extentAt (o.p 16 8) n.windowBytes).any (fun e => decide (e.partition = n.partition) && decide (e.isActive = true) &&
      (match (match x.next with | some id => some (id, t.unmapWindow x n) | none => (t.unmapWindow x n).openBlock n (x.view.refs.length + x.view.unsealed.length + 1) : Option (Nat × State)) with | some (id, u) => true | _ => false)))))) &&
    (let s : State := stored; let c : Cmd := dat [(4, 0x1000), (8, 0x100000), (56, 0x1000)];
      (s.begins 0x42 c).any (fun (o, t) => (t.nsAny o.handle).any (fun n => decide ((o.p 12 1 ≠ 0 ∨ (t.chainOf n (o.p 8 4)).all (fun c => c.lost.isNone &&
      !t.filling c) = true)) &&
      (viewOf t o n).any (fun v => (t.wrote o o.buf (leBytes 8 v.n ++ leBytes 8 (min v.refs.length (v.n / n.geo.b)) ++ leBytes 8 v.version ++ leBytes 8 v.unsealed.length ++ leBytes 8 (v.refs.filter BRef.isDropped).length ++ List.replicate 24 0#8)).any (fun w => true)))))
    ) = true := by
  decide +kernel

/-- InsertAndSeal: a state and operands that meet the hypotheses of each clause. -/
theorem witness_InsertAndSeal :
    (
    (let s : State := stored; let c : Cmd := dat [(4, 0x1000), (8, 0x100000), (12, 28), (16, 4), (18, 1), (22, 2), (56, 0x1000)];
      (s.begins 0x39 c).any (fun (o, t) => decide (o.work = .nothing) && decide (o.p 18 1 < 4) && decide (1 ≤ o.p 16 2) &&
      decide (o.p 20 2 = 0) && (t.nsAny o.handle).any (fun n => decide (o.p 12 4 % n.geo.b + o.p 16 2 ≤ n.geo.b) &&
      decide (o.p 22 2 = n.geo.l) && decide (1 ≤ n.geo.l) && decide (2 ≤ o.p 18 1 → n.active = true) &&
      decide (o.p 18 1 < 2 ∨ n.autoseal = true) && (t.chainOf n (o.p 8 4)).any (fun x => decide (x.lost = none) &&
      decide (t.filling x = false) && decide (x.view.n ≤ o.p 12 4) &&
      (match t.writableBlock n x (o.p 12 4 / n.geo.b) with | .ok (id, u) => (match readTokens o n u (o.p 12 4 % n.geo.b) (o.p 16 2) with | .ok toks => (match readLayers o n u 0 n.geo.l with | .ok data => let w : State := ((u.readSource o n (o.p 12 4 % n.geo.b) (o.p 16 2) 0 n.geo.l).pagesWritten id 0 n.geo.l (n.geo.pageBytes n.geo.fmt * o.p 16 2 / n.geo.b)).updBlock id (fun b => b.insertRows n 0 (o.p 12 4 % n.geo.b) (o.p 16 2) data toks); (match (if o.p 18 1 % 2 = 1 then w.advance n x.slot (o.p 12 4 + o.p 16 2) else .ok w) with | .ok v => (v.chainAt x.slot).any (fun y => true) | _ => false) | _ => false) | _ => false) | _ => false))))) &&
    (let s : State := unsealed2;
      let c : Cmd := dat [(4, 0x1000), (8, 0x100000), (12, 40), (16, 1), (18, 2), (22, 2), (56, 0x1000)];
      (s.begins 0x39 c).any (fun (o, t) => decide (o.work = .nothing) && decide (o.p 18 1 < 4) && decide (1 ≤ o.p 16 2) &&
      decide (o.p 20 2 = 0) && decide (2 ≤ o.p 18 1) &&
      (t.nsAny o.handle).any (fun n => decide (o.p 12 4 % n.geo.b + o.p 16 2 ≤ n.geo.b) && decide (o.p 22 2 = n.geo.l) &&
      decide (1 ≤ n.geo.l) && decide (2 ≤ o.p 18 1 → n.active = true) && decide (n.autoseal = false) &&
      (t.chainOf n (o.p 8 4)).any (fun x => decide (x.lost = none) && decide (t.filling x = false) &&
      decide (x.view.n ≤ o.p 12 4) &&
      (match t.writableBlock n x (o.p 12 4 / n.geo.b) with | .ok (id, u) => (match readTokens o n u (o.p 12 4 % n.geo.b) (o.p 16 2) with | .ok toks => (match readLayers o n u 0 n.geo.l with | .ok data => let w : State := ((u.readSource o n (o.p 12 4 % n.geo.b) (o.p 16 2) 0 n.geo.l).pagesWritten id 0 n.geo.l (n.geo.pageBytes n.geo.fmt * o.p 16 2 / n.geo.b)).updBlock id (fun b => b.insertRows n 0 (o.p 12 4 % n.geo.b) (o.p 16 2) data toks); (match (if o.p 18 1 % 2 = 1 then w.advance n x.slot (o.p 12 4 + o.p 16 2) else .ok w) with | .ok v => (v.chainAt x.slot).any (fun y => (match y.view.unsealed.filter (fun i => !v.claimed1 o.tag i) with | i :: l => true | _ => false)) | _ => false) | _ => false) | _ => false) | _ => false))))) &&
    (let s : State := dropped1 0x777;
      let c : Cmd := dat [(4, 0x1000), (8, 0x100000), (12, 0), (16, 16), (18, 4), (22, 2), (56, 0x1000)];
      (s.begins 0x39 c).any (fun (o, t) => decide (o.work = .nothing) && decide (o.p 18 1 = 4) && decide (o.p 20 2 = 0) &&
      (t.nsAny o.handle).any (fun n => decide (n.active = true) && decide (o.p 12 4 % n.geo.b = 0) &&
      decide (o.p 16 2 = n.geo.b) && decide (1 ≤ n.geo.b) && decide (o.p 22 2 = n.geo.l) && decide (1 ≤ n.geo.l) &&
      (t.chainOf n (o.p 8 4)).any (fun x => decide (x.lost = none) && decide (t.filling x = false) &&
      (match x.view.refs[o.p 12 4 / n.geo.b]? with | some (.dropped key parent ver group old) => (match readTokens o n t 0 n.geo.b with | .ok toks => decide (chainKey n.salt parent toks ≠ key) && (match readLayers o n t 0 n.geo.l with | .ok data => true | _ => false) | _ => false) | _ => false))))) &&
    (let s : State := dropped1 (chainKey 5 0 (List.replicate 16 0)).toNat;
      let c : Cmd := dat [(4, 0x1000), (8, 0x100000), (12, 0), (16, 16), (18, 4), (22, 2), (56, 0x1000)];
      (s.begins 0x39 c).any (fun (o, t) => decide (o.work = .nothing) && decide (o.p 18 1 = 4) && decide (o.p 20 2 = 0) &&
      (t.nsAny o.handle).any (fun n => decide (n.active = true) && decide (o.p 12 4 % n.geo.b = 0) &&
      decide (o.p 16 2 = n.geo.b) && decide (1 ≤ n.geo.b) && decide (o.p 22 2 = n.geo.l) && decide (1 ≤ n.geo.l) &&
      (t.chainOf n (o.p 8 4)).any (fun x => decide (x.lost = none) && decide (t.filling x = false) &&
      (match x.view.refs[o.p 12 4 / n.geo.b]? with | some (.dropped key parent ver group old) => decide ((t.readSource o n 0 n.geo.b 0 n.geo.l).findKey n key = none) && (match readTokens o n t 0 n.geo.b with | .ok toks => decide (chainKey n.salt parent toks = key) && (match readLayers o n t 0 n.geo.l with | .ok data => ((t.readSource o n 0 n.geo.b 0 n.geo.l).openBlock n (o.p 12 4 / n.geo.b)).any (fun (id, u) => true) | _ => false) | _ => false) | _ => false))))) &&
    (let s : State := refound; let c : Cmd := dat [(4, 0x1000), (8, 0x100000), (12, 0), (16, 16), (18, 4), (22, 2), (56, 0x1000)];
      (s.begins 0x39 c).any (fun (o, t) => decide (o.work = .nothing) && decide (o.p 18 1 = 4) && decide (o.p 20 2 = 0) &&
      (t.nsAny o.handle).any (fun n => decide (n.active = true) && decide (o.p 12 4 % n.geo.b = 0) &&
      decide (o.p 16 2 = n.geo.b) && decide (1 ≤ n.geo.b) && decide (o.p 22 2 = n.geo.l) && decide (1 ≤ n.geo.l) &&
      decide (n.width = 1) && (t.chainOf n (o.p 8 4)).any (fun x => decide (x.lost = none) && decide (t.filling x = false) &&
      (match x.view.refs[o.p 12 4 / n.geo.b]? with | some (.dropped key parent ver group old) => (match readTokens o n t 0 n.geo.b with | .ok toks => decide (chainKey n.salt parent toks = key) && (match readLayers o n t 0 n.geo.l with | .ok data => ((t.readSource o n 0 n.geo.b 0 n.geo.l).findKey n key).any (fun b => true) | _ => false) | _ => false) | _ => false))))) &&
    (let s : State := unsealed2; let c : Cmd := dat [(4, 0x1000), (8, 0x100000), (12, 1)];
      (s.begins 0x3B c).any (fun (o, t) => decide (o.work = .nothing) && decide (1 ≤ o.p 12 1) && decide (o.p 12 1 ≤ 2) &&
      decide (o.buf = 0) && (t.nsAny o.handle).any (fun n => decide (n.autoseal = false) && decide (n.active = true) &&
      (t.chainOf n (o.p 8 4)).any (fun x => decide (x.lost = none) && decide (t.filling x = false) &&
      (let ids : List Nat := (x.view.unsealed.filter (fun i => !t.claimed1 o.tag i)).take (o.p 12 1);
      decide (ids.length = o.p 12 1)))))) &&
    (let s : State := { unsealed2 with q.ops := [{ op0 5 2 0x3B 0 with started := true, work := .sealing 0 [1] 0 }] };
      let tag : Nat := 5; let id : Nat := 1; let i : Nat := 0; let rest : List Nat := [];
      let c : Chain := { chain0 with view := ⟨0, 1, [.held 0], [1], some 2, 40, 0⟩ }; let k : Nat := 1;
      decide (s.chainAt c.slot = some c) && decide (s.sealTurn tag c id = some id) &&
      (s.op tag).any (fun o => decide (o.work = .sealing c.slot (id :: rest) i) &&
      (s.block id).any (fun b => decide (b.tokensBad = false) && (s.chainNs c).any (fun n => decide (n.width = 1) &&
      (let u : State := (if c.view.unsealed.contains id then s.keyBlock n c id (b.tokenIds n.geo.b) else s);
      let dup : Option Block := (u.block id).bind (fun b => u.findKey n b.key); true))))) &&
    (let s : State := { stored with q.ops := [{ op0 5 2 0x3B 0 with started := true, work := .sealing 0 [] 0 }] };
      let o : Op := { op0 5 2 0x3B 0 with started := true, work := .sealing 0 [] 0 }; let c : Chain := chain0;
      (match sealLoop o.tag s 3 with | .done t => (t.op o.tag).any (fun p => (match p.work with | .sealing slot [] i => decide (t.chainAt slot = some c) | _ => false)) | _ => false)) &&
    (let s : State := { stored with q.ops := [{ op0 5 2 0x3B 0 with started := true, work := .sealing 0 [] 0 }] };
      let tag : Nat := 5; let k : Nat := 2;
      (s.op tag).any (fun o => (match o.work with | .sealing slot [] i => (match sealLoop tag s (k + 1) with | .done t => true | _ => false) | _ => false)))
    ) = true := by
  decide +kernel

/-- CodebookLoader: a state and operands that meet the hypotheses of each clause. -/
theorem witness_CodebookLoader :
    (
    (let s : State := stored; let f : Fn := f0; let tee : Bool := false; let v : Nat := 2 ^ 31;
      decide (s.wake.hears f tee = true) && (s.wake.loaderGo f v).any (fun l => decide (s.wake.loaderRefuses l = none))) &&
    (let s : State := stored; let f : Fn := f0; let tee : Bool := false; let v : Nat := 2 ^ 31 + 2 ^ 28;
      decide (s.wake.hears f tee = true) && (s.wake.loaderGo f v).any (fun l => decide (s.wake.loaderRefuses l = none))) &&
    (let s : State := { stored with store.loads := [f0], store.loaders := [⟨f0, 0, true, 0, 0, 0, true, false, .ok, 0⟩] };
      let f : Fn := f0; decide (s.loaderRefuses (s.loader f) = none) &&
      (match s.store.loads with | f :: rest => true | _ => false))
    ) = true := by
  decide +kernel

/-- ProbeUnits: a state and operands that meet the hypotheses of each clause. -/
theorem witness_ProbeUnits :
    (
    (let s : State := indexed; let c : Cmd := dat [(4, 0x1000), (8, 300 * 16), (56, 0x1000)];
      (s.begins 0x30 c).any (fun (o, t) => (t.nsAny o.handle).any (fun n => decide (o.probeBad n = false) &&
      decide (n.active = true) && decide (256 < o.probeBlocks n.geo.b) &&
      (match (t.bumpAt 0x040 1 (some n.partition) (some n.index)).probeStart o n with | (r, u) => true)))) &&
    (let s : State := indexed; let c : Cmd := dat [(4, 0x1000), (8, 16), (56, 0x1000)];
      (s.begins 0x30 c).any (fun (o, t) => (t.nsAny o.handle).any (fun n => decide (o.probeBad n = false) &&
      decide (n.active = true) && decide (o.probeBlocks n.geo.b ≤ 256) &&
      (match (t.bumpAt 0x040 1 (some n.partition) (some n.index)).probeStart o n with | (r, u) => (match probeUnit o n r u with | .ok (r', u') => true | _ => false))))) &&
    (let s : State := indexed; let o : Op := op0 9 2 0x30 (pkt [(4, 0x1000), (8, 16)]); let n : Namespace := ns0;
      let r : ProbeRun := (⟨[], 100, none, 0, [], none⟩ : ProbeRun); decide (o.probeOpens = false) && decide (o.p 40 8 = 0)) &&
    (let s : State := indexed; let o : Op := op0 9 2 0x30 (pkt [(4, 0x1000), (8, 16), (32, 2)]); let n : Namespace := ns0;
      let r : ProbeRun := (⟨[⟨some 0, 100, 0, 0⟩], 100, none, 0, [], none⟩ : ProbeRun); decide (o.probeOpens = true) &&
      decide (o.p 40 8 = 0) && (let d : Nat := r.depth n (o.p 12 4); decide (d ≠ 0) &&
      (r.last s (o.p 12 4) d).any (fun b => (s.refsAt n (r.parent.toList ++ r.found.filterMap (·.block)) b d).any (fun refs => (s.openChain n refs).any (fun (h, t) => true))))) &&
    (let s : State := { indexed with store.namespaces := [{ ns0 with width := 8, gstate := .forming }] };
      let c : Cmd := dat [(4, 0x1000), (8, 16), (56, 0x1000)];
      (s.begins 0x30 c).any (fun (o, t) => (t.nsAny o.handle).any (fun n => decide (o.probeBad n = false) &&
      decide (n.active = false))))
    ) = true := by
  decide +kernel

/-- IndexCommands: a state and operands that meet the hypotheses of each clause. -/
theorem witness_IndexCommands :
    (
    (let s : State := indexed; let c : Cmd := dat [(4, 0x1000), (8, 100)];
      (s.begins 0x31 c).any (fun (o, t) => decide (o.p 24 1 < 2) && decide (o.p 25 1 < 2) &&
      (t.nsAny o.handle).any (fun n => decide (o.p 24 1 = 1 → n.entryWidth = 2) && decide (o.p 25 1 = 1 → n.active = true) &&
      decide (o.p 24 1 = 1 ∨ n.entryWidth ≠ 4 ∨ o.buf = 0)))) &&
    (let s : State := { stored with store.namespaces := [{ ns0 with entryWidth := 4 }] , host := [(0x1000, 1#8)] };
      let c : Cmd := dat [(4, 0x1000), (8, 100), (24, 2), (56, 0x1000)];
      (s.begins 0x31 c).any (fun (o, t) => decide (o.p 24 1 = 2) && decide (o.p 25 1 < 2) &&
      (t.nsAny o.handle).any (fun n => decide (n.entryWidth = 4) && decide (o.p 25 1 = 1 → n.active = true) &&
      (t.got o o.buf 32).any (fun l => decide (leNat l ≠ 0))))) &&
    (let t : State := indexed; let o : Op := op0 9 2 0x31 (pkt [(4, 0x1000), (8, 7)]); let n : Namespace := ns0;
      decide (o.p 24 1 = 0) &&
      (match t.searchKey n (BitVec.ofNat 128 (o.p 8 16)) (if n.entryWidth = 2 then o.p 28 4 else 0) 0 with | (es, k, u) => decide (es = []) && (let s : State := u.bumpAt 0x04F 1 (some n.partition) (some n.index); true))) &&
    (let t : State := indexed; let o : Op := op0 9 2 0x31 (pkt [(4, 0x1000), (8, 100)]); let n : Namespace := ns0;
      decide (o.p 24 1 = 0) && decide (o.p 25 1 = 0) &&
      (match t.searchKey n (BitVec.ofNat 128 (o.p 8 16)) (if n.entryWidth = 2 then o.p 28 4 else 0) 0 with | (es, k, u) => let s : State := u.bumpAt 0x04F 1 (some n.partition) (some n.index); (match es with | [e] => decide (s.firstBad (s.ptrBlocks e.ptr) false = none) && (((s.ptrBlocks e.ptr).filterMap s.block).find? (lookupPasses o n 0)).any (fun b => true) | _ => false))) &&
    (let t : State := indexed; let o : Op := op0 9 2 0x31 (pkt [(4, 0x1000), (8, 100 + 2 ^ 100)]); let n : Namespace := ns0;
      decide (o.p 24 1 = 0) &&
      (match t.searchKey n (BitVec.ofNat 128 (o.p 8 16)) (if n.entryWidth = 2 then o.p 28 4 else 0) 0 with | (es, k, u) => let s : State := u.bumpAt 0x04F 1 (some n.partition) (some n.index); (match es with | [e] => decide (s.firstBad (s.ptrBlocks e.ptr) false = none) && decide (((s.ptrBlocks e.ptr).filterMap s.block).find? (lookupPasses o n 0) = none) | _ => false))) &&
    (let s : State := indexed; let c : Cmd := dat [(4, 0x1000), (8, 0x100000), (16, 1), (20, 9)];
      (s.begins 0x32 c).any (fun (o, t) => decide (o.p 16 1 = 1) && (t.nsAny o.handle).any (fun n => decide (n.entryWidth = 2) &&
      (t.chainOf n (o.p 8 4)).any (fun x => decide (x.lost = none) && decide (t.filling x = false) &&
      (match x.view.refs[o.p 12 4]? with | some (.held id) => (t.block id).any (fun b => (t.entryOf b).any (fun e => true)) | _ => false))))) &&
    (let s : State := indexed; let c : Cmd := dat [(4, 0x1000), (8, 0x100000)];
      (s.begins 0x33 c).any (fun (o, t) => (t.nsAny o.handle).any (fun n => (t.chainOf n (o.p 8 4)).any (fun x => decide (x.lost = none) &&
      decide (t.filling x = false) && (evictNames o n x.view).any (fun (first, count) => decide (count ≤ 1024)))))) &&
    (let s : State := { indexed with store.chains := [{ chain0 with view := ⟨0, 1, List.replicate 1025 (.held 0), [], some 1, 16405, 0⟩ }] };
      let c : Cmd := dat [(4, 0x1000), (8, 0x100000)];
      (s.begins 0x33 c).any (fun (o, t) => (t.nsAny o.handle).any (fun n => (t.chainOf n (o.p 8 4)).any (fun x => decide (x.lost = none) &&
      decide (t.filling x = false) && (evictNames o n x.view).any (fun (first, count) => decide (1024 < count)))))) &&
    (let s : State := expertise; let c : Cmd := dat [(1, 128), (56, 0x1000)];
      (s.begins 0x37 c).any (fun (o, t) => decide (o.expert = true) && decide (o.p 8 1 = 0) &&
      (t.wrote o o.buf ((List.range 256).flatMap t.bankRecord)).any (fun w => true))) &&
    (let s : State := expertise; let c : Cmd := dat [(1, 128), (8, 1), (9, 7), (56, 0x1000)];
      (s.begins 0x37 c).any (fun (o, t) => decide (o.expert = true) && decide (o.p 8 1 = 1) && decide (4 ≤ o.p 9 1) &&
      decide (o.p 9 1 ≤ 7) && (t.got o o.buf 40).any (fun b => true))) &&
    (let s : State := { expertise with host := [(0x1000, 7#8)] };
      let c : Cmd := dat [(1, 128), (8, 2), (10, 2), (11, 1), (56, 0x1000)];
      (s.begins 0x37 c).any (fun (o, t) => decide (o.expert = true) && decide (o.p 8 1 = 2) &&
      decide (o.p 10 1 = 1 ∨ o.p 10 1 = 2 ∨ o.p 10 1 = 4) && decide (o.p 11 1 ≤ 8) &&
      decide (partValid (t.itemsOf o) (o.p 12 1) = true) && decide (t.mayPart (t.opFn o) (o.p 12 1) = true) &&
      (t.got o o.buf (2 * 2 ^ o.p 11 1)).any (fun b => let banks : List Nat := (chunks 2 (2 ^ o.p 11 1) b).map leNat;
      decide (∀ x ∈ banks, x < 256 ∧ t.partBankOk (o.p 12 1) x = true ∧ t.bankIsFree x = true) &&
      decide (banks.eraseDups.length = banks.length) && (lowestFree (t.idx.groups.map (·.num)) 0 64).any (fun num => true)))) &&
    (let s : State := { expertise with idx.groups := [⟨0, [5], 2, 0⟩, ⟨1, [6], 2, 0⟩] };
      let c : Cmd := dat [(1, 128), (8, 3), (13, 1)]; (s.begins 0x37 c).any (fun (o, t) => decide (o.expert = true) &&
      decide (o.p 8 1 = 3) &&
      (t.idx.groups.find? (·.num == o.p 13 1)).any (fun g => decide (t.mayPart (t.opFn o) g.partition = true) &&
      decide (∀ n ∈ t.store.namespaces, n.group ≠ g.num) && decide (∀ b ∈ g.banks, t.bankList b = []))))
    ) = true := by
  decide +kernel

/-- ForerunnerCommands: a state and operands that meet the hypotheses of each clause. -/
theorem witness_ForerunnerCommands :
    (
    (let s : State := forerun; let c : Cmd := dat [(8, 0), (9, 1), (10, 0xFF), (11, 0xFF), (12, 64), (13, 4), (14, 8)];
      (s.begins 0x34 c).any (fun (o, t) => decide (o.p 8 1 = 0) && decide (o.p 9 1 < 16) &&
      decide (∀ x ∈ t.idx.regions, x.num ≠ o.p 9 1) && decide (1 ≤ o.p 12 1) && decide (o.p 12 1 ≤ 64) &&
      decide (o.p 13 1 = 1 ∨ o.p 13 1 = 2 ∨ o.p 13 1 = 4) && decide (3 ≤ o.p 14 1) && decide (o.p 14 1 ≤ 8) &&
      decide (o.p 10 1 < 4 ∨ o.p 10 1 = 0xFF) && decide (o.p 11 1 + o.p 12 1 ≤ 64 ∨ o.p 11 1 = 0xFF) &&
      decide (partValid (t.itemsOf o) (o.p 15 1) = true) && decide (t.mayPart (t.opFn o) (o.p 15 1) = true) &&
      (t.regionPlace (o.p 10 1) (o.p 11 1) (o.p 12 1) (o.p 15 1)).any (fun (d, f) => let gen : Nat := nextGen 12 (assoc t.idx.regionGens (o.p 9 1) 0);
      let r : Region := (⟨o.p 9 1, gen, d, f, o.p 12 1, o.p 13 1, 2 ^ o.p 14 1, o.p 15 1⟩ : Region); true))) &&
    (let s : State := forerun; let c : Cmd := dat [(8, 0x10), (10, 2), (12, 1)];
      (s.begins 0x35 c).any (fun (o, t) => decide (o.p 10 1 = 2) &&
      (t.regionOf (o.p 8 2)).any (fun r => decide ((t.regionList r).any (fun e => r.posOf e == o.p 12 4) = true)))) &&
    (let s : State := forerun; let c : Cmd := dat [(8, 0x10), (10, 3), (12, 1), (20, 8)];
      (s.begins 0x35 c).any (fun (o, t) => decide (o.p 10 1 = 3) &&
      (t.regionOf (o.p 8 2)).any (fun r => decide ((t.regionList r).any (fun e => r.posOf e == o.p 12 4) = true)))) &&
    (let s : State := forerun; let c : Cmd := dat [(8, 0x10), (10, 1), (16, 3), (20, 8), (56, 0x1000)]; let pos : Nat := 0;
      (s.begins 0x35 c).any (fun (o, t) => decide (o.p 10 1 < 2) &&
      (t.regionOf (o.p 8 2)).any (fun r => decide ((t.regionList r).length < r.cap) &&
      decide (∀ i, i < r.banks → (t.bank (r.base + i)).lost = false) &&
      (t.got o o.buf (20 * r.width)).any (fun b => (r.nearHole ((t.regionList r).map r.posOf) (r.target (t.regionList r) (o.p 16 2) (o.p 10 1 == 1)) 0 ((t.regionList r).length + 2)).any (fun h => let x : List Entry × Nat := (r.insertAt (t.regionList r) ⟨0, 0, (frImage r.width b).1, (frImage r.width b).2, o.p 16 2, o.p 20 4⟩ (r.target (t.regionList r) (o.p 16 2) (o.p 10 1 == 1)) h |> fun y => (y.1, y.2.2));
      let k : List Entry × Nat := r.keep x.1 x.2 ((t.regionList r).length + 2); true))))) &&
    (let s : State := { forerun with host := [(0x1000, 3#8)] }; let c : Cmd := dat [(8, 0x10), (10, 4), (56, 0x1000)];
      (s.begins 0x35 c).any (fun (o, t) => decide (o.p 10 1 = 4) &&
      (t.regionOf (o.p 8 2)).any (fun r => (t.got o o.buf (20 * r.width)).any (fun b => ((t.regionList r).find? (fun e => e.hits (frImage r.width b).1 (frImage r.width b).2)).any (fun e => true))))) &&
    (let s : State := forerun; let c : Cmd := dat [(8, 0x10), (16, 3)];
      (s.begins 0x36 c).any (fun (o, t) => decide (t.idx.cascade.waiting.any (·.tag == o.tag) = false) && decide (o.p 10 1 = 0) &&
      decide (o.p 11 1 < 8) && decide (o.buf = 0) && (t.regionOf (o.p 8 2)).any (fun r => decide (r.width = 1) &&
      (let u : State := ((List.range r.banks).foldl (fun s i => s.searched (r.base + i)) t).bump 0x048 1; true)))) &&
    (let s : State := { forerun with idx.regions := [⟨0, 1, 0, 9, 1, 2, 8, 0⟩] };
      let c : Cmd := dat [(8, 0x10), (16, 3), (56, 0x1000)];
      (s.begins 0x36 c).any (fun (o, t) => decide (t.idx.cascade.waiting.any (·.tag == o.tag) = false) && decide (o.p 10 1 = 0) &&
      decide (o.p 11 1 < 8) && decide (o.buf ≠ 0) && (t.regionOf (o.p 8 2)).any (fun r => decide (r.width ≠ 1) &&
      (t.got o o.buf (10 * (r.width - 1))).any (fun b => let u : State := ((List.range r.banks).foldl (fun s i => s.searched (r.base + i)) t).bump 0x048 1;
      true)))) &&
    (let s : State := forerun; let c : Cmd := dat [(8, 1), (9, 0)]; (s.begins 0x34 c).any (fun (o, t) => decide (o.p 8 1 = 1) &&
      (t.idx.regions.find? (·.num == o.p 9 1)).any (fun r => decide (t.mayPart (t.opFn o) r.partition = true)))) &&
    (let s : State := forerun; let c : Cmd := dat [(8, 2), (9, 0), (56, 0x1000)];
      (s.begins 0x34 c).any (fun (o, t) => decide (o.p 8 1 = 2) &&
      (t.idx.regions.find? (·.num == o.p 9 1)).any (fun r => decide (t.mayPart (t.opFn o) r.partition = true) &&
      (t.wrote o o.buf (t.regionRecord r)).any (fun w => true)))) &&
    (let s : State := forerun; let o : Op := { op0 9 2 0x34 0 with work := .slots [9] };
      (match o.work with | .slots (b :: rest) => let t : State := ({ s with idx.entries := s.idx.entries.filter (·.bank != b), idx.banks := s.idx.banks.filter (fun x => x.num != b || x.lost) } : State).setOp o.tag (fun o => { o with work := .slots rest }); true | _ => false))
    ) = true := by
  decide +kernel

/-- TrestleEvents: a state and operands that meet the hypotheses of each clause. -/
theorem witness_TrestleEvents :
    (
    (let s : State := cascaded; let hit : Bool := true; let seqBit : Bool := true; let guard : Bool := true;
      decide (s.idx.cascade.enable = true) && decide (s.idx.cascade.head = false) && decide (s.idx.cascade.desync = false) &&
      decide (guard = true)) &&
    (let s : State := cascaded; let hit : Bool := true; let seqBit : Bool := true; let guard : Bool := false;
      decide (s.idx.cascade.enable = true) && decide (s.idx.cascade.head = false) && decide (s.idx.cascade.desync = false) &&
      decide (guard = false) && decide (s.cascadeOps.length ≤ s.idx.cascade.frames.length)) &&
    (let s : State := { cascaded with q.ops := [op0 9 2 0x36 (pkt [(8, 0x10), (10, 1)])] }; let hit : Bool := true;
      let seqBit : Bool := false; let guard : Bool := false; decide (s.idx.cascade.enable = true) &&
      decide (s.idx.cascade.head = false) && decide (s.idx.cascade.desync = false) && decide (guard = false) &&
      decide (s.idx.cascade.frames.length < s.cascadeOps.length) &&
      decide (seqBit ≠ ((s.idx.cascade.expected + s.idx.cascade.frames.length) % 2 == 1))) &&
    (let s : State := { cascaded with q.ops := [op0 9 2 0x36 (pkt [(8, 0x10), (10, 1)])] }; let hit : Bool := true;
      let seqBit : Bool := true; let guard : Bool := false; decide (s.idx.cascade.enable = true) &&
      decide (s.idx.cascade.head = false) && decide (s.idx.cascade.desync = false) && decide (guard = false) &&
      decide (s.idx.cascade.frames.length < s.cascadeOps.length) &&
      decide (seqBit = ((s.idx.cascade.expected + s.idx.cascade.frames.length) % 2 == 1))) &&
    (let s : State := { cascaded with idx.cascade := { cascaded.idx.cascade with frames := [true] } }; let k : Nat := 0;
      (s.idx.cascade.upstream).any (fun up => (s.idx.cascade.waiting.find? (·.seq == s.idx.cascade.expected)).any (fun x => true))) &&
    (let s : State := { cascaded with clock.now := 200000 }; let x : CascadeSearch := ⟨9, 5, true, 77, 10⟩;
      decide (x ∈ s.idx.cascade.waiting) && decide (s.idx.cascade.enable = true) && decide (s.idx.cascade.head = false) &&
      decide (s.idx.cascade.frames.length ≤ (x.seq + 65536 - s.idx.cascade.expected) % 65536) &&
      decide (x.since + 100000 ≤ s.clock.now)) &&
    (let s : State := cascaded; let f : Fn := f0; let tee : Bool := false; let v : Nat := 2 ^ 31; decide (s.hears f tee = true) &&
      decide (s.wake.boot.link = true) && decide (s.wake.mayWrite f = true) && decide (bit v 31 = true)) &&
    (let s : State := indexed; let bank : Nat := 5; let p : Nat := 3;
      ((s.bankList bank).find? (·.pos == p / max 1 (s.bank bank).width)).any (fun e => let u : State := (s.loseEntry e).log ⟨.dataLoss, 0x0123, 0x2000 + 0x100 * (bank / 64) + bank % 64, none, none, some (e.pos * max 1 (s.bank bank).width), 0, false⟩;
      decide (((u.idx.parity.filter (fun x => u.clock.now < x.2 + 1000000000)).filter (fun x => x.1 == bank)).length < 3)))
    ) = true := by
  decide +kernel

/-- PlacementEvents: a state and operands that meet the hypotheses of each clause. -/
theorem witness_PlacementEvents :
    (
    (let s : State := { cold with boot.dimms := [] }; let tier : Nat := 1; decide (s.boot.halted = false) &&
      ((List.range 16).all (fun p => quotaLimit s.stg.live p tier == 2 ^ 64 - 1)) &&
      decide (s.usable tier * policyHigh s.stg.live tier < s.useAll tier * 100)) &&
    (let s : State := { cold with stg.live := ⟨2, 1, 4096 * 2 ^ 64⟩ :: cold.stg.live }; let tier : Nat := 1; let p : Nat := 0;
      decide (s.boot.halted = false) && decide (p < 16) && decide (quotaLimit s.stg.live p tier ≠ 2 ^ 64 - 1) &&
      decide (quotaLimit s.stg.live p tier * policyHigh s.stg.live tier < s.use p tier * 100) &&
      (let u : State := s.demoteWhile tier 0x01 (fun u => quotaLimit s.stg.live p tier * policyLow s.stg.live tier / 100 < u.staying p tier) (fun _ _ => true) ((s.cands tier).filter (fun c => c.part = p));
      ((List.range 16).all (fun q => q == p || (quotaLimit s.stg.live q tier == 2 ^ 64 - 1 &&
      quotaLimit u.stg.live q tier == 2 ^ 64 - 1))) &&
      decide (u.useAll tier * 100 ≤ u.usable tier * policyHigh s.stg.live tier))) &&
    (let s : State := cold; let tier : Nat := 2; decide (s.boot.halted = false) && decide (tier < 3)) &&
    (let s : State := { cold with store.blocks := [{ blk 0 0 true with pages := [{ page 0 with tier := 3 }, { page 1 with tier := 3 }] }, blk 1 1 false] };
      decide (s.boot.halted = false) && decide (s.usable 3 * policyHigh s.stg.live 3 < s.useAll 3 * 100)) &&
    (let s : State := { cold with tiers.probeHits := [0] }; let id : Nat := 0; decide (s.boot.halted = false) &&
      (s.block id).any (fun b => decide (b.sealed = true) && decide (0 < b.slowest) &&
      decide (∀ m ∈ s.tiers.moves, m.blocks.contains b.id = false) && decide (s.tiers.probeHits.contains b.id = true))) &&
    (let s : State := cold; let id : Nat := 0; let why := (PromoteWhy.plan); decide (s.boot.halted = false) &&
      (s.block id).any (fun b => decide (b.sealed = true) && decide (0 < b.slowest) &&
      decide (∀ m ∈ s.tiers.moves, m.blocks.contains b.id = false))) &&
    (let s : State := { cold with stg.live := ⟨9, 0, policyReset⟩ :: cold.stg.live, clock.now := 10 ^ 13 }; let id : Nat := 0;
      decide (s.boot.halted = false) && (s.block id).any (fun b => decide (b.sealed = true) && decide (0 < b.slowest) &&
      decide (∀ m ∈ s.tiers.moves, m.blocks.contains b.id = false) && decide (s.soon b = true))) &&
    (let s : State := { cold with store.pins := [⟨0, 1, [0], 10 ^ 12, some 0, 0, 0x1000⟩] }; let id : Nat := 0;
      decide (s.boot.halted = false) && (s.block id).any (fun b => decide (b.sealed = true) && decide (0 < b.slowest) &&
      decide (∀ m ∈ s.tiers.moves, m.blocks.contains b.id = false) && decide (s.pinTier b.id < b.slowest))) &&
    (let s : State := { cold with tiers.hints := [⟨0, 0, [0], 0, 0, 10 ^ 12⟩] }; let id : Nat := 0;
      decide (s.boot.halted = false) && (s.block id).any (fun b => decide (b.sealed = true) && decide (0 < b.slowest) &&
      decide (∀ m ∈ s.tiers.moves, m.blocks.contains b.id = false) &&
      (match s.tiers.hints with | [h] => decide (h.kind = 0) | _ => false))) &&
    (let s : State := cold; let id : Nat := 0; decide (s.boot.halted = false) &&
      (s.block id).any (fun b => decide (b.sealed = true) && decide (0 < b.slowest) &&
      decide (∀ m ∈ s.tiers.moves, m.blocks.contains b.id = false) && (s.nsOf b).any (fun n => true))) &&
    (let s : State := tiled; let slot : Nat := 0; let i : Nat := 0; decide (s.boot.halted = false) &&
      (s.tileAt (slot, i)).any (fun (w, x) => decide (s.queued (.tile w x) = false) && decide (x.tier ≠ 0))) &&
    (let s : State := { tiled with clock.now := 10 ^ 13 }; let slot : Nat := 0; let i : Nat := 0;
      decide (s.boot.halted = false) && (s.tileAt (slot, i)).any (fun (w, x) => decide (s.queued (.tile w x) = false) &&
      decide (x.tier ≠ 0) && decide (s.soonAt (some (s.tileUse x)) = true))) &&
    (let s : State := tiled; let slot : Nat := 0; let i : Nat := 0; decide (s.boot.halted = false) &&
      (s.tileAt (slot, i)).any (fun (w, x) => decide (s.queued (.tile w x) = false))) &&
    (let s : State := { cold with tiers.moves := [move0] }; let task : Nat := 4; decide (s.boot.halted = false) &&
      decide (s.boot.full = true) && decide (s.memoriesAwake = true) &&
      (s.tiers.moves.find? (·.id == task)).any (fun m => true)) &&
    (let s : State := { base with q.pools := [⟨.parameter 0, 0, 0, 0, 0, 9, []⟩] }; let task : Nat := 4; let cls : Nat := 4;
      let locus : Nat := 0; let p : Pool := .parameter 0; let run : State → State := id;
      decide (cls = 4 → s.busyBefore 4 = false) && decide (s.q.granted.find? (·.1 == task) = none) &&
      (s.bufPool p).any (fun b => decide ((b.partFor (2 ^ 16 + task) cls).isSome = true))) &&
    (let s : State := { base with q.pools := [⟨.parameter 0, 2496, 0, 0, 0, 0, []⟩] }; let task : Nat := 4; let cls : Nat := 4;
      let locus : Nat := 0; let p : Pool := .parameter 0; let run : State → State := id;
      decide (cls = 4 → s.busyBefore 4 = false) && decide (s.q.granted.find? (·.1 == task) = none) &&
      (s.bufPool p).any (fun b => decide (b.partFor (2 ^ 16 + task) cls = none)))
    ) = true := by
  decide +kernel

/-- PlacementCommands: a state and operands that meet the hypotheses of each clause. -/
theorem witness_PlacementCommands :
    (
    (let s : State := many; let c : Cmd := dat [(4, 0x1000), (8, 0x100000), (56, 0x1000)];
      (s.begins 0x50 c).any (fun (o, t) => decide (o.p 28 1 < 4) && decide (o.buf % 64 = 0) &&
      (t.nsAny o.handle).any (fun n => decide ((o.p 12 1 ≠ 0 ∨ (t.chainOf n (o.p 8 4)).all (fun c => c.lost.isNone &&
      !t.filling c) = true)) &&
      (viewOf t o n).any (fun v => (o.selects n v).any (fun (first, count) => decide (t.tooEarly v first count = false) &&
      decide (64 < count) && (o.layersOf n).any (fun (lay, layers) => true)))))) &&
    (let s : State := stored; let c : Cmd := dat [(4, 0x1000), (8, 0x100000), (16, 1), (20, 1), (32, 0xFFFFFFFF), (56, 0x1000)];
      (s.begins 0x50 c).any (fun (o, t) => decide (o.p 28 1 < 4) && decide (o.buf % 64 = 0) &&
      (t.nsAny o.handle).any (fun n => decide ((o.p 12 1 ≠ 0 ∨ (t.chainOf n (o.p 8 4)).all (fun c => c.lost.isNone &&
      !t.filling c) = true)) &&
      (viewOf t o n).any (fun v => (o.selects n v).any (fun (first, count) => decide (t.tooEarly v first count = false) &&
      decide (count ≤ 64) &&
      (o.layersOf n).any (fun (lay, layers) => (match (List.range count).foldl (fun a i => fetchBlock o n v first count lay layers a (first + i)) (.go 0 0 (t.setOp o.tag (fun o => { o with view := some v }))) with | .go b p u => true | _ => false))))))) &&
    (let s : State := stored; let c : Cmd := dat [(4, 0x1000), (8, 0x100000), (24, 0), (30, 0xFF), (56, 0x1000)];
      (s.begins 0x51 c).any (fun (o, t) => decide (o.work = .nothing) && decide (o.p 29 1 < 4) && decide (o.p 28 1 < 2) &&
      decide (bit (o.p 29 1) 0 = false) &&
      (t.nsAny o.handle).any (fun n => decide ((o.p 12 1 ≠ 0 ∨ (t.chainOf n (o.p 8 4)).all (fun c => c.lost.isNone &&
      !t.filling c) = true)) && decide (n.active = true) &&
      (viewOf t o n).any (fun v => (o.selects n v).any (fun (first, count) => decide (t.tooEarly v first count = false) &&
      decide (missingResult v.refs first count = none) && (o.layersOf n).any (fun (lay, layers) => true)))))) &&
    (let s : State := tiled; let c : Cmd := dat [(8, 0x1000), (20, 1), (29, 1), (30, 0xFF), (56, 0x1000)];
      (s.begins 0x51 c).any (fun (o, t) => decide (o.work = .nothing) && decide (o.p 29 1 < 4) &&
      decide (bit (o.p 29 1) 0 = true) && decide (o.handle = 0) && decide (o.p 28 1 = 0) && decide (o.p 12 1 = 0) &&
      decide (o.p 24 2 = 0) && (t.weightOf (o.p 8 4)).any (fun w => decide (o.p 16 4 + o.p 20 4 ≤ w.count) &&
      decide (t.mayPart (t.opFn o) w.partition = true) && decide (t.tilesEarly w (o.p 16 4) (o.p 20 4) = false)))) &&
    (let t : State := stored; let o : Op := op0 9 2 0x51 (pkt [(4, 0x1000), (8, 0x100000), (30, 0xFF), (36, 4096), (56, 0x1000)]);
      let x : Source2 := .kv ns0 view0 0 1; let layers : Nat := 2; let part : Nat := 0;
      decide (o.p 30 1 = 0xFF ∨ o.p 30 1 < 32) && decide (o.expert = true → o.p 31 1 < 16) && decide (o.p 40 4 = 0) &&
      decide (o.buf % 64 = 0) &&
      decide (outboundDenied (t.itemsOf o) (t.portFn o (t.portOf o (o.p 30 1))) o.buf ((layers - 1) * x.y + x.y) = false) &&
      (t.port (t.portOf o (o.p 30 1))).any (fun p => decide (p.linked = true) &&
      decide (1 ≤ layers * x.unitsPerLayer p.unitSize) &&
      (let s : State := (t.setOp o.tag (fun o => { o with work := .sent [] })).queueDeliver o x layers (t.portOf o (o.p 30 1)) ((t.setOp o.tag (fun o => { o with work := .sent [] })).queueOf o (t.portOf o (o.p 30 1)) part 1 (if o.expert then o.p 31 1 else 0)) p.unitSize;
      true))) &&
    (let s : State := stored; let c : Cmd := dat [(4, 0x1000), (8, 0x100000), (28, 1)];
      (s.begins 0x52 c).any (fun (o, t) => decide (1 ≤ o.p 28 1) && decide (o.p 28 1 ≤ 3) && decide (o.p 29 1 < 2) &&
      decide (o.expert = true → o.p 30 1 < 4 ∨ o.p 30 1 = 0xFF) && decide (t.boot.full = true) &&
      decide (o.p 28 1 = 2 → t.hasLease = true) && decide (o.p 28 1 = 3 → t.foot.sanitising = false) &&
      (t.nsAny o.handle).any (fun n => decide ((o.p 12 1 ≠ 0 ∨ (t.chainOf n (o.p 8 4)).all (fun c => c.lost.isNone &&
      !t.filling c) = true)) && decide (o.p 28 1 ≤ n.lowest) &&
      (viewOf t o n).any (fun v => (o.selects n v).any (fun (first, count) => true))))) &&
    (let s : State := cold; let c : Cmd := dat [(4, 0x1000), (8, 0x100000)];
      (s.begins 0x53 c).any (fun (o, t) => decide (o.p 28 1 ≤ 2) && decide (o.p 29 1 < 2) && decide (t.boot.full = true) &&
      decide (o.p 28 1 = 2 → t.hasLease = true) &&
      (t.nsAny o.handle).any (fun n => decide ((o.p 12 1 ≠ 0 ∨ (t.chainOf n (o.p 8 4)).all (fun c => c.lost.isNone &&
      !t.filling c) = true)) &&
      (viewOf t o n).any (fun v => (o.selects n v).any (fun (first, count) => (o.layersOf n).any (fun (lay, layers) => true)))))) &&
    (let s : State := dropping 2; let c : Cmd := dat [(4, 0x1000), (8, 0x100000)];
      (s.begins 0x54 c).any (fun (o, t) => (t.nsAny o.handle).any (fun n => decide ((o.p 12 1 ≠ 0 ∨ (t.chainOf n (o.p 8 4)).all (fun c => c.lost.isNone &&
      !t.filling c) = true)) && decide (n.dropClass = true) &&
      (viewOf t o n).any (fun v => (o.selects n v).any (fun (first, count) => decide (count ≤ 1024) &&
      decide (t.movedFirst o ((List.range count).filterMap (fun i => v.blockAt (first + i))) = false)))))) &&
    (let s : State := dropping 1025; let c : Cmd := dat [(4, 0x1000), (8, 0x100000)];
      (s.begins 0x54 c).any (fun (o, t) => (t.nsAny o.handle).any (fun n => decide ((o.p 12 1 ≠ 0 ∨ (t.chainOf n (o.p 8 4)).all (fun c => c.lost.isNone &&
      !t.filling c) = true)) && decide (n.dropClass = true) &&
      (viewOf t o n).any (fun v => (o.selects n v).any (fun (first, count) => decide (1024 < count)))))) &&
    (let s : State := stored; let c : Cmd := dat [(1, 128), (4, 0x1000), (8, 0x100000), (28, 3)];
      (s.begins 0x55 c).any (fun (o, t) => decide (o.expert = true) && decide (o.p 29 1 ≤ 3) && decide (o.p 28 1 = 3) &&
      (t.nsAny o.handle).any (fun n => decide ((o.p 12 1 ≠ 0 ∨ (t.chainOf n (o.p 8 4)).all (fun c => c.lost.isNone &&
      !t.filling c) = true)) &&
      (viewOf t o n).any (fun v => (o.selects n v).any (fun (first, count) => let ids : List Nat := (List.range count).filterMap (fun i => v.blockAt (first + i));
      true))))) &&
    (let s : State := stored; let c : Cmd := dat [(1, 128), (4, 0x1000), (8, 0x100000), (28, 1), (40, 1)];
      (s.begins 0x55 c).any (fun (o, t) => decide (o.expert = true) && decide (o.p 29 1 ≤ 3) && decide (o.p 28 1 < 3) &&
      decide (1 ≤ o.p 40 4) && decide (o.p 40 4 ≤ 3600000) &&
      (t.nsAny o.handle).any (fun n => decide ((o.p 12 1 ≠ 0 ∨ (t.chainOf n (o.p 8 4)).all (fun c => c.lost.isNone &&
      !t.filling c) = true)) &&
      (viewOf t o n).any (fun v => (o.selects n v).any (fun (first, count) => let ids : List Nat := (List.range count).filterMap (fun i => v.blockAt (first + i));
      decide ((t.unhint (fun h => h.kind != o.p 28 1) ids).tiers.hints.length < 65536) &&
      (let u : State := { t.unhint (fun h => h.kind != o.p 28 1) ids with tiers.hints := (t.unhint (fun h => h.kind != o.p 28 1) ids).tiers.hints ++ [⟨t.tiers.nextHint, o.p 28 1, ids, o.p 29 1, o.p 32 8, t.clock.now + o.p 40 4 * 1000000⟩], tiers.nextHint := t.tiers.nextHint + 1 };
      true)))))) &&
    (let s : State := stored; let c : Cmd := dat [(4, 0x1000), (8, 2), (56, 0x1000)];
      (s.begins 0x56 c).any (fun (o, t) => decide (o.p 8 1 = 2) &&
      (t.nsAny o.handle).any (fun n => decide (t.mayPart (t.opFn o) n.partition = true) &&
      (t.wrote o o.buf (t.nsStats n)).any (fun w => true)))) &&
    (let s : State := stored; let c : Cmd := dat [(8, 1)]; (s.begins 0x56 c).any (fun (o, t) => decide (o.handle = 0) &&
      decide (partValid (t.itemsOf o) (o.p 9 1) = true) && decide (t.mayPart (t.opFn o) (o.p 9 1) = true) &&
      decide (o.p 8 1 = 1))) &&
    (let s : State := stored; let c : Cmd := dat [(12, 64), (56, 0x1000)];
      (s.begins 0x56 c).any (fun (o, t) => decide (o.handle = 0) && decide (partValid (t.itemsOf o) (o.p 9 1) = true) &&
      decide (t.mayPart (t.opFn o) (o.p 9 1) = true) && decide (o.p 8 1 = 0) && ((List.range 17).any (fun k => decide (6 ≤ k) &&
      o.p 12 4 == 2 ^ k)) && decide (o.buf % 32 = 0)))
    ) = true := by
  decide +kernel

/-- LeaseStates: a state and operands that meet the hypotheses of each clause. -/
theorem witness_LeaseStates :
    (
    (let s : State := leased lease5; let c : Cmd := dat [(1, 128), (56, 0x1000)];
      (s.begins 0x57 c).any (fun (o, t) => decide (o.wait = .none) && decide (o.p 8 1 = 0) &&
      (t.wrote o o.buf (((t.tiers.leases.take 16).flatMap (Lease.bytes t.clock.now)) ++ leBytes (32 * (16 - t.tiers.leases.length)) 0)).any (fun w => true))) &&
    (let s : State := leased lease5; let c : Cmd := dat [(1, 128), (8, 2), (12, 5)];
      (s.begins 0x57 c).any (fun (o, t) => decide (o.wait = .none) && decide (o.expert = true) && decide (o.p 8 1 = 2) &&
      (t.lease (o.p 12 4)).any (fun l => decide (l.state = .active) && decide (l.borrower = false)))) &&
    (let s : State := leased { lease5 with borrower := true }; let c : Cmd := dat [(1, 128), (8, 3), (12, 5)];
      (s.begins 0x57 c).any (fun (o, t) => decide (o.wait = .none) && decide (o.expert = true) && decide (o.p 8 1 = 3) &&
      (t.lease (o.p 12 4)).any (fun l => decide (l.state = .active) && decide (l.borrower = true)))) &&
    (let s : State := leased lease5; let c : Cmd := dat [(1, 128), (8, 1), (10, 3), (16, 1), (22, 60)];
      (s.begins 0x57 c).any (fun (o, t) => decide (o.wait = .none) && decide (o.expert = true) && decide (o.p 8 1 = 1) &&
      decide (1 ≤ o.p 16 4) && decide (o.p 16 4 ≤ 65535) && decide (1 ≤ o.p 22 2) && decide (o.p 22 2 ≤ 60) &&
      decide (t.leaseCount true < 8) && (let p : Nat := o.p 10 2; decide (p < 1024) && decide (t.lendsWith p = true) &&
      decide (∀ l ∈ t.tiers.leases, l.borrower = true → l.partner ≠ p)))) &&
    (let s : State := { lending with tiers.highSince := some 0, clock.now := 10 ^ 9, boot.dimms := [] }; let p : Nat := 3;
      decide (policyFlag s.stg.live 3 = true) && (s.tiers.highSince.any (fun t => decide (t + 1000000000 ≤ s.clock.now))) &&
      decide (s.usable 3 * policyHigh s.stg.live 3 ≤ s.useAll 3 * 100) && decide (s.claimed = true) &&
      decide (s.boot.halted = false) && decide (s.lenderTurn = some p) && decide (s.leaseCount true < 8)) &&
    (let s : State := lending; let p : Nat := 3; let id : Nat := 7; let cap : Nat := 1; let rate : Nat := 0;
      let notice : Nat := 5; let term : Nat := 0; decide (policyFlag s.stg.live 2 = true) && decide (s.claimed = true) &&
      decide (s.boot.halted = false) && decide (s.lendsWith p = true) && decide (s.leaseCount false < 8) &&
      decide (s.lent + cap * 2 ^ 30 ≤ s.lendable * policyShare s.stg.live / 256)) &&
    (let s : State := leased { lease5 with borrower := true, state := .requested }; let id : Nat := 5;
      (s.lease id).any (fun l => decide (l.borrower = true) && decide (l.state = .requested) &&
      decide (l.changed + 10000000 ≤ s.clock.now))) &&
    (let s : State := leased { lease5 with borrower := true, state := .requested }; let id : Nat := 5;
      (s.lease id).any (fun l => decide (l.borrower = true) && decide (l.state = .requested))) &&
    (let s : State := leased { lease5 with borrower := true }; let id : Nat := 5;
      (s.lease id).any (fun l => decide (l.state = .active) && decide (l.borrower = true))) &&
    (let s : State := leased { lease5 with term := 1 }; let id : Nat := 5;
      (s.lease id).any (fun l => decide (l.state = .active) && decide (l.term ≠ 0) &&
      decide (l.since + l.term * 1000000000 ≤ s.clock.now))) &&
    (let s : State := leased lease5; let id : Nat := 5; (s.lease id).any (fun l => decide (l.state = .active) &&
      decide (l.lastBeat + 10000000 ≤ s.clock.now))) &&
    (let s : State := leased { lease5 with state := .reclaiming }; let id : Nat := 5;
      (s.lease id).any (fun l => decide (l.state = .reclaiming) && decide (l.changed + l.notice * 1000000000 ≤ s.clock.now))) &&
    (let s : State := leased { lease5 with state := .reclaiming }; let id : Nat := 5;
      (s.lease id).any (fun l => decide (l.state = .reclaiming) && decide (l.used = 0))) &&
    (let s : State := leased { lease5 with state := .lost }; let id : Nat := 5;
      (s.lease id).any (fun l => decide (l.state = .lost)))
    ) = true := by
  decide +kernel

/-- WeightCommands: a state and operands that meet the hypotheses of each clause. -/
theorem witness_WeightCommands :
    (
    (let s : State := tiled; let c : Cmd := dat [(8, 0), (9, 3), (11, 3), (12, 1), (16, 4096), (20, 0x100)];
      (s.begins 0x58 c).any (fun (o, t) => decide (o.p 8 1 = 0) && decide (o.p 9 1 ≤ 15) && decide (o.p 9 1 ≠ 0xE) &&
      decide (o.p 10 1 ≤ 15) && decide (partValid (t.itemsOf o) (o.p 10 1) = true) && decide (o.p 11 1 ≤ 3) &&
      decide (1 ≤ o.p 12 4) && decide (o.p 12 4 ≤ 16777216) && decide (4096 ≤ o.p 16 4) && decide (o.p 16 4 ≤ 4 * 2 ^ 20) &&
      decide (o.p 16 4 % 4096 = 0) && decide ((t.binding (o.p 20 4)).isSome = true) &&
      decide (t.mayPart (t.opFn o) (o.p 10 1) = true) && decide (t.tileCount + o.p 12 4 ≤ 16777216) &&
      (lowestFree (t.tiers.weights.map (·.slot)) 0 (min 4096 (t.tiers.weights.length + 1))).any (fun i => true))) &&
    (let s : State := tiled; let c : Cmd := dat [(8, 2), (24, 0x1000), (56, 0x1000)];
      (s.begins 0x58 c).any (fun (o, t) => decide (o.p 8 1 = 2) &&
      (t.weightOf (o.p 24 4)).any (fun x => decide (t.mayPart (t.opFn o) x.partition = true) &&
      (t.wrote o o.buf x.record).any (fun w => true)))) &&
    (let s : State := tiled; let c : Cmd := dat [(8, 1), (24, 0x1000)];
      (s.begins 0x58 c).any (fun (o, t) => decide (o.p 8 1 = 1) && (t.tiers.weights.find? (fun w => w.handle == o.p 24 4 &&
      (!w.deleting || o.wait == .ended))).any (fun x => decide (t.mayPart (t.opFn o) x.partition = true) &&
      decide (x.count ≤ 1024) &&
      (let u : State := { t with tiers.weights := upd (fun w : WeightObj => w.slot == x.slot) (fun w : WeightObj => { w with deleting := true }) t.tiers.weights };
      decide (u.weightUsed x o.tag = false))))) &&
    (let s : State := { tiled with q.ops := [{ op0 30 2 0x59 (pkt [(8, 0x1000)]) with started := true, long := true }] };
      let c : Cmd := dat [(8, 1), (24, 0x1000)]; (s.begins 0x58 c).any (fun (o, t) => decide (o.p 8 1 = 1) &&
      (t.tiers.weights.find? (fun w => w.handle == o.p 24 4 &&
      (!w.deleting || o.wait == .ended))).any (fun x => decide (t.mayPart (t.opFn o) x.partition = true) &&
      decide (x.count ≤ 1024) &&
      (let u : State := { t with tiers.weights := upd (fun w : WeightObj => w.slot == x.slot) (fun w : WeightObj => { w with deleting := true }) t.tiers.weights };
      decide (u.weightUsed x o.tag = true))))) &&
    (let s : State := { tiled with tiers.weights := [⟨0, 1, 3, 0, 0, 1025, 4096, 0x100, [tile0], false⟩] };
      let c : Cmd := dat [(8, 1), (24, 0x1000)]; (s.begins 0x58 c).any (fun (o, t) => decide (o.p 8 1 = 1) &&
      (t.tiers.weights.find? (fun w => w.handle == o.p 24 4 &&
      (!w.deleting || o.wait == .ended))).any (fun x => decide (t.mayPart (t.opFn o) x.partition = true) &&
      decide (1024 < x.count) &&
      (let u : State := { t with tiers.weights := upd (fun w : WeightObj => w.slot == x.slot) (fun w : WeightObj => { w with deleting := true }) t.tiers.weights };
      true)))) &&
    (let s : State := tiled; let o : Op := op0 9 2 0x58 (pkt [(8, 1), (24, 0x1000)]); decide (o.unitsTotal ≤ o.unitsDone + 1) &&
      (s.tiers.weights.find? (fun w => w.handle == o.p 24 4)).any (fun w => decide (s.weightUsed w o.tag = false))) &&
    (let s : State := tiled; let o : Op := { op0 9 2 0x58 (pkt [(8, 1), (24, 0x1000)]) with unitsTotal := 2 };
      decide (o.unitsDone + 1 < o.unitsTotal) &&
      (s.tiers.weights.find? (fun w => w.handle == o.p 24 4)).any (fun w => decide (s.weightUsed w o.tag = false))) &&
    (let s : State := tiled; let c : Cmd := dat [(8, 0x1000), (12, 36), (16, 64), (56, 0x1000)];
      (s.begins 0x59 c).any (fun (o, t) => decide (1 ≤ o.p 16 4) && decide (o.p 16 4 ≤ 64) &&
      (t.weightOf (o.p 8 4)).any (fun x => decide (o.p 12 4 + o.p 16 4 ≤ x.count) &&
      decide (t.mayPart (t.opFn o) x.partition = true) && decide (x.tier = 3 → t.foot.sanitising = false) &&
      (t.binding x.binding).any (fun b => true)))) &&
    (let s : State := tiled; let c : Cmd := dat [(8, 0x1000), (12, 35), (16, 65), (56, 0x1000)];
      (s.begins 0x59 c).any (fun (o, t) => decide (64 < o.p 16 4) &&
      (t.weightOf (o.p 8 4)).any (fun x => decide (o.p 12 4 + o.p 16 4 ≤ x.count) &&
      decide (t.mayPart (t.opFn o) x.partition = true) && decide (x.tier = 3 → t.foot.sanitising = false) &&
      (t.binding x.binding).any (fun b => true)))) &&
    (let s : State := tiled; let o : Op := op0 9 2 0x59 0; let b : Binding := ⟨0, 1, 5, 6⟩;
      let w : WeightObj := (⟨0, 1, 3, 0, 0, 100, 4096, 0x100, [tile0], false⟩ : WeightObj); let i : Nat := 0; let n : Nat := 0;
      decide (s.weight w.slot = some w) && decide (w.tiles.any (·.index == i) = true)) &&
    (let s : State := tiled; let o : Op := op0 9 2 0x59 0; let b : Binding := ⟨0, 1, 5, 6⟩;
      let w : WeightObj := (⟨0, 1, 3, 0, 0, 100, 4096, 0x100, [tile0], false⟩ : WeightObj); let i : Nat := 1; let n : Nat := 0;
      decide (s.weight w.slot = some w) && decide (w.tiles.any (·.index == i) = false)) &&
    (let s : State := tiled; let o : Op := op0 9 2 0x59 (pkt [(56, 0x1000)]);
      let w : WeightObj := (⟨0, 1, 3, 0, 0, 100, 4096, 0x100, [tile0], false⟩ : WeightObj); let b : Binding := ⟨0, 1, 5, 6⟩;
      let i : Nat := 1;
      (match s.hostRead (s.opFn o) (s.opFn o).link (o.buf + (i - o.p 12 4) * (w.tileSize + 64)) (w.tileSize + 16) with | .ok raw => true | _ => false))
    ) = true := by
  decide +kernel

/-- FootingEvents: a state and operands that meet the hypotheses of each clause. -/
theorem witness_FootingEvents :
    (
    (let s : State := footed; let port : Nat := 40; let w : FtlWork := .eraseStale; decide (s.foot.mounted = true) &&
      decide (s.foot.sanitising = false) && decide (s.boot.halted = false) && decide (s.memoriesAwake = true) &&
      decide (port = 40 ∨ port = 41) && decide ((s.footNow.ungated w || s.footNow.footGate port) = true)) &&
    (let s : State := { footed with dlv.ports := [{ SPort.fresh [] 40 8 with active := some ⟨0, 10 ^ 6, [(0, 10 ^ 6)]⟩ }] };
      let port : Nat := 40; let w : FtlWork := .eraseStale; decide (s.foot.mounted = true) &&
      decide (s.foot.sanitising = false) && decide (s.boot.halted = false) && decide (s.memoriesAwake = true) &&
      decide (port = 40 ∨ port = 41) && decide ((s.footNow.ungated w || s.footNow.footGate port) = false)) &&
    (let s : State := nanding 2; let ch : Nat := 0; let t : State := s.nandStart ch;
      (t.nandHead ch).any (fun x => decide (x.started = true) && decide (x.kind = 2) &&
      (t.eraseBlock x.block).any (fun b => true))) &&
    (let s : State := nanding 2; let ch : Nat := 0; let t : State := s.nandStart ch;
      (t.nandHead ch).any (fun x => decide (x.started = true) && decide (x.kind = 2) &&
      (t.eraseBlock x.block).any (fun b => true))) &&
    (let s : State := nanding 1; let ch : Nat := 0; let t : State := s.nandStart ch;
      (t.nandHead ch).any (fun x => decide (x.started = true) && decide (x.kind = 1) &&
      (t.eraseBlock x.block).any (fun b => true))) &&
    (let s : State := nanding 1; let ch : Nat := 0; let t : State := s.nandStart ch;
      (t.nandHead ch).any (fun x => decide (x.started = true) && decide (x.kind = 1) &&
      (t.eraseBlock x.block).any (fun b => true))) &&
    (let s : State := nanding 0; let ch : Nat := 0; let t : State := s.nandStart ch;
      (t.nandHead ch).any (fun x => decide (x.started = true) && decide (x.kind = 0) &&
      (t.eraseBlock x.block).any (fun b => true))) &&
    (let s : State := nanding 0; let ch : Nat := 0; let t : State := s.nandStart ch;
      (t.nandHead ch).any (fun x => decide (x.started = true) && decide (x.kind = 0) &&
      (t.eraseBlock x.block).any (fun b => true))) &&
    (let s : State := nanding 0; let ch : Nat := 0; let t : State := s.nandStart ch;
      (t.nandHead ch).any (fun x => decide (x.started = true) && decide (x.kind = 0) &&
      (t.eraseBlock x.block).any (fun b => true))) &&
    (let s : State := nanding 0; let ch : Nat := 0; let other := 4; let t : State := s.nandStart ch;
      (t.nandHead ch).any (fun x => decide (x.started = true) && decide (x.kind = 0) &&
      (t.eraseBlock x.block).any (fun b => true))) &&
    (let s : State := nanding 0; let ch : Nat := 0; let t : State := s.nandStart ch;
      (t.nandHead ch).any (fun x => decide (x.started = true) &&
      (t.eraseBlock x.block).any (fun b => (t.die b.die).any (fun d => decide (d.retired = false))))) &&
    (let s : State := { footed with clock.now := 40 * 86400 * 10 ^ 9 }; let id : Nat := 3; decide (s.boot.halted = false) &&
      (s.eraseBlock id).any (fun b => decide (s.freeErase b = false) &&
      decide (30 * 86400 * 10 ^ 9 ≤ s.clock.now - b.programmedAt))) &&
    (let s : State := { footed with clock.now := 14 * 86400 * 10 ^ 9 }; let id : Nat := 3; decide (s.boot.halted = false) &&
      (s.eraseBlock id).any (fun b => decide (s.freeErase b = false) &&
      decide (14 * 86400 * 10 ^ 9 ≤ s.clock.now - b.programmedAt) &&
      decide (s.clock.now - b.programmedAt < 30 * 86400 * 10 ^ 9) &&
      decide (s.footGate (40 + s.channelOfErase b / 16) = true))) &&
    (let s : State := { footed with clock.now := 60 * 10 ^ 9 }; decide (s.foot.mounted = true) &&
      decide (s.foot.lastCompact + 60 * 10 ^ 9 ≤ s.clock.now)) &&
    (let s : State := { footed with sec.life := .unclaimed }; decide (s.managed = true) && decide (s.foot.mounted = true) &&
      decide (s.sec.life = .unclaimed) && decide (s.foot.sanitising = false)) &&
    (let s : State := { footed with foot.sanitising := true, foot.queue := [] }; decide (s.foot.sanitising = true) &&
      decide (∀ x ∈ s.foot.queue, x.kind ≠ 2))
    ) = true := by
  decide +kernel

/-- PlanCommands: a state and operands that meet the hypotheses of each clause. -/
theorem witness_PlanCommands :
    (
    (let s : State := stored;
      let c : Cmd := dat [(4, 0x1000), (8, 0x100000), (14, 0xFF), (25, 2), (26, 4), (32, 1000), (40, 1), (56, 0x80000)];
      (s.begins 0x60 c).any (fun (o, t) => decide (o.p 12 1 ≠ 2) &&
      (t.nsAny o.handle).any (fun n => decide ((o.p 12 1 ≠ 0 ∨ (t.chainOf n (o.p 8 4)).all (fun c => c.lost.isNone &&
      !t.filling c) = true)) && decide (o.p 24 1 + (if o.p 25 1 = 0 then 256 else o.p 25 1) ≤ n.geo.l) &&
      (viewOf t o n).any (fun v => (o.selects n v).any (fun (first, count) => decide (count ≠ 0) &&
      decide (t.tooEarly v first count = false) && decide (missingResult v.refs first count = none)))))) &&
    (let s : State := tiled;
      let c : Cmd := dat [(8, 0x1000), (12, 2), (20, 1), (14, 0xFF), (25, 2), (26, 4), (32, 1000), (40, 1), (56, 0x80000)];
      (s.begins 0x60 c).any (fun (o, t) => decide (o.p 12 1 = 2) && decide (o.handle = 0) && decide (o.p 13 1 = 0) &&
      decide (o.p 24 1 = 0) && decide (o.p 20 4 ≠ 0) &&
      (t.weightOf (o.p 8 4)).any (fun w => decide (t.mayPart (t.opFn o) w.partition = true) &&
      (let layers : Nat := (if o.p 25 1 = 0 then 256 else o.p 25 1); decide (o.p 16 4 + layers * o.p 20 4 ≤ w.count) &&
      decide (t.tilesEarly w (o.p 16 4) (layers * o.p 20 4) = false))))) &&
    (let t : State := stored;
      let o : Op := op0 9 2 0x60 (pkt [(4, 0x1000), (8, 0x100000), (14, 0xFF), (25, 2), (26, 4), (32, 1000), (40, 1), (56, 0x80000)]);
      let y : Nat := 4096; let part : Nat := 0; let ns : Nat := 0; let weight : Nat := 0; let count : Nat := 1;
      let v : Option View := some view0; let ap : Nat := (if o.expert then o.p 42 2 else min (2 * o.p 40 2) 256);
      let guard : Nat := (if o.expert then o.p 44 4 else 5000); let stall : Nat := (if o.expert then o.p 48 2 else 100);
      let idle : Nat := (if o.expert then o.p 50 1 else 1); let q : Nat := (if o.expert then o.p 51 1 else 0);
      let layers : Nat := (if o.p 25 1 = 0 then 256 else o.p 25 1);
      decide (o.planBad layers (o.p 26 2) (o.p 40 2) ap guard stall idle q = false) &&
      (let stride : Nat := (if o.p 28 4 = 0 then y else o.p 28 4); decide (y ≤ stride) &&
      decide (outboundDenied (t.itemsOf o) (t.portFn o (t.portOf o (o.p 14 1))) o.buf (o.p 26 2 * stride + 8 * o.p 26 2) = false) &&
      (t.planSlot).any (fun i => true))) &&
    (let s : State := planned; let c : Cmd := dat [(8, 0x1002), (16, 2)];
      (s.begins 0x61 c).any (fun (o, t) => decide (o.p 24 8 ≤ t.clock.now) &&
      (t.livePlan (o.p 8 4)).any (fun p => (p.total.all (fun k => decide (o.p 16 8 ≤ k)))))) &&
    (let s : State := planned; let f : Fn := f0; let tee : Bool := false; let slot : Nat := 2; let v : Nat := 2 ^ 44 + 2;
      decide (s.hears f tee = true) && decide (s.boot.halted = false) && (s.dlv.plans.find? (fun p => p.slot == slot && p.live &&
      p.gen == v / 2 ^ 44 % 2 ^ 20)).any (fun p => (p.total.all (fun k => decide (v % 2 ^ 44 ≤ k))))) &&
    (let s : State := planned; let f : Fn := f0; let tee : Bool := false; let slot : Nat := 2; let width : Nat := 8;
      let v : Nat := 2; decide (s.hears f tee = true) && decide (s.boot.halted = false) &&
      decide (s.dlv.plans.find? (fun p => p.slot == slot && p.live && p.gen == v / 2 ^ 44 % 2 ^ 20) = none)) &&
    (let s : State := planned; let c : Cmd := dat [(8, 0x1002)]; (s.begins 0x62 c).any (fun (o, t) => decide (o.wait = .none) &&
      decide (o.p 12 1 = 0) && (t.livePlan (o.p 8 4)).any (fun p => let u : State := ((t.purge (fun u : SUnit => u.off = 0 &&
      (match u.src with | .plan x _ => x == p.tag | .op _ | .msg .. => false))).setPlan { p with ending := some .aborted, cut := ((List.range (p.issued - p.firstOut)).map (· + p.firstOut)).filter (fun m => t.planUnits p.tag m != 0) }).planCheck p.tag;
      decide (u.livePlan (o.p 8 4) = none) && (u.plan (o.p 8 4)).any (fun q => true)))) &&
    (let s : State := { planned with dlv.plans := [{ plan0 with state := .running, issued := 2, firstOut := 1, tick := some (0, 1), passes := 2 }] };
      let c : Cmd := dat [(8, 0x1002), (12, 1)]; (s.begins 0x62 c).any (fun (o, t) => decide (o.wait = .none) &&
      decide (o.p 12 1 = 1) && (t.livePlan (o.p 8 4)).any (fun p => decide (p.n < p.issued) &&
      (let u : State := ((t.purge (fun u : SUnit => u.off = 0 &&
      (match u.src with | .plan x m => x == p.tag && decide (p.n < m) | .op _ | .msg .. => false))).setPlan { p with finishTo := some p.n, cut := ((List.range (p.issued - p.firstOut)).map (· + p.firstOut)).filter (fun m => decide (p.n < m) && t.planUnits p.tag m != 0) }).planCheck p.tag;
      (u.livePlan (o.p 8 4)).any (fun q => true))))) &&
    (let s : State := { planned with dlv.plans := [{ plan0 with state := .running, issued := 2, firstOut := 2, tick := some (0, 1), passes := 2 }] };
      let c : Cmd := dat [(8, 0x1002), (12, 1)]; (s.begins 0x62 c).any (fun (o, t) => decide (o.wait = .none) &&
      decide (o.p 12 1 = 1) && (t.livePlan (o.p 8 4)).any (fun p => decide (p.n < p.issued) &&
      (let u : State := ((t.purge (fun u : SUnit => u.off = 0 &&
      (match u.src with | .plan x m => x == p.tag && decide (p.n < m) | .op _ | .msg .. => false))).setPlan { p with finishTo := some p.n, cut := ((List.range (p.issued - p.firstOut)).map (· + p.firstOut)).filter (fun m => decide (p.n < m) && t.planUnits p.tag m != 0) }).planCheck p.tag;
      decide (u.livePlan (o.p 8 4) = none) && (u.plan (o.p 8 4)).any (fun q => true))))) &&
    (let s : State := planned; let c : Cmd := dat [(8, 0x1002), (56, 0x1000)];
      (s.begins 0x63 c).any (fun (o, t) => (t.plan (o.p 8 4)).any (fun p => decide (p.live = true ∨ ∀ x ∈ t.q.ops, x.tag ≠ p.tag) &&
      (t.wrote o o.buf p.record).any (fun w => true))))
    ) = true := by
  decide +kernel

/-- DeliveryEvents: a state and operands that meet the hypotheses of each clause. -/
theorem witness_DeliveryEvents :
    (
    (let s : State := { planned with dlv.plans := [{ plan0 with state := .running, issued := 1, tick := some (0, 1) }] };
      let plan : Nat := 0x1002;
      (s.livePlan plan).any (fun p => (s.unflagged p).any (fun m => (s.op p.tag).any (fun o => (match (s.actFor o).hostWrite (s.portFn o p.port) p.port (p.base + p.slots * p.stride + 8 * (m % p.slots)) (leBytes 8 (m + 1)) with | .ok t => true | _ => false))))) &&
    (let s : State := { planned with clock.now := 10 ^ 9, dlv.plans := [{ plan0 with state := .running, issued := 1, tick := some (0, 1) }] };
      let plan : Nat := 0x1002; let seq : Nat := 1; (s.livePlan plan).any (fun p => decide (p.state ≠ .stalled) &&
      decide (p.firstOut ≤ seq) && decide (seq ∉ p.landed) && decide (seq ∉ p.skipped) && decide (seq ∉ p.missed) &&
      (p.total.all (fun k => decide (seq < k))) && (p.deadline seq).any (fun d => decide (d < s.clock.now)))) &&
    (let s : State := { planned with clock.now := 10 ^ 9 }; let plan : Nat := 0x1002;
      (s.livePlan plan).any (fun p => decide (p.state ≠ .stalled) && decide (p.lastTick + p.stallMs * 10 ^ 6 ≤ s.clock.now))) &&
    (let s : State := { planned with clock.now := 10 ^ 10, dlv.plans := [{ plan0 with state := .stalled }] };
      let plan : Nat := 0x1002; (s.livePlan plan).any (fun p => decide (p.state = .stalled) &&
      decide (p.stalledAt + p.idleS * 10 ^ 9 ≤ s.clock.now))) &&
    (let s : State := sending; let port : Nat := 0; let tag : Nat := 41; decide (s.boot.linkwatch = false) &&
      decide (s.macShut port = false) && (s.port port).any (fun p => decide (p.linked = true) &&
      decide (p.sentUntil ≤ s.clock.now) &&
      (pickHead (p.heads s.stg.live s.clock.now)).any (fun h => decide (h.unit.src = .op tag) &&
      (((s.setPort (p.hold (p.heads s.stg.live s.clock.now))).bump (0x403 + 4 * port) ((p.heads s.stg.live s.clock.now).filter (fun h => h.colour = .red)).length).port port).any (fun p' => true)))) &&
    (let s : State := { base with dlv.ports := [{ SPort.fresh [] 0 64 with pending := some ⟨0, 10 ^ 6, [(0xFFFF, 10 ^ 6)]⟩ }] };
      let port : Nat := 0; (s.port port).any (fun p => (p.pending).any (fun g => decide (g.takeover ≤ s.clock.now)))) &&
    (let s : State := { base with dlv.ports := [{ SPort.fresh [] 0 64 with active := some ⟨0, 10 ^ 6, [(0xFFFF, 10 ^ 6)]⟩ }] };
      let port : Nat := 0; (s.port port).any (fun p => (p.active).any (fun g => true))) &&
    (let s : State := sending; let port : Nat := 0; let queue : Nat := 1;
      (s.port port).any (fun p => let t := tollOf s.stg.live port queue; true))
    ) = true := by
  decide +kernel

/-- AttentionCommands: a state and operands that meet the hypotheses of each clause. -/
theorem witness_AttentionCommands :
    (
    (let s : State := attending; let c : Cmd := attPkt [];
      (s.begins 0x70 c).any (fun (o, t) => (t.nsAny o.handle).any (fun n => decide ((o.p 12 1 ≠ 0 ∨ (t.chainOf n (o.p 8 4)).all (fun c => c.lost.isNone &&
      !t.filling c) = true)) && decide (n.active = true) &&
      (viewOf t o n).any (fun v => (match t.attJudge o n with | .ok d => (match ({ o with view := some v } : Op).entries.map (({ o with view := some v } : Op).ctx d [] n) with | x :: xs => decide (x.nk ≤ v.n) && decide (t.attEarly x = false) && decide (x.missing = none) | _ => false) | _ => false))))) &&
    (let s : State := attending; let c : Cmd := attPkt [(32, 64)]; (s.begins 0x71 c).any (fun (o, t) => decide (o.p 12 1 ≠ 2) &&
      (t.nsAny o.handle).any (fun n => decide ((o.p 12 1 ≠ 0 ∨ (t.chainOf n (o.p 8 4)).all (fun c => c.lost.isNone &&
      !t.filling c) = true)) &&
      (viewOf t o n).any (fun v => decide (∀ e ∈ ({ o with view := some v } : Op).entries, e.2.1 ≤ v.n) &&
      (match t.attJudge o n with | .ok d => true | _ => false))))) &&
    (let s : State := listing;
      let c : Cmd := dat [(4, 0x1000), (8, 1), (12, 2), (14, 7), (18, 1), (32, 64), (40, 0x1000), (48, 0xFF), (56, 0x2000)];
      (s.begins 0x71 c).any (fun (o, t) => decide (o.p 12 1 = 2) && decide (o.view = none) && decide (o.work = .nothing) &&
      (t.nsAny o.handle).any (fun n => (match t.attJudge o n with | .ok d => (t.got o (o.p 40 8) (16 * o.p 8 4)).any (fun b => (match t.readList n (Mem.write [] 0 b) 0 (o.p 8 4) with | .ok l => true | _ => false)) | _ => false)))) &&
    (let s : State := attending; let o : Op := (op0 5 2 0x70 (attPkt []).pkt); let n : Namespace := ns0;
      let cs : List AttCtx := [⟨Mem.write [] 0 desc0, [], ns0, view0, 20, 0, 0, 0, 1, false⟩];
      let l : List (Nat × Nat × Bool) := [(0, 0, false)]; decide (s.belowDeck cs l = []) &&
      (let piers : List Nat := (l.filterMap (fun x => (cs[x.1]?).bind (fun c => (s.attPage c x.2.1).map (fun y => y.2.home)))).eraseDups;
      decide (∀ p ∈ piers, s.ctxUsed p < 2048 ∨ p ∈ o.contexts))) &&
    (let s : State := { attending with q.ops := (List.range 2048).map (fun i => { op0 (100 + i) 2 0x70 0 with contexts := [0] }) };
      let o : Op := (op0 5 2 0x70 (attPkt []).pkt); let n : Namespace := ns0;
      let cs : List AttCtx := [⟨Mem.write [] 0 desc0, [], ns0, view0, 20, 0, 0, 0, 1, false⟩];
      let l : List (Nat × Nat × Bool) := [(0, 0, false)]; decide (s.belowDeck cs l = []) &&
      (let piers : List Nat := (l.filterMap (fun x => (cs[x.1]?).bind (fun c => (s.attPage c x.2.1).map (fun y => y.2.home)))).eraseDups;
      decide (∃ p ∈ piers, 2048 ≤ s.ctxUsed p ∧ p ∉ o.contexts))) &&
    (let s : State := { attending with q.ops := [{ op0 5 2 0x70 0 with started := true }] }; let tag : Nat := 5;
      (s.op tag).any (fun o => decide (o.started = true) && decide (o.opcode = 0x70))) &&
    (let s : State := { attending with q.ops := [{ op0 5 2 0x71 0 with started := true }] }; let tag : Nat := 5;
      (s.op tag).any (fun o => decide (o.started = true) && decide (o.opcode = 0x71))) &&
    (let s : State := merging; let tag : Nat := 5; (s.op tag).any (fun o => decide (o.wait = .merge) && decide (o.long = false) &&
      (s.nsAny o.handle).any (fun n => decide (∀ x ∈ s.attCtxs o n, x.missing = none) &&
      decide (s.belowDeck (s.attCtxs o n) (s.attended o (s.attCtxs o n)) = []) &&
      (match s.attWrite o n (s.attCtxs o n) (s.attended o (s.attCtxs o n)) with | .ok (r, t) => true | _ => false)))) &&
    (let s : State := { attending with host := Mem.write [] 0x1000 desc0 }; let c : Cmd := dat [(8, 7), (10, 0), (56, 0x1000)];
      (s.begins 0x72 c).any (fun (o, t) => decide (o.p 8 2 < 4096) && decide (partValid (t.itemsOf o) (o.p 11 1) = true) &&
      decide (t.mayPart (t.opFn o) (o.p 11 1) = true) && ((t.desc (o.p 8 2)).all (fun d => d.partition == o.p 11 1)) &&
      decide (o.p 10 1 = 0) && decide (o.buf % 64 = 0) &&
      (t.got o o.buf 1024).any (fun b => decide (descOk (Mem.write [] 0 b) = true)))) &&
    (let s : State := attending; let c : Cmd := dat [(8, 7), (10, 1)];
      (s.begins 0x72 c).any (fun (o, t) => decide (o.p 8 2 < 4096) && decide (partValid (t.itemsOf o) (o.p 11 1) = true) &&
      decide (t.mayPart (t.opFn o) (o.p 11 1) = true) && ((t.desc (o.p 8 2)).all (fun d => d.partition == o.p 11 1)) &&
      decide (o.p 10 1 = 1) && decide ((t.desc (o.p 8 2)).isSome = true))) &&
    (let s : State := attending; let c : Cmd := dat [(8, 7), (10, 2), (56, 0x1000)];
      (s.begins 0x72 c).any (fun (o, t) => decide (o.p 8 2 < 4096) && decide (partValid (t.itemsOf o) (o.p 11 1) = true) &&
      decide (t.mayPart (t.opFn o) (o.p 11 1) = true) && ((t.desc (o.p 8 2)).all (fun d => d.partition == o.p 11 1)) &&
      decide (o.p 10 1 = 2) && decide (o.buf % 64 = 0) &&
      (t.desc (o.p 8 2)).any (fun d => (t.wrote o o.buf (d.bytes.read 0 1024)).any (fun w => true)))) &&
    (let s : State := attending; let c : Cmd := dat [(9, 0xFF), (10, 16)];
      (s.begins 0x73 c).any (fun (o, t) => decide (1 ≤ o.p 10 2) && decide (o.p 10 2 ≤ 16) && decide (o.p 8 1 = 0) &&
      decide (o.p 9 1 = 0 ∨ o.p 9 1 = 1 ∨ o.p 9 1 = 0xFF) &&
      decide ((t.att.windows.filter (·.2 == o.qp)).length + o.p 10 2 ≤ 64) &&
      (((if o.p 9 1 = 1 then none else t.windowRun 0 (o.p 10 2)).or (if o.p 9 1 = 0 then none else t.windowRun 1 (o.p 10 2)))).any (fun w => true))) &&
    (let s : State := attending; let c : Cmd := dat [(8, 1), (9, 0xFF), (10, 1), (12, 0)];
      (s.begins 0x73 c).any (fun (o, t) => decide (1 ≤ o.p 10 2) && decide (o.p 10 2 ≤ 16) && decide (o.p 8 1 = 1) &&
      decide (o.p 9 1 = 0 ∨ o.p 9 1 = 1 ∨ o.p 9 1 = 0xFF) && decide (∀ i, i < o.p 10 2 → (i + o.p 12 2, o.qp) ∈ t.att.windows) &&
      decide (t.queryPending ((List.range (o.p 10 2)).map (· + o.p 12 2)) = false))) &&
    (let s : State := { attending with q.ops := [{ op0 5 2 0x70 (attPkt []).pkt with started := true }], att.copies := [⟨5, 0, Mem.write [] 0 desc0, none, false⟩] };
      let c : Cmd := dat [(8, 1), (9, 0xFF), (10, 1), (12, 0)]; (s.begins 0x73 c).any (fun (o, t) => decide (1 ≤ o.p 10 2) &&
      decide (o.p 10 2 ≤ 16) && decide (o.p 8 1 = 1) && decide (o.p 9 1 = 0 ∨ o.p 9 1 = 1 ∨ o.p 9 1 = 0xFF) &&
      decide (∀ i, i < o.p 10 2 → (i + o.p 12 2, o.qp) ∈ t.att.windows) &&
      decide (t.queryPending ((List.range (o.p 10 2)).map (· + o.p 12 2)) = true))) &&
    (let s : State := attending; let f : Fn := f0; let tee : Bool := false; let offset : Nat := 16383;
      let bytes : List Byte := [1#8]; decide (s.hears f tee = true) && decide (bytes ≠ []) &&
      decide (offset % 16384 + bytes.length ≤ 16384)) &&
    (let s : State := attending; let f : Fn := f0; let w : Nat := 0; let offset : Nat := 0; let bytes : List Byte := [1#8];
      decide (s.windowOwned f w = true) && decide (ideRequired s.stg.live = true → s.linkSecure f.link = true))
    ) = true := by
  decide +kernel

/-- ExtentStates: a state and operands that meet the hypotheses of each clause. -/
theorem witness_ExtentStates :
    (
    (let s : State := { hosted with stg.live := stored.stg.live ++ [⟨3, 0, 29 + 0xFFFF * 2 ^ 48⟩, ⟨4, 0, 0x004000000000 + 2 ^ 36 * 2 ^ 64 + 3 * 2 ^ 144 + 2 ^ 176⟩] };
      let src : Source := ⟨0, 0, 0, false⟩; let region : Nat := 1; let a : Nat := 0x004000000000; let length : Nat := 2 ^ 21;
      let tag : Nat := 0; let part : Nat := 0; decide (fmTrust s.stg.live = false) && decide (length ≠ 0) &&
      decide (length % 2 ^ 21 = 0) && decide (a % 2 ^ 21 = 0) && decide (regionBase region ≤ a) &&
      decide (a + length ≤ regionBase region + regionLength region) && decide (partValid s.stg.live part = true) &&
      decide (∀ e ∈ s.pool.extents, e.base + e.length ≤ a ∨ a + length ≤ e.base) && decide (s.pool.extents.length < 8192) &&
      decide (region = 1 → s.boot.full = true) && decide (s.room part region length = true) &&
      (s.hostOfSrc src).any (fun h => decide (s.hostCovers h a length part = true))) &&
    (let s : State := { hosted with pool.extents := [{ ext0 with zeroing := true }] }; let x : Nat := 0;
      (s.extent x).any (fun e => decide (e.zeroing = true))) &&
    (let s : State := { hosted with pool.extents := [{ ext0 with sides := [(0, .offered)] }] };
      let src : Source := ⟨0, 0, 0, false⟩; let x : Nat := 0; (s.extent x).any (fun e => decide (e.zeroing = false) &&
      (s.hostOfSrc src).any (fun h => decide (e.side h = some .offered) &&
      ((s.updExtent e.id (fun e => { e with sides := upd (·.1 == h) (fun y => (y.1, SideState.active)) e.sides })).extent x).any (fun e' => true)))) &&
    (let s : State := { hosted with pool.extents := [{ ext0 with sides := [(0, .offered)] }] };
      let src : Source := ⟨0, 0, 0, false⟩; let x : Nat := 0; (s.extent x).any (fun e => decide (e.zeroing = false) &&
      (s.hostOfSrc src).any (fun h => decide (e.side h = some .offered) && decide (e.sides.filter (·.1 != h) = [])))) &&
    (let s : State := hosted; let src : Source := ⟨0, 0, 0, false⟩; let x : Nat := 0;
      (s.extent x).any (fun e => (s.hostOfSrc src).any (fun h => decide (e.activeFor h = true)))) &&
    (let s : State := hosted; let src : Source := ⟨0, 0, 0, false⟩; let x : Nat := 0;
      (s.extent x).any (fun e => decide (e.zeroing = false) && decide (∀ y ∈ s.pool.snaps, y.extent ≠ e.id) &&
      (s.hostOfSrc src).any (fun h => decide (e.holds h = true)))) &&
    (let s : State := hosted; let src : Source := ⟨0, 0, 0, false⟩; let x : Nat := 0;
      (s.extent x).any (fun e => decide (e.zeroing = false) && (s.hostOfSrc src).any (fun h => decide (e.holds h = true)))) &&
    (let s : State := hosted; let link : Nat := 0; decide (s.linkUp link = true)) &&
    (let s : State := hosted; let link : Nat := 0; let ld : Nat := 0; let region : Nat := 1;
      decide (s.pool.bound.contains ⟨link, ld⟩ = true) && decide (region < 2)) &&
    (let s : State := hosted; let link : Nat := 0; let ld : Nat := 0; decide (s.pool.bound.contains ⟨link, ld⟩ = true)) &&
    (let s : State := hosted; let link : Nat := 0; let ld : Nat := 0; (s.hostOf ⟨link, ld⟩).any (fun h => true))
    ) = true := by
  decide +kernel

/-- CxlMemory: a state and operands that meet the hypotheses of each clause. -/
theorem witness_CxlMemory :
    (
    (let s : State := hosted; let src : Source := ⟨0, 0, 0, false⟩; let addr : Nat := 2 ^ 32; let k : LoadKind := .cached;
      decide (s.wake.servesMemory = true) && decide (s.wake.shutOut src = false) && (let a : Nat := addr / 64 * 64;
      let u : State := s.wake.bumpAt 0x200 1 none (s.wake.hostOfSrc src); decide (u.pool.heldReqs = []) &&
      decide (u.recalling (Machine.lineGroup a * 256) 256 = false) && decide (u.poolAwake src.link a = true) &&
      (u.admitted src a 64 false).any (fun h => decide (u.hostDead h = false) && decide ((u.activeAt h a).isSome) &&
      decide (u.capped h false = false) &&
      decide ((u.dirEntry (Machine.lineGroup a)).all (fun e => (u.holdersOf e).all (fun x => x == h)) = true) &&
      decide (k = .cached → u.untracked h a false = true ∨ u.setFull (lineGroup a) = false)))) &&
    (let s : State := hosted; let src : Source := ⟨0, 0, 0, false⟩; let addr : Nat := 2 ^ 32; let bytes : List Byte := [1#8];
      let poison : Bool := false; decide (s.wake.servesMemory = true) && decide (s.wake.shutOut src = false) &&
      (let a : Nat := addr / 64 * 64; let u : State := s.wake.bumpAt 0x201 1 none (s.wake.hostOfSrc src);
      decide (u.pool.heldReqs = []) && decide (u.recalling (Machine.lineGroup a * 256) 256 = false) &&
      decide (u.poolAwake src.link a = true) && (u.admitted src a 64 true).any (fun h => decide (u.hostDead h = false) &&
      decide ((u.activeAt h a).isSome) && decide (u.capped h true = false) &&
      decide ((u.dirEntry (Machine.lineGroup a)).all (fun e => (u.holdersOf e).all (fun x => x == h)) = true)))) &&
    (let s : State := hosted; let src : Source := ⟨0, 0, 0, false⟩; let addr : Nat := 2 ^ 32; let bytes : List Byte := [1#8];
      let poison : Bool := false; decide (s.wake.servesMemory = true) && decide (s.wake.shutOut src = false) &&
      (let a : Nat := addr / 64 * 64; let u : State := s.wake.bumpAt 0x201 1 none (s.wake.hostOfSrc src);
      decide (u.pool.heldReqs = []) && decide (u.recalling (Machine.lineGroup a * 256) 256 = false) &&
      decide (u.poolAwake src.link a = true) && decide (u.snapping a = false) && decide (u.setFull (lineGroup a) = false) &&
      (u.admitted src a 64 true).any (fun h => decide (u.hostDead h = false) && decide ((u.activeAt h a).isSome) &&
      decide (u.capped h false = false) &&
      decide ((u.dirEntry (Machine.lineGroup a)).all (fun e => (u.holdersOf e).all (fun x => x == h)) = true) &&
      decide (u.untracked h a false = false)))) &&
    (let s : State := hosted; let r : HeldReq := ⟨⟨0, 0, 0, false⟩, 0, 2 ^ 32, .read true⟩; decide (s.windowAt r.addr = none) &&
      decide (s.goneAt r.addr = none)) &&
    (let s : State := { hosted with sec.tdis := [(f0, .error)] }; let src : Source := ⟨0, 0, 0, true⟩; let addr : Nat := 2 ^ 32;
      let k : LoadKind := .cached; decide (s.wake.servesMemory = true) && decide (s.wake.shutOut src = true)) &&
    (let s : State := { hosted with boot.memoryActive := false }; let src : Source := ⟨0, 0, 0, false⟩; let addr : Nat := 2 ^ 32;
      let k : LoadKind := .cached; decide (s.wake.servesMemory = false)) &&
    (let s : State := recalling; let host : Nat := 0; let addr : Nat := 2 ^ 32; let dirty : List Byte := [];
      let r : Recall := ⟨2 ^ 24, [0], [0], false, true, 0⟩; decide (r ∈ s.pool.recalls) && decide (r.group = lineGroup addr) &&
      decide (r.waiting.contains host = true) && decide (dirty = [])) &&
    (let s : State := recalling; let host : Nat := 0; let addr : Nat := 2 ^ 32; let dirty : List Byte := [1#8];
      let r : Recall := ⟨2 ^ 24, [0], [0], false, true, 0⟩; decide (r ∈ s.pool.recalls) && decide (r.group = lineGroup addr) &&
      decide (r.waiting.contains host = true) && decide (dirty ≠ []) && decide (s.sec.life ≠ .releasing)) &&
    (let s : State := { recalling with clock.now := 10 ^ 12 }; let host : Nat := 0; let addr : Nat := 2 ^ 32;
      let dirty : List Byte := []; let r : Recall := ⟨2 ^ 24, [0], [0], false, true, 0⟩; decide (r ∈ s.pool.recalls) &&
      decide (r.group = lineGroup addr) && decide (r.waiting.contains host = true) && decide (fmTrust s.stg.live = false) &&
      decide (r.since + hostRecallUs s.stg.live host * 1000 ≤ s.clock.now) && decide (s.sec.life ≠ .releasing)) &&
    (let s : State := hosted; let c : Cmd := dat [(12, 60000)]; (s.begins 0x85 c).any (fun (o, t) => decide (o.p 8 1 = 0) &&
      decide (10 ≤ o.p 12 4) && decide (o.p 12 4 ≤ 60000) && (t.hostOf (t.opFn o)).any (fun h => true))) &&
    (let s : State := hosted; let c : Cmd := dat [(8, 1)]; (s.begins 0x85 c).any (fun (o, t) => decide (o.p 8 1 = 1) &&
      (t.hostOf (t.opFn o)).any (fun h => true))) &&
    (let s : State := hosted; let c : Cmd := dat [(8, 2)]; (s.begins 0x85 c).any (fun (o, t) => decide (o.p 8 1 = 2) &&
      (t.hostOf (t.opFn o)).any (fun h => decide ((t.hostState h).lease = none)))) &&
    (let s : State := { hosted with pool.hosts := [⟨0, some 100, 0, false, none, false, 0, 0⟩] }; let c : Cmd := dat [(8, 2)];
      (s.begins 0x85 c).any (fun (o, t) => decide (o.p 8 1 = 2) &&
      (t.hostOf (t.opFn o)).any (fun h => ((t.hostState h).lease).any (fun x => true)))) &&
    (let s : State := { hosted with pool.hosts := [⟨0, some 100, 0, false, none, false, 0, 0⟩] }; let f : Fn := f0;
      let tee : Bool := false; decide (s.wake.hears f tee = true) &&
      (s.wake.hostOf f).any (fun h => decide ((s.wake.hostState h).dead = false) &&
      decide ((s.wake.hostState h).lease.isSome = true))) &&
    (let s : State := { hosted with pool.hosts := [⟨0, none, 0, true, none, false, 0, 0⟩] }; let f : Fn := f0;
      let tee : Bool := false; decide (s.wake.hears f tee = true) &&
      (s.wake.hostOf f).any (fun h => decide ((s.wake.hostState h).dead = true) &&
      decide ((s.wake.hostState h).needsReset = false))) &&
    (let s : State := { hosted with pool.hosts := [⟨0, some 100, 0, false, none, false, 0, 0⟩], clock.now := 10 ^ 8 };
      let h : Nat := 0; let t : Nat := 100; decide ((s.hostState h).lease = some t) &&
      decide ((s.hostState h).renewed + t * 1000000 ≤ s.clock.now)) &&
    (let s : State := hosted; let h : Nat := 0; let f : Fn := f0; decide (s.fnOfHost h = some f)) &&
    (let s : State := { hosted with pool.mirrorWaits := [⟨2 ^ 32, 0, 0⟩] }; let a : Nat := 2 ^ 32;
      (s.pool.mirrorWaits.find? (·.addr == a)).any (fun w => true)) &&
    (let s : State := { hosted with pool.unmirrored := [0] }; let x : Nat := 0;
      (s.extent x).any (fun e => decide (s.pool.unmirrored.contains e.id = true)))
    ) = true := by
  decide +kernel

/-- NearMemory: a state and operands that meet the hypotheses of each clause. -/
theorem witness_NearMemory :
    (
    (let s : State := { hosted with pool.extents := [{ ext0 with length := 2 ^ 30 }] };
      let c : Cmd := dat [(8, 2 ^ 32), (16, 4 * 2 ^ 20 + 64)]; let op : Nat := 0x80; let i : Instr := .fill c;
      decide (op = 0x80) && (s.begins op c).any (fun (o, t) => decide (o.opcode = op) && decide (o.nearFieldsOk = true) &&
      decide (o.work = .nothing) && decide (4 * 2 ^ 20 < o.p 16 8) &&
      (let p : Op := { o with work := .near [] false, tails := some (t.tailsFor o) }; let u : State := t.setOp o.tag (fun _ => p);
      (match u.nearSrcs p with | .ok srcs => decide (u.judgeNear p srcs 0 (o.p 16 8) = none) | _ => false)))) &&
    (let s : State := hosted; let c : Cmd := dat [(8, 2 ^ 32), (16, 64)]; let op : Nat := 0x80; let i : Instr := .fill c;
      decide (op = 0x80) && (s.begins op c).any (fun (o, t) => decide (o.opcode = op) && decide (o.nearFieldsOk = true) &&
      decide (o.work = .nothing) && decide (o.p 16 8 ≤ 4 * 2 ^ 20) &&
      (let p : Op := { o with work := .near [] false, tails := some (t.tailsFor o) }; let u : State := t.setOp o.tag (fun _ => p);
      (match u.nearSrcs p with | .ok srcs => decide (u.judgeNear p srcs 0 (o.p 16 8) = none) && decide ((u.nearRecall p srcs 0 (o.p 16 8)).nearWaits p srcs 0 (o.p 16 8) = false) | _ => false)))) &&
    (let s : State := { hosted with host := Mem.write [] 0x1000 [0#8, 0#8, 0#8, 0#8, 1#8] };
      let c : Cmd := dat [(8, 2 ^ 32 + 4096), (16, 64), (26, 1), (56, 0x1000)];
      (s.begins 0x83 c).any (fun (o, t) => decide (o.nearFieldsOk = true) && decide (o.opcode = 0x83) &&
      decide (o.work = .nothing) &&
      (t.got o o.buf (8 * o.p 26 1)).any (fun b => let l : List Nat := (List.range (o.p 26 1)).map (fun i => leNat ((b.drop (8 * i)).take 8));
      let p : Op := { o with work := .near l false, tails := some (t.tailsFor o) }; true))) &&
    (let s : State := hosted;
      let o : Op := { op0 9 2 0x81 (pkt [(8, 2 ^ 32), (16, 64), (24, 2 ^ 32 + 4096)]) with work := .near [] false, tails := some [] };
      decide (o.p 16 8 ≤ 4 * 2 ^ 20) && decide (o.opcode ≠ 0x82) &&
      (match s.nearSrcs o with | .ok srcs => decide (s.judgeNear o srcs 0 (o.p 16 8) = none) && decide ((s.nearRecall o srcs 0 (o.p 16 8)).nearWaits o srcs 0 (o.p 16 8) = false) | _ => false)) &&
    (let s : State := hosted; let c : Cmd := dat [(8, 0), (16, 2 ^ 32), (24, 4096)];
      (s.begins 0x84 c).any (fun (o, t) => decide (o.p 8 1 = 0) && decide (t.making o.tag = none) &&
      decide (o.p 16 8 % 4096 = 0) && decide (o.p 24 8 ≠ 0) && decide (o.p 24 8 % 4096 = 0) &&
      decide (t.rangeAllowed (t.opFn o) (o.p 16 8) (o.p 24 8) false = true) &&
      (t.extentAt (o.p 16 8) (o.p 24 8)).any (fun e => (t.hostOf (t.opFn o)).any (fun h => decide (e.activeFor h = true) &&
      (lowestFree (t.pool.snaps.map (·.slot)) 0 (min 4096 (t.pool.snaps.length + 1))).any (fun i => let x : PoolSnap := { slot := i, gen := nextGen 20 (assoc t.pool.snapGens i 0), extent := e.id, base := o.p 16 8, length := o.p 24 8, budget := o.p 32 8, used := 0, version := 0, ttl := o.p 40 4, maker := some o.tag, expires := none, expired := none, released := none, copies := [], bad := [] };
      let u : State := { t with pool.snaps := t.pool.snaps ++ [x], pool.snapGens := assocSet t.pool.snapGens i x.gen };
      true))))) &&
    (let s : State := snapped; let c : Cmd := dat [(8, 1), (12, 0x1001)];
      (s.begins 0x84 c).any (fun (o, t) => decide (o.p 8 1 = 1) && (t.pool.snaps.find? (fun x => x.handle == o.p 12 4 &&
      x.maker.isNone && x.released.isNone)).any (fun x => true))) &&
    (let s : State := snapped; let c : Cmd := dat [(8, 3), (12, 0x1001), (56, 0x1000)];
      (s.begins 0x84 c).any (fun (o, t) => decide (o.p 8 1 = 3) && (t.pool.snaps.find? (fun x => x.handle == o.p 12 4 &&
      x.maker.isNone &&
      x.released.isNone)).any (fun x => (t.wrote o o.buf (leBytes 8 x.base ++ leBytes 8 x.length ++ leBytes 8 x.used ++ leBytes 8 x.version ++ leBytes 8 (b2n x.expired.isSome) ++ leBytes 24 0)).any (fun w => true)))) &&
    (let s : State := snapped; let c : Cmd := dat [(8, 2), (12, 0x1001)];
      (s.begins 0x84 c).any (fun (o, t) => decide (o.p 8 1 = 2) &&
      (match t.poolSnap (o.p 12 4) o.order with | .ok x => decide (t.judgeRanges (t.opFn o) [(x.base, x.length, true)] = none) && decide (x.length ≤ 4 * 2 ^ 20) && (t.restoreUnit x 0 x.length).any (fun u => true) | _ => false))) &&
    (let s : State := { hosted with pool.extents := [{ ext0 with length := 2 ^ 30 }], pool.snaps := [{ snap0 with length := 4 * 2 ^ 20 + 4096 }] };
      let c : Cmd := dat [(8, 2), (12, 0x1001)]; (s.begins 0x84 c).any (fun (o, t) => decide (o.p 8 1 = 2) &&
      (match t.poolSnap (o.p 12 4) o.order with | .ok x => decide (t.judgeRanges (t.opFn o) [(x.base, x.length, true)] = none) && decide (4 * 2 ^ 20 < x.length) | _ => false))) &&
    (let s : State := { hosted with pool.snaps := [{ snap0 with expires := some 0 }] }; let slot : Nat := 1;
      (s.pool.snaps.find? (fun x => x.slot == slot &&
      x.expires.any (fun t => decide (t ≤ s.clock.now)))).any (fun x => (x.expires).any (fun t => true)))
    ) = true := by
  decide +kernel

/-- ScrubAndLinks: a state and operands that meet the hypotheses of each clause. -/
theorem witness_ScrubAndLinks :
    (
    (let s : State := stored; let l : ScrubLine := .page 0 0 3; let f : LineCheck := .corrected; decide (s.boot.halted = false) &&
      decide (s.memoriesAwake = true) && decide (f ≠ .clean)) &&
    (let s : State := stored; let l : ScrubLine := .tokens 0; true) &&
    (let s : State := stored; let tier : Nat := 0; let home : Nat := 0; let chan : Nat := 0; let key : Nat := 5;
      let copied : Bool := false; let addr : Option Nat := none; let lose : State → State := id;
      let rebuilt : Bool := (decide (tier = 0) && s.deckRebuilds || copied);
      let t : State := s.log (lineReport tier .corrected rebuilt (tierLocus tier home chan) addr); true) &&
    (let s : State := stored; let tier : Nat := 0; let home : Nat := 0; let chan : Nat := 0; let key : Nat := 5;
      let copied : Bool := false; let addr : Option Nat := none; let lose : State → State := id;
      let rebuilt : Bool := (decide (tier = 0) && s.deckRebuilds || copied);
      let t : State := (if rebuilt = true then s.log (lineReport tier .uncorrectable rebuilt (tierLocus tier home chan) addr) else lose (s.log (lineReport tier .uncorrectable rebuilt (tierLocus tier home chan) addr)));
      true) &&
    (let s : State := stored; let a : Nat := 2 ^ 32; decide ((s.dirEntry (lineGroup a)).any (·.state == .owned) = false)) &&
    (let s : State := tiled; let w : Nat := 0; let i : Nat := 0; let f : LineCheck := .uncorrectable;
      (s.weight w).any (fun o => (o.tiles.find? (·.index == i)).any (fun t => decide (t.tier < 2)))) &&
    (let s : State := stored; let id : Nat := 0; let f : LineCheck := .uncorrectable; (s.block id).any (fun b => true)) &&
    (let s : State := stored; let n : Nat := 7; let flit : Bool := false; decide (n < 8) && decide (s.boot.link = true) &&
      decide (s.boot.linkwatch = false) && decide (s.boot.halted = false) && decide (s.linkUp (32 + n) = false) &&
      (let t := (s.portUp (32 + n) (s.ethRate (32 + n))).sameRate (fun i => i / 2 = (32 + n) / 2) (s.ethRate (32 + n)); true)) &&
    (let s : State := remote; let n : Nat := 0; decide (n < 8) && decide (s.linkUp (32 + n) = true) &&
      (let u : State := (({ s with dlv.ports := upd (fun p : SPort => p.num = 32 + n) (fun p => { p with linked := false }) s.dlv.ports } : State).log (.plain .degraded 0x0221 (linkLocus (32 + n)) none)).linkChanged;
      true))
    ) = true := by
  decide +kernel

/-- ConnectionCommands: a state and operands that meet the hypotheses of each clause. -/
theorem witness_ConnectionCommands :
    (
    (let s : State := remote; let c : Cmd := dat [(8, 0), (9, 32)]; (s.begins 0x90 c).any (fun (o, t) => decide (o.p 8 1 = 0) &&
      decide (32 ≤ o.p 9 1) && decide (o.p 9 1 < 40) && decide (partValid t.stg.live (o.p 10 1) = true) &&
      decide (t.mayPart (t.opFn o) (o.p 10 1) = true) && decide (t.ethAllowed (o.p 9 1) (o.p 10 1) = true) &&
      decide (t.ethReady (o.p 9 1) = true) &&
      (lowestFree (t.rma.conns.map (·.slot)) 0 (min 16384 (t.rma.conns.length + 1))).any (fun i => true))) &&
    (let s : State := remote; let c : Cmd := dat [(8, 2), (12, conn0.handle)];
      (s.begins 0x90 c).any (fun (o, t) => decide (o.p 8 1 = 2) &&
      (t.conn (o.p 12 4)).any (fun x => decide (t.mayPart (t.opFn o) x.partition = true)))) &&
    (let s : State := { remote with rma.conns := [{ conn0 with state := .created }] };
      let c : Cmd := dat [(8, 1), (12, conn0.handle), (46, 20)]; (s.begins 0x90 c).any (fun (o, t) => decide (o.p 8 1 = 1) &&
      decide (o.p 11 1 < 4) && decide (o.p 44 1 < 64) && decide (o.p 45 1 < 3) && decide (1 ≤ o.p 46 1 % 32) &&
      decide (o.p 46 1 % 32 ≤ 20) && decide (bit (o.p 11 1) 1 = false → o.p 42 2 = 0) &&
      decide (bit (o.p 11 1) 0 = false → o.p 24 12 = 0) && decide (o.expert = true → o.p 48 1 < 16) &&
      (t.conn (o.p 12 4)).any (fun x => decide (t.mayPart (t.opFn o) x.partition = true) && decide (x.state = .created) &&
      decide (t.ethReady x.port = true)))) &&
    (let s : State := remote; let c : Cmd := dat [(8, 3), (12, conn0.handle), (56, 0x1000)];
      (s.begins 0x90 c).any (fun (o, t) => decide (o.p 8 1 = 3) &&
      (t.conn (o.p 12 4)).any (fun x => decide (t.mayPart (t.opFn o) x.partition = true) && decide (x.state ≠ .error) &&
      (t.wrote o o.buf x.record).any (fun w => true)))) &&
    (let s : State := remote; let c : Cmd := dat [(8, 0), (16, 2 ^ 32), (24, 4096), (32, 3)];
      (s.begins 0x91 c).any (fun (o, t) => decide (o.p 8 1 = 0) && decide (o.handle = 0) && decide (1 ≤ o.p 32 1) &&
      decide (o.p 32 1 < 4) && decide (partValid t.stg.live (o.p 33 1) = true) &&
      decide (t.mayPart (t.opFn o) (o.p 33 1) = true) && decide (t.scopeOk (o.p 12 4) (o.p 33 1) = none) &&
      decide (t.regionRange (o.p 16 8) (o.p 24 8) (o.p 33 1) = none))) &&
    (let s : State := remote; let o : Op := op0 9 2 0x91 (pkt [(8, 0)]); let r : RRegion := reg0; decide (s.entropyOk = true) &&
      (lowestFree (s.rma.regions.map (·.slot)) 0 (min 65536 (s.rma.regions.length + 1))).any (fun i => let u : State := { s with sec.waiting := s.sec.waiting.filter (·.1 != .op o.tag) };
      (match u.draw with | (b, w) => let r' : RRegion := { r with slot := i, gen := nextGen 8 (assoc u.rma.regionGens i 0), check := b.toNat % 256, scope := o.p 12 4 }; true))) &&
    (let s : State := remote; let c : Cmd := dat [(4, 0x1000), (8, 1), (16, 0x100000), (28, 1)];
      (s.begins 0x91 c).any (fun (o, t) => decide (o.p 8 1 = 1) && decide (o.expert = true → o.p 33 1 = 0) &&
      decide (t.entropyOk = true) && (t.nsAny o.handle).any (fun n => decide (t.mayPart (t.opFn o) n.partition = true) &&
      decide (t.scopeOk (o.p 12 4) n.partition = none) &&
      (match t.named n (o.p 16 4) (o.p 20 1) with | .view v => let count : Nat := (if o.p 28 4 = 0 then v.count n.geo.b - o.p 24 4 else o.p 28 4); decide (o.p 24 4 + count ≤ v.count n.geo.b) && decide (count ≠ 0) && (({ t with sec.waiting := t.sec.waiting.filter (·.1 != .op o.tag) } : State).addSnapshot v none true).any (fun (h, u) => (match u.addRegion o { slot := 0, gen := 0, check := 0, pages := some (h, o.p 24 4, count), base := 0, length := n.geo.l * count * n.geo.deliveredBytes n.geo.fmt, readable := true, writable := false, partition := n.partition, scope := 0, pinSlot := none, dead := false, dying := false } with | .done .ok r w => true | _ => false)) | _ => false)))) &&
    (let s : State := remote; let c : Cmd := dat [(8, 2), (12, reg0.key)];
      (s.begins 0x91 c).any (fun (o, t) => decide (o.handle = 0) && decide (o.p 8 1 = 2) &&
      (t.rma.regions.find? (fun r => r.key == o.p 12 4 && (!r.dying || (o.p 8 1 = 2 &&
      o.wait = .ended)))).any (fun r => decide (t.mayPart (t.opFn o) r.partition = true) &&
      (let u := ({ t with rma.regions := upd (fun x : RRegion => x.slot == r.slot) (fun x => { x with dying := true }) t.rma.regions } : State);
      decide (u.regionUsed r = false))))) &&
    (let s : State := remote; let c : Cmd := dat [(8, 3), (12, reg0.key), (56, 0x1000)];
      (s.begins 0x91 c).any (fun (o, t) => decide (o.handle = 0) && decide (o.p 8 1 = 3) &&
      (t.rma.regions.find? (fun r => r.key == o.p 12 4 && (!r.dying || (o.p 8 1 = 2 &&
      o.wait = .ended)))).any (fun r => decide (t.mayPart (t.opFn o) r.partition = true) &&
      (t.wrote o o.buf r.record).any (fun w => true)))) &&
    (let s : State := { remote with stg.live := ⟨0x0C, 0, 3⟩ :: remote.stg.live };
      let c : Cmd := dat [(1, 128), (8, 4), (12, reg0.key), (16, 2 ^ 32), (24, 4096), (32, 1)];
      (s.begins 0x91 c).any (fun (o, t) => decide (o.handle = 0) && decide (o.p 8 1 = 4) && decide (o.expert = true) &&
      decide (1 ≤ o.p 32 1) && decide (o.p 32 1 < 4) && (t.rma.regions.find? (fun r => r.key == o.p 12 4 &&
      (!r.dying || (o.p 8 1 = 2 && o.wait = .ended)))).any (fun r => decide (t.mayPart (t.opFn o) r.partition = true) &&
      decide (r.dead = false) && decide (r.pages = none) && decide (o.p 33 1 = r.partition) &&
      decide (directWrite (t.itemsOf o) r.partition = true) && decide (t.regionRange (o.p 16 8) (o.p 24 8) r.partition = none) &&
      (let new : RRegion := { r with base := o.p 16 8, length := o.p 24 8, readable := bit (o.p 32 1) 0, writable := bit (o.p 32 1) 1, dead := false };
      true))))
    ) = true := by
  decide +kernel

/-- RmaCommands: a state and operands that meet the hypotheses of each clause. -/
theorem witness_RmaCommands :
    (
    (let s : State := remote; let c : Cmd := dat [(8, conn0.handle), (16, reg0.key), (40, 64)]; let op : Nat := 0x92;
      let i : Instr := .rmaWrite c; let r : RRegion := reg0; (s.begins op c).any (fun (o, t) => decide (o.opcode = op) &&
      (op == 0x92 && o.p 48 4 == 0) && decide (o.work = .nothing) && decide (o.p 12 1 < 2) && decide (1 ≤ o.p 40 8) &&
      decide (o.p 40 8 ≤ 2 ^ 31) && decide (t.rmaBehind o = false) && decide (o.p 24 8 + o.p 40 8 ≤ r.length) &&
      (t.conn (o.p 8 4)).any (fun x => decide (t.mayPart (t.opFn o) x.partition = true) && decide (x.state = .ready) &&
      decide (r.serves x = true) &&
      (match t.pickKey (o.p 16 4) with | (some e, u) => decide (u.entryNow e = some r) && decide (u.ethReady x.port = true) && decide (r.partition = u.opPart o) && decide (u.regionLive r = true) && (u.port x.port).any (fun p => let ms : List Msg := rmaMessages o (some r) p.messageSize; let w : State := ms.foldl (fun s m => s.addMsg x.slot m) (u.setOp o.tag (fun o => { o with work := .sent [] })); true) | _ => false)))) &&
    (let s : State := remote; let c : Cmd := dat [(8, conn0.handle), (12, 1)];
      (s.begins 0x92 c).any (fun (o, t) => decide (o.opcode = 0x92) && decide (o.work = .nothing) && decide (o.p 12 1 = 1) &&
      decide (o.p 40 8 = 0) && decide (t.rmaBehind o = false) &&
      (t.conn (o.p 8 4)).any (fun x => decide (t.mayPart (t.opFn o) x.partition = true) && decide (x.state = .ready) &&
      decide (t.ethReady x.port = true) && (t.port x.port).any (fun p => let ms : List Msg := rmaMessages o none p.messageSize;
      let u : State := ms.foldl (fun s m => s.addMsg x.slot m) (t.setOp o.tag (fun o => { o with work := .sent [] })); true)))) &&
    (let s : State := remote; let c : Cmd := dat [(8, 0), (32, 65536), (36, 31), (38, 2047), (40, 4096)];
      (s.begins 0x94 c).any (fun (o, t) => decide (o.p 8 1 = 0) && decide (64 ≤ o.p 32 4) && decide (o.p 32 4 ≤ 65536) &&
      decide (2 ^ Nat.log2 (o.p 32 4) = o.p 32 4) && decide (o.p 36 1 < 32) && decide (partValid t.stg.live (o.p 37 1) = true) &&
      decide (o.p 38 2 < 2048) && decide (o.p 40 8 % 4096 = 0) && decide (t.mayPart (t.opFn o) (o.p 37 1) = true) &&
      decide (t.partLink (o.p 36 1) (o.p 37 1) = true) &&
      (lowestFree (t.rma.nqs.map (·.slot)) 0 (min 1024 (t.rma.nqs.length + 1))).any (fun i => let q : NQ := { slot := i, gen := nextGen 22 (assoc t.rma.nqGens i 0), owner := t.opFn o, port := o.p 36 1, base := o.p 40 8, entries := o.p 32 4, tail := 0, count := 0, phase := true, partition := o.p 37 1, vector := o.p 38 2, counter := 0, armed := true };
      true))) &&
    (let s : State := notified; let c : Cmd := dat [(8, 1), (12, nq0.handle)];
      (s.begins 0x94 c).any (fun (o, t) => decide (o.p 8 1 = 1) && decide (∀ x ∈ t.q.ops, x.opcode = 0x95 → x.wait ≠ .counter) &&
      (t.nq (o.p 12 4)).any (fun q => decide (t.mayPart (t.opFn o) q.partition = true)))) &&
    (let s : State := notified; let c : Cmd := dat [(8, 2), (12, nq0.handle), (28, 4095)];
      (s.begins 0x94 c).any (fun (o, t) => decide (o.p 8 1 = 2) && decide (o.p 28 2 < 4096) &&
      decide (o.p 24 4 ≠ 0 → (t.conn (o.p 24 4)).isSome = true) && ((t.conn (o.p 24 4)).all (fun x => x.state != .error)) &&
      (t.nq (o.p 12 4)).any (fun q => decide (t.mayPart (t.opFn o) q.partition = true)))) &&
    (let s : State := notified; let c : Cmd := dat [(8, 3), (12, nq0.handle), (28, 9)];
      (s.begins 0x94 c).any (fun (o, t) => decide (o.p 8 1 = 3) &&
      (t.nq (o.p 12 4)).any (fun q => decide (t.mayPart (t.opFn o) q.partition = true) &&
      decide (∃ x ∈ t.rma.matchSlots, x.slot = o.p 28 2 ∧ x.nq = q.slot)))) &&
    (let s : State := notified; let c : Cmd := dat [(8, 4), (12, nq0.handle), (56, 0x1000)];
      (s.begins 0x94 c).any (fun (o, t) => decide (o.p 8 1 = 4) &&
      (t.nq (o.p 12 4)).any (fun q => decide (t.mayPart (t.opFn o) q.partition = true) &&
      (t.wrote o o.buf q.record).any (fun w => true)))) &&
    (let s : State := remote; let c : Cmd := dat [(8, conn0.handle), (24, 60000)];
      (s.begins 0x95 c).any (fun (o, t) => decide (o.p 12 1 = 0) && decide (1 ≤ o.p 24 4) && decide (o.p 24 4 ≤ 60000) &&
      (t.waitCounter o).any (fun k => decide ((k % 2 ^ 64 + 2 ^ 64 - o.p 16 8) % 2 ^ 64 < 2 ^ 63) &&
      (t.conn (o.p 8 4)).any (fun x => decide (t.mayPart (t.opFn o) x.partition = true) && decide (x.state ≠ .error))))) &&
    (let s : State := remote; let c : Cmd := dat [(8, conn0.handle), (16, 1), (24, 60000)];
      (s.begins 0x95 c).any (fun (o, t) => decide (o.p 12 1 = 0) && decide (1 ≤ o.p 24 4) && decide (o.p 24 4 ≤ 60000) &&
      decide (o.work = .nothing) && (t.waitCounter o).any (fun k => decide (2 ^ 63 ≤ (k % 2 ^ 64 + 2 ^ 64 - o.p 16 8) % 2 ^ 64) &&
      (t.conn (o.p 8 4)).any (fun x => decide (t.mayPart (t.opFn o) x.partition = true) && decide (x.state ≠ .error))))) &&
    (let s : State := { remote with clock.now := 10 ^ 12, q.ops := [{ op0 5 2 0x95 (pkt [(8, conn0.handle), (24, 1)]) with started := true, work := .slots [0], wait := .counter }] };
      let tag : Nat := 5; let t : Nat := 0; let l : List Nat := []; (s.op tag).any (fun o => decide (o.opcode = 0x95) &&
      decide (o.work = .slots (t :: l)) && decide (o.wait = .counter) && decide (t + o.p 24 4 * 1000000 ≤ s.clock.now) &&
      (s.waitCounter o).any (fun k => true)))
    ) = true := by
  decide +kernel

/-- RemoteInbound: a state and operands that meet the hypotheses of each clause. -/
theorem witness_RemoteInbound :
    (
    (let s : State := remote; let m : Inbound := ⟨256, 0, reg0.key, 0, false⟩; let kind : Nat := 0; let imm : Nat := 7;
      let length : Nat := 1; let b : List Byte := [1#8]; decide (s.boot.halted = false) && decide (s.boot.linkwatch = false) &&
      decide (m.ce = false) && decide (kind = 0) && decide (length = b.length) &&
      (s.connIn m.qpn).any (fun c => decide (c.state = .ready) &&
      (let k : Nat := (if kind = 2 then 1 else packetsOf c.mtu length); let start : Nat := psnSub m.psn (k - 1);
      decide (psnDiff c.expectPsn start = 0) && (let u : State := s.bumpAt 0x281 k (some c.partition) (some c.handle);
      (match u.admitRemote c m.key m.offset length (kind != 2) with | (r, w) => true))))) &&
    (let s : State := remote; let m : Inbound := ⟨256, 0, reg0.key, 0, false⟩; let kind : Nat := 1; let imm : Nat := 7;
      let length : Nat := 1; let b : List Byte := [1#8]; decide (s.boot.halted = false) && decide (s.boot.linkwatch = false) &&
      decide (m.ce = false) && decide (kind = 1) && decide (length = b.length) &&
      (s.connIn m.qpn).any (fun c => decide (c.state = .ready) &&
      (let k : Nat := (if kind = 2 then 1 else packetsOf c.mtu length); let start : Nat := psnSub m.psn (k - 1);
      decide (psnDiff c.expectPsn start = 0) && (let u : State := s.bumpAt 0x281 k (some c.partition) (some c.handle);
      (match u.admitRemote c m.key m.offset length (kind != 2) with | (r, w) => true))))) &&
    (let s : State := remote; let m : Inbound := ⟨256, 0, reg0.key, 0, false⟩; let kind : Nat := 2; let imm : Nat := 7;
      let length : Nat := 1; let b : List Byte := [1#8]; decide (s.boot.halted = false) && decide (s.boot.linkwatch = false) &&
      decide (m.ce = false) && decide (kind = 2) && (s.connIn m.qpn).any (fun c => decide (c.state = .ready) &&
      (let k : Nat := (if kind = 2 then 1 else packetsOf c.mtu length); let start : Nat := psnSub m.psn (k - 1);
      decide (psnDiff c.expectPsn start = 0) && (let u : State := s.bumpAt 0x281 k (some c.partition) (some c.handle);
      (match u.admitRemote c m.key m.offset length (kind != 2) with | (r, w) => true))))) &&
    (let s : State := flying false conn0; let qpn : Nat := 256; let psn : Nat := 0;
      (s.connIn qpn).any (fun c => decide (c.state = .ready) && decide (c.inFlight psn = true))) &&
    (let s : State := flying false { conn0 with rnrRetry := 0 }; let qpn : Nat := 256; let psn : Nat := 0; let k := 0;
      (s.connIn qpn).any (fun c => decide (c.state = .ready) && decide (c.oldest.isSome = true) && decide (c.rnrRetry ≠ 7) &&
      decide (c.rnrRetry ≤ c.rnrTries))) &&
    (let s : State := flying false conn0; let qpn : Nat := 256; let psn : Nat := 0;
      (s.connIn qpn).any (fun c => decide (c.state = .ready) && decide (c.oldest.isSome = true))) &&
    (let s : State := flying true { conn0 with mtu := 256 }; let qpn : Nat := 256; let psn : Nat := 0; let b : List Byte := [1#8];
      decide (b ≠ []) && decide (psn < 2 ^ 24) && decide (s.pool.heldReqs = []) &&
      (s.connIn qpn).any (fun c => decide (c.state = .ready) && decide (b.length ≤ c.mtu) && decide (psn = c.acked) &&
      decide (c.inFlight psn = true) && decide (packetsOf c.mtu b.length = 1) &&
      (let u : State := s.bumpAt 0x281 (packetsOf c.mtu b.length) (some c.partition) (some c.handle);
      decide (u.pool.heldReqs = []) &&
      (u.rma.conns.find? (·.slot == c.slot)).any (fun c' => (c'.oldest).any (fun m => decide (m.read = true) &&
      decide (psnAdd (m.psn.getD 0) (m.got / c.mtu) = psn) && decide (m.got + b.length ≤ m.length)))))) &&
    (let s : State := remote; let qpn : Nat := 256; (s.connIn qpn).any (fun c => true)) &&
    (let s : State := flying false { conn0 with retries := 3 }; let qpn : Nat := 256;
      (s.connOfQpn qpn).any (fun c => decide (c.state = .ready) && decide (c.rnrWait = false) &&
      decide (c.oldest.isSome = true) && decide (c.retry ≤ c.retries) &&
      (c.timer).any (fun t => decide (t + 4096 * 2 ^ c.ackCode ≤ s.clock.now)))) &&
    (let s : State := flying false conn0; let qpn : Nat := 256; (s.connOfQpn qpn).any (fun c => decide (c.state = .ready) &&
      decide (c.rnrWait = false) && decide (c.oldest.isSome = true) && decide (c.retries < c.retry) &&
      (c.timer).any (fun t => decide (t + 4096 * 2 ^ c.ackCode ≤ s.clock.now)))) &&
    (let s : State := flying false { conn0 with rnrWait := true }; let qpn : Nat := 256; let t : Nat := 0;
      (s.connOfQpn qpn).any (fun c => decide (c.state = .ready) && decide (c.rnrWait = true))) &&
    (let s : State := notified; let f : Fn := f0; let tee : Bool := false; let nq : Nat := 0; let v : Nat := 3;
      decide (s.hears f tee = true) && (s.rma.nqs.find? (fun q => q.slot == nq)).any (fun q => decide (q.owner = f) &&
      decide (v % 2 ^ 16 < q.entries) &&
      (let d : Nat := (v % 2 ^ 16 + q.entries - (q.tail + q.entries - q.count) % q.entries) % q.entries; decide (0 < d) &&
      decide (d < q.count)))) &&
    (let s : State := notified; let f : Fn := f0; let tee : Bool := false; let nq : Nat := 0; let v : Nat := 5;
      decide (s.hears f tee = true) && (s.rma.nqs.find? (fun q => q.slot == nq)).any (fun q => decide (q.owner = f) &&
      decide (v % 2 ^ 16 < q.entries) &&
      (let d : Nat := (v % 2 ^ 16 + q.entries - (q.tail + q.entries - q.count) % q.entries) % q.entries; decide (0 < d) &&
      decide (d = q.count))))
    ) = true := by
  decide +kernel

/-- PartnerEvents: a state and operands that meet the hypotheses of each clause. -/
theorem witness_PartnerEvents :
    (
    (let s : State := partnered (partner3 .up); decide (s.boot.link = true) && decide (s.boot.halted = false)) &&
    (let s : State := partnered (partner3 .up); decide (s.boot.link = true) && decide (s.boot.halted = false)) &&
    (let s : State := { base with boot.halted := true }; decide (s.boot.link = true) && decide (s.boot.halted = true)) &&
    (let s : State := { base with sec.life := .unclaimed }; let id : BitVec 128 := 7; let slot : Nat := 1; let tray : Nat := 1;
      let route : Nat := 1; let claimed : Bool := false; decide (s.wake.grp.devices.find? (·.identity == id) = none) &&
      decide (s.grp.devices.length < 1024) && decide (s.wake.inSession = false)) &&
    (let s : State := { lending with stg.live := indexed.stg.live }; let p : Nat := 3; let tenant : Nat := 0;
      let session : Nat := 9; let id : BitVec 128 := 0; decide (s.wake.inSession = true) && decide (tenant = s.sec.tenant) &&
      decide (partnerValid s.stg.live p = false ∨ partnerId s.stg.live p = id.toNat) && decide (s.wake.entropyOk = true)) &&
    (let s : State := partnered (partner3 .up); let i : Nat := 3; let session : Nat := 9; let route : Nat := 1;
      let watch : Bool := false; (s.partner i).any (fun p => decide (session = p.session) && decide (p.state ≠ .down))) &&
    (let s : State := { partnered (partner3 .up) with clock.now := 10 ^ 10 }; let i : Nat := 3;
      (s.partner i).any (fun p => decide (p.state = .up) && decide (p.lastBeat + 3000000 ≤ s.clock.now))) &&
    (let s : State := { partnered (partner3 .suspect) with clock.now := 10 ^ 10 }; let i : Nat := 3;
      (s.partner i).any (fun p => decide (p.state ≠ .down) && decide (p.lastBeat + 10000000 ≤ s.clock.now))) &&
    (let s : State := { partnered ({ partner3 .up with alertSince := some 0 }) with clock.now := 10 ^ 10 }; let i : Nat := 3;
      (s.partner i).any (fun p => (p.alertSince).any (fun t => decide (t + 100000 ≤ s.clock.now)))) &&
    (let s : State := { partnered ({ partner3 .up with keySince := some 0 }) with clock.now := 10 ^ 10 }; let i : Nat := 3;
      (s.partner i).any (fun p => decide (p.keySince.isSome = true))) &&
    (let s : State := { partnered (partner3 .up) with stg.live := indexed.stg.live ++ [⟨5, 3, 1 + 2 + 1 * 2 ^ 16⟩] };
      let i : Nat := 3; decide (trayPartners s.stg.live s.slot = [i]) && (s.partner i).any (fun p => decide (p.state ≠ .down)))
    ) = true := by
  decide +kernel

/-- GroupProtocol: a state and operands that meet the hypotheses of each clause. -/
theorem witness_GroupProtocol :
    (
    (let s : State := { grouped with boot.linkwatch := true, boot.awakeDeck := false }; let slot : Nat := 0;
      let b : GroupBlock := gb0; let dup : Bool := false; let f : Bool := false; let salt : BitVec 128 := 5;
      let lines : List ReconcileLine := []; decide (s.wake.boot.linkwatch = true) && decide (s.wake.boot.awakeDeck = false)) &&
    (let s : State := grouped; let b : GroupBlock := gb0; let f : Bool := false; decide (s.boot.linkwatch = false)) &&
    (let s : State := { grouped with grp.ballots := [⟨gb0, 254, false, 0, 1⟩], clock.now := 5 }; let slot : Nat := 0;
      let b : GroupBlock := gb0; let dup := false; let full := false; decide (s.boot.linkwatch = false) &&
      decide (s.memberUp slot = true) && (s.groupNs b.salt).any (fun n => decide (s.leads n = true) && decide (n.active = true) &&
      ((s.castVote slot b full).decided b).any (fun v => true))) &&
    (let s : State := { grouped with grp.ballots := [⟨gb0, 2, false, 0, 1⟩], clock.now := 5 }; let slot : Nat := 0;
      let b : GroupBlock := gb0; let dup := false; let full := false; decide (s.boot.linkwatch = false) &&
      decide (s.memberUp slot = true) && decide ((s.castVote slot b full).decided b = none) &&
      (s.groupNs b.salt).any (fun n => decide (s.leads n = true) && decide (n.active = true))) &&
    (let s : State := grouped; let slot : Nat := 0; let b : GroupBlock := gb0; decide (s.boot.linkwatch = false) &&
      decide (s.memberUp slot = true) && decide (∀ p ∈ s.grp.proposals, p.block ≠ b) &&
      (s.groupNs b.salt).any (fun n => decide (s.leads n = true) && decide (n.active = true))) &&
    (let s : State := grouped; let slot : Nat := 0; let b : GroupBlock := gb0; decide (s.boot.linkwatch = false) &&
      (s.groupNs b.salt).any (fun n => decide (s.leads n = true) && decide (n.active = true))) &&
    (let s : State := grouped; let slot : Nat := 7; let b : GroupBlock := gb0; let full : Bool := false;
      decide (∀ x ∈ s.grp.ballots, x.block ≠ b) && decide (slot < 8)) &&
    (let s : State := { grouped with grp.ballots := [⟨gb0, 2, false, 0, 1⟩], clock.now := 5000000 }; let b : GroupBlock := gb0;
      let x : Ballot := ⟨gb0, 2, false, 0, 1⟩; decide (x ∈ s.grp.ballots) && decide (x.block = b) &&
      decide (x.since + 5000000 ≤ s.clock.now)) &&
    (let s : State := { grouped with grp.prepared := [⟨gb0, 0, 1, none, none, 0⟩], clock.now := 6000000 };
      let b : GroupBlock := gb0; let x : Prepared := ⟨gb0, 0, 1, none, none, 0⟩; decide (x ∈ s.grp.prepared) &&
      decide (x.block = b) && decide (x.since + 6000000 ≤ s.clock.now)) &&
    (let s : State := { grouped with grp.proposals := [⟨gb0, 254, false, 0, true⟩] }; let slot : Nat := 0;
      let b : GroupBlock := gb0; let free := true; decide (s.boot.linkwatch = false) && decide (free = true) &&
      (s.groupNs b.salt).any (fun n => decide (s.leads n = true) && (s.grp.proposals.find? (fun p => p.block == b &&
      !p.refused)).any (fun p => decide (s.clock.now < p.since + 1000000) && decide (Nat.lor p.free (2 ^ slot) % 256 = 255)))) &&
    (let s : State := { grouped with grp.proposals := [⟨gb0, 2, false, 0, true⟩] }; let slot : Nat := 0;
      let b : GroupBlock := gb0; let free := true; decide (s.boot.linkwatch = false) && decide (free = true) &&
      (s.groupNs b.salt).any (fun n => decide (s.leads n = true) && (s.grp.proposals.find? (fun p => p.block == b &&
      !p.refused)).any (fun p => decide (s.clock.now < p.since + 1000000) && decide (Nat.lor p.free (2 ^ slot) % 256 ≠ 255)))) &&
    (let s : State := { grouped with grp.proposals := [⟨gb0, 2, false, 0, true⟩] }; let slot : Nat := 0;
      let b : GroupBlock := gb0; let free := false; decide (s.boot.linkwatch = false) && decide (free = false) &&
      (s.groupNs b.salt).any (fun n => decide (s.leads n = true) && (s.grp.proposals.find? (fun p => p.block == b &&
      !p.refused)).any (fun p => decide (s.clock.now < p.since + 1000000)))) &&
    (let s : State := grouped; let slot : Nat := 0; let b : GroupBlock := gb0; decide (s.boot.linkwatch = false) &&
      (s.groupNs b.salt).any (fun n => true)) &&
    (let s : State := grouped; let b : GroupBlock := gb0; decide (∀ p ∈ s.grp.proposals, p.mine = false)) &&
    (let s : State := grouped; let slot : Nat := 0; let salt : BitVec 128 := 5; let lines : List ReconcileLine := [];
      decide (s.boot.linkwatch = false) && (s.groupNs salt).any (fun n => decide (s.leads n = true) &&
      decide (n.gstate ≠ .reconciling))) &&
    (let s : State := { grouped with boot.slotStrap := 1, store.namespaces := [{ ns0 with width := 8, gstate := .reconciling, holders := 1 }], stg.live := indexed.stg.live ++ [⟨5, 3, 1 + 2⟩] };
      let slot : Nat := 0; let salt : BitVec 128 := 5; let lines : List ReconcileLine := []; decide (s.boot.linkwatch = false) &&
      (s.groupNs salt).any (fun n => decide (s.leads n = false) && decide (n.gstate = .reconciling) &&
      decide (s.leader n = some slot)))
    ) = true := by
  decide +kernel

/-- EntropyEvents: a state and operands that meet the hypotheses of each clause. -/
theorem witness_EntropyEvents :
    (
    (let s : State := base; let test : EntropyTest := .repetitionCount; decide (s.boot.phase = .up) &&
      decide (s.sec.consecFail = 0) && decide (s.sec.latched = false)) &&
    (let s : State := entropyOff; decide (s.sec.sourceOk = false) && decide (s.sec.latched = false) &&
      decide (s.sec.waiting = []) &&
      (let u : State := ({ s with sec.sourceOk := true, sec.requests := 0 } : State).securityChanged; true)) &&
    (let s : State := { entropyOff with sec.waiting := [(.op 5, 0)] }; let t := 5; let a := 0; decide (s.sec.sourceOk = false) &&
      decide (s.sec.latched = false) && decide (s.sec.waiting = [(.op t, a)]) &&
      (let u : State := ({ s with sec.sourceOk := true, sec.requests := 0 } : State).securityChanged; true)) &&
    (let s : State := { entropyOff with sec.waiting := [(.partner 3 7 9, 0)] }; let p := 3; let id := 7; let n := 9; let a := 0;
      decide (s.sec.sourceOk = false) && decide (s.sec.latched = false) && decide (s.sec.waiting = [(.partner p id n, a)]) &&
      (let u : State := ({ s with sec.sourceOk := true, sec.requests := 0 } : State).securityChanged; true)) &&
    (let s : State := entropyOff; let r : Nat := 0; decide (s.sec.sourceOk = false)) &&
    (let s : State := { base with sec.consecFail := 1 }; decide (s.sec.sourceOk = true) && decide (s.sec.latched = false) &&
      decide (s.sec.consecFail ≠ 0))
    ) = true := by
  decide +kernel

/-- RegisterRows: a state and operands that meet the hypotheses of each clause. -/
theorem witness_RegisterRows :
    (
    (let s : State := base; let f : Fn := f0; let tee : Bool := false; let v : Nat := 5; decide (s.boot.link = true) &&
      decide (s.hears f tee = true) && decide (s.wake.mayWrite f = true)) &&
    (let s : State := base; let f : Fn := (⟨5, 3⟩ : Fn); let tee : Bool := false; let v : Nat := 5; decide (s.boot.link = true) &&
      decide (s.hears f tee = true) && decide (s.wake.mayWrite f = false)) &&
    (let s : State := base; let f : Fn := f0; let tee : Bool := false; let v : Nat := 5; decide (s.boot.link = true) &&
      decide (s.hears f tee = true) && decide ((s.wake.adminOf f).enable = false)) &&
    (let s : State := { base with q.admin := [{ (base.adminOf f0) with enable := true }] }; let f : Fn := f0;
      let tee : Bool := false; let v : Nat := 5; decide (s.boot.link = true) && decide (s.hears f tee = true) &&
      decide ((s.wake.adminOf f).enable = true)) &&
    (let s : State := base; let f : Fn := f0; let tee : Bool := false; let v : Nat := 5; let n := 2047;
      decide (s.boot.link = true) && decide (s.hears f tee = true) && decide (n < 2048)) &&
    (let s : State := base; let f : Fn := f0; let tee : Bool := false; let v : Nat := 2 ^ 31; decide (s.boot.link = true) &&
      decide (s.hears f tee = true) && decide (bit (v % 2 ^ 32) 31 = true)) &&
    (let s : State := base; let f : Fn := f0; let tee : Bool := false; let v : Nat := 5; let off := 0x40;
      decide (s.boot.link = true) && decide (s.hears f tee = true)) &&
    (let s : State := base; let f : Fn := f0; let tee : Bool := false; let v : Nat := 5; decide (s.boot.link = true) &&
      decide (s.hears f tee = true) && decide (s.mayWrite f = true)) &&
    (let s : State := base; let f : Fn := (⟨5, 3⟩ : Fn); let tee : Bool := false; let v : Nat := 5; let off := 0x40;
      decide (s.boot.link = true) && decide (s.hears f tee = true) && decide (s.mayWrite f = false)) &&
    (let s : State := base; let f : Fn := f0; let tee : Bool := false; let v : Nat := 5; let n := 8191;
      decide (s.boot.link = true) && decide (s.hears f tee = true) && decide (n < 2 ^ 13)) &&
    (let s : State := base; let f : Fn := f0; let tee : Bool := false; let v : Nat := 5; let off := 0x54;
      decide (s.boot.link = true) && decide (s.hears f tee = true) && decide (off < 0x58) && decide (off % 4 = 0)) &&
    (let s : State := { base with ras.tail := 5 }; let f : Fn := f0; let tee : Bool := false; let v : Nat := 5;
      decide (s.boot.link = true) && decide (s.hears f tee = true) && decide (s.mayWrite f = true) &&
      decide ((v % 2 ^ 13 + 8192 - s.ras.head) % 8192 = s.ras.unread) && decide (s.wake.ras.tail = v % 2 ^ 13) &&
      decide (s.ras.tail < 8192)) &&
    (let s : State := { base with boot.halted := true, ras.haltSource := 3 }; let f : Fn := f0; let tee : Bool := false;
      let v : Nat := 0x5EB70002; decide (s.boot.link = true) && decide (s.hears f tee = true) && decide (bits v 31 16 = 0x5EB7) &&
      decide (bit v 1 = true) && decide (s.wake.boot.halted = true) && decide (s.wake.ras.haltSource ≠ 4) &&
      decide (s.wake.boot.haltN = false) && decide (s.wake.tenantFn f = true)) &&
    (let s : State := base; let f : Fn := f0; let tee : Bool := false; let v : Nat := 5; decide (s.boot.link = true) &&
      decide (s.hears f tee = true) && decide (s.mayWrite f = true))
    ) = true := by
  decide +kernel

/-- TenantLifecycle: a state and operands that meet the hypotheses of each clause. -/
theorem witness_TenantLifecycle :
    (
    (let s : State := spdming; let c : Cmd := ctl [(8, 1)];
      (s.begins 0xA0 c).any (fun (o, t) => decide (t.sec.claimOp ≠ some o.tag) && decide (t.sec.life = .unclaimed) &&
      (t.spdmOn (t.opFn o) (o.p 8 4)).any (fun x => decide (x.mutualAuth = true) && decide (x.key ≠ 0) &&
      decide (t.mgmt.policy = [] ∨ x.root ∈ t.mgmt.policy) &&
      (let u := ({ t with sec.life := .claiming, sec.claimOp := some o.tag, sec.claimFn := some x.fn, sec.tenantKey := x.key } : State).securityChanged;
      decide (u.sec.latched = false) && decide ((u.senseFuses false).boot.marginal = u.boot.marginal) &&
      decide ((u.senseFuses false).boot.rollback ≤ (u.senseFuses false).boot.svn))))) &&
    (let o : Op := op0 9 0 0xA0 0; let s : State := base; decide (s.boot.deck = true) && decide (s.sec.cleanFailed = false) &&
      decide (s.entropyOk = true)) &&
    (let s : State := { spdming with sec.life := .claiming, sec.claimOp := some 9, q.ops := [{ op0 9 0 0xA0 0 with started := true, wait := .claimDeck }] };
      let tag : Nat := 9; decide (s.sec.claimOp = some tag) && decide (s.boot.halted = false) &&
      decide (s.awakeFor 0xA0 = true) && (s.op tag).any (fun o => decide (o.long = false) && decide (o.started = true) &&
      decide (o.finished = false) && decide (o.opcode = 0xA0) && decide ((s.actFor o).sec.claimOp = some o.tag))) &&
    (let s : State := { base with sec.life := .claimed }; let c : Cmd := ctl [(8, 1), (16, 7)];
      (s.begins 0xA1 c).any (fun (o, t) => decide (t.tenantSession (t.opFn o) (o.p 8 4) = true) &&
      decide (t.sec.life = .claimed) && decide (o.p 16 8 = t.sec.session) && decide (t.boot.rollback ≤ t.boot.svn))) &&
    (let s : State := base; let c : Cmd := ctl [(8, 1)]; (s.begins 0xA2 c).any (fun (o, t) => decide (o.wait = .none) &&
      decide (t.tenantSession (t.opFn o) (o.p 8 4) = true) && decide (t.inSession = true))) &&
    (let s : State := { base with sec.life := .releasing, sec.releaseOp := some 9, q.ops := [{ op0 9 0 0xA2 0 with started := true, wait := .release }] };
      let tag : Nat := 9; decide (s.sec.life = .releasing) && decide (s.sec.releaseAt = none) && decide (s.pool.recalls = []) &&
      decide (s.sec.releaseOp = some tag)) &&
    (let s : State := { base with sec.life := .releasing, sec.releaseAt := some 0, clock.now := 1000000 }; let t : Nat := 0;
      decide (s.sec.releaseAt = some t) && decide (s.sec.life = .releasing) && decide (t + 1000000 ≤ s.clock.now)) &&
    (let s : State := base; let c : Cmd := ctl [(56, 0x1000)];
      (s.begins 0xA3 c).any (fun (o, t) => (t.wrote o o.buf t.tenantStatus).any (fun w => true))) &&
    (let s : State := base; let c : Cmd := ctl [(56, 0x1000)]; (s.begins 0xA4 c).any (fun (o, t) => decide (o.buf % 64 = 0) &&
      (t.wrote o o.buf (t.signedReport (o.p 8 32) ++ leBytes 32 0)).any (fun w => true)))
    ) = true := by
  decide +kernel

/-- KeyCommands: a state and operands that meet the hypotheses of each clause. -/
theorem witness_KeyCommands :
    (
    (let s : State := { base with host := Mem.write [] 0x1000 ([1#8, 0#8, 1#8, 0#8, 0x40#8, 1#8]) };
      let c : Cmd := ctl [(8, 0), (16, 320), (20, 1), (56, 0x1000)];
      (s.begins 0xA5 c).any (fun (o, t) => decide (t.tenantSession (t.opFn o) (o.p 20 4) = true) && decide (o.p 8 1 = 0) &&
      decide (320 ≤ o.p 16 4) && decide (o.p 16 4 ≤ 128 + 192 * 4096) &&
      (t.got o o.buf (o.p 16 4)).any (fun b => decide (blobOk (b.take 128) (o.p 16 4) = true)))) &&
    (let s : State := base; let b : List Byte := [];
      decide (beNat (((b.take 128).drop 8).take 48) = 0 ∨ beNat (((b.take 128).drop 8).take 48) = s.sec.tenant) &&
      decide (leNat (((b.take 128).drop 56).take 4) ≤ s.boot.svn)) &&
    (let s : State := base; let key : Nat := 5; let iv : Nat := 6;
      (lowestFree (s.sec.bindings.map (·.slot)) 0 256).any (fun i => true)) &&
    (let s : State := { weighed with tiers.weights := [] }; let c : Cmd := ctl [(8, 1), (12, 0x100), (20, 1)];
      (s.begins 0xA5 c).any (fun (o, t) => decide (t.tenantSession (t.opFn o) (o.p 20 4) = true) && decide (o.p 8 1 = 1) &&
      decide (∀ w ∈ t.tiers.weights, w.binding ≠ o.p 12 4) && (t.binding (o.p 12 4)).any (fun x => true))) &&
    (let s : State := base; let c : Cmd := ctl [(8, 3), (9, 1), (12, 1)];
      (s.begins 0xA6 c).any (fun (o, t) => decide (t.tenantSession (t.opFn o) (o.p 12 4) = true) && decide (o.p 8 1 < 4) &&
      decide (o.p 9 1 = 1) && decide (∀ m ∈ t.sec.macsec, m.port = o.p 8 1 → m.stopped = false))) &&
    (let s : State := { base with sec.macsec := [⟨3, some 5, false, true, true⟩] }; let c : Cmd := ctl [(8, 3), (9, 1), (12, 1)];
      let m := ⟨3, some 5, false, true, true⟩; decide (m.stopped = true) &&
      (s.begins 0xA6 c).any (fun (o, t) => decide (t.tenantSession (t.opFn o) (o.p 12 4) = true) && decide (o.p 8 1 < 4) &&
      decide (o.p 9 1 = 1) && decide (m ∈ t.sec.macsec) && decide (m.port = o.p 8 1))) &&
    (let s : State := base; let c : Cmd := ctl [(8, 3), (10, 1), (12, 1), (56, 0x1000)];
      (s.begins 0xA6 c).any (fun (o, t) => decide (t.tenantSession (t.opFn o) (o.p 12 4) = true) && decide (o.p 8 1 < 4) &&
      decide (o.p 9 1 = 0) && decide (o.p 10 1 < 2) && (t.got o o.buf 80).any (fun b => decide (leNat (b.drop 76) = 0)))) &&
    (let s : State := { base with sec.macsec := [⟨3, some 5, false, false, true⟩] }; let port : Nat := 3;
      let m : MacSec := ⟨3, some 5, false, false, true⟩; decide (m ∈ s.sec.macsec) && decide (m.port = port) &&
      decide (m.cak.isSome = true) && decide (m.secured = false))
    ) = true := by
  decide +kernel

/-- LinkAndDebugSecurity: a state and operands that meet the hypotheses of each clause. -/
theorem witness_LinkAndDebugSecurity :
    (
    (let s : State := base; let f : Fn := f0; let id := 1; decide (s.doe f = true) && (s.wake.spdmOn f id).any (fun x => true)) &&
    (let s : State := { base with sec.spdms := [{ spdm0 with established := false }], clock.now := 10 ^ 15 }; let f : Fn := f0;
      let id := 1; let auth := true; let key := 1; let root := 2; let x := { spdm0 with established := false };
      decide (s.doe f = true) && decide (x ∈ s.wake.sec.spdms) && decide (x.id = id) && decide (x.fn = f) &&
      decide (x.established = false)) &&
    (let s : State := base; let f : Fn := f0; let hb := 255; decide (s.doe f = true) && decide (s.wake.sec.spdms.length < 16) &&
      decide (s.wake.entropyOk = true)) &&
    (let s : State := { base with sec.spdms := List.replicate 16 spdm0 }; let f : Fn := f0; let hb := 255;
      decide (s.doe f = true) && decide (16 ≤ s.wake.sec.spdms.length)) &&
    (let s : State := base; let f : Fn := f0; decide (s.doe f = true)) &&
    (let s : State := { base with sec.spdms := [{ spdm0 with records := 2 ^ 32 }], clock.now := 10 ^ 15 }; let id : Nat := 1;
      let x : Spdm := { spdm0 with records := 2 ^ 32 }; decide (x ∈ s.sec.spdms) && decide (x.id = id) &&
      decide (2 ^ 32 ≤ x.records ∨ x.since + 86400000000000 ≤ s.clock.now)) &&
    (let s : State := { base with sec.spdms := [{ spdm0 with hbeat := 5 }], clock.now := 10 ^ 15 }; let id : Nat := 1;
      let x : Spdm := { spdm0 with hbeat := 5 }; decide (x ∈ s.sec.spdms) && decide (x.id = id) &&
      decide (x.established = true) && decide (x.hbeat ≠ 0) && decide (x.lastBeat + x.hbeat * 1000000000 ≤ s.clock.now)) &&
    (let s : State := base; let link : Nat := 0; let id : Nat := 1; let st : IdeStream := .selective 0 0;
      (s.spdmOn ⟨link, 0⟩ id).any (fun x => let u : State := s.wake.updSpdm id (fun x => { x with records := x.records + 1 });
      decide (u.ideOk link st = true) && decide (u.ide link st = none))) &&
    (let s : State := { base with sec.ides := [⟨0, .mem true, some 0, none, none, false, false⟩] }; let link : Nat := 0;
      let id : Nat := 1; let st : IdeStream := .mem true;
      (s.spdmOn ⟨link, 0⟩ id).any (fun x => let u : State := s.wake.updSpdm id (fun x => { x with records := x.records + 1 });
      (u.ide link st).any (fun y => decide (y.active ≠ some 0) && (y.k0).any (fun t => true)))) &&
    (let s : State := { base with sec.ides := [⟨0, .mem true, some 0, none, some 0, false, false⟩] }; let link : Nat := 0;
      let id : Nat := 1; let st : IdeStream := .mem true;
      (s.spdmOn ⟨link, 0⟩ id).any (fun x => let u : State := s.wake.updSpdm id (fun x => { x with records := x.records + 1 });
      (u.ide link st).any (fun y => decide (y.active = some 0) && (y.k0).any (fun t => true)))) &&
    (let s : State := { base with sec.ides := [⟨0, .mem true, some 0, none, none, false, false⟩] }; let link : Nat := 0;
      let id : Nat := 1; let st : IdeStream := .mem true;
      (s.spdmOn ⟨link, 0⟩ id).any (fun x => let u : State := s.wake.updSpdm id (fun x => { x with records := x.records + 1 });
      (u.ide link st).any (fun y => (y.k0).any (fun t => true)))) &&
    (let s : State := base; let link : Nat := 0; let id : Nat := 1; let st : IdeStream := .mem true;
      (s.spdmOn ⟨link, 0⟩ id).any (fun x => let u : State := s.wake.updSpdm id (fun x => { x with records := x.records + 1 });
      true)) &&
    (let s : State := { base with sec.ides := [⟨0, .mem true, some 0, none, none, false, false⟩] }; let link : Nat := 0;
      let st : IdeStream := .mem true; (s.ide link st).any (fun x => true)) &&
    (let s : State := secured; let f : Fn := f0; decide (s.tdi f = .unlocked) && decide (s.mayLock f = true)) &&
    (let s : State := { base with sec.tdis := [(f0, .locked)] }; let f : Fn := f0; decide (s.tdi f = .locked)) &&
    (let s : State := base; let f : Fn := f0; decide (s.tdi f ≠ .locked)) &&
    (let s : State := base; let f : Fn := ⟨5, 3⟩; decide (s.hostOf f = none) && decide ((s.killPairs f).hostOf f = none)) &&
    (let s : State := base; let f : Fn := f0; let bars : Nat := 7; let cmd : Nat := 6; decide (s.configOf f ≠ (bars, cmd))) &&
    (let s : State := base; decide (s.sec.debugOpen = false)) &&
    (let s : State := { base with sec.debugOpen := true, sec.life := .unclaimed }; decide (s.sec.debugOpen = true) &&
      decide (s.sec.life = .unclaimed)) &&
    (let s : State := { base with sec.debugOpen := true }; decide (s.sec.debugOpen = true) && decide (s.sec.life ≠ .unclaimed))
    ) = true := by
  decide +kernel

/-- ComponentFaults: a state and operands that meet the hypotheses of each clause. -/
theorem witness_ComponentFaults :
    (
    (let s : State := base; let n : Nat := 0; decide (fabricLink n = true) &&
      decide (s.ras.out.contains (.fabricLink n) = false) && decide (s.ras.out.contains (.fabricHalf n) = false)) &&
    (let s : State := base; let n : Nat := 0; decide (fabricLink n = true) &&
      decide (s.ras.out.contains (.fabricLink n) = false)) &&
    (let s : State := { base with stg.live := [⟨0x0B, 0, 2⟩] }; let n : Nat := 5; decide (n < 6) &&
      decide (bit s.boot.stackOk n = true) && decide (s.deckRebuilds = true) &&
      (let t : State := ({ s with boot.stackOk := s.boot.stackOk - 2 ^ n } : State).readyChanged.log (.plain .degraded 0x0105 (0x1000 + 0x100 * n + 0x13) none);
      true)) &&
    (let s : State := base; let n : Nat := 5; decide (n < 6) && decide (bit s.boot.stackOk n = true) &&
      decide (s.deckRebuilds = false) && decide (s.store.blocks = []) &&
      (let t : State := ({ s with boot.stackOk := s.boot.stackOk - 2 ^ n } : State).readyChanged.log (.plain .degraded 0x0105 (0x1000 + 0x100 * n + 0x13) none);
      true)) &&
    (let s : State := { base with ras.out := [.hbmLane 5 31 4] }; let n : Nat := 5; let c : Nat := 31; decide (n < 6) &&
      decide (c < 32) && decide (bit s.boot.stackOk n = true) && decide (4 ≤ s.laneFaults n c)) &&
    (let s : State := base; let n : Nat := 5; let c : Nat := 31; decide (n < 6) && decide (c < 32) &&
      decide (bit s.boot.stackOk n = true) && decide (s.laneFaults n c < 4)) &&
    (let s : State := base; let c : Nat := 7; decide (c < 8) && decide (bit s.boot.causewayOk c = true) &&
      decide (s.store.blocks = []) && decide (s.tiers.leases = [])) &&
    (let s : State := base; let b : Nat := 255; decide (b < 256) && decide ((s.bank b).lost = false) &&
      decide (s.bankList b = [])) &&
    (let s : State := base; let l : Nat := 0; decide (s.boot.phase = .up) && decide (s.sec.life ≠ .claiming)) &&
    (let s : State := base; let l : Nat := 0x1013; decide (s.boot.phase = .up)) &&
    (let s : State := { base with boot.halted := true }; decide (s.boot.halted = true) &&
      decide (∀ o ∈ s.q.ops, haltedAccepts o.opcode = true) && decide (∀ p ∈ s.dlv.ports, p.num < 32)) &&
    (let s : State := base; decide (s.boot.halted = false)) &&
    (let s : State := base; let pier : Nat := 5; let slice : Nat := 15; decide (pier < 6) && decide (slice < 16) &&
      decide ((pier, slice) ∉ s.att.slicesOut)) &&
    (let s : State := base; let span : Nat := 1; let core : Nat := 7; decide (span < 2) && decide (core < 8) &&
      decide (s.ras.out.contains (.core span core) = false))
    ) = true := by
  decide +kernel

/-- TelemetryRows: a state and operands that meet the hypotheses of each clause. -/
theorem witness_TelemetryRows :
    (
    (let s : State := base; let f : Fn := f0; let tee : Bool := false; let n : Nat := 63; decide (s.mayCount f tee = true) &&
      decide (n < 64)) &&
    (let s : State := { base with tel.dump := some ⟨0, 0x100000, 2, 200000, 100, 0, 0, 0, none⟩ }; let c : Cmd := ctl [(8, 1)];
      (s.begins 0xB0 c).any (fun (o, t) => decide (o.p 8 1 = 1) && (t.tel.dump).any (fun d => decide (d.qp = o.qp)))) &&
    (let s : State := base; let c : Cmd := ctl [(8, 0), (12, 2), (16, 200000), (24, 100), (28, 0), (56, 0x100000)];
      (s.begins 0xB0 c).any (fun (o, t) => decide (o.p 8 1 = 0) && decide (o.buf % 4096 = 0) &&
      decide (o.p 12 2 ∈ [2, 4, 8, 16, 32, 64, 128, 256]) && decide (100 ≤ o.p 24 4) && decide (o.p 24 4 ≤ 10000000) &&
      decide (o.time + 100000 ≤ o.p 16 8) && decide (t.tel.dump = none) && decide (o.buf + o.p 12 2 * 17408 ≤ 2 ^ 64) &&
      (let k := t.portOf o (o.p 28 1); decide (k < 32) &&
      decide (outboundDenied t.stg.live (t.portFn o k) o.buf (o.p 12 2 * 17408) = false) && decide (t.linkUp k = true)))) &&
    (let s : State := base; let c : Cmd := ctl [(8, 2), (28, 0), (56, 0x100000)];
      (s.begins 0xB0 c).any (fun (o, t) => decide (o.p 8 1 = 2) && decide (o.buf % 4096 = 0) && (let k := t.portOf o (o.p 28 1);
      decide (k < 32) &&
      (match o.work with | .snapshot b => (match t.hostWrite (t.portFn o k) k o.buf (slotWith 2 b) with | .ok u => true | _ => false) | _ => false)))) &&
    (let s : State := { base with tel.dump := some ⟨0, 0x100000, 2, 200000, 100, 0, 0, 0, some (7, [])⟩, clock.now := 200000 };
      (s.tel.dump).any (fun d => decide (d.first + d.seq * d.period * 1000 ≤ s.clock.now) && decide (d.latched.isSome = true) &&
      (let b : List Byte := s.slotBytes (d.first + d.seq * d.period * 1000) d.seq d.skipped; true))) &&
    (let s : State := { base with tel.dump := some ⟨0, 0x100000, 2, 200000, 100, 0, 0, 0, none⟩, clock.now := 200000 };
      decide (s.boot.halted = false ∨ s.ras.haltSource ≠ 4) &&
      (s.tel.dump).any (fun d => decide (d.first + d.seq * d.period * 1000 ≤ s.clock.now) && decide (d.latched = none) &&
      (let b : List Byte := s.slotBytes (d.first + d.seq * d.period * 1000) d.seq d.skipped;
      (match s.hostWrite (s.dumpFn d.qp d.port) d.port (d.slotAt d.seq) (slotWith ((2 * d.seq + 1) % 2 ^ 32) b) with | .ok t => true | _ => false)))) &&
    (let s : State := { base with tel.dump := some ⟨0, 0x100000, 2, 200000, 100, 0, 1, 0, some (0, [])⟩ };
      decide (s.boot.halted = false ∨ s.ras.haltSource ≠ 4) &&
      (s.tel.dump).any (fun d => (d.latched).any (fun (q, b) => (match s.hostWrite (s.dumpFn d.qp d.port) d.port (d.slotAt q) (slotWith ((2 * q + 2) % 2 ^ 32) b) with | .ok t => true | _ => false)))) &&
    (let s : State := base; let f : Fn := f0; let tee : Bool := false; decide (s.mayCount f tee = true)) &&
    (let s : State := { base with tel.vectors := [{ base.vector f0 3 with timer := 1, pending := 1, masked := false }], clock.now := 10 ^ 6 };
      let f : Fn := f0; let n : Nat := 3; decide ((s.vector f n).pending ≠ 0) && decide ((s.vector f n).timer ≠ 0) &&
      decide ((s.vector f n).firstAt + (s.vector f n).timer * 1000 ≤ s.clock.now) && decide (s.held (s.vector f n) = false)) &&
    (let s : State := base; let f : Fn := f0; let tee : Bool := false; decide (s.boot.link = true) &&
      decide (s.hears f tee = true)) &&
    (let s : State := { base with stg.live := [⟨0x0C, 16, 1 + 1000 * 2 ^ 32⟩], clock.now := 10 ^ 9 };
      decide (fixedRate s.stg.live = true) && decide (s.tel.fixedAt + fixedPeriod s.stg.live * 1000 ≤ s.clock.now))
    ) = true := by
  decide +kernel

/-- ManagementActions: a state and operands that meet the hypotheses of each clause. -/
theorem witness_ManagementActions :
    (
    (let s : State := managing; decide (s.managed = true) && decide (s.boot.link = true)) &&
    (let s : State := managing; decide (s.managed = true) && decide (s.inSession = true)) &&
    (let s : State := { managing with sec.life := .unclaimed }; decide (s.managed = true) && decide (s.resettable = true)) &&
    (let s : State := { managing with sec.life := .unclaimed }; let port := 7; decide (s.managed = true) &&
      decide (s.sec.life = .unclaimed) && decide (s.boot.link = true) && decide (s.boot.halted = false) &&
      decide (s.boot.linkwatch = false) && decide (port < 8) && decide (s.mayWatch = true)) &&
    (let s : State := { managing with sec.life := .unclaimed, q.ops := [op0 5 2 0x50 0] }; let port := 7;
      decide (s.managed = true) && decide (s.sec.life = .unclaimed) && decide (s.boot.link = true) &&
      decide (s.boot.halted = false) && decide (s.boot.linkwatch = false) && decide (port < 8) && decide (s.mayWatch = false)) &&
    (let s : State := managing; let i := 0; decide (s.managed = true)) &&
    (let s : State := managing; let w := 300; decide (s.managed = true) && decide (300 ≤ w) && decide (w ≤ 1000)) &&
    (let s : State := { managing with sec.life := .unclaimed }; let l : List Nat := List.range 16; decide (s.managed = true) &&
      decide (s.sec.life = .unclaimed) && decide (l.length ≤ 16)) &&
    (let s : State := managing; let z := true; let k := 3; decide (s.managed = true) && decide (k < 4)) &&
    (let s : State := managing; let sl := Slot.b; let im := (⟨1, true, 3, 4, 5⟩ : Image); decide (s.managed = true) &&
      decide (s.boot.running ≠ some sl)) &&
    (let s : State := { managing with sec.life := .unclaimed }; let sl := .a; decide (s.managed = true) &&
      decide (s.resettable = true) && decide (s.sec.life = .unclaimed) && decide (s.boot.slotValid sl = true)) &&
    (let s : State := managing; let a := 1; let b := 2; let p := true; decide (s.managed = true)) &&
    (let s : State := managing; let a := 5; decide (s.managed = true) && decide (s.mgmt.anchors.length < 4) &&
      decide (a ∉ s.mgmt.anchors)) &&
    (let s : State := { managing with mgmt.anchors := [1, 2] }; let a := 2; decide (s.managed = true) &&
      decide (a ∈ s.mgmt.anchors) && decide (1 < s.mgmt.anchors.length)) &&
    (let s : State := oneSlot; let sl := .a; decide (s.managed = true) && decide (s.sec.life = .unclaimed) &&
      decide (s.boot.running = some sl) && decide (s.boot.slotValid sl.other = false)) &&
    (let s : State := managing; decide (s.managed = true)) &&
    (let s : State := base; let a : Nat := 5; decide (s.boot.phase ≠ .off) && decide (s.mgmt.anchors = [])) &&
    (let s : State := managing; let a : Nat := 5; decide (s.mgmt.anchors ≠ []))
    ) = true := by
  decide +kernel

/-- PowerAndTime: a state and operands that meet the hypotheses of each clause. -/
theorem witness_PowerAndTime :
    (
    (let s : State := base; let mw : Nat := 10 ^ 7; decide (s.boot.phase = .up) && decide (s.boot.linkwatch = false) &&
      (s.raise mw).any (fun (n, level) => true)) &&
    (let s : State := base; let logic : Nat := 40000; let hbm : Nat := 960; let locus : Nat := 0x1000;
      decide (s.boot.phase = .up) && decide (s.mgmt.thermal ≠ .trip) && decide (Thermal.next s.mgmt.thermal logic hbm = .trip)) &&
    (let s : State := base; let link : Nat := 0; let route : Nat := 0; decide (s.linkUp link = true) && decide (route < 16) &&
      decide (s.pool.bound.contains ⟨link, route⟩ = true)) &&
    (let s : State := base; let k : PartyKind := .accelerator; let link : Nat := 0; let route : Nat := 3; decide (k ≠ .host)) &&
    (let s : State := base; decide (s.boot.phase ≠ .off)) &&
    (let s : State := base; let rail : Nat := 3; decide (s.boot.phase = .up)) &&
    (let s : State := base; let time : Int := (5 : Int); let offset : Int := (7 : Int); decide (s.boot.phase ≠ .off)) &&
    (let s : State := base; let p : Nat := 0; decide (p < 8) && decide (bit s.boot.perst p = true)) &&
    (let s : State := base; let slot : Nat := 3; let salt : BitVec 128 := 77;
      let ps : MemberParams := ⟨16, 3, 2, 1, 32, 0, true, false, false, false, 0, 0, 0⟩; decide (slot ≠ s.wake.slot) &&
      decide (s.wake.groupNs salt = none)) &&
    (let s : State := { base with boot.waking := true }; decide (s.boot.waking = true))
    ) = true := by
  decide +kernel

end Sys2Proof.Tests
end

section
/-! PROOFS. StartupHold.lean: what HALT_N holds of the start-up (R38). Every step after verification waits for a phase later than
`sensing`, and a verification that HALT_N holds stays in `sensing`, so only the pin's deassertion moves the sequence on. -/
namespace Sys2Proof.Machine

/-! ### The steps of the start-up as `exec` runs them -/

theorem exec_firmwareVerified (s : State) : exec .firmwareVerified s = execFirmwareVerified s := rfl
theorem exec_fabricLinksTrained (s : State) : exec .fabricLinksTrained s = execFabricLinksTrained s := rfl
theorem exec_readyLink (s : State) : exec .readyLink s = execReadyLink s := rfl
theorem exec_readyDeck (s : State) : exec .readyDeck s = execReadyDeck s := rfl
theorem exec_ddr5CalibrationComplete (dimms : List (Nat × Nat × Nat)) (s : State) :
    exec (.ddr5CalibrationComplete dimms) s = execDdr5CalibrationComplete dimms s := rfl
theorem exec_hbmTrainingComplete (lanes : List (Nat × Nat × Nat)) (s : State) :
    exec (.hbmTrainingComplete lanes) s = execHbmTrainingComplete lanes s := rfl
theorem exec_nandCalibrationComplete (channels : List NandChannel) (s : State) :
    exec (.nandCalibrationComplete channels) s = execNandCalibrationComplete channels s := rfl
theorem exec_haltNDeassert (s : State) : exec .haltNDeassert s = execHaltNDeassert s := rfl

/-! ### What each step waits for -/

/-- A draw from the DRBG changes security state alone. -/
@[simp] theorem State.draw_boot (s : State) : s.draw.2.boot = s.boot := rfl

/-- The memory dies are held in reset until the deck fabric links are trained. -/
theorem State.released_eq_false_of_sensing {s : State} (h : s.boot.phase = .sensing) : s.released = false := by
  simp [State.released, h]

/-- An accepted image is taken and the fabric keys drawn; HALT_N decides whether the other dies leave reset (R36, R38, R39). -/
theorem execFirmwareVerified_bootSlot {s : State} {sl : Slot} (hphase : s.boot.phase = .sensing)
    (hrun : s.boot.running = none) (hent : s.entropyOk = true) (hslot : s.boot.bootSlot = some sl) :
    execFirmwareVerified s = .next { s.draw.2 with
      sec.fabricKey := some s.draw.1
      boot.running := some sl
      boot.slotAValid := s.boot.accepts .a
      boot.slotBValid := s.boot.accepts .b
      boot.phase := if s.boot.haltN then .sensing else .verified } := by
  simp [execFirmwareVerified, hphase, hrun, hent, hslot]

/-- The links train only after verification has released the other dies. -/
theorem execFabricLinksTrained_waits {s : State} (h : s.boot.phase ≠ .verified) : execFabricLinksTrained s = .next s := by
  simp [execFabricLinksTrained, h]

/-- READY.LINK sets only after the deck fabric links are trained. -/
theorem execReadyLink_waits {s : State} (h : s.boot.phase ≠ .linksTrained) : execReadyLink s = .next s := by
  simp [execReadyLink, h]

theorem execReadyDeck_waits {s : State} (h : s.released = false) : execReadyDeck s = .next s := by
  simp [execReadyDeck, h]

theorem execDdr5CalibrationComplete_waits {s : State} (dimms : List (Nat × Nat × Nat)) (h : s.released = false) :
    execDdr5CalibrationComplete dimms s = .next s := by
  simp [execDdr5CalibrationComplete, h]

theorem execHbmTrainingComplete_waits {s : State} (lanes : List (Nat × Nat × Nat)) (h : s.released = false) :
    execHbmTrainingComplete lanes s = .next s := by
  simp [execHbmTrainingComplete, h]

theorem execNandCalibrationComplete_waits {s : State} (channels : List NandChannel) (h : s.released = false) :
    execNandCalibrationComplete channels s = .next s := by
  simp [execNandCalibrationComplete, h]

/-- Once an image runs, the pin's deassertion gives a held start-up its release of the other dies (R38). -/
theorem execHaltNDeassert_resumes {s : State} (hphase : s.boot.phase = .sensing) (hrun : s.boot.running.isSome = true) :
    execHaltNDeassert s = .next { s with boot.haltN := false, boot.phase := .verified } := by
  simp [execHaltNDeassert, hphase, hrun]

/-! ### The start-up under HALT_N -/

/-- Verification completes under HALT_N: the image runs, and the phase does not move (R38). -/
theorem firmwareVerified_held {s : State} {sl : Slot} (hhalt : s.boot.haltN = true) (hphase : s.boot.phase = .sensing)
    (hrun : s.boot.running = none) (hent : s.entropyOk = true) (hslot : s.boot.bootSlot = some sl) :
    ∃ u, exec .firmwareVerified s = .next u ∧ u.boot.running = some sl ∧ u.boot.phase = .sensing ∧ u.boot.haltN = true := by
  rw [exec_firmwareVerified, execFirmwareVerified_bootSlot hphase hrun hent hslot]
  exact ⟨_, rfl, rfl, if_pos hhalt, hhalt⟩

/-- Settles O11: verification completes in phase `sensing`, where every later step waits, and the deassertion of HALT_N ends that
phase. -/
theorem haltHoldsStart : Obligations.HaltHoldsStart := by
  intro s hhalt hphase
  have hrel : s.released = false := State.released_eq_false_of_sensing hphase
  refine ⟨fun sl hrun hent hslot => firmwareVerified_held hhalt hphase hrun hent hslot, ⟨?_, ?_, ?_, ?_, ?_, ?_⟩, fun hrun => ?_⟩
  · exact (exec_fabricLinksTrained s).trans (execFabricLinksTrained_waits (by simp [hphase]))
  · exact (exec_readyLink s).trans (execReadyLink_waits (by simp [hphase]))
  · exact (exec_readyDeck s).trans (execReadyDeck_waits hrel)
  · exact fun d => (exec_ddr5CalibrationComplete d s).trans (execDdr5CalibrationComplete_waits d hrel)
  · exact fun l => (exec_hbmTrainingComplete l s).trans (execHbmTrainingComplete_waits l hrel)
  · exact fun c => (exec_nandCalibrationComplete c s).trans (execNandCalibrationComplete_waits c hrel)
  · exact (exec_haltNDeassert s).trans (execHaltNDeassert_resumes hphase hrun)

end Sys2Proof.Machine
end

section
/-! PROOFS. EpochCheck.lean: a command whose epoch check fails is turned away, and a command that is turned away leaves the device's
memories, settings and objects as they were (R91). The epoch decides nothing else of the judgement; what acceptance writes before it
judges is named once (`Enters`), and what a completion and the end of an operation keep is one tuple (`State.kept`). -/
namespace Sys2Proof.Machine

/-! ### The judgement and the epoch -/

/-- A chain of reasons to turn a command away finds none just when its first does not hold and the others find none. -/
theorem ite_some_eq_none_iff {α : Type} {c : Prop} [Decidable c] {x : α} {y : Option α} :
    (if c then some x else y) = none ↔ ¬c ∧ y = none := by
  split <;> simp [*]

/-- A command whose check fails is always turned away. -/
theorem State.reject_ne_none_of_stale {s : State} {q : QPair} {op : Nat} {pkt : BitVec 512}
    (hcheck : bit (pf pkt 1 1) 4 = true) (hstale : pf pkt 52 4 ≠ s.stg.epoch % 2 ^ 32) : s.reject q op pkt ≠ none := by
  intro h
  simp only [State.reject, ite_some_eq_none_iff] at h
  obtain ⟨-, -, -, -, -, -, -, -, -, -, -, -, hepoch, -⟩ := h
  exact hepoch (Bool.and_eq_true_iff.2 ⟨hcheck, bne_iff_ne.2 hstale⟩)

/-- Where the command would run in the epoch it names, its check is the one reason: every reason before it leaves the epoch out. -/
theorem State.reject_eq_staleEpoch {s : State} {q : QPair} {op : Nat} {pkt : BitVec 512}
    (hcheck : bit (pf pkt 1 1) 4 = true) (hstale : pf pkt 52 4 ≠ s.stg.epoch % 2 ^ 32)
    (hrest : ({ s with stg.epoch := pf pkt 52 4 } : State).reject q op pkt = none) :
    s.reject q op pkt = some (.staleEpoch, 0) := by
  simp only [State.reject, ite_some_eq_none_iff] at hrest
  obtain ⟨hhalt, hclass, hdiag, hlife, hcode, hclaim, hflag, hwake, hbits, hexpert, hhandle, hzero, -⟩ := hrest
  exact (if_neg hhalt).trans <| (if_neg hclass).trans <| (if_neg hdiag).trans <| (if_neg hlife).trans <|
    (if_neg hcode).trans <| (if_neg hclaim).trans <| (if_neg hflag).trans <| (if_neg hwake).trans <|
    (if_neg hbits).trans <| (if_neg hexpert).trans <| (if_neg hhandle).trans <| (if_neg hzero).trans <|
    if_pos (Bool.and_eq_true_iff.2 ⟨hcheck, bne_iff_ne.2 hstale⟩)

/-! ### What acceptance writes before it judges -/

/-- `t` is `s` but for what a completion touches, the descriptor copies and the staging session. -/
def Enters (s t : State) : Prop :=
  ∃ q tel out ras host dlv fab free copies session, t = { s with
    q := q, tel := tel, out := out, ras := ras, host := host, dlv := dlv, fab := fab, free := free
    att.copies := copies, stg.session := session }

theorem Enters.trans {s t u : State} : Enters s t → Enters t u → Enters s u := by
  rintro ⟨_, _, _, _, _, _, _, _, _, _, rfl⟩ ⟨_, _, _, _, _, _, _, _, _, _, rfl⟩
  exact ⟨_, _, _, _, _, _, _, _, _, _, rfl⟩

theorem Completes.enters {s t : State} : Completes s t → Enters s t := by
  rintro ⟨_, _, _, _, _, _, _, _, rfl⟩
  exact ⟨_, _, _, _, _, _, _, _, _, _, rfl⟩

theorem Signals.enters {s t : State} (h : Signals s t) : Enters s t := h.reports.completes.enters

theorem State.copyDesc_enters (s : State) (tag op : Nat) (pkt : BitVec 512) : Enters s (s.copyDesc tag op pkt) := by
  unfold State.copyDesc
  split
  · exact (Signals.refl s).enters
  · split
    · exact ⟨_, _, _, _, _, _, _, _, _, _, rfl⟩
    · exact (Signals.refl s).enters

theorem State.renewSession_enters (s : State) (qp op : Nat) : Enters s (s.renewSession qp op) :=
  ⟨_, _, _, _, _, _, _, _, _, _, rfl⟩

theorem State.handOver_completes (s : State) (q : QPair) (span tag : Nat) : Completes s (s.handOver q span tag) := by
  unfold State.handOver
  split
  · exact Completes.refl s
  · exact State.fabricSend_completes _ _ _ _ _

/-- Nothing that acceptance writes before it judges bears on the judgement. -/
theorem Enters.reject_eq {s t : State} (h : Enters s t) (q : QPair) (op : Nat) (pkt : BitVec 512) :
    t.reject q op pkt = s.reject q op pkt := by
  obtain ⟨_, _, _, _, _, _, _, _, _, _, rfl⟩ := h
  rfl

/-- Acceptance does nothing, or it enters the command and judges it as the device stood before: what is turned away finishes. -/
theorem State.accept_cases (s : State) (qp op : Nat) (pkt : BitVec 512) :
    s.accept qp op pkt = (none, s) ∨
    ∃ q u tag, s.pair qp = some q ∧ Enters s u ∧
      s.accept qp op pkt = (s.reject q op pkt).elim (some tag, u) (fun why => (none, u.finish tag why.1 why.2)) := by
  cases hpair : s.pair qp with
  | none => exact .inl (by simp only [State.accept, hpair])
  | some q =>
    by_cases hroom : s.tableRoom (s.spanOf qp op pkt) q.ctl = true
    · cases hnext : (s.tags (s.spanOf qp op pkt)).next (s.spanOf qp op pkt) with
      | none => exact .inl (by simp [State.accept, hpair, hroom, hnext])
      | some p =>
        obtain ⟨tag, t⟩ := p
        simp only [State.accept, hpair, hroom, hnext, Bool.not_true, Bool.false_eq_true, if_false]
        generalize hu : State.bumpAt _ _ _ _ _ = u
        have henter : Enters s u := by
          subst hu
          exact (((((State.setTags_signals _ _ _).trans ⟨_, _, _, rfl⟩).enters.trans (State.copyDesc_enters _ _ _ _)).trans
            (State.renewSession_enters _ _ _)).trans (State.handOver_completes _ _ _ _).enters).trans
            ((State.writeRec_signals _ _).trans (State.bumpAt_signals _ _ _ _ _)).enters
        refine .inr ⟨q, u, tag, rfl, henter, ?_⟩
        rw [henter.reject_eq]
        cases s.reject q op pkt <;> rfl
    · exact .inl (by simp [State.accept, hpair, hroom])

/-- A command that its pair's judgement turns away is not started. -/
theorem State.accept_fst_of_reject {s : State} {q : QPair} {qp op : Nat} {pkt : BitVec 512} {why : Status × Nat}
    (hpair : s.pair qp = some q) (hwhy : s.reject q op pkt = some why) : (s.accept qp op pkt).1 = none := by
  obtain h | ⟨p, u, tag, hp, -, h⟩ := s.accept_cases qp op pkt
  · rw [h]
  · obtain rfl : q = p := Option.some.inj (hpair.symm.trans hp)
    rw [h, hwhy]
    rfl

/-- The row of a command that is not accepted ends where its acceptance ends. -/
theorem State.submit_of_accept_none {s : State} {op : Nat} {c : Cmd} {t : State} (body : Op → State → BodyOut)
    (h : s.wake.accept c.qp op c.pkt = (none, t)) : s.submit op body c = t := by
  rw [State.submit, h]

/-! ### What a completion and the end of an operation keep -/

/-- Memories, settings, objects, firmware state and pending commands: what no command changes that is turned away. -/
def State.kept (s : State) :=
  (s.pool.mem, s.pool.extents, s.pool.dir, s.foot, s.stg.live, s.stg.epoch, s.store.namespaces, s.store.snapshots, s.store.pins,
    s.idx.banks, s.idx.entries, s.tiers.weights, s.tiers.leases, s.boot, s.mgmt, s.pending)

theorem Enters.kept_eq {s t : State} : Enters s t → t.kept = s.kept := by
  rintro ⟨_, _, _, _, _, _, _, _, _, _, rfl⟩
  rfl

theorem State.updOp_kept (s : State) (tag : Nat) (f : Op → Op) : (s.updOp tag f).kept = s.kept :=
  (State.updOp_signals s tag f).enters.kept_eq

theorem State.complete_kept (s : State) (o : Op) (st : Status) (result progress : Nat) :
    (s.complete o st result progress).kept = s.kept :=
  (State.complete_completes s o st result progress).enters.kept_eq

theorem State.gc_kept (s : State) : s.gc.kept = s.kept := by
  unfold State.gc
  extract_lets
  split <;> rfl

theorem State.dropClaim_kept (s : State) : s.dropClaim.kept = s.kept :=
  (State.raiseSrc_signals _ 8).enters.kept_eq

/-- A step that keeps them, taken or not. -/
theorem State.ite_kept {c : Prop} [Decidable c] (f : State → State) (hf : ∀ s, (f s).kept = s.kept) (s : State) :
    (if c then f s else s).kept = s.kept := by
  split
  · exact hf s
  · rfl

/-- An operation that ends lets go its units, tag, entry, buffers, waits and claim, and may free blocks. -/
theorem State.endOp_kept (s : State) (tag : Nat) : (s.endOp tag).kept = s.kept := by
  unfold State.endOp
  split
  · rfl
  · refine (State.ite_kept State.gc State.gc_kept _).trans ((State.ite_kept State.dropClaim State.dropClaim_kept _).trans ?_)
    exact (State.setTags_signals _ _ _).enters.kept_eq.trans (State.ite_kept (State.purge · _) (fun _ => rfl) s)

theorem State.finalise_kept (s : State) (tag : Nat) : (s.finalise tag).kept = s.kept := by
  have hrec : ∀ f, (s.updOp tag f).kept = s.kept := State.updOp_kept s tag
  simp only [State.finalise]
  split
  · exact (State.endOp_kept _ _).trans ((State.ite_kept (State.complete · _ _ _ _)
      (fun t => State.complete_kept t _ _ _ _) _).trans (hrec _))
  · exact hrec _

theorem State.finish_kept (s : State) (tag : Nat) (st : Status) (result : Nat) : (s.finish tag st result).kept = s.kept := by
  have hrec : ∀ f, (s.rested.updOp tag f).kept = s.kept := State.updOp_kept s.rested tag
  simp only [State.finish]
  split
  · split
    · exact (State.finalise_kept _ _).trans (hrec _)
    · exact (State.endOp_kept _ _).trans ((State.complete_kept _ _ _ _ _).trans (hrec _))
  · exact hrec _

/-- A command that is not accepted to run changes nothing of what the device keeps. -/
theorem State.accept_none_kept {s t : State} {qp op : Nat} {pkt : BitVec 512} (h : s.accept qp op pkt = (none, t)) :
    t.kept = s.kept := by
  obtain hsame | ⟨q, u, tag, -, henter, hjudged⟩ := s.accept_cases qp op pkt
  · rw [show t = s from congrArg Prod.snd (h.symm.trans hsame)]
  · rw [hjudged] at h
    cases hwhy : s.reject q op pkt with
    | none => simp [hwhy] at h
    | some why =>
      obtain rfl : u.finish tag why.1 why.2 = t := by simpa [hwhy] using h
      exact (State.finish_kept _ _ _ _).trans henter.kept_eq

/-- Settles O10: the check is the only reason that reads the epoch; a row whose acceptance turns its command away ends there, and
entering, answering and ending that command keep all of `State.kept`. -/
theorem epochCheck : Obligations.EpochCheck := by
  refine ⟨fun s q op pkt hcheck hstale => ?_, fun s q op c body hpair hwhy => ?_, fun s t qp op pkt h => ?_⟩
  · exact ⟨State.reject_ne_none_of_stale hcheck hstale, State.reject_eq_staleEpoch hcheck hstale⟩
  · have haccept : s.wake.accept c.qp op c.pkt = (none, (s.wake.accept c.qp op c.pkt).2) :=
      Prod.ext (State.accept_fst_of_reject hpair hwhy) rfl
    exact ⟨haccept, State.submit_of_accept_none body haccept⟩
  · simpa only [State.kept, Prod.mk.injEq] using State.accept_none_kept h

end Sys2Proof.Machine
end

section
/-! PROOFS. Keeps.lean: what no step takes away: the queue of waiting commands, the fuses, the trust anchors, and the canonical
form of the pool memory; one lemma for each function of the model that the rows go through. -/
namespace Sys2Proof.Machine

-- The proofs of this part are checked one after another: side by side, their threads need more memory than there is.
set_option Elab.async false

/-! ### What every step keeps -/

/-- What no step takes away: the queue of waiting commands, the fuses and the trust anchors stay, and a canonical pool memory stays
canonical. -/
def Keeps (σ s : State) : Prop :=
  s.pending = σ.pending ∧ s.boot.fuses = σ.boot.fuses ∧ s.mgmt.anchors = σ.mgmt.anchors ∧
    (σ.pool.mem.wf = true → s.pool.mem.wf = true)

/-- An operation that may have no answer keeps these in the state that it answers. -/
def Holds (σ : State) (r : Option State) : Prop := ∀ ⦃s⦄, r = some s → Keeps σ s

/-- The same for an answer with a state beside a value. -/
def HoldsSnd {α : Type} (σ : State) (r : Option (α × State)) : Prop := ∀ ⦃p⦄, r = some p → Keeps σ p.2

/-- The same for an answer that may be an error. -/
def HoldsOk {ε : Type} (σ : State) (r : Except ε State) : Prop := ∀ ⦃s⦄, r = .ok s → Keeps σ s

/-- The same for a value and a state that may be an error. -/
def HoldsOkSnd {ε α : Type} (σ : State) (r : Except ε (α × State)) : Prop := ∀ ⦃p⦄, r = .ok p → Keeps σ p.2

/-- A move that ends, moved or failed, keeps these. -/
def KeepsMoved (σ : State) : Moved → Prop
  | .done s | .failed s => Keeps σ s
  | .full | .waits => True

/-- A seal keeps these, however it ends. -/
def KeepsSeal (σ : State) : SealOut → Prop
  | .done s | .voting s | .degraded _ s | .poisoned s => Keeps σ s

/-- A FETCH that goes on or has stopped keeps these. -/
def KeepsFetched (σ : State) : Fetched → Prop
  | .go _ _ s | .stop _ _ s => Keeps σ s
  | .waits _ => True

/-- A tile's write that goes on or has stopped keeps these. -/
def KeepsTile (σ : State) : TileOut → Prop
  | .ok s | .stop _ s => Keeps σ s
  | .waits _ => True

/-- The result of an attention command, written or answered with a failure, keeps these. -/
def KeepsWritten (σ : State) : Except BodyOut (Nat × State) → Prop
  | .ok x => Keeps σ x.2
  | .error x => Keeps σ x.state

/-- A command goes on to a next state and keeps these. -/
def Goes (σ : State) (r : Host.Outcome State Fault Refusal) : Prop := ∃ s, r = .next s ∧ Keeps σ s

theorem Keeps.refl (σ : State) : Keeps σ σ := ⟨rfl, rfl, rfl, id⟩

section
variable {σ s t : State} (hs : Keeps σ s)
include hs

/-- An update of anything else. -/
theorem Keeps.put {boot fab clock q stg store idx tiers foot dlv att pool rma grp sec ras tel mgmt host hostBad out free}
    (hb : boot.fuses = s.boot.fuses := by rfl) (hm : mgmt.anchors = s.mgmt.anchors := by rfl)
    (hp : s.pool.mem.wf = true → pool.mem.wf = true := by exact fun h => h) :
    Keeps σ ⟨boot, fab, clock, q, stg, store, idx, tiers, foot, dlv, att, pool, rma, grp, sec, ras, tel, mgmt, host, hostBad, out, free,
      s.pending⟩ :=
  ⟨hs.1, hb.trans hs.2.1, hm.trans hs.2.2.1, fun h => hp (hs.2.2.2 h)⟩

theorem Keeps.ite (ht : Keeps σ t) {c : Prop} [Decidable c] : Keeps σ (if c then s else t) := by
  split
  · exact hs
  · exact ht

theorem Keeps.foldl {α : Type} {f : State → α → State} (hf : ∀ s x, Keeps σ s → Keeps σ (f s x)) {l : List α} :
    Keeps σ (l.foldl f s) := by
  induction l generalizing s with
  | nil => exact hs
  | cons x l ih => exact ih (hf s x hs)

theorem Keeps.elim {α : Type} {o : Option α} {f : α → State} (hf : ∀ a, o = some a → Keeps σ (f a)) : Keeps σ (o.elim s f) := by
  cases o with
  | none => exact hs
  | some a => exact hf a rfl

theorem Keeps.getD {o : Option State} (ho : Holds σ o) : Keeps σ (o.getD s) := by
  cases o with
  | none => exact hs
  | some t => exact ho rfl

theorem Keeps.toSome : Holds σ (some s) := by
  rintro _ ⟨⟩
  exact hs

theorem Keeps.toSomeSnd {α : Type} {a : α} : HoldsSnd σ (some (a, s)) := by
  rintro _ ⟨⟩
  exact hs

theorem Keeps.toOk {ε : Type} : HoldsOk (ε := ε) σ (.ok s) := by
  rintro _ ⟨⟩
  exact hs

theorem Keeps.toOkSnd {ε α : Type} {a : α} : HoldsOkSnd (ε := ε) σ (.ok (a, s)) := by
  rintro _ ⟨⟩
  exact hs

theorem Keeps.toNext : Goes σ (.next s) := ⟨s, rfl, hs⟩

end

theorem Goes.ite {σ : State} {a b : Host.Outcome State Fault Refusal} (ha : Goes σ a) (hb : Goes σ b) {c : Prop} [Decidable c] :
    Goes σ (if c then a else b) := by
  split
  · exact ha
  · exact hb

theorem Holds.none {σ : State} : Holds σ none := fun _ h => (Option.some_ne_none _ h.symm).elim
theorem HoldsSnd.none {σ : State} {α : Type} : HoldsSnd (α := α) σ none :=
  fun _ h => (Option.some_ne_none _ h.symm).elim
theorem HoldsOk.error {σ : State} {ε : Type} {x : ε} : HoldsOk σ (.error x) := fun _ h => by cases h
theorem HoldsOkSnd.error {σ : State} {ε α : Type} {x : ε} : HoldsOkSnd (α := α) σ (.error x) :=
  fun _ h => by cases h

theorem Holds.map {σ : State} {α : Type} {o : Option α} {f : α → State} (h : ∀ a, o = some a → Keeps σ (f a)) : Holds σ (o.map f) := by
  intro s hs
  obtain ⟨a, ha, rfl⟩ := Option.map_eq_some_iff.1 hs
  exact h a ha

theorem HoldsSnd.map {σ : State} {α β : Type} {o : Option α} {f : α → β × State} (h : ∀ a, o = some a → Keeps σ (f a).2) :
    HoldsSnd σ (o.map f) := by
  intro s hs
  obtain ⟨a, ha, rfl⟩ := Option.map_eq_some_iff.1 hs
  exact h a ha

theorem Holds.bind {σ : State} {α : Type} {o : Option α} {f : α → Option State} (h : ∀ a, o = some a → Holds σ (f a)) :
    Holds σ (o.bind f) := by
  intro s hs
  obtain ⟨a, ha, h2⟩ := Option.bind_eq_some_iff.1 hs
  exact h a ha h2

theorem HoldsSnd.bind {σ : State} {α β : Type} {o : Option α} {f : α → Option (β × State)} (h : ∀ a, o = some a → HoldsSnd σ (f a)) :
    HoldsSnd σ (o.bind f) := by
  intro s hs
  obtain ⟨a, ha, h2⟩ := Option.bind_eq_some_iff.1 hs
  exact h a ha h2

theorem Keeps.foldlSnd {σ : State} {α β : Type} {f : α × State → β → α × State} {p : α × State} (hp : Keeps σ p.2)
    (hf : ∀ p x, Keeps σ p.2 → Keeps σ (f p x).2) {l : List β} : Keeps σ (l.foldl f p).2 := by
  induction l generalizing p with
  | nil => exact hp
  | cons x l ih => exact ih (hf p x hp)

theorem Keeps.foldlSndSnd {σ : State} {α β γ : Type} {f : α × β × State → γ → α × β × State} {p : α × β × State}
    (hp : Keeps σ p.2.2) (hf : ∀ p x, Keeps σ p.2.2 → Keeps σ (f p x).2.2) {l : List γ} : Keeps σ (l.foldl f p).2.2 := by
  induction l generalizing p with
  | nil => exact hp
  | cons x l ih => exact ih (hf p x hp)

/-- The state beside a value, once the pair is known. -/
theorem Keeps.ofSnd {σ s : State} {α : Type} {a : α} {p : α × State} (h : Keeps σ p.2) (e : p = (a, s)) : Keeps σ s := by
  subst e
  exact h

theorem Keeps.ofSndSnd {σ s : State} {α β : Type} {a : α} {b : β} {p : α × β × State} (h : Keeps σ p.2.2) (e : p = (a, b, s)) :
    Keeps σ s := by
  subst e
  exact h

theorem Keeps.ofFst {σ s : State} {α : Type} {a : α} {p : State × α} (h : Keeps σ p.1) (e : p = (s, a)) : Keeps σ s := by
  subst e
  exact h

theorem Keeps.ofBody {σ : State} {b c : BodyOut} (h : Keeps σ b.state) (e : b = c) : Keeps σ c.state := e ▸ h
theorem Keeps.ofUnit {σ : State} {b c : UnitOut} (h : Keeps σ b.state) (e : b = c) : Keeps σ c.state := e ▸ h
theorem KeepsMoved.ofEq {σ : State} {b c : Moved} (h : KeepsMoved σ b) (e : b = c) : KeepsMoved σ c := e ▸ h
theorem KeepsSeal.ofEq {σ : State} {b c : SealOut} (h : KeepsSeal σ b) (e : b = c) : KeepsSeal σ c := e ▸ h
theorem KeepsFetched.ofEq {σ : State} {b c : Fetched} (h : KeepsFetched σ b) (e : b = c) : KeepsFetched σ c := e ▸ h
theorem KeepsTile.ofEq {σ : State} {b c : TileOut} (h : KeepsTile σ b) (e : b = c) : KeepsTile σ c := e ▸ h
theorem KeepsWritten.ofEq {σ : State} {b c : Except BodyOut (Nat × State)} (h : KeepsWritten σ b) (e : b = c) : KeepsWritten σ c := e ▸ h
theorem KeepsTile.ofFst {σ : State} {α : Type} {p : TileOut × α} {b : TileOut} {a : α} (h : KeepsTile σ p.1) (e : p = (b, a)) :
    KeepsTile σ b := by
  subst e
  exact h

section
variable {σ s : State} (hs : Keeps σ s)
include hs

theorem Keeps.refreshRegs :
    Keeps σ (s.refreshRegs) :=
  hs.put

theorem Keeps.fabricPut {here : ℕ} {m : FabMsg} :
    Keeps σ (s.fabricPut here m) := by
  unfold State.fabricPut
  extract_lets next
  exact .ite hs.put hs.put

theorem Keeps.fabricSend {cls : Traffic} {body : FabBody} {src dst : ℕ} :
    Keeps σ (s.fabricSend cls body src dst) :=
  .ite hs hs.fabricPut

theorem Keeps.fabricAll {body : FabBody} {src : ℕ} :
    Keeps σ (s.fabricAll body src) :=
  hs.foldl (fun _ _ h => h.fabricSend)

theorem Keeps.fabricArrive {here : ℕ} {m : FabMsg} :
    Keeps σ (s.fabricArrive here m) := by
  unfold State.fabricArrive
  split
  · exact hs.fabricPut
  · split
    · exact hs.fabricSend
    · exact hs
    · exact hs
    · exact hs
    · exact hs
    · exact hs
    · exact hs
    · exact hs

theorem Keeps.fabricLinkStep {src dst : ℕ} :
    Keeps σ (s.fabricLinkStep src dst) := by
  unfold State.fabricLinkStep
  split
  · exact hs
  · extract_lets here
    split
    · exact hs.put
    · extract_lets u
      have hu : Keeps σ u := hs.put
      exact hu.fabricArrive

theorem Keeps.fabricStep :
    Keeps σ (s.fabricStep) := by
  unfold State.fabricStep
  extract_lets t
  have ht : Keeps σ t := hs.foldl (fun _ _ h => h.fabricLinkStep)
  exact ht.put

theorem Keeps.fabricRun {tag a : ℕ} :
    Keeps σ (s.fabricRun tag a) := by
  induction a generalizing s tag with
  | zero =>
    rw [State.fabricRun]
    exact hs
  | succ a ih =>
    rw [State.fabricRun]
    exact .ite (ih hs.fabricStep) hs

theorem Keeps.fabricData {tag : ℕ} {dies : List ℕ} :
    Keeps σ (s.fabricData tag dies) := by
  unfold State.fabricData
  extract_lets t
  have ht : Keeps σ t := hs.foldl (fun _ _ h => h.fabricSend)
  exact ht.fabricRun

theorem Keeps.fabricReroute {n : ℕ} :
    Keeps σ (s.fabricReroute n) := by
  unfold State.fabricReroute
  extract_lets hit
  exact hs.put.foldl (fun _ _ h => h.foldl (fun _ _ h => h.fabricPut))

theorem Keeps.emit {o : Output} :
    Keeps σ (s.emit o) :=
  hs.put

theorem Keeps.addCounter {i n : ℕ} :
    Keeps σ (s.addCounter i n) := by
  unfold State.addCounter
  extract_lets old new t
  exact hs.put

theorem Keeps.setVector {v : Vector} :
    Keeps σ (s.setVector v) :=
  hs.put

theorem Keeps.countIrq {i n : ℕ} :
    Keeps σ (s.countIrq i n) := by
  unfold State.countIrq
  extract_lets t u
  have ht : Keeps σ t := hs.addCounter
  exact ht.put

theorem Keeps.sendOne {v : Vector} :
    Keeps σ (s.sendOne v) := by
  unfold State.sendOne
  extract_lets t u w x₁ x₂
  have ht : Keeps σ t := hs.countIrq
  have hu : Keeps σ u := .ite ht.countIrq ht
  have hw : Keeps σ w := hu.countIrq.countIrq
  have hx₂ : Keeps σ x₂ := hw.put
  exact hx₂.setVector.emit

theorem Keeps.pendOne {f : Fn} {n : ℕ} {now : Bool} :
    Keeps σ (s.pendOne f n now) := by
  unfold State.pendOne
  extract_lets v idle v'
  exact .ite hs.setVector (.ite hs.sendOne (.ite hs.countIrq.sendOne hs.setVector))

theorem Keeps.takeSrc {src : ℕ} :
    Keeps σ (s.takeSrc src) := by
  unfold State.takeSrc
  extract_lets out t
  exact hs.put

theorem Keeps.unrouteHost {h : ℕ} :
    Keeps σ (s.unrouteHost h) := by
  unfold State.unrouteHost
  extract_lets hit t
  exact hs.put

theorem Keeps.pendSrcOne {src : ℕ} {f : Fn} {n : ℕ} :
    Keeps σ (s.pendSrcOne src f n) := by
  unfold State.pendSrcOne
  extract_lets t v
  have ht : Keeps σ t := hs.pendOne
  exact .ite ht ht.setVector

theorem Keeps.raiseOne {src : ℕ} :
    Keeps σ (s.raiseOne src) := by
  unfold State.raiseOne
  split
  · exact hs
  · extract_lets t u v
    have hu : Keeps σ u := hs.put
    split
    · exact hu.pendSrcOne
    · exact hu.put

omit hs in
theorem Keeps.noteHit {t : State} (ht : Keeps σ t) :
    Keeps σ (s.noteHit t) :=
  .ite ht.raiseOne ht

theorem Keeps.sendVector {v : Vector} :
    Keeps σ (s.sendVector v) :=
  .noteHit hs.sendOne

theorem Keeps.pendVector {f : Fn} {n : ℕ} {now : Bool} :
    Keeps σ (s.pendVector f n now) :=
  .noteHit hs.pendOne

theorem Keeps.pendSrc {src : ℕ} {f : Fn} {n : ℕ} :
    Keeps σ (s.pendSrc src f n) :=
  .noteHit hs.pendSrcOne

theorem Keeps.raiseSrc {src : ℕ} :
    Keeps σ (s.raiseSrc src) :=
  .noteHit hs.raiseOne

theorem Keeps.discardSome {v : Vector} {k : ℕ} :
    Keeps σ (s.discardSome v k) :=
  .ite hs (.noteHit hs.countIrq.setVector)

theorem Keeps.discardVector {f : Fn} {n : ℕ} :
    Keeps σ (s.discardVector f n) :=
  hs.discardSome

theorem Keeps.releaseOne {v : Vector} :
    Keeps σ (s.releaseOne v) :=
  .noteHit hs.countIrq.sendOne

theorem Keeps.discardBank {f : Fn} :
    Keeps σ (s.discardBank f) := by
  unfold State.discardBank
  extract_lets t u
  have ht : Keeps σ t := hs.foldl (fun _ _ h => h.discardVector)
  exact ht.put

theorem Keeps.releaseVectors {f : Fn} :
    Keeps σ (s.releaseVectors f) :=
  hs.foldl (fun _ _ h => .ite h h.releaseOne)

theorem Keeps.routeWaiting :
    Keeps σ (s.routeWaiting) := by
  unfold State.routeWaiting
  refine hs.foldl ?_
  intro t x ht
  split
  · exact ht.put.pendSrc
  · exact ht

theorem Keeps.setMonitors {l : List Monitor} :
    Keeps σ (s.setMonitors l) := by
  unfold State.setMonitors
  extract_lets before t u
  have hu : Keeps σ u := hs.put
  exact .ite hu.raiseSrc hu

theorem Keeps.count {e : Event} :
    Keeps σ (s.count e) := by
  unfold State.count
  extract_lets t
  have ht : Keeps σ t := hs.addCounter
  exact .ite ht.setMonitors ht

theorem Keeps.event {e : Event} :
    Keeps σ (s.event e) :=
  .ite hs.put hs.count

theorem Keeps.bump {src n : ℕ} :
    Keeps σ (s.bump src n) :=
  .ite hs hs.event

theorem Keeps.bumpAt {src n : ℕ} {part obj : Option ℕ} :
    Keeps σ (s.bumpAt src n part obj) :=
  .ite hs hs.event

theorem Keeps.pierIo {p wr rd : ℕ} :
    Keeps σ (s.pierIo p wr rd) :=
  hs.bump.bump.bump

theorem Keeps.sampleLoad :
    Keeps σ (s.sampleLoad) :=
  hs.foldl (fun _ _ h => h.put)

theorem Keeps.settleDeferred :
    Keeps σ (s.settleDeferred) := by
  unfold State.settleDeferred
  generalize s.tel.deferred = l
  induction l with
  | nil => exact hs.put
  | cons d l ih => exact ih.count

theorem Keeps.fixedOn :
    Keeps σ (s.fixedOn) :=
  hs.put.sampleLoad

theorem Keeps.fixedOff :
    Keeps σ (s.fixedOff) := by
  unfold State.fixedOff
  extract_lets t
  have ht : Keeps σ t := hs.settleDeferred
  exact .ite ht ht.raiseSrc

theorem Keeps.readyChanged :
    Keeps σ (s.readyChanged) :=
  hs.raiseSrc

theorem Keeps.securityChanged :
    Keeps σ (s.securityChanged) :=
  hs.raiseSrc

theorem Keeps.groupChanged :
    Keeps σ (s.groupChanged) :=
  hs.raiseSrc

theorem Keeps.leaseChanged :
    Keeps σ (s.leaseChanged) :=
  hs.raiseSrc

theorem Keeps.linkChanged :
    Keeps σ (s.linkChanged) :=
  hs.raiseSrc

theorem Keeps.footingChanged :
    Keeps σ (s.footingChanged) :=
  hs.raiseSrc

theorem Keeps.logFatal {r : Report} :
    Keeps σ (s.logFatal r) := by
  unfold State.logFatal
  extract_lets rec0 t u was v w
  have ht : Keeps σ t := hs.event
  have hu : Keeps σ u := ht.emit
  have hw : Keeps σ w := hu.put
  exact .ite (.ite hw.raiseSrc hw) hu.put.bump

theorem Keeps.log {r : Report} :
    Keeps σ (s.log r) := by
  unfold State.log
  split
  · exact hs.logFatal
  · extract_lets rec0 t again u was pos v w
    have ht : Keeps σ t := hs.event
    have hv : Keeps σ v := ht.put
    split
    · exact ht.put.bump
    · exact .ite ht.put.bump (.ite hv.put.raiseSrc hv)

theorem Keeps.rested :
    Keeps σ (s.rested) :=
  hs.put

theorem Keeps.hostWrite {f : Fn} {link a : ℕ} {b : List Byte} :
    HoldsOk σ (s.hostWrite f link a b) := by
  unfold State.hostWrite
  split
  · exact .error
  · exact hs.put.toOk

theorem Keeps.hostPart {link a : ℕ} {b : List Byte} {units : List ℕ} :
    Keeps σ (s.hostPart link a b units) :=
  .ite hs hs.put

theorem Keeps.purge {sel : SUnit → Bool} :
    Keeps σ (s.purge sel) :=
  hs.put

theorem Keeps.pass {link num : ℕ} {units : List ℕ} :
    Keeps σ (s.pass link num units) := by
  unfold State.pass
  extract_lets l cs t u
  have ht : Keeps σ t := hs.bump.bump
  exact .ite ht ht.put

theorem Keeps.charge {link part cls : ℕ} {units : List ℕ} :
    Keeps σ (s.charge link part cls units) :=
  hs.pass

theorem Keeps.setPair {q : QPair} :
    Keeps σ (s.setPair q) :=
  hs.put

theorem Keeps.queueError {q : QPair} {kind : ℕ} :
    Keeps σ (s.queueError q kind) := by
  unfold State.queueError
  extract_lets t u v
  have ht : Keeps σ t := hs.setPair
  have hu : Keeps σ u := ht.bumpAt
  have hv : Keeps σ v := hu.log
  exact hv.pendVector

theorem Keeps.pendCq {i : ℕ} :
    Keeps σ (s.pendCq i) := by
  unfold State.pendCq
  split
  · exact hs
  · extract_lets t u
    have ht : Keeps σ t := hs.pendVector
    exact .ite ht ht.put

theorem Keeps.discardCq {i : ℕ} :
    Keeps σ (s.discardCq i) := by
  unfold State.discardCq
  split
  · exact hs
  · exact .ite hs hs.discardSome.setPair

theorem Keeps.writeCqe {q : QPair} {h : HeldCqe} :
    Keeps σ (s.writeCqe q h) := by
  unfold State.writeCqe
  split
  · exact hs
  · split
    · exact hs.setPair
    · extract_lets t c next u
      split
      · rename_i v w e
        have hw : Keeps σ w := hs.hostWrite e
        extract_lets x₁ x₂ x₃
        have hx₁ : Keeps σ x₁ := hw.put.charge
        have hx₂ : Keeps σ x₂ := hx₁.setPair.emit
        have hx₃ : Keeps σ x₃ := .ite hx₂.bumpAt hx₂
        exact hx₃.pendCq
      · rename_i v _ _
        exact hs.setPair
      · rename_i v _ _ _
        exact hs.queueError

theorem Keeps.restoreHeld {i : ℕ} {t : List HeldCqe} :
    Keeps σ (s.restoreHeld i t) := by
  unfold State.restoreHeld
  split
  · exact hs.setPair
  · exact hs

theorem Keeps.flushHeld {i a : ℕ} :
    Keeps σ (s.flushHeld i a) := by
  induction a generalizing s i with
  | zero =>
    rw [State.flushHeld]
    exact hs
  | succ a ih =>
    rw [State.flushHeld]
    split
    · split
      · exact hs
      · exact .ite hs (ih hs.setPair.writeCqe.restoreHeld)
    · exact hs

theorem Keeps.updBlock {id : ℕ} {f : Block → Block} :
    Keeps σ (s.updBlock id f) :=
  hs.put

theorem Keeps.gc :
    Keeps σ (s.gc) := by
  unfold State.gc
  extract_lets keep gone records stays t u v
  exact .ite hs hs.put

theorem Keeps.setOp {tag : ℕ} {f : Op → Op} :
    Keeps σ (s.setOp tag f) :=
  hs.put

theorem Keeps.setTags {span : ℕ} {t : TagPool} :
    Keeps σ (s.setTags span t) :=
  .ite hs.put hs.put

theorem Keeps.writeRec {o : Op} :
    Keeps σ (s.writeRec o) := by
  unfold State.writeRec
  extract_lets gen t
  exact hs.put

theorem Keeps.updOp {tag : ℕ} {f : Op → Op} :
    Keeps σ (s.updOp tag f) := by
  unfold State.updOp
  extract_lets t
  have ht : Keeps σ t := hs.setOp
  split
  · exact ht.writeRec
  · exact ht

theorem Keeps.settleTarget {o : Op} {q : QPair} :
    Keeps σ (s.settleTarget o q) := by
  unfold State.settleTarget
  split
  · exact .ite hs hs.charge.emit
  · exact hs

theorem Keeps.handBack {o : Op} :
    Keeps σ (s.handBack o) :=
  .ite hs hs.fabricSend

theorem Keeps.complete {o : Op} {st : Status} {result progress : ℕ} :
    Keeps σ (s.complete o st result progress) := by
  unfold State.complete
  split
  · extract_lets t c
    have ht : Keeps σ t := hs.bumpAt.settleTarget
    exact ht.handBack.writeCqe
  · exact hs

theorem Keeps.setPool {b : BufPool} :
    Keeps σ (s.setPool b) :=
  hs.put

theorem Keeps.dropClaim :
    Keeps σ (s.dropClaim) :=
  hs.put.securityChanged

theorem Keeps.endOp {tag : ℕ} :
    Keeps σ (s.endOp tag) := by
  unfold State.endOp
  split
  · exact hs
  · extract_lets waits mine t u v given pools w x₁ x₂ x₃ x₄ x₅ x₆ x₇ x₈ x₉ y₁ y₂
    have ht : Keeps σ t := .ite hs.purge hs
    have hv : Keeps σ v := ht.setTags
    have hy₁ : Keeps σ y₁ := hv.put
    have hy₂ : Keeps σ y₂ := .ite hy₁.dropClaim hy₁
    exact .ite hy₂.gc hy₂

theorem Keeps.finalise {tag : ℕ} :
    Keeps σ (s.finalise tag) := by
  unfold State.finalise
  extract_lets t
  have ht : Keeps σ t := hs.updOp
  split
  · exact Keeps.endOp (.ite ht.complete ht)
  · exact ht

theorem Keeps.finish {tag : ℕ} {st : Status} {result : ℕ} :
    Keeps σ (s.finish tag st result) := by
  unfold State.finish
  extract_lets t
  have ht : Keeps σ t := hs.rested.updOp
  split
  · exact .ite ht.finalise ht.complete.endOp
  · exact ht

theorem Keeps.stopProbe {o : Op} {st : Status} :
    Keeps σ (s.stopProbe o st) := by
  unfold State.stopProbe
  split
  · extract_lets d f slow key t
    have ht : Keeps σ t := .ite hs hs.setOp
    split
    · split
      · exact ht
      · split
        · rename_i u v e
          have hv : Keeps σ v := ht.hostWrite e
          exact hv
        · rename_i u _ _
          exact ht
    · exact ht
  · exact hs

theorem Keeps.stopOp {tag : ℕ} {st : Status} :
    Keeps σ (s.stopOp tag st) := by
  unfold State.stopOp
  split
  · exact hs
  · extract_lets t
    have ht : Keeps σ t := hs.stopProbe
    exact .ite ht.setOp.finalise ht.finish

theorem Keeps.copyDesc {tag op : ℕ} {pkt : BitVec 512} :
    Keeps σ (s.copyDesc tag op pkt) := by
  unfold State.copyDesc
  split
  · exact hs
  · split
    · exact hs.put
    · exact hs

theorem Keeps.handOver {q : QPair} {span tag : ℕ} :
    Keeps σ (s.handOver q span tag) :=
  .ite hs hs.fabricSend

theorem Keeps.renewSession {qp op : ℕ} :
    Keeps σ (s.renewSession qp op) :=
  hs.put

theorem Keeps.accept {qp op : ℕ} {pkt : BitVec 512} :
    Keeps σ (s.accept qp op pkt).2 := by
  obtain h | ⟨q, u, tag, -, ⟨_, _, _, _, _, _, _, _, _, _, rfl⟩, h⟩ := s.accept_cases qp op pkt
  · rw [h]
    exact hs
  · rw [h]
    cases s.reject q op pkt with
    | none => exact hs.put
    | some why => exact hs.put.finish

theorem Keeps.actFor {o : Op} :
    Keeps σ (s.actFor o) :=
  hs.put

omit hs in
theorem Keeps.settle {σ : State} {tag : ℕ} {a : BodyOut} (ha : Keeps σ a.state) :
    Keeps σ (State.settle tag a) := by
  cases a with
  | done st r s => exact Keeps.finish ha
  | wait w s => exact (Keeps.rested ha).updOp
  | long n r s =>
    have ht : ∀ f, Keeps σ (s.rested.updOp tag f) := fun _ => (Keeps.rested ha).updOp
    dsimp only [State.settle]
    split
    · exact .ite (ht _) (ht _).setOp.complete
    · exact ht _

theorem Keeps.announce {body : Op → State → BodyOut} {tag : ℕ} (hbody : ∀ a t, Keeps σ t → Keeps σ (body a t).state) :
    Keeps σ (State.announce body s tag) := by
  unfold State.announce
  split
  · exact hs
  · split
    · exact hs
    · split
      · rename_i t _ _ u e
        have hu : Keeps σ u := (hbody _ _ hs.actFor).ofBody e
        extract_lets v w x₁
        have hw : Keeps σ w := .ite hs.put.setOp hs
        have hx₁ : Keeps σ x₁ := hw.updOp
        exact hx₁.complete
      · rename_i t _ _ u e
        have hu : Keeps σ u := (hbody _ _ hs.actFor).ofBody e
        exact hs
      · rename_i t _ u e
        have hu : Keeps σ u := (hbody _ _ hs.actFor).ofBody e
        exact hs

theorem Keeps.takeOne {o : Op} {p : Pool} :
    Holds σ (s.takeOne o p) := by
  unfold State.takeOne
  split
  · exact hs.toSome
  · split
    · exact hs.toSome
    · refine Holds.map fun part epart => ?_
      exact hs.setPool.setOp

theorem Keeps.acquire {o : Op} {a : List Pool} :
    Keeps σ (s.acquire o a).1 := by
  induction a generalizing s o with
  | nil =>
    rw [State.acquire]
    exact hs
  | cons x a ih =>
    rw [State.acquire]
    split
    · rename_i t u e
      have hu : Keeps σ u := hs.takeOne e
      exact ih hu
    · rename_i t _
      exact hs

theorem Keeps.park {o : Op} {p : Pool} :
    Keeps σ (s.park o p) := by
  unfold State.park
  extract_lets t c
  have ht : Keeps σ t := by
    unfold t
    split
    · exact hs.setPool
    · exact hs
  exact ht.bumpAt.updOp

theorem Keeps.launch {tag : ℕ} {o : Op} :
    Holds σ (s.launch tag o) := by
  unfold State.launch
  split
  · rename_i t u e
    have hu : Keeps σ u := hs.acquire.ofFst e
    split
    · exact hu.updOp.actFor.toSome
    · exact .none
  · rename_i t u _ e
    have hu : Keeps σ u := hs.acquire.ofFst e
    exact .none

theorem Keeps.lacksBuffer {tag : ℕ} {o : Op} :
    Keeps σ (s.lacksBuffer tag o) := by
  unfold State.lacksBuffer
  split
  · rename_i t u _ e
    have hu : Keeps σ u := hs.acquire.ofFst e
    exact .ite hs.finish hu.park
  · rename_i t u e
    have hu : Keeps σ u := hs.acquire.ofFst e
    exact hu.updOp

theorem Keeps.start {body : Op → State → BodyOut} {tag : ℕ} (hbody : ∀ a t, Keeps σ t → Keeps σ (body a t).state) :
    Keeps σ (State.start body s tag) := by
  unfold State.start
  split
  · exact hs
  · split
    · exact hs
    · split
      · exact Keeps.settle (hbody _ _ hs.actFor)
      · split
        · exact hs.updOp.announce hbody
        · split
          · rename_i t u e
            have hu : Keeps σ u := hs.launch e
            split
            · exact Keeps.settle (hbody _ _ hu)
            · exact hu
          · rename_i t _
            exact hs.lacksBuffer.announce hbody

theorem Keeps.wake :
    Keeps σ (s.wake) :=
  .ite hs.put hs

theorem Keeps.submit {op : ℕ} {body : Op → State → BodyOut} {c : Cmd} (hbody : ∀ a t, Keeps σ t → Keeps σ (body a t).state) :
    Keeps σ (State.submit op body c s) := by
  unfold State.submit
  split
  · rename_i t _ u e
    have hu : Keeps σ u := hs.wake.accept.ofSnd e
    exact hu.start hbody
  · rename_i t u e
    have hu : Keeps σ u := hs.wake.accept.ofSnd e
    exact hu

theorem Keeps.forTask {task cls locus : ℕ} {p : Pool} {run : State → State} (hrun : ∀ t, Keeps σ t → Keeps σ (run t)) :
    Keeps σ (s.forTask task cls locus p run) := by
  unfold State.forTask
  extract_lets id t
  split
  · exact hs
  · split
    · exact hrun _ hs.put
    · exact hrun _ hs
    · exact .ite (hrun _ hs.setPool) hs.setPool

theorem Keeps.dropTask {task : ℕ} :
    Keeps σ (s.dropTask task) := by
  unfold State.dropTask
  extract_lets given t
  exact hs.put

theorem Keeps.unit {unit : Op → State → UnitOut} {tag : ℕ} (hunit : ∀ a t, Keeps σ t → Keeps σ (unit a t).state) :
    Keeps σ (State.unit unit s tag) := by
  unfold State.unit
  split
  · exact hs
  · split
    · exact hs
    · split
      · rename_i t u e
        have hu : Keeps σ u := (hunit _ _ hs.actFor).ofUnit e
        split
        · exact hu.rested.updOp
        · exact hu.rested.updOp
        · exact hu.rested
      · rename_i t _ _ u e
        have hu : Keeps σ u := (hunit _ _ hs.actFor).ofUnit e
        extract_lets v b
        have hv : Keeps σ v := hu.rested.fabricData
        exact hv.updOp
      · rename_i t _ _ _ u e
        have hu : Keeps σ u := (hunit _ _ hs.actFor).ofUnit e
        exact hu.rested.fabricData.updOp
      · rename_i t _ _ _ u e
        have hu : Keeps σ u := (hunit _ _ hs.actFor).ofUnit e
        exact hu.rested.updOp

theorem Keeps.answer {x : Xfer} :
    Keeps σ (x.answer s).state := by
  unfold Xfer.answer
  split
  · exact hs
  · exact hs
  · exact hs

theorem Keeps.readFor {o : Op} {a n : ℕ} :
    Keeps σ (s.readFor o a n) :=
  hs.charge

theorem Keeps.wroteFor {o : Op} {link n : ℕ} :
    Keeps σ (s.wroteFor o link n) :=
  hs.charge

omit hs in
theorem Keeps.after {σ : State} {f : State → State} {a : BodyOut} (hf : ∀ t, Keeps σ t → Keeps σ (f t)) (ha : Keeps σ a.state) :
    Keeps σ (BodyOut.after f a).state := by
  cases a with
  | done st r s => exact hf s ha
  | long n r s => exact hf s ha
  | wait w s => exact ha

theorem Keeps.withRead {o : Op} {a n : ℕ} {k : List Byte → BodyOut} (hk : ∀ a, Keeps σ (k a).state) :
    Keeps σ (s.withRead o a n k).state := by
  unfold State.withRead
  split
  · exact Keeps.after (fun _ h => h.readFor) (hk _)
  · exact hs.answer

theorem Keeps.writeThen {o : Op} {a : ℕ} {b : List Byte} {k : State → BodyOut} (hk : ∀ t, Keeps σ t → Keeps σ (k t).state) :
    Keeps σ (s.writeThen o a b k).state := by
  unfold State.writeThen
  split
  · rename_i t u e
    have hu : Keeps σ u := hs.hostWrite e
    exact hk _ hu.wroteFor
  · rename_i t _
    exact hs.hostPart.answer
  · rename_i t _ _ _
    exact hs.answer

theorem Keeps.draw :
    Keeps σ (s.draw).2 :=
  hs.put

theorem Keeps.entropyFailed :
    Keeps σ (s.entropyFailed) :=
  hs.put.bump.securityChanged

theorem Keeps.withEntropy {o : Op} {k : State → BodyOut} (hk : ∀ t, Keeps σ t → Keeps σ (k t).state) :
    Keeps σ (s.withEntropy o k).state := by
  unfold State.withEntropy
  split
  · exact hk _ hs.put
  · split
    · exact hs.entropyFailed
    · exact .ite hs hs.put

theorem Keeps.setSteps {power thermal : ℕ} :
    Keeps σ (s.setSteps power thermal) := by
  unfold State.setSteps
  extract_lets old t u new entered v w x₁
  have hu : Keeps σ u := hs.put
  have hv : Keeps σ v := hu.fabricAll.foldl (fun _ _ h => h.bump)
  have hx₁ : Keeps σ x₁ := hv.put
  exact .ite hu (.ite hx₁ hx₁.raiseSrc)

theorem Keeps.updConn {slot : ℕ} {f : Conn → Conn} :
    Keeps σ (s.updConn slot f) :=
  hs.put

theorem Keeps.purgeConn {slot : ℕ} :
    Keeps σ (s.purgeConn slot) :=
  hs.purge

theorem Keeps.endRma {o : Op} {st : Status} {result : ℕ} :
    Keeps σ (s.endRma o st result) := by
  unfold State.endRma
  extract_lets r
  exact .ite hs.updOp hs.finish

theorem Keeps.endConnOps {c : Conn} {first : Status} :
    Keeps σ (s.endConnOps c first) := by
  unfold State.endConnOps
  extract_lets oldest t u mine v w
  have ht : Keeps σ t := hs.foldl (fun _ _ h => h.endRma)
  have hu : Keeps σ u := ht.foldl (fun _ _ h => h.finish)
  have hv : Keeps σ v := hu.purgeConn.updConn
  exact hv.put

theorem Keeps.connError {slot : ℕ} {first : Status} :
    Keeps σ (s.connError slot first) := by
  unfold State.connError
  split
  · exact hs
  · split
    · exact hs
    · extract_lets t u
      have ht : Keeps σ t := hs.updConn
      exact ht.put.endConnOps

theorem Keeps.connPortsDown {down : ℕ → Bool} :
    Keeps σ (s.connPortsDown down) :=
  hs.foldl (fun _ _ h => h.connError)

theorem Keeps.failTdis {sel : Fn → Bool} :
    Keeps σ (s.failTdis sel) := by
  unfold State.failTdis
  extract_lets hit t
  exact hs.put.bump

theorem Keeps.forget :
    Keeps σ (s.forget) :=
  hs.put (hp := fun _ => rfl)

theorem Keeps.endSession {cause : ℕ} :
    Keeps σ (s.endSession cause) := by
  unfold State.endSession
  split
  · extract_lets t u v w x₁
    have ht : Keeps σ t := hs.forget
    have hx₁ : Keeps σ x₁ := ht.put
    exact hx₁.failTdis.securityChanged
  · exact hs.put

theorem Keeps.senseFuses {reset : Bool} :
    Keeps σ (s.senseFuses reset) := by
  unfold State.senseFuses
  extract_lets mg t b u v
  exact hs.put

theorem Keeps.noteReady {was : ℕ} :
    Keeps σ (s.noteReady was) :=
  .ite hs hs.readyChanged

theorem Keeps.cleared :
    Keeps σ (s.cleared) :=
  hs.put (hp := fun _ => rfl)

theorem Keeps.warmReset {cause : ℕ} :
    Keeps σ (s.warmReset cause) := by
  unfold State.warmReset
  extract_lets was stopped t u v w x₁ x₂
  have ht : Keeps σ t := hs.endSession
  have hu : Keeps σ u := ht.cleared.senseFuses
  have hx₂ : Keeps σ x₂ := hu.put
  exact hx₂.noteReady

theorem Keeps.powerLost :
    Keeps σ (s.powerLost) := by
  unfold State.powerLost
  extract_lets c t u v w x₁ x₂ x₃ x₄
  have hc : Keeps σ c := hs.cleared
  exact hc.put

theorem Keeps.beatPartners {sessionEnd : Bool} :
    Keeps σ (s.beatPartners sessionEnd) :=
  hs.foldl (fun _ _ h => h.emit)

theorem Keeps.trayAlert :
    Keeps σ (s.trayAlert) :=
  hs.emit

theorem Keeps.discardCommit {st : Status} :
    Keeps σ (s.discardCommit st) := by
  unfold State.discardCommit
  split
  · exact .ite hs hs.put.stopOp
  · exact hs

theorem Keeps.halt {source : ℕ} {r : Report} :
    Keeps σ (s.halt source r) := by
  unfold State.halt
  extract_lets t _ _ u w op y
  have ht : Keeps σ t := hs.log.fabricAll
  have hw : Keeps σ w := Keeps.connPortsDown (ht.put : Keeps σ u).readyChanged.trayAlert.discardCommit
  have hy : Keeps σ y := hw.dropClaim
  clear_value w op y
  split
  · cases op with
    | none => exact hy
    | some tag => exact hy.finish
  · exact hw.endSession
  · exact hw

theorem Keeps.fatal {r : Report} :
    Keeps σ (s.fatal r) :=
  hs.endSession.halt

theorem Keeps.fullIfBare :
    Keeps σ (s.fullIfBare) :=
  .ite hs.put.readyChanged hs

theorem Keeps.addPair {q : QPair} :
    Keeps σ (s.addPair q) :=
  hs.put

theorem bodyCreateQueuePair_keeps {o : Op} :
    Keeps σ (bodyCreateQueuePair o s).state := by
  unfold bodyCreateQueuePair
  extract_lets idx cls ctl w vec part span f pick
  split
  · split
    · exact hs
    · split
      · exact hs
      · split
        · exact hs
        · clear_value idx cls ctl w vec part span f pick
          split
          · exact hs
          · exact hs.addPair
  · split
    · exact hs
    · split
      · exact hs
      · split
        · exact hs
        · clear_value idx cls ctl w vec part span f pick
          split
          · exact hs
          · exact hs.addPair

theorem execCreateQueuePair_goes {c : Cmd} :
    Goes σ (execCreateQueuePair c s) :=
  (hs.submit (fun _ _ h => bodyCreateQueuePair_keeps h)).toNext

theorem Keeps.stopNow {tag : ℕ} {st : Status} :
    Keeps σ (s.stopNow tag st) := by
  unfold State.stopNow
  extract_lets live t
  exact hs.put.stopOp

theorem Keeps.cutUnits {tag : ℕ} {st : Status} :
    Keeps σ (s.cutUnits tag st) := by
  unfold State.cutUnits
  extract_lets waits t u v
  have ht : Keeps σ t := hs.purge
  exact ht.put

theorem Keeps.stopAny {tag : ℕ} {st : Status} :
    Keeps σ (s.stopAny tag st) := by
  unfold State.stopAny
  extract_lets t
  have ht : Keeps σ t := hs.cutUnits
  exact .ite ht.setOp ht.stopNow

theorem Keeps.stopDue :
    Keeps σ (s.stopDue) :=
  hs.foldl (fun _ _ h => h.stopNow)

theorem Keeps.removePair {i : ℕ} :
    Keeps σ (s.removePair i) := by
  unfold State.removePair
  extract_lets t session u v w
  have ht : Keeps σ t := hs.discardCq
  exact ht.put

theorem Keeps.killPair {i : ℕ} :
    Keeps σ (s.killPair i) := by
  unfold State.killPair
  extract_lets tags
  exact (hs.foldl (fun _ _ h => h.stopNow)).removePair

theorem bodyDeleteQueuePair_keeps {o : Op} :
    Keeps σ (bodyDeleteQueuePair o s).state := by
  unfold bodyDeleteQueuePair
  extract_lets i
  split
  · split
    · exact hs
    · exact hs.setPair
  · exact hs

theorem execDeleteQueuePair_goes {c : Cmd} :
    Goes σ (execDeleteQueuePair c s) :=
  (hs.submit (fun _ _ h => bodyDeleteQueuePair_keeps h)).toNext

theorem Keeps.abortOne {x : Op} :
    Keeps σ (s.abortOne x).2 := by
  unfold State.abortOne
  split
  · exact hs
  · exact hs.stopOp
  · split
    · extract_lets mine t
      exact hs.put.stopAny
    · split
      · exact hs.stopAny
      · exact hs

theorem unitDeleteQueuePair_keeps {o : Op} :
    Keeps σ (unitDeleteQueuePair o s).state := by
  unfold unitDeleteQueuePair
  extract_lets i l t
  have ht : Keeps σ t := hs.foldl (fun _ _ h => h.abortOne)
  split
  · split
    · exact ht
    · exact ht
  · exact hs.removePair

theorem bodyAbort_keeps {o : Op} :
    Keeps σ (bodyAbort o s).state := by
  unfold bodyAbort
  split
  · split
    · exact hs
    · exact hs
  · extract_lets mode sel r left
    have hr : Keeps σ r.2 := by
      unfold r
      refine Keeps.foldlSnd hs ?_
      intro t a ht
      extract_lets one
      have hone : Keeps σ one.2 := ht.abortOne
      exact hone
    split
    · exact hs
    · split
      · exact hr
      · exact hr.setOp

theorem execAbort_goes {c : Cmd} :
    Goes σ (execAbort c s) :=
  (hs.submit (fun _ _ h => bodyAbort_keeps h)).toNext

theorem bodyHalt_keeps {o : Op} :
    Keeps σ (bodyHalt o s).state :=
  hs.halt

theorem execHalt_goes {c : Cmd} :
    Goes σ (execHalt c s) :=
  (hs.submit (fun _ _ h => bodyHalt_keeps h)).toNext

theorem Keeps.setAdmin {a : AdminRegs} :
    Keeps σ (s.setAdmin a) :=
  hs.put

theorem execAdminQueueEnable_goes {r : Req} {value : ℕ} :
    Goes σ (execAdminQueueEnable r value s) := by
  unfold execAdminQueueEnable
  extract_lets a t sqd cqd vec fail
  have ht : Keeps σ t := hs.wake
  split
  · exact hs.toNext
  · split
    · exact hs.wake.setAdmin.toNext
    · split
      · exact ht.setAdmin.toNext
      · split
        · exact ht.setAdmin.toNext
        · split
          · exact ht.setAdmin.toNext
          · extract_lets u v
            have hu : Keeps σ u := ht.addPair
            exact hu.put.setAdmin.toNext

theorem Keeps.adminSweep :
    Keeps σ (s.adminSweep) :=
  hs.foldl (fun _ _ h => h.removePair.setAdmin)

theorem execAdminQueueDisable_goes {r : Req} :
    Goes σ (execAdminQueueDisable r s) := by
  unfold execAdminQueueDisable
  extract_lets a t u v w
  have ht : Keeps σ t := hs.wake
  have hv : Keeps σ v := ht.put
  have hw : Keeps σ w := hv.foldl (fun _ _ h => h.abortOne)
  split
  · exact hs.toNext
  · exact hw.setAdmin.adminSweep.toNext

theorem execSqTailDoorbell_goes {r : Req} {qp value : ℕ} :
    Goes σ (execSqTailDoorbell r qp value s) := by
  unfold execSqTailDoorbell
  split
  · exact hs.toNext
  · split
    · exact hs.toNext
    · extract_lets t u waiting added
      have ht : Keeps σ t := hs.wake
      split
      · exact ht.queueError.toNext
      · split
        · exact ht.queueError.toNext
        · exact ht.setPair.toNext

theorem execCqHeadDoorbell_goes {r : Req} {qp value : ℕ} :
    Goes σ (execCqHeadDoorbell r qp value s) := by
  unfold execCqHeadDoorbell
  split
  · exact hs.toNext
  · split
    · exact hs.toNext
    · extract_lets t u d freed v w
      have ht : Keeps σ t := hs.wake
      have hv : Keeps σ v := ht.setPair
      have hw : Keeps σ w := .ite hv.discardCq hv.pendCq
      split
      · exact ht.queueError.toNext
      · split
        · exact ht.toNext
        · exact hw.flushHeld.toNext

theorem execBufferGrant_goes {pool : Pool} :
    Goes σ (execBufferGrant pool s) := by
  unfold execBufferGrant
  split
  · exact hs.toNext
  · extract_lets t u
    have ht : Keeps σ t := hs.setPool
    split
    · exact ht.put.toNext
    · exact ht.updOp.toNext

theorem execLongOpFinal_goes {tag : ℕ} :
    Goes σ (execLongOpFinal tag s) := by
  unfold execLongOpFinal
  split
  · exact Keeps.toNext (.ite hs.finalise hs)
  · exact hs.toNext

theorem Keeps.noteShort :
    Keeps σ (s.noteShort) := by
  unfold State.noteShort
  extract_lets l t
  exact .ite hs hs.put

theorem Keeps.lowered {old : List Item} :
    Keeps σ (s.lowered old) :=
  hs.put

theorem Keeps.updNs {i : ℕ} {f : Namespace → Namespace} :
    Keeps σ (s.updNs i f) :=
  hs.put

theorem Keeps.pageBytes {n : Namespace} {b : Block} {p : Page} {count : ℕ} :
    Keeps σ (s.pageBytes n b p count).2 := by
  unfold State.pageBytes
  extract_lets len raw
  split
  · exact hs
  · exact hs.put

theorem Keeps.addBlock {n : Namespace} {k : ℕ} :
    Keeps σ (s.addBlock n k).2 := by
  unfold State.addBlock
  extract_lets id b t
  exact hs.put

theorem Keeps.touch {id : ℕ} :
    Keeps σ (s.touch id) := by
  unfold State.touch
  split
  · exact hs
  · split
    · exact hs
    · extract_lets iv r t u
      have ht : Keeps σ t := hs.updBlock
      have hu : Keeps σ u := .ite ht ht.updNs
      exact hu.bumpAt

theorem Keeps.touchAll {l : List ℕ} :
    Keeps σ (s.touchAll l) :=
  hs.foldl (fun _ _ h => h.touch)

theorem Keeps.report {part : ℕ} {r : PlaceRec} :
    Keeps σ (s.report part r) := by
  unfold State.report
  split
  · exact hs
  · extract_lets seq s' t
    have hs' : Keeps σ s' := by
      unfold s'
      split
      · rename_i u v e
        have hv : Keeps σ v := hs.hostWrite e
        exact hv
      · rename_i u _ _
        exact hs
    exact hs'.put

theorem Keeps.toMember {m kind : ℕ} {b : Option GroupBlock} {value : ℕ} :
    Keeps σ (s.toMember m kind b value) := by
  unfold State.toMember
  split
  · exact hs.emit
  · exact hs

theorem Keeps.toMembers {kind : ℕ} {b : Option GroupBlock} {value : ℕ} :
    Keeps σ (s.toMembers kind b value) :=
  hs.foldl (fun _ _ h => h.toMember)

theorem Keeps.toLeader {n : Namespace} {kind : ℕ} {b : GroupBlock} {value : ℕ} :
    Keeps σ (s.toLeader n kind b value) := by
  unfold State.toLeader
  split
  · exact .ite hs hs.toMember
  · exact hs

theorem Keeps.reportUnindex {n : Namespace} {b : Block} :
    Keeps σ (s.reportUnindex n b) :=
  .ite hs (.ite (.ite hs.toMembers hs.toLeader) hs.put)

theorem Keeps.reportDrop {n : Namespace} {b : Block} :
    Keeps σ (s.reportDrop n b) := by
  unfold State.reportDrop
  split
  · exact hs
  · split
    · extract_lets t
      have ht : Keeps σ t := hs.bumpAt
      exact .ite ht.toMembers ht.toLeader
    · exact hs.put

theorem Keeps.proposeEviction {n : Namespace} {b : Block} :
    Keeps σ (s.proposeEviction n b) := by
  unfold State.proposeEviction
  extract_lets g rest mine t u
  have hu : Keeps σ u := hs.put
  exact .ite hs (.ite hu.toMembers hu.toLeader)

theorem Keeps.tellNamespace {n : Namespace} {holds : Bool} :
    Keeps σ (s.tellNamespace n holds) :=
  .ite hs.toMembers hs

theorem Keeps.tellHeld {m : ℕ} :
    Keeps σ (s.tellHeld m) :=
  hs.foldl (fun _ _ h => h.toMember)

theorem Keeps.matchReports {salt : BitVec 128} :
    Keeps σ (s.matchReports salt) :=
  hs.put

theorem Keeps.forgetMember {m : ℕ} :
    Keeps σ (s.forgetMember m) := by
  unfold State.forgetMember
  extract_lets gone t u
  have hu : Keeps σ u := hs.put
  exact hu.foldl (fun _ _ h => h.matchReports)

theorem Keeps.regroup :
    Keeps σ (s.regroup) := by
  unfold State.regroup
  refine hs.foldl fun t n ht => ?_
  have hu : ∀ g, Keeps σ (t.updNs n.index fun n => { n with gstate := g }).groupChanged := fun _ => ht.updNs.groupChanged
  dsimp only
  split
  · exact ht
  · split
    · exact (hu _).put
    · exact .ite (hu _).bumpAt.put (hu _).bumpAt.toMember
    · exact hu _
    · exact hu _

theorem execColdStart_goes {slot : ℕ} :
    Goes σ (execColdStart slot s) := by
  unfold execColdStart
  split
  · extract_lets t u
    have ht : Keeps σ t := hs.powerLost.senseFuses
    exact ht.put.noteReady.toNext
  · exact hs.toNext

theorem execPorNAssert_goes :
    Goes σ (execPorNAssert s) :=
  hs.powerLost.toNext

theorem execPerstNDeassert_goes {port : ℕ} :
    Goes σ (execPerstNDeassert port s) :=
  hs.put.toNext

theorem execFirmwareVerified_goes :
    Goes σ (execFirmwareVerified s) := by
  unfold execFirmwareVerified
  split
  · split
    · extract_lets d t u v
      have hd : Keeps σ d.2 := hs.draw
      have ht : Keeps σ t := hd
      exact ht.put.toNext
    · exact hs.put.readyChanged.toNext
  · exact hs.toNext

theorem execFabricLinksTrained_goes :
    Goes σ (execFabricLinksTrained s) := by
  unfold execFabricLinksTrained
  split
  · exact hs.put.toNext
  · exact hs.toNext

theorem Keeps.repairSram {bad : List ℕ} :
    Keeps σ (s.repairSram bad) :=
  hs.foldl (fun _ _ h => h.log)

theorem execReadyLink_goes :
    Goes σ (execReadyLink s) := by
  unfold execReadyLink
  split
  · extract_lets t u
    have hu : Keeps σ u := hs.put.readyChanged.repairSram
    exact Keeps.toNext (.ite hu.log hu)
  · exact hs.toNext

theorem execDdr5CalibrationComplete_goes {dimms : List (ℕ × ℕ × ℕ)} :
    Goes σ (execDdr5CalibrationComplete dimms s) := by
  unfold execDdr5CalibrationComplete
  split
  · extract_lets held used t
    exact hs.put.readyChanged.toNext
  · exact hs.toNext

theorem execHbmTrainingComplete_goes {failingLanes : List (ℕ × ℕ × ℕ)} :
    Goes σ (execHbmTrainingComplete failingLanes s) := by
  unfold execHbmTrainingComplete
  split
  · extract_lets ok spared lanes t u
    exact hs.put.readyChanged.toNext
  · exact hs.toNext

theorem Keeps.retireLine {code locus addr : ℕ} :
    Keeps σ (s.retireLine code locus addr) := by
  unfold State.retireLine
  extract_lets t u
  have hu : Keeps σ u := .ite hs hs.put
  exact hu.log

theorem execReadyDeck_goes :
    Goes σ (execReadyDeck s) := by
  unfold execReadyDeck
  split
  · extract_lets t u
    have hu : Keeps σ u := hs.put.readyChanged
    exact ((hu.foldl (fun _ _ h => h.retireLine)).fullIfBare).toNext
  · exact hs.toNext

theorem execNandCalibrationComplete_goes {channels : List NandChannel} :
    Goes σ (execNandCalibrationComplete channels s) := by
  unfold execNandCalibrationComplete
  split
  · exact hs.put.fullIfBare.toNext
  · exact hs.toNext

theorem execCausewayScanComplete_goes {bad : List (ℕ × ℕ)} :
    Goes σ (execCausewayScanComplete bad s) := by
  unfold execCausewayScanComplete
  split
  · extract_lets t u
    have hu : Keeps σ u := hs.put
    exact ((hu.foldl (fun _ _ h => h.retireLine)).fullIfBare).toNext
  · exact hs.toNext

theorem execHaltNAssert_goes :
    Goes σ (execHaltNAssert s) := by
  unfold execHaltNAssert
  extract_lets was t u
  have hu : Keeps σ u := hs.put
  exact Keeps.toNext (.ite hu.halt hu)

theorem execHaltNDeassert_goes :
    Goes σ (execHaltNDeassert s) := by
  unfold execHaltNDeassert
  extract_lets t u v
  have hu : Keeps σ u := hs.put
  exact Keeps.toNext (.ite hu.put hu)

theorem Keeps.watch {port : ℕ} :
    Keeps σ (s.watch port) := by
  unfold State.watch
  extract_lets t live down u v w
  have ht : Keeps σ t := hs.connPortsDown.setSteps
  have hw : Keeps σ w := ht.put.readyChanged
  exact .ite hw.wake hw

theorem bodyEnterLinkWatch_keeps {o : Op} :
    Keeps σ (bodyEnterLinkWatch o s).state := by
  unfold bodyEnterLinkWatch
  split
  · exact hs
  · split
    · exact hs
    · exact hs.watch

theorem execEnterLinkWatch_goes {c : Cmd} :
    Goes σ (execEnterLinkWatch c s) :=
  (hs.submit (fun _ _ h => bodyEnterLinkWatch_keeps h)).toNext

theorem execLinkWatchWake_goes {source : WakeSource} :
    Goes σ (execLinkWatchWake source s) := by
  unfold execLinkWatchWake
  split
  · exact Keeps.toNext (.ite hs hs.wake)
  · exact hs.wake.toNext
  · exact hs.wake.toNext
  · exact hs.wake.toNext
  · exact hs.wake.toNext

theorem execDevWakeAtReached_goes :
    Goes σ (execDevWakeAtReached s) :=
  Keeps.toNext (.ite hs.wake hs)

theorem Keeps.portUp {num raw : ℕ} :
    Keeps σ (s.portUp num raw) :=
  .ite hs.put hs.put

theorem execEthernetLinksTrained_goes {ports : ℕ} :
    Goes σ (execEthernetLinksTrained ports s) := by
  unfold execEthernetLinksTrained
  split
  · exact hs.toNext
  · extract_lets t u
    have ht : Keeps σ t := hs.foldl (fun _ _ h => h.portUp)
    exact ht.put.linkChanged.toNext

theorem execWarmReset_goes :
    Goes σ (execWarmReset s) := by
  unfold execWarmReset
  split
  · exact hs.toNext
  · exact hs.warmReset.toNext

theorem execDevResetWarm_goes {r : Req} {value : ℕ} :
    Goes σ (execDevResetWarm r value s) := by
  unfold execDevResetWarm
  split
  · exact hs.warmReset.toNext
  · exact hs.toNext

theorem Keeps.cascadePass {c : CascadeSearch} {up : Bool} :
    Keeps σ (s.cascadePass c up) := by
  unfold State.cascadePass
  extract_lets k t
  exact hs.put.emit

theorem Keeps.cascadeRun {a : ℕ} :
    Keeps σ (s.cascadeRun a) := by
  induction a generalizing s with
  | zero =>
    rw [State.cascadeRun]
    exact hs
  | succ a ih =>
    rw [State.cascadeRun]
    split
    · exact ih hs.cascadePass.finish
    · exact hs

theorem Keeps.desync {cause : ℕ} :
    Keeps σ (s.desync cause) := by
  unfold State.desync
  extract_lets k tags hit t u v
  have hu : Keeps σ u := hs.put
  have hv : Keeps σ v := hu.bump.log
  exact hv.foldl (fun _ _ h => h.finish)

theorem Keeps.resync :
    Keeps σ (s.resync) := by
  unfold State.resync
  extract_lets k tags t u
  have hu : Keeps σ u := hs.put
  exact hu.foldl (fun _ _ h => h.finish)

theorem Keeps.updErase {id : ℕ} {f : EraseBlock → EraseBlock} :
    Keeps σ (s.updErase id f) :=
  hs.put

theorem Keeps.updDie {id : ℕ} {f : NandDie → NandDie} :
    Keeps σ (s.updDie id f) :=
  hs.put

theorem Keeps.mapTouch {u : ℕ} :
    Keeps σ (s.mapTouch u) :=
  hs.put

theorem Keeps.queueNand {rank kind block row : ℕ} {rebuild : Bool} :
    Keeps σ (s.queueNand rank kind block row rebuild) := by
  unfold State.queueNand
  split
  · exact hs.put
  · exact hs

theorem Keeps.eraseSoon {rank block : ℕ} :
    Keeps σ (s.eraseSoon rank block) := by
  unfold State.eraseSoon
  extract_lets waits t
  exact .ite hs.put hs.put.queueNand

theorem Keeps.dropProgram {block row : ℕ} :
    Keeps σ (s.dropProgram block row) :=
  hs.put

theorem Keeps.nandStart {channel : ℕ} :
    Keeps σ (s.nandStart channel) := by
  unfold State.nandStart
  split
  · exact hs
  · exact .ite hs hs.put

theorem Keeps.readPage {rank : ℕ} {rebuild : Bool} {x : ℕ × ℕ} :
    Keeps σ (s.readPage rank rebuild x) := by
  unfold State.readPage
  split
  · exact hs
  · extract_lets t die held u
    have ht : Keeps σ t := hs.updErase
    split
    · exact .ite ht.queueNand (.ite ht.put.bump.queueNand ht.queueNand)
    · exact ht.queueNand

theorem Keeps.readRow {rank : ℕ} {x : ℕ × ℕ} :
    Keeps σ (s.readRow rank x) := by
  unfold State.readRow
  split
  · exact hs.foldl (fun _ _ h => h.readPage)
  · exact hs

theorem Keeps.footFree :
    Keeps σ (s.footFree) := by
  unfold State.footFree
  extract_lets pages map keeps groups dead t u v
  have hu : Keeps σ u := hs.put
  exact hu.put

theorem Keeps.footDead :
    Keeps σ (s.footDead) := by
  unfold State.footDead
  extract_lets live t
  exact hs.put.footFree

theorem Keeps.closeGroups {block : ℕ} :
    Keeps σ (s.closeGroups block) :=
  hs.put

theorem Keeps.openGroup {rank : ℕ} {slc : Bool} {avoid : Option ℕ} :
    HoldsSnd σ (s.openGroup rank slc avoid) := by
  unfold State.openGroup
  split
  · exact hs.toSomeSnd
  · refine HoldsSnd.map fun a ea => ?_
    extract_lets id g t u
    have ht : Keeps σ t := hs.foldl (fun _ _ h => h.eraseSoon)
    exact ht.put

theorem Keeps.program {rank : ℕ} {rebuild : Bool} {block row : ℕ} :
    Keeps σ (s.program rank rebuild block row) :=
  hs.updErase.queueNand

theorem Keeps.takeSlot {rank : ℕ} {slc : Bool} {avoid : Option ℕ} {rebuild : Bool} :
    HoldsSnd σ (s.takeSlot rank slc avoid rebuild) := by
  unfold State.takeSlot
  refine HoldsSnd.bind fun r er => ?_
  have hr : Keeps σ r.2 := hs.openGroup er
  extract_lets g
  refine HoldsSnd.map fun x ex => ?_
  extract_lets t u v w
  have ht : Keeps σ t := hr.program
  have hv : Keeps σ v := ht.put
  have hw : Keeps σ w := .ite (hv.elim (fun _ _ => hv.program)) hv
  exact hw

theorem Keeps.takeUnit {how : FootHow} :
    HoldsSnd σ (s.takeUnit how) := by
  unfold State.takeUnit
  split
  · exact hs.takeSlot
  · split
    · rename_i t u e
      have hu : Keeps σ (u).2 := hs.takeSlot e
      exact hu.toSomeSnd
    · rename_i t _
      exact hs.put.takeSlot

theorem Keeps.takeUnits {how : FootHow} {a b : ℕ} :
    Holds σ (State.takeUnits how a b s) := by
  induction a generalizing how b s with
  | zero =>
    rw [State.takeUnits]
    exact hs.toSome
  | succ a ih =>
    rw [State.takeUnits]
    refine Holds.bind fun r er => ?_
    have hr : Keeps σ r.2 := hs.takeUnit er
    refine ih ?_
    refine Keeps.mapTouch ?_
    extract_lets t u
    have ht : Keeps σ t := hr
    exact ht.put

theorem Keeps.placeMapped {how : FootHow} {cur : ℕ} {p : FootPage} :
    HoldsSnd σ (s.placeMapped how cur p) := by
  unfold State.placeMapped
  extract_lets next more joins
  split
  · refine HoldsSnd.map fun t et => ?_
    have ht : Keeps σ t := hs.takeUnits et
    exact ht
  · refine HoldsSnd.bind fun u eu => ?_
    refine HoldsSnd.map fun t et => ?_
    have ht : Keeps σ t := hs.takeUnits et
    exact ht

theorem Keeps.takeChunks {how : FootHow} {a : ℕ} :
    Holds σ (State.takeChunks how a s) := by
  induction a generalizing how s with
  | zero =>
    rw [State.takeChunks]
    exact hs.toSome
  | succ a ih =>
    rw [State.takeChunks]
    refine Holds.bind fun r er => ?_
    have hr : Keeps σ r.2 := hs.takeSlot er
    exact ih hr

theorem Keeps.placeZoned {how : FootHow} {cur : ℕ} {p : FootPage} {a : ℕ} :
    HoldsSnd σ (State.placeZoned how cur p a s) := by
  induction a generalizing how cur p s with
  | zero =>
    rw [State.placeZoned]
    exact .none
  | succ a ih =>
    rw [State.placeZoned]
    refine HoldsSnd.bind fun r er => ?_
    have hr : Keeps σ r.2 := hs.openGroup er
    extract_lets g joins at_ n
    split
    · refine HoldsSnd.map fun t et => ?_
      have ht : Keeps σ t := hr.takeChunks et
      exact ht
    · exact ih hr.closeGroups

theorem Keeps.footPlace {how : FootHow} {cur : ℕ} {p : FootPage} :
    HoldsSnd σ (s.footPlace how cur p) := by
  unfold State.footPlace
  extract_lets r
  have hr : HoldsSnd σ r := by
    unfold r
    split
    · exact hs.placeZoned
    · exact hs.placeMapped
  exact .map fun x ex => (hr ex).put

theorem Keeps.footSync {rank : ℕ} :
    Keeps σ (s.footSync rank) := by
  unfold State.footSync
  split
  · exact hs
  · extract_lets t new put
    have ht : Keeps σ t := hs.footDead
    refine .ite ht (Keeps.footFree (Keeps.foldlSnd ht fun a p ha => ?_))
    unfold put
    cases e : a.2.footPlace ⟨rank, false, none, false⟩ a.1 p with
    | none => exact ha
    | some x => exact ha.footPlace e

theorem Keeps.footRead {rank : ℕ} {pages : List FootPage} :
    Keeps σ (s.footRead rank pages) := by
  unfold State.footRead
  split
  · exact hs
  · extract_lets t one l
    have ht : Keeps σ t := hs.footSync
    refine ht.foldl ?_
    intro u x hu
    unfold one
    extract_lets v
    have hv : Keeps σ v := .ite hu hu.mapTouch
    exact hv.elim (fun _ _ => hv.readPage)

theorem Keeps.addMove {m : Move} :
    Keeps σ (s.addMove m) :=
  hs.put

theorem Keeps.sourceOf {rank : ℕ} {x : ℕ × ℕ} :
    Keeps σ (s.sourceOf rank x).2 := by
  unfold State.sourceOf
  split
  · extract_lets how
    exact .ite hs.dropProgram (.ite hs.readRow hs.readPage)
  · exact hs

theorem Keeps.moveUnit {rank : ℕ} {m : MapUnit} :
    Keeps σ (s.moveUnit rank m) := by
  unfold State.moveUnit
  extract_lets r
  have hr : Keeps σ r.2 := hs.sourceOf
  split
  · rename_i t _ u e
    have hu : Keeps σ u := hr.takeSlot e
    exact hu.put
  · rename_i t _
    exact hs

theorem Keeps.moveFoot {rank : ℕ} {p : FootPage} :
    Keeps σ (s.moveFoot rank p) := by
  unfold State.moveFoot
  extract_lets src t u
  have hsrc : Keeps σ src.2 := by
    unfold src
    refine Keeps.foldlSnd hs ?_
    intro v x hv
    extract_lets r
    have hr : Keeps σ r.2 := hv.sourceOf
    exact hr
  have ht : Keeps σ t := hsrc
  split
  · rename_i v w e
    have hw : Keeps σ (w).2 := ht.put.footPlace e
    exact hw.footFree
  · rename_i v _
    exact hs

theorem Keeps.relocate {rank id : ℕ} :
    Keeps σ (s.relocate rank id) := by
  unfold State.relocate
  extract_lets t l owners
  have ht : Keeps σ t := hs.closeGroups
  exact .ite (ht.foldl (fun _ _ h => h.addMove)) ((ht.foldl (fun _ _ h => h.moveUnit)).footFree)

theorem Keeps.rescue :
    Keeps σ (s.rescue) := by
  unfold State.rescue
  extract_lets out t
  have ht : Keeps σ t := hs.foldl (fun _ _ h => h.closeGroups)
  exact .ite hs (.ite (ht.footFree.foldl (fun _ _ h => h.moveFoot)) ((ht.foldl (fun _ _ h => h.moveUnit)).footFree))

theorem Keeps.retireErase {id cause : ℕ} :
    Keeps σ (s.retireErase id cause) :=
  hs.updErase.rescue.footingChanged

theorem Keeps.searched {bank : ℕ} :
    Keeps σ (s.searched bank) :=
  hs.bump

theorem Keeps.putEntry {bank key mask prio ptr : ℕ} :
    Holds σ (s.putEntry bank key mask prio ptr) := by
  unfold State.putEntry
  extract_lets used t
  split
  · exact hs.put.toSome
  · exact .none

theorem Keeps.dropEntry {e : Entry} :
    Keeps σ (s.dropEntry e) :=
  hs.put

theorem Keeps.markIndexed {ids : List ℕ} {on : Bool} {run : Option ℕ} :
    Keeps σ (s.markIndexed ids on run) :=
  hs.put

theorem Keeps.leaveCollision {e : Entry} {id : ℕ} :
    Keeps σ (s.leaveCollision e id) := by
  unfold State.leaveCollision
  extract_lets slot left t u v
  have ht : Keeps σ t := hs.dropEntry
  exact .ite ht.put hs.put

theorem Keeps.dropOwn {id : ℕ} :
    Keeps σ (s.dropOwn id) := by
  unfold State.dropOwn
  extract_lets t
  have ht : Keeps σ t := by
    unfold t
    split
    · exact .ite hs.leaveCollision hs.dropEntry
    · exact hs
  exact ht.markIndexed

theorem Keeps.shrinkRun {r : Run} {gone : List ℕ} :
    Keeps σ (s.shrinkRun r gone) := by
  unfold State.shrinkRun
  extract_lets left t u v w
  have ht : Keeps σ t := hs.markIndexed
  have hu : Keeps σ u := by
    unfold u
    split
    · exact ht.dropEntry
    · exact ht
  exact .ite hu.put ht.put

theorem Keeps.reportGone {b : Block} {reason : ℕ} :
    Keeps σ (s.reportGone b reason) := by
  unfold State.reportGone
  split
  · exact hs.report
  · exact hs

theorem Keeps.evictBlocks {ids : List ℕ} :
    Keeps σ (s.evictBlocks ids) := by
  unfold State.evictBlocks
  extract_lets one
  refine Keeps.gc ?_
  refine hs.foldl ?_
  intro t x ht
  unfold one
  split
  · extract_lets u v
    have hu : Keeps σ u := by
      unfold u
      split
      · exact ht.shrinkRun
      · exact ht.dropOwn
    have hv : Keeps σ v := hu.bumpAt.reportGone
    exact hv.updNs
  · exact ht

theorem Keeps.evictEntry {bank : ℕ} {keep : List ℕ} :
    Holds σ (s.evictEntry bank keep) := by
  unfold State.evictEntry
  extract_lets cs free older
  split
  · exact hs.bump.evictBlocks.toSome
  · exact .none

theorem Keeps.placeEntry {bank key mask prio ptr : ℕ} {evict : Bool} {keep : List ℕ} :
    Holds σ (s.placeEntry bank key mask prio ptr evict keep) := by
  unfold State.placeEntry
  split
  · rename_i t u e
    have hu : Keeps σ u := hs.putEntry e
    exact hu.toSome
  · rename_i t _
    split
    · refine Holds.bind fun a ea => ?_
      have ha : Keeps σ a := hs.evictEntry ea
      exact ha.putEntry
    · exact .none

theorem Keeps.swapEntry {e : Entry} {key ptr prio : ℕ} {evict : Bool} :
    Keeps σ (s.swapEntry e key ptr prio evict) := by
  unfold State.swapEntry
  extract_lets here t
  split
  · rename_i u v e₁
    have hv : Keeps σ v := hs.placeEntry e₁
    exact hv.dropEntry
  · rename_i u _
    exact hs.put

theorem Keeps.leftUnindexed {b : Block} :
    Keeps σ (s.leftUnindexed b) :=
  hs.markIndexed.bumpAt

theorem Keeps.collide {e : Entry} {first : List ℕ} {id : ℕ} {evict : Bool} :
    Keeps σ (s.collide e first id evict) := by
  unfold State.collide
  extract_lets slot t u
  have hu : Keeps σ u := hs.put
  exact hu.swapEntry.markIndexed.bump

theorem Keeps.joinCollision {e : Entry} {id : ℕ} :
    Keeps σ (s.joinCollision e id) := by
  unfold State.joinCollision
  split
  · extract_lets add t
    exact hs.put.markIndexed
  · exact hs.markIndexed.bump

theorem Keeps.newRun {n : Namespace} {a : List ℕ} :
    Keeps σ (s.newRun n a) := by
  induction a generalizing s with
  | nil =>
    rw [State.newRun]
    exact hs
  | cons id rest ih =>
    rw [State.newRun]
    split
    · exact ih hs
    · split
      · extract_lets t u
        have ht : Keeps σ t := by
          unfold t
          split
          · exact hs.collide
          · exact hs.joinCollision
          · exact hs.leftUnindexed
        have hu : Keeps σ u := .ite ht ht.reportUnindex
        exact ih hu
      · extract_lets slot
        split
        · rename_i t e
          have ht : Keeps σ t := Holds.bind (fun _ _ => hs.placeEntry) e
          exact ht.put.markIndexed
        · refine hs.foldl fun t x ht => ?_
          split
          · exact ht.leftUnindexed.reportUnindex
          · exact ht

theorem Keeps.collideRun {n : Namespace} {e : Entry} {id : ℕ} {evict : Bool} :
    Keeps σ (s.collideRun n e id evict) := by
  unfold State.collideRun
  extract_lets slot ids t u v
  have hu : Keeps σ u := hs.put
  have hv : Keeps σ v := hu.markIndexed.collide
  exact hv.newRun

theorem Keeps.indexAs {n : Namespace} {b : Block} {evict : Bool} {keep : List ℕ} :
    Keeps σ (s.indexAs n b evict keep) := by
  unfold State.indexAs
  split
  · exact hs.leftUnindexed
  · split
    · rename_i t u e
      have hu : Keeps σ u := hs.placeEntry e
      exact hu.markIndexed
    · rename_i t _
      exact hs.leftUnindexed
  · split
    · exact hs.collide
    · exact hs.joinCollision
    · exact hs.collideRun

theorem Keeps.indexBlock {n : Namespace} {b : Block} {evict : Bool} :
    Keeps σ (s.indexBlock n b evict) :=
  hs.indexAs

theorem Keeps.soloEntry {n : Namespace} {b : Block} {keep : List ℕ} :
    Keeps σ (s.soloEntry n b keep) := by
  unfold State.soloEntry
  extract_lets t
  have ht : Keeps σ t := hs.indexAs
  exact .ite ht ht.reportUnindex

theorem Keeps.splitRun {id : ℕ} {keep : Bool} :
    Keeps σ (s.splitRun id keep) := by
  unfold State.splitRun
  split
  · extract_lets pre post t u v w x₁
    have ht : Keeps σ t := hs.shrinkRun
    have hv : Keeps σ v := ht.put
    have hw : Keeps σ w := hv.markIndexed
    have hx₁ : Keeps σ x₁ := .ite hw.markIndexed.soloEntry hw
    exact hx₁.newRun
  · exact hs

theorem Keeps.unindex {id : ℕ} :
    Keeps σ (s.unindex id) := by
  unfold State.unindex
  split
  · exact hs.splitRun
  · exact hs.dropOwn

theorem Keeps.joinOne {id : ℕ} :
    Keeps σ (s.joinOne id) := by
  unfold State.joinOne
  extract_lets _ t
  have ht : Keeps σ t := hs.put
  clear_value t
  split
  · exact ht
  · split
    · exact ht
    · split
      · exact ht
      · split
        · exact .ite ht.dropOwn.put.markIndexed ht
        · split
          · exact ht
          · split
            · exact ht.put
            · rename_i u e
              have hu : Keeps σ u := Holds.bind (fun _ _ => ht.putEntry) e
              exact hu.dropOwn.dropOwn.put.markIndexed

theorem Keeps.joinRun {id : ℕ} :
    Keeps σ (s.joinRun id) := by
  unfold State.joinRun
  extract_lets again
  exact hs.foldl (fun _ _ h => h.joinOne)

theorem Keeps.formGroup {num width part : ℕ} {banks : List ℕ} :
    Keeps σ (s.formGroup num width part banks) := by
  unfold State.formGroup
  extract_lets new t
  exact hs.put

theorem Keeps.dissolveGroup {num : ℕ} :
    Keeps σ (s.dissolveGroup num) := by
  unfold State.dissolveGroup
  split
  · exact hs
  · exact hs.put

theorem Keeps.chooseGroup {part width : ℕ} :
    HoldsSnd σ (s.chooseGroup part width) := by
  unfold State.chooseGroup
  extract_lets free better l half n
  split
  · exact hs.toSomeSnd
  · split
    · exact .none
    · split
      · exact .none
      · exact hs.formGroup.toSomeSnd

theorem Keeps.sweepGroup {num : ℕ} :
    Keeps σ (s.sweepGroup num) := by
  unfold State.sweepGroup
  split
  · exact .ite hs hs.dissolveGroup
  · exact hs

theorem Keeps.updDir {g : ℕ} {f : DirEntry → DirEntry} :
    Keeps σ (s.updDir g f) :=
  hs.put

theorem Keeps.afterRecall {g : ℕ} {downgrade : Bool} {leaving : List ℕ} :
    Keeps σ (s.afterRecall g downgrade leaving) := by
  unfold State.afterRecall
  split
  · exact hs
  · dsimp only
    split
    · exact hs.updDir
    · split
      · exact hs.put
      · exact hs.updDir
      · exact hs.updDir

theorem Keeps.startRecallOf {g : ℕ} {hosts : List ℕ} {downgrade : Bool} :
    Keeps σ (s.startRecallOf g hosts downgrade) := by
  unfold State.startRecallOf
  split
  · exact hs
  · split
    · exact hs
    · extract_lets t u v
      have hu : Keeps σ u := hs.foldl (fun _ _ h => h.emit.bump)
      exact hu.put
  · extract_lets t u v w x₁
    have hv : Keeps σ v := hs.foldl (fun _ _ h => h.emit.bump)
    have hw : Keeps σ w := hv.updDir
    exact .ite hs.afterRecall (.ite hs.put hw.put)

theorem Keeps.startRecall {g : ℕ} {downgrade : Bool} :
    Keeps σ (s.startRecall g downgrade) := by
  unfold State.startRecall
  split
  · exact hs.startRecallOf
  · exact hs

theorem Keeps.recallRange {a n : ℕ} {downgrade : Bool} :
    Keeps σ (s.recallRange a n downgrade) :=
  hs.foldl (fun _ _ h => h.startRecall)

theorem Keeps.recallLate :
    Keeps σ (s.recallLate) :=
  hs.put.foldl (fun _ _ h => h.startRecallOf)

theorem Keeps.refuse {host : Option ℕ} {a : ℕ} :
    Keeps σ (s.refuse host a) :=
  hs.bumpAt.log

theorem Keeps.discardStore {obj : Option ℕ} {a : ℕ} :
    Keeps σ (s.discardStore obj a) :=
  hs.log

theorem Keeps.dropWith {id reason : ℕ} {readers tell : Bool} :
    Keeps σ (s.dropWith id reason readers tell) := by
  unfold State.dropWith
  split
  · exact hs
  · extract_lets t r u v w x₁ x₂ x₃ x₄
    have ht : Keeps σ t := hs.unindex
    have hv : Keeps σ v := ht.put
    have hx₂ : Keeps σ x₂ := .ite hv hv.put
    have hx₃ : Keeps σ x₃ := hx₂.bumpAt.reportGone
    have hx₄ : Keeps σ x₄ := hx₃.updNs
    exact Keeps.gc (.ite hx₄.reportDrop hx₄.bumpAt)

theorem Keeps.dropBlock {id reason : ℕ} :
    Keeps σ (s.dropBlock id reason) :=
  hs.dropWith

theorem Keeps.loseBlock {id reason : ℕ} :
    Keeps σ (s.loseBlock id reason) :=
  hs.dropWith

theorem Keeps.leaseUse :
    Keeps σ (s.leaseUse) := by
  unfold State.leaseUse
  extract_lets used t
  exact hs.put

theorem Keeps.chargeLeases {l : List (ℕ × ℕ)} :
    Keeps σ (s.chargeLeases l) := by
  unfold State.chargeLeases
  extract_lets charge t
  exact hs.put

theorem Keeps.moveIo {g : Geo} {was new : Page} :
    Keeps σ (s.moveIo g was new) := by
  unfold State.moveIo
  extract_lets raw
  exact .ite hs.pierIo.bump (.ite hs.pierIo.bump hs)

theorem Keeps.movePages {id first layers target : ℕ} {how : MoveHow} {reportIt : Bool} :
    Keeps σ (s.movePages id first layers target how reportIt) := by
  unfold State.movePages
  split
  · exact hs
  · extract_lets goes moved src t u profile requant lease read rs place new holders old bad v w x₁ x₂ count part obj whole x₃ x₄ x₅ enc x₆
      x₇ x₈ x₉ y₁
    have ht : Keeps σ t := .ite hs.splitRun hs
    have hu : Keeps σ u := ht.footRead
    have hv : Keeps σ v := .ite hu.log hu
    have hw : Keeps σ w := hv.updBlock
    have hx₂ : Keeps σ x₂ := hw.put
    have hx₃ : Keeps σ x₃ := hx₂.bumpAt.bumpAt
    have hx₄ : Keeps σ x₄ := hx₃.bumpAt.bumpAt
    have hx₅ : Keeps σ x₅ := hx₄.bumpAt.bumpAt
    have hx₆ : Keeps σ x₆ := hx₅.updNs
    have hx₇ : Keeps σ x₇ := .ite hx₆.report hx₆
    have hx₈ : Keeps σ x₈ := hx₇.foldl (fun _ _ h => h.moveIo)
    have hx₉ : Keeps σ x₉ := hx₈.chargeLeases
    have hy₁ : Keeps σ y₁ := hx₉.leaseUse
    exact .ite hs (.ite hy₁.joinRun hy₁)

theorem Keeps.moveFailed {b : Block} {n : Namespace} {first layers target : ℕ} :
    Keeps σ (s.moveFailed b n first layers target) := by
  unfold State.moveFailed
  extract_lets p t
  have ht : Keeps σ t := hs.bumpAt.report
  exact ht.log

theorem Keeps.queueMove {blocks : List ℕ} {layered : Bool} {target reason : ℕ} {latency : Bool} :
    Keeps σ (s.queueMove blocks layered target reason latency) :=
  .ite hs hs.addMove

theorem Keeps.queueRaise {blocks : List ℕ} {target reason : ℕ} :
    Keeps σ (s.queueRaise blocks target reason) :=
  .ite hs hs.addMove

theorem Keeps.pushOut {b : Block} {t reason : ℕ} :
    Keeps σ (s.pushOut b t reason) := by
  unfold State.pushOut
  split
  · exact hs
  · split
    · exact hs.movePages
    · exact .ite hs.dropBlock hs

theorem Keeps.makeRoom {ok : State → Bool} {part t : ℕ} {use : Option (Option ℕ)} {carried : List ℕ} {reason : ℕ} :
    Keeps σ (State.makeRoom ok s part t use carried reason) :=
  hs.foldl (fun _ _ h => .ite h h.pushOut)

theorem Keeps.roomForMove {part t n : ℕ} {use : Option ℕ} {carried : List ℕ} :
    Keeps σ (s.roomForMove part t n use carried) :=
  .ite hs hs.makeRoom

theorem Keeps.roomForTail {part n : ℕ} :
    Keeps σ (s.roomForTail part n) :=
  .ite hs hs.makeRoom

theorem Keeps.updChain {slot : ℕ} {f : Chain → Chain} :
    Keeps σ (s.updChain slot f) :=
  hs.put

theorem Keeps.touchControl {c : Chain} {n : Namespace} :
    Keeps σ (s.touchControl c n) := by
  unfold State.touchControl
  split
  · exact hs.recallRange
  · exact hs

theorem Keeps.chainSealed {slot id ref : ℕ} :
    Keeps σ (s.chainSealed slot id ref) := by
  unfold State.chainSealed
  extract_lets t
  have ht : Keeps σ t := hs.updChain
  split
  · exact ht.touchControl
  · exact ht

theorem Keeps.sealRecord {n : Namespace} {id version : ℕ} :
    Keeps σ (s.sealRecord n id version) :=
  hs.updBlock

theorem Keeps.finishSeal {n : Namespace} {slot id : ℕ} {dup : Option ℕ} {index : Bool} :
    Keeps σ (s.finishSeal n slot id dup index) := by
  have hsealed : ∀ version, Keeps σ (match (s.sealRecord n id version).block id with
      | some b => if index then (s.sealRecord n id version).indexBlock n b (n.width != 8)
        else (s.sealRecord n id version).leftUnindexed b
      | none => s.sealRecord n id version) := fun version => by
    split
    · exact .ite hs.sealRecord.indexBlock hs.sealRecord.leftUnindexed
    · exact hs.sealRecord
  unfold State.finishSeal
  split
  · dsimp only
    refine Keeps.gc ?_
    cases dup with
    | some _ => exact .ite hs.updBlock.chainSealed hs.updBlock.updChain
    | none =>
      refine .ite (Keeps.chainSealed ?_) (Keeps.updChain ?_)
      · exact .ite (hsealed _) (hsealed _).queueMove
      · exact .ite (hsealed _) (hsealed _).queueMove
  · exact hs.updBlock.gc
  · exact hs

theorem Keeps.keyBlock {n : Namespace} {c : Chain} {id : ℕ} {tokens : List ℕ} :
    Keeps σ (s.keyBlock n c id tokens) := by
  unfold State.keyBlock
  extract_lets parent key sink
  exact hs.updBlock

theorem Keeps.unprepare {g : GroupBlock} :
    Keeps σ (s.unprepare g) :=
  hs.put

theorem Keeps.prepare {n : Namespace} {slot id : ℕ} {op : Option ℕ} :
    Keeps σ (s.prepare n slot id op) := by
  unfold State.prepare
  split
  · exact hs
  · extract_lets dup full g p t u v w
    have ht : Keeps σ t := hs.updBlock
    have hv : Keeps σ v := ht.put
    have hw : Keeps σ w := hv.bumpAt
    exact hw.toLeader

theorem Keeps.castVote {m : ℕ} {g : GroupBlock} {full : Bool} :
    Keeps σ (s.castVote m g full) := by
  unfold State.castVote
  split
  · exact hs.put
  · exact hs.put

theorem Keeps.closeBallot {g : GroupBlock} {kind value : ℕ} :
    Keeps σ (s.closeBallot g kind value) := by
  unfold State.closeBallot
  extract_lets table t u
  have ht : Keeps σ t := hs.foldl (fun _ _ h => h.emit)
  exact ht.put

theorem Keeps.ownVote {n : Namespace} {g : GroupBlock} :
    Keeps σ (s.ownVote n g) := by
  unfold State.ownVote
  split
  · split
    · exact hs.castVote
    · exact hs
  · exact hs

theorem Keeps.commitBlock {g : GroupBlock} {unindexed : Bool} :
    Keeps σ (s.commitBlock g unindexed) := by
  unfold State.commitBlock
  split
  · extract_lets t u
    have ht : Keeps σ t := hs.unprepare.bumpAt
    have hu : Keeps σ u := ht.updBlock
    exact hu.finishSeal
  · exact hs

theorem sealLoop_keeps {tag a : ℕ} :
    KeepsSeal σ (sealLoop tag s a) := by
  induction a generalizing tag s with
  | zero =>
    rw [sealLoop]
    exact hs
  | succ a ih =>
    rw [sealLoop]
    split
    · exact hs
    · split
      · split
        · exact hs
        · exact hs
        · split
          · split
            · exact hs
            · extract_lets t u g v dup w
              have ht : Keeps σ t := .ite hs.keyBlock hs
              have hu : Keeps σ u := ht.prepare
              have hv : Keeps σ v := hu.ownVote
              have hw : Keeps σ w := ht.finishSeal
              split
              · split
                · exact ht
                · split
                  · extract_lets x₁ x₂
                    have hx₁ : Keeps σ x₁ := hv.closeBallot
                    exact ih hx₁.commitBlock.setOp
                  · exact hv
              · exact ih hw.setOp
          · exact hs
      · exact hs

theorem sealAnswer_keeps {o : Op} :
    Keeps σ (sealAnswer o s).state := by
  unfold sealAnswer
  split
  · rename_i t u e
    have hu : Keeps σ u := (sealLoop_keeps hs).ofEq e
    exact hu
  · rename_i t _ u e
    have hu : Keeps σ u := (sealLoop_keeps hs).ofEq e
    exact hu
  · rename_i t u e
    have hu : Keeps σ u := (sealLoop_keeps hs).ofEq e
    exact hu
  · rename_i t u e
    have hu : Keeps σ u := (sealLoop_keeps hs).ofEq e
    extract_lets v
    split
    · extract_lets w
      exact hu
    · exact hu

theorem autoseal_keeps {slot a : ℕ} :
    Keeps σ (autoseal slot s a) := by
  induction a generalizing slot s with
  | zero =>
    rw [autoseal]
    exact hs
  | succ a ih =>
    rw [autoseal]
    split
    · exact hs
    · split
      · split
        · exact hs
        · split
          · exact hs
          · extract_lets t u g v dup
            have ht : Keeps σ t := hs.keyBlock
            have hu : Keeps σ u := ht.prepare
            have hv : Keeps σ v := hu.ownVote
            split
            · split
              · extract_lets w
                have hw : Keeps σ w := hv.closeBallot
                exact ih hw.commitBlock
              · exact hv
            · exact ih ht.finishSeal
      · exact hs

theorem Keeps.afterCommit {p : Prepared} :
    Keeps σ (s.afterCommit p) := by
  unfold State.afterCommit
  split
  · extract_lets t
    have ht : Keeps σ t := hs.setOp
    split
    · exact .ite (Keeps.settle (sealAnswer_keeps ht)) ht
    · exact ht
  · exact autoseal_keeps hs

theorem Keeps.groupCommit {g : GroupBlock} {unindexed : Bool} :
    Keeps σ (s.groupCommit g unindexed) := by
  unfold State.groupCommit
  split
  · exact hs.commitBlock.afterCommit
  · exact hs

theorem Keeps.groupAbort {g : GroupBlock} :
    Keeps σ (s.groupAbort g) := by
  unfold State.groupAbort
  split
  · exact hs
  · extract_lets t n u v
    have ht : Keeps σ t := hs.unprepare.updBlock
    have hu : Keeps σ u := ht.bumpAt
    have hv : Keeps σ v := by
      unfold v
      split
      · exact hu.finish
      · exact hu
    exact hv.gc

theorem Keeps.openBlock {n : Namespace} {k : ℕ} :
    HoldsSnd σ (s.openBlock n k) := by
  unfold State.openBlock
  extract_lets t
  have ht : Keeps σ t := hs.roomForTail
  split
  · exact ht.addBlock.toSomeSnd
  · exact .none

theorem Keeps.openTail {n : Namespace} {k : ℕ} {reuse : Bool} :
    HoldsSnd σ (s.openTail n k reuse) := by
  unfold State.openTail
  split
  · exact hs.addBlock.toSomeSnd
  · exact hs.openBlock

theorem Keeps.slide {n : Namespace} {slot : ℕ} :
    Keeps σ (s.slide n slot).1 := by
  unfold State.slide
  split
  · exact hs
  · split
    · exact hs
    · extract_lets t out ids u free v gone
      have hu : Keeps σ u := hs.updChain
      have hv : Keeps σ v := (hu.foldl (fun _ _ h => .ite h.unindex h)).gc
      exact hv

theorem Keeps.rebind {slot k : ℕ} :
    Keeps σ (s.rebind slot k) := by
  unfold State.rebind
  split
  · split
    · extract_lets i t u
      have ht : Keeps σ t := hs.recallRange
      exact ht.updChain
    · exact hs
  · exact hs

theorem Keeps.rollTail {n : Namespace} {slot : ℕ} {reuse : Bool} :
    Holds σ (s.rollTail n slot reuse) := by
  unfold State.rollTail
  split
  · exact .none
  · split
    · exact .none
    · extract_lets t base
      split
      · split
        · rename_i u _ v e
          have hv : Keeps σ v := hs.openTail e
          exact hv.updChain.rebind.toSome
        · rename_i u _
          exact .none
      · exact hs.updChain.toSome
      · split
        · rename_i u _ v e
          have hv : Keeps σ v := hs.openTail e
          exact hv.updChain.rebind.toSome
        · rename_i u _
          exact .none

theorem rollTo_keeps {n : Namespace} {slot reuse a : ℕ} :
    Holds σ (rollTo n slot s reuse a) := by
  induction a generalizing n slot s reuse with
  | zero =>
    rw [rollTo]
    exact hs.toSome
  | succ a ih =>
    rw [rollTo]
    split
    · exact .none
    · split
      · refine Holds.bind fun b eb => ?_
        have hb : Keeps σ b := hs.rollTail eb
        exact ih hb
      · exact hs.toSome

theorem Keeps.advance {n : Namespace} {slot v : ℕ} :
    HoldsOk σ (s.advance n slot v) := by
  unfold State.advance
  split
  · exact .error
  · split
    · exact .error
    · split
      · exact hs.toOk
      · extract_lets t
        have ht : Keeps σ t.1 := hs.updChain.slide
        split
        · rename_i u _
          exact .error
        · rename_i u w e
          have hw : Keeps σ w := (rollTo_keeps ht) e
          refine Keeps.toOk ?_
          refine autoseal_keeps ?_
          split
          · exact hw.touchControl
          · exact hw

theorem Keeps.onChain {c : Chain} {k : BodyOut} (hk : Keeps σ k.state) :
    Keeps σ (s.onChain c k).state := by
  unfold State.onChain
  split
  · exact hs.put
  · split
    · exact hs
    · exact hk

theorem Keeps.withNs {o : Op} {k : Namespace → BodyOut} (hk : ∀ a, Keeps σ (k a).state) :
    Keeps σ (s.withNs o k).state := by
  unfold State.withNs
  split
  · exact hk _
  · exact hs

theorem Keeps.withChain {o : Op} {k : Namespace → Chain → BodyOut} (hk : ∀ a b, Keeps σ (k a b).state) :
    Keeps σ (s.withChain o k).state := by
  unfold State.withChain
  refine hs.withNs ?_
  intro a
  split
  · exact hs.onChain (hk _ _)
  · exact hs

theorem Keeps.withView {o : Op} {k : Namespace → View → BodyOut} (hk : ∀ a b, Keeps σ (k a b).state) :
    Keeps σ (s.withView o k).state := by
  unfold State.withView
  refine hs.withNs ?_
  intro a
  extract_lets go
  have hgo : Keeps σ go.state := by
    unfold go
    split
    · exact hk _ _
    · split
      · exact hk _ _
      · exact hs
      · exact hs
  split
  · exact hs.onChain hgo
  · exact hgo

theorem Keeps.addChain {slot gen : ℕ} {v : View} {forkWait : Option ℕ} :
    Keeps σ (s.addChain slot gen v forkWait) :=
  hs.put

theorem Keeps.openChain {n : Namespace} {refs : List BRef} :
    HoldsSnd σ (s.openChain n refs) := by
  unfold State.openChain
  split
  · rename_i _ t _ _ _ u _ e
    have hu : Keeps σ u := hs.openBlock e
    exact hu.addChain.toSomeSnd
  · rename_i _ t _
    exact .none

theorem bodyOpenChain_keeps {o : Op} :
    Keeps σ (bodyOpenChain o s).state := by
  unfold bodyOpenChain
  refine hs.withNs ?_
  intro a
  extract_lets key d found
  split
  · exact hs
  · split
    · split
      · exact hs
      · split
        · rename_i t _ u e
          have hu : Keeps σ u := hs.openChain e
          exact hu
        · rename_i t _
          exact hs
    · split
      · exact hs
      · split
        · rename_i t _ u e
          have hu : Keeps σ u := hs.openChain e
          exact hu.touchAll
        · rename_i t _
          exact hs

theorem execOpenChain_goes {c : Cmd} :
    Goes σ (execOpenChain c s) :=
  (hs.submit (fun _ _ h => bodyOpenChain_keeps h)).toNext

theorem Keeps.readSource {o : Op} {n : Namespace} {from_ count first layers : ℕ} :
    Keeps σ (s.readSource o n from_ count first layers) :=
  hs.readFor.foldl (fun _ _ h => h.readFor)

theorem Keeps.pagesWritten {id first layers bytes : ℕ} :
    Keeps σ (s.pagesWritten id first layers bytes) :=
  hs.foldl (fun _ _ h => h.pierIo)

theorem Keeps.writableBlock {n : Namespace} {c : Chain} {k : ℕ} :
    HoldsOkSnd σ (s.writableBlock n c k) := by
  unfold State.writableBlock
  extract_lets t
  split
  · split
    · exact hs.toOkSnd
    · exact .error
  · split
    · split
      · exact hs.toOkSnd
      · split
        · rename_i u _ v e
          have hv : Keeps σ v := hs.openBlock e
          exact hv.updChain.toOkSnd
        · rename_i u _
          exact .error
    · exact .error

theorem insertEnd_keeps {o : Op} {n : Namespace} {slot : ℕ} :
    Keeps σ (insertEnd o n slot s).state := by
  unfold insertEnd
  extract_lets last
  have hadv : HoldsOk σ (if bit (o.p 18 1) 0 then s.advance n slot last else .ok s) := by
    split
    · exact hs.advance
    · exact hs.toOk
  split
  · exact hs
  · rename_i t e
    have ht : Keeps σ t := hadv e
    split
    · exact ht
    · split
      · split
        · exact ht
        · exact sealAnswer_keeps ht.setOp
      · exact ht

theorem refill_keeps {o : Op} {n : Namespace} {c : Chain} :
    Keeps σ (refill o n c s).state := by
  unfold refill
  extract_lets k t
  have ht : Keeps σ t := hs.readSource
  split
  · exact hs
  · split
    · exact hs
    · split
      · split
        · exact ht
        · split
          · extract_lets u
            have hu : Keeps σ u := ht.updChain
            exact hu
          · split
            · rename_i u _
              exact ht
            · rename_i u _ v e
              have hv : Keeps σ v := ht.openBlock e
              extract_lets w
              have hw : Keeps σ w := hv.pagesWritten.updBlock
              exact sealAnswer_keeps hw.setOp
      · exact hs.answer
      · exact hs.answer
    · exact hs

theorem bodyInsertBlock_keeps {o : Op} :
    Keeps σ (bodyInsertBlock o s).state := by
  unfold bodyInsertBlock
  split
  · exact sealAnswer_keeps hs
  · refine hs.withChain ?_
    intro a b
    extract_lets pos count flags first layers from_
    split
    · exact hs
    · split
      · exact hs
      · split
        · exact hs
        · split
          · exact refill_keeps hs
          · split
            · exact hs
            · split
              · rename_i t _ _
                exact hs
              · rename_i t _ u e
                have hu : Keeps σ u := hs.writableBlock e
                split
                · exact insertEnd_keeps hu.readSource.pagesWritten.updBlock
                · exact hu.answer
                · exact hu.answer

theorem execInsertBlock_goes {c : Cmd} :
    Goes σ (execInsertBlock c s) :=
  (hs.submit (fun _ _ h => bodyInsertBlock_keeps h)).toNext

theorem bodyAppendCommit_keeps {o : Op} :
    Keeps σ (bodyAppendCommit o s).state := by
  unfold bodyAppendCommit
  refine hs.withChain ?_
  intro a b
  split
  · rename_i t u e
    have hu : Keeps σ u := hs.advance e
    exact hu
  · rename_i t _ _
    exact hs

theorem execAppendCommit_goes {c : Cmd} :
    Goes σ (execAppendCommit c s) :=
  (hs.submit (fun _ _ h => bodyAppendCommit_keeps h)).toNext

theorem bodySeal_keeps {o : Op} :
    Keeps σ (bodySeal o s).state := by
  unfold bodySeal
  split
  · exact sealAnswer_keeps hs
  · refine hs.withChain ?_
    intro a b
    extract_lets count ids go
    split
    · exact hs
    · split
      · exact hs
      · split
        · exact hs
        · split
          · exact hs
          · split
            · exact sealAnswer_keeps hs.setOp
            · refine hs.withRead ?_
              intro y
              extract_lets toks
              exact sealAnswer_keeps ((hs.foldl (fun _ _ h => h.updBlock)).setOp)

theorem execSeal_goes {c : Cmd} :
    Goes σ (execSeal c s) :=
  (hs.submit (fun _ _ h => bodySeal_keeps h)).toNext

theorem Keeps.copyTokens {n : Namespace} {src : Block} {dst count : ℕ} :
    Keeps σ (s.copyTokens n src dst count) := by
  unfold State.copyTokens
  extract_lets page
  exact hs.updBlock

theorem Keeps.copyBlock {n : Namespace} {src : Block} {k count : ℕ} :
    HoldsSnd σ (s.copyBlock n src k count) := by
  unfold State.copyBlock
  refine HoldsSnd.map fun r er => ?_
  have hr : Keeps σ r.2 := hs.openBlock er
  exact hr.copyTokens

theorem copyBlocks_keeps {n : Namespace} {k : ℕ} {a : List (Block × ℕ)} :
    HoldsSnd σ (copyBlocks n s k a) := by
  induction a generalizing n s k with
  | nil =>
    rw [copyBlocks]
    exact hs.toSomeSnd
  | cons x a ih =>
    rw [copyBlocks]
    split
    · rename_i t _
      exact .none
    · rename_i t _ u e
      have hu : Keeps σ u := hs.copyBlock e
      refine HoldsSnd.map fun r er => ?_
      have hr : Keeps σ r.2 := (ih hu) er
      exact hr

theorem Keeps.forkEnd {n : Namespace} {v : View} {slot : ℕ} :
    Holds σ (s.forkEnd n v slot) := by
  unfold State.forkEnd
  extract_lets src r full
  split
  · rename_i t _
    exact .none
  · rename_i t _ u e
    have hu : Keeps σ u := (copyBlocks_keeps hs) e
    extract_lets made
    have hmade : HoldsSnd σ made := by
      unfold made
      split
      · refine HoldsSnd.map fun x ex => ?_
        have hx : Keeps σ x.2 := hu.openBlock ex
        exact hx
      · exact hu.toSomeSnd
    refine Holds.map fun m em => ?_
    have hm : Keeps σ m.2 := hmade em
    exact hm.updChain.gc

theorem bodyFork_keeps {o : Op} :
    Keeps σ (bodyFork o s).state := by
  unfold bodyFork
  refine hs.withView ?_
  intro a b
  extract_lets k src t
  have ht : Keeps σ t := hs.setOp
  split
  · exact hs
  · split
    · exact ht
    · extract_lets u v
      have hv : Keeps σ v := ht.addChain
      split
      · split
        · rename_i w x₁ e
          have hx₁ : Keeps σ x₁ := hv.forkEnd e
          exact hx₁
        · rename_i w _
          exact ht
      · split
        · rename_i w _
          exact ht
        · rename_i w _ x₁ e
          have hx₁ : Keeps σ x₁ := ht.openBlock e
          exact hx₁.addChain

theorem unitFork_keeps {o : Op} :
    Keeps σ (unitFork o s).state := by
  unfold unitFork
  extract_lets slot
  split
  · extract_lets src r t u
    have ht : Keeps σ t := hs.updChain
    have hu : Keeps σ u := by
      unfold u
      split
      · exact ht.updBlock
      · exact ht
    split
    · exact hu
    · split
      · rename_i w x₁ e
        have hx₁ : Keeps σ x₁ := hs.forkEnd e
        exact hx₁
      · rename_i w _
        exact hs
  · exact hs

theorem execFork_goes {c : Cmd} :
    Goes σ (execFork c s) :=
  (hs.submit (fun _ _ h => bodyFork_keeps h)).toNext

theorem Keeps.addSnapshot {v : View} {expires : Option ℕ} {forRegion : Bool} :
    HoldsSnd σ (s.addSnapshot v expires forRegion) := by
  unfold State.addSnapshot
  split
  · exact .none
  · extract_lets gen t
    exact hs.put.toSomeSnd

theorem bodyOpenSnapshot_keeps {o : Op} :
    Keeps σ (bodyOpenSnapshot o s).state := by
  unfold bodyOpenSnapshot
  refine hs.withChain ?_
  intro a b
  extract_lets len v ttl
  split
  · exact hs
  · split
    · rename_i t _ u e
      have hu : Keeps σ u := hs.addSnapshot e
      exact hu.touchAll
    · rename_i t _
      exact hs

theorem execOpenSnapshot_goes {c : Cmd} :
    Goes σ (execOpenSnapshot c s) :=
  (hs.submit (fun _ _ h => bodyOpenSnapshot_keeps h)).toNext

theorem execSnapshotExpiry_goes {slot : ℕ} :
    Goes σ (execSnapshotExpiry slot s) := by
  unfold execSnapshotExpiry
  extract_lets due t
  exact hs.put.gc.toNext

theorem Keeps.rebindBoth {n : Namespace} {slot k : ℕ} :
    Holds σ (s.rebindBoth n slot k) := by
  unfold State.rebindBoth
  split
  · exact hs.toSome
  · split
    · rename_i t _
      exact .none
    · rename_i t _ u e
      have hu : Keeps σ u := hs.openBlock e
      exact hu.updChain.rebind.rebind.toSome

theorem bodyTruncate_keeps {o : Op} :
    Keeps σ (bodyTruncate o s).state := by
  unfold bodyTruncate
  refine hs.withChain fun n c => ?_
  extract_lets v n' b k r cut src gone base tail
  have ht : HoldsSnd σ tail := by
    have hbase : Keeps σ base.gc := hs.updChain.gc
    unfold tail
    clear_value src
    cases src with
    | none => exact hbase.openBlock
    | some x => exact hbase.copyBlock
  clear_value tail
  split
  · exact hs
  · split
    · exact hs
    · split
      · exact hs
      · rename_i t e
        have htail : Keeps σ t := Holds.bind (fun x ex => Keeps.rebindBoth (Keeps.updChain (ht ex))) e
        exact htail.touchControl

theorem execTruncate_goes {c : Cmd} :
    Goes σ (execTruncate c s) :=
  (hs.submit (fun _ _ h => bodyTruncate_keeps h)).toNext

theorem bodyPin_keeps {o : Op} :
    Keeps σ (bodyPin o s).state := by
  unfold bodyPin
  refine hs.withView fun n v => ?_
  extract_lets ttl cnt first count tier ids
  clear_value tier
  split
  · exact hs
  · split
    · exact hs
    · cases lowestFree (s.store.pins.map (·.slot)) 0 (min 65536 (s.store.pins.length + 1)) with
      | none => exact hs
      | some i => cases tier with
        | none => exact hs.put
        | some u =>
        dsimp only
        split
        · exact hs
        · exact hs.put.queueMove

theorem execPin_goes {c : Cmd} :
    Goes σ (execPin c s) :=
  (hs.submit (fun _ _ h => bodyPin_keeps h)).toNext

theorem execPinExpiry_goes {slot : ℕ} :
    Goes σ (execPinExpiry slot s) :=
  hs.put.gc.toNext

theorem Keeps.unmapWindow {c : Chain} {n : Namespace} :
    Keeps σ (s.unmapWindow c n) := by
  unfold State.unmapWindow
  split
  · exact hs
  · exact hs.recallRange.updChain

theorem Keeps.dropWindow {c : Chain} {n : Namespace} :
    Keeps σ (s.dropWindow c n) := by
  unfold State.dropWindow
  split
  · exact hs
  · extract_lets t u
    have ht : Keeps σ t := hs.unmapWindow
    exact ht.put

theorem Keeps.mapOver {a len : ℕ} :
    Keeps σ (s.mapOver a len) :=
  hs.put

theorem bodyRelease_keeps {o : Op} :
    Keeps σ (bodyRelease o s).state := by
  unfold bodyRelease
  extract_lets h t
  refine hs.withNs ?_
  intro a
  split
  · split
    · exact hs
    · refine hs.onChain ?_
      extract_lets u v
      have hu : Keeps σ u := hs.dropWindow
      exact hu.put.gc
  · split
    · exact hs
    · exact hs.put.gc
  · split
    · exact hs
    · exact hs.put.gc
  · exact hs

theorem execRelease_goes {c : Cmd} :
    Goes σ (execRelease c s) :=
  (hs.submit (fun _ _ h => bodyRelease_keeps h)).toNext

theorem bodyMapTail_keeps {o : Op} :
    Keeps σ (bodyMapTail o s).state := by
  unfold bodyMapTail
  refine hs.withChain fun n c => ?_
  extract_lets a len u t
  have hu : Keeps σ u := hs.unmapWindow
  have hnext : HoldsSnd σ (match c.next with | some id => some (id, u) | none => u.openBlock n (t + 1)) := by
    split
    · exact hu.toSomeSnd
    · exact hu.openBlock
  split
  · exact hu.gc
  · split
    · exact hs
    · split
      · exact hs
      · split
        · exact hs
        · split
          · exact hs
          · split
            · exact hs
            · split
              · exact hu
              · rename_i w e
                have hw := hnext e
                exact (Keeps.mapOver hw.recallRange).updChain

theorem execMapTail_goes {c : Cmd} :
    Goes σ (execMapTail c s) :=
  (hs.submit (fun _ _ h => bodyMapTail_keeps h)).toNext

theorem bodyChainQuery_keeps {o : Op} :
    Keeps σ (bodyChainQuery o s).state :=
  hs.withView (fun _ _ => hs.writeThen (fun _ h => h))

theorem execChainQuery_goes {c : Cmd} :
    Goes σ (execChainQuery c s) :=
  (hs.submit (fun _ _ h => bodyChainQuery_keeps h)).toNext

theorem Keeps.windowDiscard {c : Chain} {n : Namespace} {a : ℕ} {st : Status} :
    Keeps σ (s.windowDiscard c n a st) :=
  hs.touchControl.updChain.discardStore

theorem Keeps.slotStore {c : Chain} {n : Namespace} {addr slot off : ℕ} {bytes : List Byte} {poison : Bool} :
    Keeps σ (s.slotStore c n addr slot off bytes poison) := by
  unfold State.slotStore
  extract_lets t k id open_ all put mark u
  have hu : Keeps σ u := by
    unfold u
    clear_value t k id open_ all put mark u
    split
    · exact hs.updBlock
    · exact hs
  exact .ite hu hu.windowDiscard

theorem Keeps.windowStore {a : ℕ} {bytes : List Byte} {poison : Bool} :
    Holds σ (s.windowStore a bytes poison) := by
  unfold State.windowStore
  split
  · exact Keeps.toSome (.ite hs.slotStore hs.discardStore)
  · exact hs.discardStore.toSome
  · exact .none

theorem Keeps.storeN {a value : ℕ} :
    Keeps σ (s.storeN a value) := by
  unfold State.storeN
  split
  · split
    · split
      · rename_i t u e
        have hu : Keeps σ u := hs.advance e
        exact hu
      · rename_i t _ _
        exact hs.windowDiscard
    · exact hs.discardStore
  · exact hs.elim (fun _ _ => hs.discardStore)

theorem execTailRebindEnd_goes {chain slot : ℕ} :
    Goes σ (execTailRebindEnd chain slot s) := by
  unfold execTailRebindEnd
  split
  · exact hs.toNext
  · split
    · exact hs.toNext
    · split
      · exact hs.toNext
      · extract_lets t
        exact hs.updChain.toNext

theorem bodyCreateNamespace_keeps {o : Op} :
    Keeps σ (bodyCreateNamespace o s).state := by
  unfold bodyCreateNamespace
  extract_lets wide
  split
  · exact hs
  · split
    · exact hs
    · split
      · rename_i _ t _ _ u _ e
        have hu : Keeps σ u := hs.chooseGroup e
        extract_lets gen n v w x₁
        exact hu.put.tellNamespace.regroup
      · rename_i _ t _
        exact hs

theorem Keeps.killNs {n : Namespace} :
    Keeps σ (s.killNs n) :=
  hs.updNs.tellNamespace.regroup

theorem bodyDeleteNamespace_keeps {o : Op} :
    Keeps σ (bodyDeleteNamespace o s).state := by
  unfold bodyDeleteNamespace
  refine hs.withNs ?_
  intro a
  split
  · exact hs
  · split
    · exact hs
    · exact hs.killNs

theorem Keeps.freeBlocks {ids : List ℕ} :
    Keeps σ (s.freeBlocks ids) := by
  unfold State.freeBlocks
  extract_lets t u v
  have ht : Keeps σ t := hs.foldl (fun _ _ h => h.unindex)
  exact ht.put

theorem Keeps.freeNamespace {n : Namespace} :
    Keeps σ (s.freeNamespace n) := by
  unfold State.freeNamespace
  extract_lets mine t u v
  have ht : Keeps σ t := hs.foldl (fun _ _ h => h.dropWindow)
  have hv : Keeps σ v := ht.put
  exact hv.sweepGroup

theorem unitDeleteNamespace_keeps {o : Op} :
    Keeps σ (unitDeleteNamespace o s).state := by
  unfold unitDeleteNamespace
  split
  · exact hs
  · split
    · exact hs
    · extract_lets l t
      have ht : Keeps σ t := .ite hs.setOp hs
      split
      · exact ht.freeNamespace
      · exact ht.freeBlocks

theorem bodyQueryNamespace_keeps {o : Op} :
    Keeps σ (bodyQueryNamespace o s).state :=
  hs.withNs (fun _ => hs.writeThen (fun _ h => h))

theorem execQueryNamespace_goes {c : Cmd} :
    Goes σ (execQueryNamespace c s) :=
  (hs.submit (fun _ _ h => bodyQueryNamespace_keeps h)).toNext

theorem Keeps.raiseBelow {n : Namespace} {lowest : ℕ} :
    Keeps σ (s.raiseBelow n lowest) :=
  hs.foldl (fun _ _ h => h.queueRaise)

theorem Keeps.sealChains {n : Namespace} :
    Keeps σ (s.sealChains n) :=
  hs.foldl (fun _ _ h => autoseal_keeps h)

theorem bodySetNamespace_keeps {o : Op} :
    Keeps σ (bodySetNamespace o s).state := by
  unfold bodySetNamespace
  split
  · exact hs
  · refine hs.withNs ?_
    intro a
    extract_lets loss lowest n'
    split
    · split
      · exact hs
      · split
        · exact hs
        · exact hs.updNs.raiseBelow.sealChains
    · split
      · exact hs
      · split
        · exact hs
        · exact hs.updNs.raiseBelow.sealChains

theorem Keeps.atAcceptance {tag : ℕ} :
    Keeps σ (s.atAcceptance tag) := by
  unfold State.atAcceptance
  split
  · exact hs
  · split
    · exact hs
    · split
      · exact .ite hs hs.setOp
      · split
        · rename_i t _ _ u e
          have hu : Keeps σ u := (bodyDeleteNamespace_keeps hs).ofBody e
          exact hu
        · rename_i t _ _ u e
          have hu : Keeps σ u := (bodyDeleteNamespace_keeps hs).ofBody e
          exact hs
        · rename_i t _ u e
          have hu : Keeps σ u := (bodyDeleteNamespace_keeps hs).ofBody e
          exact hs
      · split
        · rename_i t _ _ u e
          have hu : Keeps σ u := (bodySetNamespace_keeps hs).ofBody e
          exact hu.setOp
        · rename_i t _ _ u e
          have hu : Keeps σ u := (bodySetNamespace_keeps hs).ofBody e
          exact hs
        · rename_i t _ u e
          have hu : Keeps σ u := (bodySetNamespace_keeps hs).ofBody e
          exact hs
      · exact hs.setOp
      · exact hs.setOp
      · exact hs.setOp
      · exact hs.setOp
      · exact hs

theorem Keeps.submitTaking {op : ℕ} {body : Op → State → BodyOut} {c : Cmd} (hbody : ∀ a t, Keeps σ t → Keeps σ (body a t).state) :
    Keeps σ (State.submitTaking op body c s) := by
  unfold State.submitTaking
  split
  · rename_i t _ u e
    have hu : Keeps σ u := hs.wake.accept.ofSnd e
    exact (hu.start hbody).atAcceptance
  · rename_i t u e
    have hu : Keeps σ u := hs.wake.accept.ofSnd e
    exact hu

theorem execCreateNamespace_goes {c : Cmd} :
    Goes σ (execCreateNamespace c s) :=
  (hs.submitTaking (fun _ _ h => bodyCreateNamespace_keeps h)).toNext

theorem execDeleteNamespace_goes {c : Cmd} :
    Goes σ (execDeleteNamespace c s) :=
  (hs.submitTaking (fun _ _ h => bodyDeleteNamespace_keeps h)).toNext

theorem execSetNamespace_goes {c : Cmd} :
    Goes σ (execSetNamespace c s) :=
  (hs.submitTaking (fun _ _ h => bodySetNamespace_keeps h)).toNext

theorem Keeps.setLoader {l : Loader} :
    Keeps σ (s.setLoader l) :=
  hs.put

theorem Keeps.loaderEnd {f : Fn} {code : Status} {result : Option ℕ} :
    Keeps σ (s.loaderEnd f code result) := by
  unfold State.loaderEnd
  extract_lets l t
  exact hs.put.setLoader

theorem Keeps.loadSet {l : Loader} :
    Keeps σ (s.loadSet l).2.2 := by
  unfold State.loadSet
  extract_lets a held t
  split
  · exact hs
  · split
    · exact hs
    · extract_lets f
      split
      · exact hs
      · extract_lets body
        split
        · exact hs
        · split
          · exact hs
          · split
            · exact hs
            · split
              · exact hs
              · extract_lets gen c
                exact hs.put

theorem Keeps.unloadSet {l : Loader} :
    Keeps σ (s.unloadSet l).2 := by
  unfold State.unloadSet
  split
  · exact hs
  · split
    · exact hs
    · split
      · exact hs
      · exact hs.put

theorem execCodebookLoad_goes {r : Req} {value : ℕ} :
    Goes σ (execCodebookLoad r value s) := by
  unfold execCodebookLoad
  extract_lets t
  have ht : Keeps σ t := hs.wake
  split
  · exact ht.toNext
  · split
    · exact ht.setLoader.loaderEnd.toNext
    · refine Keeps.toNext ?_
      extract_lets u v
      have hu : Keeps σ u := ht.setLoader
      exact hu.put

theorem execCodebookUnload_goes {r : Req} {value : ℕ} :
    Goes σ (execCodebookUnload r value s) := by
  unfold execCodebookUnload
  extract_lets t
  have ht : Keeps σ t := hs.wake
  split
  · exact ht.toNext
  · split
    · exact ht.setLoader.loaderEnd.toNext
    · extract_lets u
      have hu : Keeps σ u.2 := ht.setLoader.unloadSet
      exact hu.loaderEnd.toNext

theorem execCodebookLoadEnd_goes :
    Goes σ (execCodebookLoadEnd s) := by
  unfold execCodebookLoadEnd
  split
  · exact hs.toNext
  · extract_lets l r
    have hr : Keeps σ r.2.2 := hs.loadSet
    split
    · exact hs.loaderEnd.toNext
    · exact hr.loaderEnd.toNext

theorem Keeps.fetchOne {i : ℕ} :
    Keeps σ (s.fetchOne i).2 := by
  unfold State.fetchOne
  split
  · exact hs
  · split
    · exact hs
    · split
      · extract_lets pkt t u
        have ht : Keeps σ t := hs.charge
        have hu : Keeps σ u := ht.setPair
        split
        · exact hs
        · split
          · rename_i v _ w e
            have hw : Keeps σ w := hu.accept.ofSnd e
            exact hw.atAcceptance
          · rename_i v w e
            have hw : Keeps σ w := hu.accept.ofSnd e
            exact hw
      · exact hs
      · exact hs.queueError

theorem Keeps.fetchFrom {i n : ℕ} :
    Keeps σ (s.fetchFrom i n) := by
  unfold State.fetchFrom
  refine Keeps.foldlSnd hs ?_
  intro t x ht
  split
  · exact ht.fetchOne
  · exact ht

theorem Keeps.dataTurn {q : QPair} :
    Keeps σ (s.dataTurn q) := by
  unfold State.dataTurn
  extract_lets t
  have ht : Keeps σ t := hs.setPair.fetchFrom
  split
  · exact .ite ht.setPair ht
  · exact ht

theorem execCommandFetch_goes {span : ℕ} :
    Goes σ (execCommandFetch span s) := by
  unfold execCommandFetch
  extract_lets l mine t u
  have hu : Keeps σ u := hs.put
  split
  · exact hs.fetchFrom.toNext
  · split
    · exact hs.dataTurn.toNext
    · split
      · exact hu.dataTurn.toNext
      · exact hu.toNext

theorem Keeps.seek {n : Namespace} {key : BitVec 128} {segment : ℕ} :
    Keeps σ (s.seek n key segment).2 := by
  unfold State.seek
  extract_lets any
  split
  · exact hs
  · exact hs.searched

theorem Keeps.probeHit {o : Op} {id : ℕ} :
    Keeps σ (s.probeHit o id) := by
  unfold State.probeHit
  extract_lets t u v w x₁ hold
  have ht : Keeps σ t := hs.touch
  have hv : Keeps σ v := .ite hs ht.put
  have hw : Keeps σ w := hv.updBlock
  have hx₁ : Keeps σ x₁ := hw.bump
  exact .ite hx₁.setOp hx₁

theorem Keeps.found {o : Op} {n : Namespace} {r : ProbeRun} {key : BitVec 128} {id : ℕ} {viaRun : Bool} {rest : List ℕ} :
    Keeps σ (s.found o n r key id viaRun rest).2 := by
  unfold State.found
  extract_lets e
  exact hs.probeHit

theorem Keeps.recordLost {b : Block} {tag : Option ℕ} :
    Keeps σ (s.recordLost b tag) :=
  hs.log

theorem Keeps.probeSearch {o : Op} {n : Namespace} {r : ProbeRun} {key : BitVec 128} {k : ℕ} {toks : Option (List ℕ)} :
    Keeps σ (s.probeSearch o n r key k toks).2 := by
  unfold State.probeSearch
  split
  · rename_i t u e
    have hu : Keeps σ u := hs.seek.ofSnd e
    exact hu
  · rename_i t _ u e
    have hu : Keeps σ u := hs.seek.ofSnd e
    extract_lets ids run only
    split
    · exact hu.found
    · split
      · exact hu.recordLost
      · split
        · exact hu.found
        · exact hu.bump

omit hs in
theorem Keeps.probeStep {σ : State} {o : Op} {n : Namespace} {x : ProbeRun × State} {src : List Byte} (hx : Keeps σ x.2) :
    Keeps σ (State.probeStep o n x src).2 := by
  unfold State.probeStep
  extract_lets r s k l key toks t inside
  have ht : Keeps σ t := Keeps.bump hx
  clear_value t inside
  cases inside with
  | nil => exact ht.probeSearch
  | cons id rest =>
    dsimp only
    split
    · exact ht.elim fun _ _ => ht.recordLost
    · split
      · exact ht.found
      · split
        · exact ht
        · exact ht.probeSearch

omit hs in
theorem Keeps.probeOne {σ : State} {o : Op} {n : Namespace} {x : ProbeRun × State} {src : List Byte} (hx : Keeps σ x.2) :
    Keeps σ (State.probeOne o n x src).2 := by
  unfold State.probeOne
  split
  · exact hx
  · extract_lets y hit
    have hy : Keeps σ y.2 := Keeps.probeStep hx
    exact hy.updNs

theorem Keeps.probeStart {o : Op} {n : Namespace} :
    Keeps σ (s.probeStart o n).2 := by
  unfold State.probeStart
  extract_lets parent r
  split
  · exact hs
  · split
    · rename_i t u e
      have hu : Keeps σ u := hs.seek.ofSnd e
      exact hu
    · rename_i t _ u e
      have hu : Keeps σ u := hs.seek.ofSnd e
      extract_lets ids
      split
      · exact hu.recordLost
      · split
        · extract_lets v
          have hv : Keeps σ v := .ite hu.probeHit hu
          exact hv
        · exact hu.bump

theorem probeWrite_keeps {o : Op} {r : ProbeRun} {n : Namespace} {st : Status} {d cause handle : ℕ} {back : State} (hback : Keeps σ back) :
    Keeps σ (probeWrite o r n st d cause handle s back).state := by
  unfold probeWrite
  extract_lets slow res
  split
  · exact hs
  · split
    · rename_i t u e
      have hu : Keeps σ u := hs.hostWrite e
      exact hu.wroteFor
    · rename_i t _ _
      exact hback.answer

theorem probeEnd_keeps {o : Op} {n : Namespace} {r : ProbeRun} :
    Keeps σ (probeEnd o n r s).state := by
  unfold probeEnd
  extract_lets d cause refs
  split
  · exact probeWrite_keeps hs hs
  · clear_value d cause refs
    split
    · exact hs
    · split
      · rename_i t _ u e
        have hu : Keeps σ u := hs.openChain e
        exact probeWrite_keeps hu hs
      · rename_i t _
        exact hs

theorem probeCapped_keeps {o : Op} {n : Namespace} :
    Keeps σ (probeCapped o n s).state := by
  unfold probeCapped
  extract_lets st
  exact probeWrite_keeps hs hs

theorem probeUnit_keeps {o : Op} {n : Namespace} {r : ProbeRun} :
    HoldsOkSnd σ (probeUnit o n r s) := by
  unfold probeUnit
  extract_lets at_ c w
  split
  · exact .error
  · exact (Keeps.foldlSnd hs.readFor (fun _ _ h => Keeps.probeOne h)).toOkSnd

theorem bodyProbe_keeps {o : Op} :
    Keeps σ (bodyProbe o s).state := by
  unfold bodyProbe
  refine hs.withNs ?_
  intro a
  split
  · exact hs
  · split
    · exact probeCapped_keeps hs
    · extract_lets t x
      have ht : Keeps σ t := hs.bumpAt
      have hx : Keeps σ x.2 := ht.probeStart
      split
      · exact hx.setOp
      · split
        · exact probeEnd_keeps hx
        · split
          · rename_i u v e
            have hv : Keeps σ (v).2 := (probeUnit_keeps hx) e
            exact probeEnd_keeps hv
          · rename_i u _ _
            exact ht.answer

theorem unitProbe_keeps {o : Op} :
    Keeps σ (unitProbe o s).state := by
  unfold unitProbe
  split
  · extract_lets close
    split
    · unfold close
      split
      · rename_i t _ _ u e
        have hu : Keeps σ u := (probeCapped_keeps hs).ofBody e
        exact hu
      · rename_i t _ _ u e
        have hu : Keeps σ u := (probeCapped_keeps hs).ofBody e
        exact hs
      · rename_i t _ u e
        have hu : Keeps σ u := (probeCapped_keeps hs).ofBody e
        exact hs
    · split
      · unfold close
        split
        · rename_i t _ _ u e
          have hu : Keeps σ u := (probeEnd_keeps hs).ofBody e
          exact hu
        · rename_i t _ _ u e
          have hu : Keeps σ u := (probeEnd_keeps hs).ofBody e
          exact hs
        · rename_i t _ u e
          have hu : Keeps σ u := (probeEnd_keeps hs).ofBody e
          exact hs
      · split
        · rename_i t _ _
          exact hs
        · rename_i t _
          exact hs
        · rename_i t _
          exact hs
        · rename_i t _ u e
          have hu : Keeps σ u := (probeUnit_keeps hs) e
          split
          · unfold close
            split
            · rename_i v _ _ w e₁
              have hw : Keeps σ w := (probeEnd_keeps hu).ofBody e₁
              exact hw
            · rename_i v _ _ w e₁
              have hw : Keeps σ w := (probeEnd_keeps hu).ofBody e₁
              exact hs
            · rename_i v _ w e₁
              have hw : Keeps σ w := (probeEnd_keeps hu).ofBody e₁
              exact hs
          · extract_lets d res
            exact hu.setOp
  · exact hs

theorem execProbe_goes {c : Cmd} :
    Goes σ (execProbe c s) :=
  (hs.submit (fun _ _ h => bodyProbe_keeps h)).toNext

theorem Keeps.searchGroup {n : Namespace} {key mask : ℕ} :
    Keeps σ (s.searchGroup n key mask).2.2 := by
  unfold State.searchGroup
  refine Keeps.foldlSndSnd hs ?_
  intro t x ht
  extract_lets l
  exact ht.searched

theorem Keeps.searchKey {n : Namespace} {key : BitVec 128} {segment digest : ℕ} :
    Keeps σ (s.searchKey n key segment digest).2.2 := by
  unfold State.searchKey
  split
  · exact hs
  · extract_lets l
    exact hs.searched

theorem lookup_keeps {o : Op} {n : Namespace} {digest : ℕ} :
    Keeps σ (lookup o n digest s).state := by
  unfold lookup
  extract_lets r t best
  have hr : Keeps σ r.2.2 := by
    unfold r
    split
    · exact hs.searchKey
    · exact hs.searchGroup
    · exact hs.searchGroup
  have ht : Keeps σ t := hr.bumpAt
  clear_value t best
  cases best with
  | none => exact ht
  | some e =>
    dsimp only
    split
    · exact ht.recordLost
    · split
      · exact ht.bump
      · rename_i b _
        have hu : ∀ f, Keeps σ ((t.touch b.id).updBlock b.id f) := fun _ => ht.touch.updBlock
        split
        · split
          · exact hu _
          · split
            · rename_i e
              exact (hu _).openChain e
            · exact hu _
        · exact hu _

theorem bodyLookup_keeps {o : Op} :
    Keeps σ (bodyLookup o s).state := by
  unfold bodyLookup
  refine hs.withNs ?_
  intro a
  extract_lets mode
  split
  · exact hs
  · split
    · exact hs
    · split
      · refine hs.withRead ?_
        intro b
        split
        · exact hs
        · exact lookup_keeps hs
      · exact lookup_keeps hs

theorem execLookup_goes {c : Cmd} :
    Goes σ (execLookup c s) :=
  (hs.submit (fun _ _ h => bodyLookup_keeps h)).toNext

theorem indexTag_keeps {o : Op} {n : Namespace} {id digest : ℕ} :
    Keeps σ (indexTag o n id digest s).state := by
  unfold indexTag
  split
  · exact hs
  · extract_lets fl b'
    exact hs.updBlock.swapEntry

theorem bodyIndexTag_keeps {o : Op} :
    Keeps σ (bodyIndexTag o s).state := by
  unfold bodyIndexTag
  refine hs.withChain ?_
  intro a b
  extract_lets fl
  split
  · exact hs
  · split
    · exact hs
    · split
      · refine hs.withRead ?_
        intro y
        split
        · exact hs
        · exact indexTag_keeps hs
      · exact indexTag_keeps hs
    · exact hs

theorem execIndexTag_goes {c : Cmd} :
    Goes σ (execIndexTag c s) :=
  (hs.submit (fun _ _ h => bodyIndexTag_keeps h)).toNext

theorem Keeps.evictOne {n : Namespace} {id : ℕ} :
    Keeps σ (s.evictOne n id).2 := by
  unfold State.evictOne
  split
  · exact hs
  · split
    · exact hs
    · extract_lets cnt
      split
      · exact hs.unindex
      · exact Keeps.reportUnindex (.ite hs.unindex hs)

theorem Keeps.evictRange {n : Namespace} {ids : List ℕ} :
    Keeps σ (s.evictRange n ids).2 := by
  unfold State.evictRange
  refine Keeps.foldlSnd hs ?_
  intro t x ht
  extract_lets r
  have hr : Keeps σ r.2 := ht.evictOne
  exact hr

theorem bodyIndexEvict_keeps {o : Op} :
    Keeps σ (bodyIndexEvict o s).state := by
  unfold bodyIndexEvict
  refine hs.withChain ?_
  intro a b
  split
  · exact hs
  · split
    · exact hs.setOp
    · extract_lets r
      have hr : Keeps σ r.2 := hs.evictRange
      exact hr

theorem unitIndexEvict_keeps {o : Op} :
    Keeps σ (unitIndexEvict o s).state := by
  unfold unitIndexEvict
  split
  · split
    · extract_lets done r res next
      have hr : Keeps σ r.2 := hs.evictRange
      split
      · exact hr
      · exact hr
    · exact hs
  · exact hs

theorem execIndexEvict_goes {c : Cmd} :
    Goes σ (execIndexEvict c s) :=
  (hs.submit (fun _ _ h => bodyIndexEvict_keeps h)).toNext

theorem Keeps.setRegionList {r : Region} {l : List Entry} :
    Keeps σ (s.setRegionList r l) :=
  hs.put

theorem frCreate_keeps {o : Op} :
    Keeps σ (frCreate o s).state := by
  unfold frCreate
  extract_lets num n w part die first gen t
  split
  · exact hs
  · split
    · exact hs
    · split
      · exact hs
      · extract_lets r new
        exact hs.put

theorem bodyFrRegion_keeps {o : Op} :
    Keeps σ (bodyFrRegion o s).state := by
  unfold bodyFrRegion
  split
  · exact frCreate_keeps hs
  · split
    · exact hs
    · exact hs.put.setOp
  · split
    · exact hs
    · exact hs.writeThen (fun _ h => h)
  · exact hs
  · exact hs
  · exact hs

theorem unitFrRegion_keeps {o : Op} :
    Keeps σ (unitFrRegion o s).state := by
  unfold unitFrRegion
  split
  · extract_lets t u v
    have hu : Keeps σ u := hs.put
    have hv : Keeps σ v := hu.setOp
    split
    · exact hv
    · exact hv
  · exact hs

theorem execFrRegion_goes {c : Cmd} :
    Goes σ (execFrRegion c s) :=
  (hs.submit (fun _ _ h => bodyFrRegion_keeps h)).toNext

theorem frInsert_keeps {o : Op} {r : Region} {key mask : ℕ} :
    Keeps σ (frInsert o r key mask s).state := by
  unfold frInsert
  extract_lets l lost t
  split
  · exact hs
  · split
    · exact hs
    · extract_lets x k
      exact hs.setRegionList.bump

theorem bodyFrWrite_keeps {o : Op} :
    Keeps σ (bodyFrWrite o s).state := by
  unfold bodyFrWrite
  split
  · exact hs
  · extract_lets l p act
    split
    · exact hs.withRead (fun _ => frInsert_keeps hs)
    · split
      · split
        · exact hs.setRegionList
        · exact hs
      · split
        · split
          · exact hs.setRegionList
          · exact hs
        · split
          · refine hs.withRead ?_
            intro a
            extract_lets im
            split
            · exact hs.setRegionList
            · exact hs
          · exact hs

theorem execFrWrite_goes {c : Cmd} :
    Goes σ (execFrWrite c s) :=
  (hs.submit (fun _ _ h => bodyFrWrite_keeps h)).toNext

theorem frSearch_keeps {o : Op} {r : Region} {key : ℕ} :
    Keeps σ (frSearch o r key s).state := by
  unfold frSearch
  extract_lets t u f v k c w
  have ht : Keeps σ t := hs.foldl (fun _ _ h => h.searched)
  have hu : Keeps σ u := ht.bump
  have hv : Keeps σ v := hu.bump
  split
  · exact hu
  · split
    · exact hv
    · split
      · exact hv.cascadePass
      · exact hv.put

theorem bodyFrSearch_keeps {o : Op} :
    Keeps σ (bodyFrSearch o s).state := by
  unfold bodyFrSearch
  split
  · exact hs
  · extract_lets casc
    split
    · exact hs
    · split
      · exact hs
      · split
        · exact frSearch_keeps hs
        · exact hs.withRead (fun _ => frSearch_keeps hs)

theorem execFrSearch_goes {c : Cmd} :
    Goes σ (execFrSearch c s) := by
  unfold execFrSearch
  extract_lets t
  have ht : Keeps σ t := hs.submit (fun _ _ h => bodyFrSearch_keeps h)
  exact ht.cascadeRun.toNext

theorem execCascadeFrameReceived_goes {hit seqBit guard : Bool} :
    Goes σ (execCascadeFrameReceived hit seqBit guard s) := by
  unfold execCascadeFrameReceived
  extract_lets c t u
  have hu : Keeps σ u := hs.put
  split
  · exact hs.toNext
  · split
    · exact hs.desync.toNext
    · split
      · exact hs.desync.toNext
      · split
        · exact hs.desync.toNext
        · exact hu.cascadeRun.toNext

theorem execCascadeTimeout_goes :
    Goes σ (execCascadeTimeout s) :=
  Keeps.toNext (.ite hs.desync hs)

theorem Keeps.cascadeWrite {f : Fn} {value : ℕ} :
    Keeps σ (s.cascadeWrite f value) := by
  unfold State.cascadeWrite
  split
  · exact hs
  · extract_lets t c u v
    have hv : Keeps σ v := hs.put
    exact .ite hv.resync hv.cascadeRun

theorem execCascadeResync_goes {r : Req} {value : ℕ} :
    Goes σ (execCascadeResync r value s) :=
  Keeps.toNext (.ite hs.wake.cascadeWrite hs)

theorem formGroup_keeps {o : Op} {banks : List ℕ} :
    Keeps σ (formGroup o banks s).state := by
  unfold formGroup
  extract_lets part
  split
  · exact hs
  · split
    · exact hs
    · split
      · exact hs
      · split
        · exact hs
        · exact hs.formGroup

theorem bodyIndexBanks_keeps {o : Op} :
    Keeps σ (bodyIndexBanks o s).state := by
  unfold bodyIndexBanks
  split
  · exact hs
  · split
    · exact hs.writeThen (fun _ h => h)
    · extract_lets i t
      split
      · exact hs
      · exact hs.withRead (fun _ => hs.put)
    · extract_lets w g
      split
      · exact hs
      · split
        · exact hs
        · exact hs.withRead (fun _ => formGroup_keeps hs)
    · split
      · exact hs
      · split
        · exact hs
        · exact hs.dissolveGroup
    · exact hs

theorem execIndexBanks_goes {c : Cmd} :
    Goes σ (execIndexBanks c s) :=
  (hs.submit (fun _ _ h => bodyIndexBanks_keeps h)).toNext

theorem execForcedWrite_goes {port : ℕ} :
    Goes σ (execForcedWrite port s) :=
  hs.event.toNext

theorem execTrestleTempSample_goes {die temperature : ℕ} :
    Goes σ (execTrestleTempSample die temperature s) := by
  unfold execTrestleTempSample
  extract_lets b b' t u
  have hu : Keeps σ u := hs.put
  exact Keeps.toNext (.ite hu hu.event)

theorem Keeps.loseEntryOf {id : ℕ} :
    Keeps σ (s.loseEntryOf id) := by
  unfold State.loseEntryOf
  split
  · exact hs
  · extract_lets t
    have ht : Keeps σ t := hs.markIndexed.bumpAt
    split
    · exact ht.reportUnindex
    · exact ht

theorem Keeps.loseEntry {e : Entry} :
    Keeps σ (s.loseEntry e) := by
  unfold State.loseEntry
  extract_lets slot ids t u v
  have ht : Keeps σ t := hs.dropEntry
  have hv : Keeps σ v := ht.put
  exact .ite hs.dropEntry ((hv.foldl (fun _ _ h => h.loseEntryOf)).gc)

theorem Keeps.loseBank {n : ℕ} :
    Keeps σ (s.loseBank n) := by
  unfold State.loseBank
  split
  · exact hs
  · extract_lets t b u
    have ht : Keeps σ t := hs.foldl (fun _ _ h => h.loseEntry)
    exact ht.put.log

theorem execIndexParityScan_goes {bank : ℕ} {bad : List ℕ} :
    Goes σ (execIndexParityScan bank bad s) := by
  unfold execIndexParityScan
  extract_lets w es one t recent all u v
  have ht : Keeps σ t := hs.foldl (fun _ _ h => h.loseEntry.log)
  have hv : Keeps σ v := ht.put
  exact Keeps.toNext (.ite hv.loseBank hv)

theorem execBlockRecordFree_goes {record : ℕ} :
    Goes σ (execBlockRecordFree record s) :=
  hs.put.toNext

theorem Keeps.fitMove {n : Namespace} {b : Block} {first layers target : ℕ} {how : MoveHow} {carried : List ℕ} {reportIt : Bool} :
    KeepsMoved σ (s.fitMove n b first layers target how carried reportIt) := by
  unfold State.fitMove
  extract_lets moved need t to_
  have ht : Keeps σ t := hs.roomForMove
  split
  · exact hs
  · split
    · exact trivial
    · split
      · exact trivial
      · split
        · exact trivial
        · split
          · exact ht.moveFailed
          · exact ht.movePages

omit hs in
theorem KeepsMoved.moveLayerOne {σ : State} {n : Namespace} {layer target : ℕ} {how : MoveHow} {carried : List ℕ}
    {a : Moved × List LayerMove} {b : Block} (ha : KeepsMoved σ a.1) :
    KeepsMoved σ (State.moveLayerOne n layer target how carried a b).1 := by
  unfold State.moveLayerOne
  split
  · rename_i s e
    have hs : Keeps σ s := ha.ofEq e
    have hfit : KeepsMoved σ (s.fitMove n b layer 1 target how carried false) := hs.fitMove
    dsimp only
    split
    · rename_i t e
      exact hfit.ofEq e
    · exact hfit
  · exact ha

theorem Keeps.moveLayer {n : Namespace} {l : List Block} {layer target : ℕ} {how : MoveHow} :
    KeepsMoved σ (s.moveLayer n l layer target how) := by
  unfold State.moveLayer
  extract_lets r rec1
  have hr : KeepsMoved σ r.1 :=
    List.foldlRecOn (motive := fun r : Moved × List LayerMove => KeepsMoved σ r.1) l _ (b := (.done s, [])) hs
      fun _ ha _ _ => KeepsMoved.moveLayerOne ha
  clear_value r
  split
  · rename_i t e
    rw [e] at hr
    exact Keeps.foldl (s := t) hr fun _ _ h => h.report
  · exact hr

theorem Keeps.updTile {slot i : ℕ} {f : Tile → Tile} :
    Keeps σ (s.updTile slot i f) :=
  hs.put

theorem Keeps.touchTile {slot i : ℕ} :
    Keeps σ (s.touchTile slot i) := by
  unfold State.touchTile
  extract_lets one
  exact hs.updTile.bump

theorem Keeps.moveTile {slot i target reason cls : ℕ} :
    KeepsMoved σ (s.moveTile slot i target reason cls) := by
  unfold State.moveTile
  split
  · exact hs
  · extract_lets u need r to_ v x₁ x₂ x₃
    have hr : Keeps σ r := hs.roomForMove
    have hv : Keeps σ v := hr.bump.report
    have hx₁ : Keeps σ x₁ := .ite hr.footRead hr
    have hx₂ : Keeps σ x₂ := hx₁.updTile
    have hx₃ : Keeps σ x₃ := hx₂.report
    split
    · exact hs
    · split
      · exact trivial
      · split
        · exact trivial
        · split
          · exact hv.log
          · exact hx₃.chargeLeases.leaseUse

theorem Keeps.endMove {m : Move} :
    Keeps σ (s.endMove m) :=
  hs.put.dropTask

theorem Keeps.updMove {id : ℕ} {f : Move → Move} :
    Keeps σ (s.updMove id f) :=
  hs.put

theorem Keeps.passBlock {m : Move} :
    Keeps σ (s.passBlock m) :=
  .ite hs.endMove hs.updMove

theorem Keeps.firstFit {m : Move} {n : Namespace} {b : Block} {a : List ℕ} :
    KeepsMoved σ (s.firstFit m n b a) := by
  induction a generalizing s m n b with
  | nil =>
    rw [State.firstFit]
    exact trivial
  | cons x a ih =>
    rw [State.firstFit]
    split
    · rename_i t _
      exact ih hs
    · rename_i t _
      exact hs.fitMove

theorem Keeps.plainUnit {m : Move} {id : ℕ} :
    Keeps σ (s.plainUnit m id) := by
  unfold State.plainUnit
  split
  · exact hs.passBlock
  · split
    · exact hs.passBlock
    · split
      · rename_i t u e
        have hu : Keeps σ u := hs.firstFit.ofEq e
        exact hu.passBlock
      · rename_i t u e
        have hu : Keeps σ u := hs.firstFit.ofEq e
        exact hu.passBlock
      · rename_i t _
        exact hs
      · rename_i t _
        exact .ite hs hs.passBlock

theorem Keeps.layeredUnit {m : Move} :
    Keeps σ (s.layeredUnit m) := by
  unfold State.layeredUnit
  extract_lets l u done
  split
  · exact hs.endMove
  · split
    · rename_i t _
      exact hs
    · rename_i t _
      exact hs.endMove
    · rename_i t v e
      have hv : Keeps σ v := hs.moveLayer.ofEq e
      exact hv.endMove
    · rename_i t v e
      have hv : Keeps σ v := hs.moveLayer.ofEq e
      exact .ite hv.updMove (.ite hv.updMove hv.endMove)

theorem Keeps.tileUnit {m : Move} {slot i : ℕ} :
    Keeps σ (s.tileUnit m slot i) := by
  unfold State.tileUnit
  split
  · rename_i t u e
    have hu : Keeps σ u := hs.moveTile.ofEq e
    exact hu.endMove
  · rename_i t u e
    have hu : Keeps σ u := hs.moveTile.ofEq e
    exact hu.endMove
  · rename_i t _
    exact hs
  · rename_i t _
    exact .ite hs hs.endMove

theorem Keeps.leaveUnit {m : Move} {blocks : List ℕ} {rank : ℕ} :
    Keeps σ (s.leaveUnit m blocks rank) := by
  unfold State.leaveUnit
  extract_lets mine tile page say
  exact (hs.foldl (fun _ _ h => h.moveFoot.elim (fun _ _ => h.moveFoot.report))).endMove

theorem execMoveUnit_goes {task : ℕ} :
    Goes σ (execMoveUnit task s) := by
  unfold execMoveUnit
  split
  · exact hs.toNext
  · split
    · exact hs.toNext
    · refine Keeps.toNext ?_
      refine hs.forTask ?_
      intro t ht
      split
      · exact ht.leaveUnit
      · exact ht.tileUnit
      · exact ht.layeredUnit
      · exact ht.plainUnit
      · exact ht.endMove

theorem execOldCopyRelease_goes {copy : ℕ} :
    Goes σ (execOldCopyRelease copy s) :=
  hs.put.toNext

theorem execHistogramHalve_goes :
    Goes σ (execHistogramHalve s) :=
  hs.put.toNext

theorem Keeps.demote {t reason : ℕ} {a : Cand} :
    Keeps σ (s.demote t reason a) := by
  unfold State.demote
  split
  · extract_lets deepest
    split
    · exact hs.queueMove
    · exact .ite hs.dropBlock hs
  · split
    · exact hs.addMove
    · exact hs

theorem Keeps.demoteWhile {t reason : ℕ} {more : State → Bool} {ok : State → Cand → Bool} {l : List Cand} :
    Keeps σ (s.demoteWhile t reason more ok l) :=
  hs.foldl (fun _ _ h => .ite h.demote h)

theorem execPlacementDemoteWatermark_goes {tier : ℕ} :
    Goes σ (execPlacementDemoteWatermark tier s) := by
  unfold execPlacementDemoteWatermark
  extract_lets hi lo one t cap
  have ht : Keeps σ t := by
    unfold t
    refine hs.foldl ?_
    intro u x hu
    unfold one
    extract_lets lim
    exact .ite hu hu.demoteWhile
  split
  · exact hs.toNext
  · split
    · exact ht.toNext
    · exact ht.demoteWhile.toNext

theorem execPlacementDemoteHorizon_goes {tier : ℕ} :
    Goes σ (execPlacementDemoteHorizon tier s) := by
  unfold execPlacementDemoteHorizon
  split
  · exact hs.toNext
  · extract_lets edge far
    exact (hs.foldl (fun _ _ h => h.demote)).toNext

theorem Keeps.evictUntil {ok : State → Bool} {l : List (Block × Namespace)} :
    Keeps σ (State.evictUntil ok s l) := by
  unfold State.evictUntil
  refine hs.foldl ?_
  intro t x ht
  split
  · exact ht
  · split
    · exact ht.proposeEviction
    · extract_lets id
      exact .ite ht.evictBlocks ht

theorem execPlacementEvict_goes {tier : ℕ} :
    Goes σ (execPlacementEvict tier s) := by
  unfold execPlacementEvict
  extract_lets order all one
  split
  · exact hs.toNext
  · split
    · exact hs.evictUntil.toNext
    · exact (hs.foldl (fun _ _ h => .ite h h.evictUntil)).toNext

theorem Keeps.limitMove {t : ℕ} {c : Cand} :
    Keeps σ (s.limitMove t c) :=
  .ite hs hs.demote

theorem execPlacementPromote_goes {why : PromoteWhy} {picks : Picks} :
    Goes σ (execPlacementPromote why picks s) := by
  unfold execPlacementPromote
  extract_lets bs below ts raise ids t u v w
  have ht : Keeps σ t := hs.queueMove
  have hv : Keeps σ v := hs.queueMove
  have hw : Keeps σ w := by
    unfold w
    refine hs.foldl ?_
    intro x₁ x hx₁
    split
    · exact hx₁.limitMove
    · exact hx₁
  split
  · exact hs.toNext
  · split
    · exact ht.put.toNext
    · exact (hv.foldl (fun _ _ h => h.addMove)).toNext
    · exact (hs.foldl (fun _ _ h => .ite h.queueMove h)).toNext
    · exact (hs.foldl (fun _ _ h => .ite h.queueMove h)).toNext
    · exact (hw.foldl (fun _ _ h => h.limitMove)).toNext
    · exact (hs.queueMove.foldl (fun _ _ h => h.addMove)).toNext
    · exact (hs.queueMove.foldl (fun _ _ h => h.addMove)).toNext

theorem Keeps.fetchBytes {o : Op} {n : Namespace} {b : Block} {p : Page} {count : ℕ} :
    Keeps σ (s.fetchBytes o n b p count).2 := by
  unfold State.fetchBytes
  extract_lets r pad
  have hr : Keeps σ r.2 := Keeps.pageBytes (.ite hs.pierIo hs)
  exact hr

omit hs in
theorem fetchPage_keeps {σ : State} {o : Op} {n : Namespace} {b : Block} {count : ℕ} {a : Fetched} {p : Page} (ha : KeepsFetched σ a) :
    KeepsFetched σ (fetchPage o n b count a p) := by
  cases a with
  | stop st r s => exact ha
  | waits l => exact ha
  | go bytes pages s =>
    have hs : Keeps σ s := ha
    unfold fetchPage
    dsimp only
    split
    · exact .ite hs.loseBlock hs
    · split
      · exact hs
      · split
        · exact hs
        · split
          · rename_i t e
            exact (hs.fetchBytes.hostWrite e).wroteFor
          · trivial
          · exact hs
          · exact hs

omit hs in
theorem fetchBlock_keeps {σ : State} {o : Op} {n : Namespace} {v : View} {first count lay layers : ℕ} {a : Fetched} {i : ℕ} (ha :
    KeepsFetched σ a) :
    KeepsFetched σ (fetchBlock o n v first count lay layers a i) := by
  cases a with
  | stop st r s => exact ha
  | waits l => exact ha
  | go bytes pages s =>
    have hs : Keeps σ s := ha
    unfold fetchBlock
    dsimp only
    split
    · exact hs
    · split
      · exact hs
      · exact List.foldlRecOn (motive := KeepsFetched σ) _ _ (Keeps.footRead (.ite hs hs.touch)) fun a ha p _ => fetchPage_keeps ha

theorem bodyFetch_keeps {o : Op} :
    Keeps σ (bodyFetch o s).state := by
  unfold bodyFetch
  refine hs.withView fun n v => ?_
  dsimp only
  split
  · exact hs
  · exact hs
  · rename_i first count lay layers _ _
    split
    · exact hs
    · split
      · exact hs
      · split
        · exact hs.setOp
        · have hf := List.foldlRecOn (motive := KeepsFetched σ) (List.range count)
            (fun a i => fetchBlock o n v first count lay layers a (first + i))
            (b := .go 0 0 (s.setOp o.tag fun o => { o with view := some v }))
            hs.setOp (fun a ha i _ => fetchBlock_keeps ha)
          split
          · rename_i e
            exact hf.ofEq e
          · rename_i e
            exact hf.ofEq e
          · exact hs

theorem unitFetch_keeps {o : Op} :
    Keeps σ (unitFetch o s).state := by
  unfold unitFetch
  split
  · split
    · rename_i n v _ _ _ _ first count lay layers _ _
      have hf : KeepsFetched σ (fetchBlock o n v first count lay layers
          (.go (o.result % 2 ^ 32) (o.result / 2 ^ 32) s) (first + o.unitsDone)) := fetchBlock_keeps hs
      split
      · rename_i e
        have ht := hf.ofEq e
        split
        · exact ht
        · exact ht
      · rename_i e
        exact hf.ofEq e
      · exact hs
    · exact hs
  · exact hs

theorem execFetch_goes {c : Cmd} :
    Goes σ (execFetch c s) :=
  (hs.submit (fun _ _ h => bodyFetch_keeps h)).toNext

theorem bodySpill_keeps {o : Op} :
    Keeps σ (bodySpill o s).state := by
  unfold bodySpill
  refine hs.withView ?_
  intro a b
  split
  · exact hs
  · extract_lets t
    split
    · exact hs
    · split
      · exact hs
      · exact hs.setOp

theorem unitSpill_keeps {o : Op} :
    Keeps σ (unitSpill o s).state := by
  unfold unitSpill
  split
  · extract_lets i t end_ prof
    split
    · exact hs
    · split
      · unfold end_
        split
        · exact hs
        · exact hs
      · split
        · unfold end_
          split
          · exact hs
          · exact hs
        · split
          · unfold end_
            split
            · exact hs
            · exact hs
          · split
            · rename_i u w e
              have hw : Keeps σ w := hs.fitMove.ofEq e
              unfold end_
              split
              · exact hw
              · exact hw
            · rename_i u _
              exact hs
            · rename_i u w e
              have hw : Keeps σ w := hs.fitMove.ofEq e
              exact hw
            · rename_i u _
              exact hs
  · exact hs

theorem execSpill_goes {c : Cmd} :
    Goes σ (execSpill c s) :=
  (hs.submit (fun _ _ h => bodySpill_keeps h)).toNext

theorem bodyPromote_keeps {o : Op} :
    Keeps σ (bodyPromote o s).state := by
  unfold bodyPromote
  refine hs.withView ?_
  intro a b
  split
  · exact hs
  · exact hs
  · extract_lets t gone
    split
    · exact hs
    · split
      · exact hs
      · exact hs.setOp

theorem unitPromoteBlock_keeps {o : Op} {n : Namespace} {v : View} {lay layers : ℕ} :
    Keeps σ (unitPromoteBlock o n v lay layers s).state := by
  unfold unitPromoteBlock
  extract_lets i end_
  split
  · unfold end_
    split
    · exact hs
    · exact hs
  · split
    · unfold end_
      split
      · exact hs
      · exact hs
    · split
      · rename_i t u e
        have hu : Keeps σ u := hs.fitMove.ofEq e
        unfold end_
        split
        · exact hu
        · exact hu
      · rename_i t _
        exact hs
      · rename_i t u e
        have hu : Keeps σ u := hs.fitMove.ofEq e
        exact hu
      · rename_i t _
        exact hs

theorem unitPromoteLayer_keeps {o : Op} {n : Namespace} {v : View} {first count lay layers : ℕ} :
    Keeps σ (unitPromoteLayer o n v first count lay layers s).state := by
  unfold unitPromoteLayer
  extract_lets i l here u r
  split
  · rename_i t _
    exact hs
  · rename_i t _
    exact hs
  · rename_i t w e
    have hw : Keeps σ w := hs.moveLayer.ofEq e
    exact hw
  · rename_i t w e
    have hw : Keeps σ w := hs.moveLayer.ofEq e
    split
    · exact hw
    · split
      · exact hw
      · exact hw

theorem unitPromote_keeps {o : Op} :
    Keeps σ (unitPromote o s).state := by
  unfold unitPromote
  split
  · split
    · extract_lets t
      split
      · exact hs
      · split
        · exact unitPromoteLayer_keeps hs
        · exact unitPromoteBlock_keeps hs
    · exact hs
  · exact hs

theorem execPromote_goes {c : Cmd} :
    Goes σ (execPromote c s) :=
  (hs.submit (fun _ _ h => bodyPromote_keeps h)).toNext

theorem Keeps.dropList {ids : List ℕ} :
    Keeps σ (s.dropList ids).2 := by
  unfold State.dropList
  refine Keeps.foldlSnd hs ?_
  intro t x ht
  split
  · exact ht.dropBlock
  · split
    · exact ht
    · exact ht

theorem bodyDrop_keeps {o : Op} :
    Keeps σ (bodyDrop o s).state := by
  unfold bodyDrop
  refine hs.withView ?_
  intro a b
  split
  · exact hs
  · split
    · exact hs
    · extract_lets ids r
      have hr : Keeps σ r.2 := hs.dropList
      split
      · exact hs.setOp
      · split
        · exact hs
        · exact hr

theorem unitDrop_keeps {o : Op} :
    Keeps σ (unitDrop o s).state := by
  unfold unitDrop
  split
  · split
    · exact hs
    · extract_lets r t next
      have hr : Keeps σ r.2 := hs.dropList
      have ht : Keeps σ t := hr.setOp
      split
      · exact ht
      · exact ht
  · exact hs

theorem execDrop_goes {c : Cmd} :
    Goes σ (execDrop c s) :=
  (hs.submit (fun _ _ h => bodyDrop_keeps h)).toNext

theorem Keeps.unhint {sel : Hint → Bool} {ids : List ℕ} :
    Keeps σ (s.unhint sel ids) := by
  unfold State.unhint
  extract_lets l t
  exact hs.put

theorem bodyPlaceHint_keeps {o : Op} :
    Keeps σ (bodyPlaceHint o s).state := by
  unfold bodyPlaceHint
  split
  · exact hs
  · refine hs.withView ?_
    intro a b
    split
    · exact hs
    · extract_lets kind ttl ids s' t u v
      have hs' : Keeps σ s' := hs.unhint
      have hv : Keeps σ v := hs'.put
      split
      · exact hs
      · split
        · exact hs.unhint
        · split
          · exact hs
          · exact .ite hv.queueMove hv

theorem execPlaceHint_goes {c : Cmd} :
    Goes σ (execPlaceHint c s) :=
  (hs.submit (fun _ _ h => bodyPlaceHint_keeps h)).toNext

theorem execHintExpiry_goes {hint : ℕ} :
    Goes σ (execHintExpiry hint s) :=
  hs.put.toNext

theorem bodyPlaceReport_keeps {o : Op} :
    Keeps σ (bodyPlaceReport o s).state := by
  unfold bodyPlaceReport
  extract_lets act p rest n t
  split
  · split
    · exact hs
    · split
      · exact hs
      · exact hs.writeThen (fun _ h => h)
  · split
    · exact hs
    · split
      · exact hs
      · split
        · exact hs.put
        · split
          · exact hs
          · exact hs.put

theorem execPlaceReport_goes {c : Cmd} :
    Goes σ (execPlaceReport c s) :=
  (hs.submit (fun _ _ h => bodyPlaceReport_keeps h)).toNext

theorem Keeps.mount :
    Keeps σ (s.mount) := by
  unfold State.mount
  split
  · exact hs
  · extract_lets dies zoned share n blocks rate t u v
    have hv : Keeps σ v := hs.put
    exact .ite hs hv.portUp.portUp.footingChanged

theorem execFootingMountComplete_goes :
    Goes σ (execFootingMountComplete s) := by
  unfold execFootingMountComplete
  split
  · refine Keeps.toNext ?_
    refine Keeps.readyChanged ?_
    extract_lets t u
    have ht : Keeps σ t := hs.mount
    exact ht.put
  · exact hs.toNext

theorem Keeps.footForced :
    Keeps σ (s.footForced) := by
  unfold State.footForced
  extract_lets f t
  exact .ite hs hs.put.footingChanged

theorem Keeps.footCollecting :
    Keeps σ (s.footCollecting) := by
  unfold State.footCollecting
  extract_lets lo hi t
  exact hs.put

theorem Keeps.footNow :
    Keeps σ (s.footNow) :=
  hs.footSync.rescue.footForced.footCollecting

theorem Keeps.compact :
    Keeps σ (s.compact) := by
  unfold State.compact
  extract_lets zones evictable
  split
  · exact (hs.foldl (fun _ _ h => .ite h.evictBlocks h)).footNow
  · exact hs.foldl (fun _ _ h => h.relocate)
  · exact hs

theorem Keeps.hardRelocate {id : ℕ} :
    Keeps σ (s.hardRelocate id) :=
  hs.relocate.bump

theorem Keeps.levelWear {a : ℕ} :
    Keeps σ (s.levelWear a) := by
  unfold State.levelWear
  extract_lets l hi lo rated
  split
  · exact hs
  · split
    · split
      · exact hs.relocate.bump
      · extract_lets rows u v swap w x₁
        have hu : Keeps σ u := .ite hs.eraseSoon hs
        have hv : Keeps σ v := hu.foldl (fun _ _ h => h.readPage.program)
        have hx₁ : Keeps σ x₁ := hv.put
        exact hx₁.updErase.bump
    · exact hs

theorem Keeps.ftlWork {a : ℕ} {b : FtlWork} :
    Keeps σ (s.ftlWork a b) := by
  unfold State.ftlWork
  split
  · split
    · exact hs.relocate
    · exact hs
  · split
    · exact hs.relocate.bump
    · exact hs
  · exact .ite hs.compact.bump hs
  · exact hs.levelWear
  · exact .ite hs.relocate.bump hs
  · exact .ite hs.hardRelocate hs
  · split
    · exact hs.eraseSoon
    · exact hs

theorem execFtlBackgroundOp_goes {port : ℕ} {work : FtlWork} :
    Goes σ (execFtlBackgroundOp port work s) := by
  unfold execFtlBackgroundOp
  split
  · extract_lets t
    have ht : Keeps σ t := hs.footNow
    exact Keeps.toNext (.ite ht.ftlWork.footForced ht)
  · exact hs.toNext

theorem Keeps.nandDone {x : NandOp} :
    Keeps σ (s.nandDone x) :=
  hs.put

theorem Keeps.losePages {l : List FootPage} :
    Keeps σ (s.losePages l) :=
  hs.foldl (fun _ _ h => .ite h.updTile h.dropBlock)

theorem Keeps.retireDie {d : NandDie} :
    Keeps σ (s.retireDie d) := by
  unfold State.retireDie
  extract_lets mine ids lost t u leave v w x₁ x₂ x₃
  have ht : Keeps σ t := hs.updDie.log
  have hu : Keeps σ u := ht.losePages.footDead
  have hw : Keeps σ w := hu.put
  have hx₁ : Keeps σ x₁ := hw.rescue
  have hx₃ : Keeps σ x₃ := hx₁.put
  exact hx₃.footingChanged

theorem Keeps.uncorrectable {die page : ℕ} {rebuilt : Bool} :
    Keeps σ (s.uncorrectable die page rebuilt) := by
  unfold State.uncorrectable
  extract_lets once t
  have ht : Keeps σ t := hs.updDie
  split
  · exact .ite ht.retireDie ht
  · exact ht

theorem Keeps.countRead {block : ℕ} :
    Keeps σ (s.countRead block) := by
  unfold State.countRead
  extract_lets t
  have ht : Keeps σ t := hs.updErase
  exact (ht.elim (fun _ _ => ht.updDie)).bump

theorem Keeps.readEnds {b : EraseBlock} {row : ℕ} {a : NandEnd} :
    Keeps σ (s.readEnds b row a) := by
  unfold State.readEnds
  split
  · exact .ite hs.hardRelocate hs
  · exact hs.bump.hardRelocate
  · extract_lets t u v
    have ht : Keeps σ t := hs.bump.bump
    have hu : Keeps σ u := ht.foldl (fun _ _ h => h.countRead)
    have hv : Keeps σ v := hu.log
    exact hv.uncorrectable.hardRelocate
  · extract_lets t l u
    have ht : Keeps σ t := hs.log
    exact ht.losePages.uncorrectable
  · exact hs
  · exact hs
  · exact hs
  · exact hs
  · exact hs

theorem Keeps.eraseEnds {b : EraseBlock} :
    Keeps σ (s.eraseEnds b) := by
  unfold State.eraseEnds
  extract_lets once t worn
  have ht : Keeps σ t := hs.updErase
  split
  · exact .ite ht.retireErase ht
  · exact ht

theorem execNandOpComplete_goes {channel : ℕ} {ended : NandEnd} :
    Goes σ (execNandOpComplete channel ended s) := by
  unfold execNandOpComplete
  extract_lets t u size
  have ht : Keeps σ t := hs.nandStart
  split
  · exact ht.toNext
  · extract_lets s' v
    have hs' : Keeps σ s' := ht.nandDone
    have hv : Keeps σ v := hs'.bump.updDie
    split
    · unfold u
      refine Keeps.toNext ?_
      refine Keeps.nandStart ?_
      split
      · exact .ite hs' ht.retireDie.footForced
      · exact hs'
    · exact hs'.bump.updDie.eraseEnds.footingChanged.nandStart.toNext
    · exact hs'.bump.retireErase.nandStart.toNext
    · exact hs'.bump.updDie.footForced.nandStart.toNext
    · exact ht.bump.retireErase.footForced.nandStart.toNext
    · exact (Keeps.nandStart (.ite hv.hardRelocate hv.readEnds)).toNext
    · exact hs'.bump.readEnds.nandStart.toNext
    · exact hs'.bump.readEnds.nandStart.toNext
    · exact hs'.bump.readEnds.nandStart.toNext
    · exact ht.nandStart.toNext

theorem execRelocationAgeTrigger_goes {block : ℕ} :
    Goes σ (execRelocationAgeTrigger block s) := by
  unfold execRelocationAgeTrigger
  split
  · extract_lets age
    exact Keeps.toNext (.ite hs (.ite hs.hardRelocate (.ite hs.relocate.bump hs)))
  · exact hs.toNext

theorem execMetadataJournalCompact_goes :
    Goes σ (execMetadataJournalCompact s) := by
  unfold execMetadataJournalCompact
  split
  · exact hs.put.toNext
  · exact hs.toNext

theorem execSanitise_goes :
    Goes σ (execSanitise s) := by
  unfold execSanitise
  split
  · extract_lets ids t u
    have hu : Keeps σ u := hs.put
    exact (((hu.foldl (fun _ _ h => h.eraseSoon)).footingChanged).emit).toNext
  · exact hs.emit.toNext

theorem execSanitiseEnd_goes :
    Goes σ (execSanitiseEnd s) := by
  unfold execSanitiseEnd
  split
  · exact hs.put.footingChanged.toNext
  · exact hs.toNext

theorem Keeps.setPort {p : SPort} :
    Keeps σ (s.setPort p) :=
  hs.put

theorem Keeps.enqueue {k num : ℕ} {u : SUnit} :
    Keeps σ (s.enqueue k num u) := by
  unfold State.enqueue
  split
  · exact hs.setPort
  · exact hs

theorem execGateTakeover_goes {port : ℕ} :
    Goes σ (execGateTakeover port s) := by
  unfold execGateTakeover
  split
  · split
    · exact Keeps.toNext (.ite hs.setPort hs)
    · exact hs.toNext
  · exact hs.toNext

theorem execGateEntryChange_goes {port : ℕ} :
    Goes σ (execGateEntryChange port s) := by
  unfold execGateEntryChange
  split
  · split
    · extract_lets i prev
      exact hs.setPort.toNext
    · exact hs.toNext
  · exact hs.toNext

theorem execTollRecolour_goes {port queue : ℕ} :
    Goes σ (execTollRecolour port queue s) := by
  unfold execTollRecolour
  split
  · extract_lets t one
    exact hs.setPort.toNext
  · exact hs.toNext

theorem Keeps.updLease {id : ℕ} {f : Lease → Lease} :
    Keeps σ (s.updLease id f) :=
  hs.put

theorem Keeps.leaseTo {id : ℕ} {st : LeaseState} :
    Keeps σ (s.leaseTo id st) :=
  hs.updLease.leaseChanged.noteShort

theorem Keeps.closeLease {id : ℕ} :
    Keeps σ (s.closeLease id) :=
  hs.put.leaseChanged

theorem Keeps.answerLease {id : ℕ} {st : Status} :
    Keeps σ (s.answerLease id st) :=
  hs.foldl (fun _ _ h => h.finish)

theorem Keeps.requestLease {partner capacity rateCap notice term : ℕ} :
    Keeps σ (s.requestLease partner capacity rateCap notice term).2 := by
  unfold State.requestLease
  extract_lets id now l t
  exact hs.put.emit.leaseChanged

theorem Keeps.emptyLease {id : ℕ} {latency : Bool} :
    Keeps σ (s.emptyLease id latency) := by
  unfold State.emptyLease
  extract_lets bs one t ts
  have ht : Keeps σ t := by
    unfold t
    refine hs.foldl ?_
    intro u x hu
    unfold one
    split
    · extract_lets v
      exact hu.addMove
    · exact hu
  refine ht.foldl ?_
  intro u x hu
  extract_lets v
  exact hu.addMove

theorem Keeps.unmirror {id : ℕ} :
    Keeps σ (s.unmirror id) := by
  unfold State.unmirror
  refine hs.foldl ?_
  intro t x ht
  extract_lets plain u v mine w x₁ x₂
  have hv : Keeps σ v := ht.put
  have hw : Keeps σ w := hv.foldl (fun _ _ h => h.emit)
  have hx₂ : Keeps σ x₂ := hw.put
  exact hx₂.log

theorem Keeps.reclaim {l : Lease} :
    Keeps σ (s.reclaim l) := by
  unfold State.reclaim
  extract_lets t
  have ht : Keeps σ t := hs.leaseTo.bump.unmirror
  exact .ite ht.emptyLease ht

theorem Keeps.loseLease {id : ℕ} :
    Keeps σ (s.loseLease id) :=
  hs.leaseTo.bump.unmirror

theorem leaseRequest_keeps {o : Op} :
    Keeps σ (leaseRequest o s).state := by
  unfold leaseRequest
  extract_lets p cap notice r
  have hr : Keeps σ r.2 := hs.requestLease
  split
  · exact hs
  · split
    · exact hs
    · split
      · exact hs
      · exact hr

theorem bodyLease_keeps {o : Op} :
    Keeps σ (bodyLease o s).state := by
  unfold bodyLease
  extract_lets act
  split
  · exact hs
  · split
    · exact hs.writeThen (fun _ h => h)
    · split
      · exact hs
      · split
        · exact leaseRequest_keeps hs
        · split
          · exact hs
          · split
            · exact hs
            · split
              · exact hs.reclaim.emit
              · exact hs.leaseTo.emit.emptyLease

theorem execLease_goes {c : Cmd} :
    Goes σ (execLease c s) :=
  (hs.submit (fun _ _ h => bodyLease_keeps h)).toNext

theorem execLeaseAutoRequest_goes {partner : ℕ} :
    Goes σ (execLeaseAutoRequest partner s) := by
  unfold execLeaseAutoRequest
  extract_lets high full t u
  have ht : Keeps σ t := hs.requestLease
  split
  · exact ht.put.toNext
  · exact hs.toNext

theorem execLeaseRequestReceived_goes {partner id capacity rateCap notice term : ℕ} :
    Goes σ (execLeaseRequestReceived partner id capacity rateCap notice term s) := by
  unfold execLeaseRequestReceived
  extract_lets bytes ok l t
  split
  · exact hs.put.bump.emit.leaseChanged.noteShort.toNext
  · exact hs.emit.toNext

theorem execLeaseAnswerReceived_goes {id : ℕ} {granted : Bool} :
    Goes σ (execLeaseAnswerReceived id granted s) := by
  unfold execLeaseAnswerReceived
  split
  · split
    · exact hs.toNext
    · split
      · exact hs.leaseTo.updLease.bump.answerLease.toNext
      · exact hs.closeLease.answerLease.toNext
  · exact hs.toNext

theorem execLeaseRequestTimeout_goes {id : ℕ} :
    Goes σ (execLeaseRequestTimeout id s) := by
  unfold execLeaseRequestTimeout
  split
  · split
    · exact hs.closeLease.answerLease.toNext
    · exact hs.toNext
  · exact hs.toNext

theorem execLeaseReclaimReceived_goes {id : ℕ} :
    Goes σ (execLeaseReclaimReceived id s) := by
  unfold execLeaseReclaimReceived
  split
  · exact Keeps.toNext (.ite hs.reclaim hs)
  · exact hs.toNext

theorem execLeaseTermEnd_goes {id : ℕ} :
    Goes σ (execLeaseTermEnd id s) := by
  unfold execLeaseTermEnd
  split
  · exact Keeps.toNext (.ite hs.reclaim hs)
  · exact hs.toNext

theorem execLeaseNoticeExpiry_goes {id : ℕ} :
    Goes σ (execLeaseNoticeExpiry id s) := by
  unfold execLeaseNoticeExpiry
  split
  · exact Keeps.toNext (.ite hs.loseLease hs)
  · exact hs.toNext

theorem execLeaseHeartbeatTimeout_goes {id : ℕ} :
    Goes σ (execLeaseHeartbeatTimeout id s) := by
  unfold execLeaseHeartbeatTimeout
  split
  · exact Keeps.toNext (.ite hs.loseLease hs)
  · exact hs.toNext

theorem execLeaseEmpty_goes {id : ℕ} :
    Goes σ (execLeaseEmpty id s) := by
  unfold execLeaseEmpty
  split
  · split
    · exact hs.closeLease.bump.emit.toNext
    · exact hs.toNext
  · exact hs.toNext

theorem Keeps.dropLease {id : ℕ} :
    Keeps σ (s.dropLease id) := by
  unfold State.dropLease
  extract_lets ids t gone u
  have ht : Keeps σ t := hs.foldl (fun _ _ h => h.dropBlock)
  exact ht.put

theorem execLeaseLostBookkeeping_goes {id : ℕ} :
    Goes σ (execLeaseLostBookkeeping id s) := by
  unfold execLeaseLostBookkeeping
  split
  · split
    · exact hs.toNext
    · extract_lets t
      have ht : Keeps σ t := .ite hs.dropLease hs
      exact ht.log.closeLease.answerLease.toNext
  · exact hs.toNext

theorem weightCreate_keeps {o : Op} :
    Keeps σ (weightCreate o s).state := by
  unfold weightCreate
  extract_lets f part cnt size t
  split
  · exact hs
  · split
    · exact hs
    · split
      · exact hs
      · split
        · exact hs
        · split
          · exact hs
          · extract_lets gen
            exact hs.put

theorem Keeps.freeWeight {slot : ℕ} :
    Keeps σ (s.freeWeight slot) := by
  unfold State.freeWeight
  extract_lets mine t u
  have hu : Keeps σ u := hs.put
  exact (hu.foldl (fun _ _ h => h.endMove)).leaseUse

theorem weightDelete_keeps {o : Op} :
    Keeps σ (weightDelete o s).state := by
  unfold weightDelete
  extract_lets h t
  split
  · exact hs
  · split
    · exact hs
    · extract_lets u
      have hu : Keeps σ u := hs.put
      split
      · exact hu
      · split
        · exact hu
        · exact hu.freeWeight

theorem unitWeightDelete_keeps {o : Op} :
    Keeps σ (unitWeightDelete o s).state := by
  unfold unitWeightDelete
  split
  · exact hs
  · split
    · exact hs
    · extract_lets next cut t
      split
      · exact hs.put.leaseUse
      · exact hs.freeWeight

theorem bodyWeightObject_keeps {o : Op} :
    Keeps σ (bodyWeightObject o s).state := by
  unfold bodyWeightObject
  split
  · exact weightCreate_keeps hs
  · exact weightDelete_keeps hs
  · split
    · exact hs
    · split
      · exact hs
      · exact hs.writeThen (fun _ h => h)
  · exact hs

theorem execWeightObject_goes {c : Cmd} :
    Goes σ (execWeightObject c s) :=
  (hs.submit (fun _ _ h => bodyWeightObject_keeps h)).toNext

theorem Keeps.writeTile {o : Op} {w : WeightObj} {b : Binding} {i : ℕ} :
    KeepsTile σ (s.writeTile o w b i) := by
  unfold State.writeTile
  extract_lets a t piers
  have ht : Keeps σ t := hs.readFor
  split
  · exact trivial
  · exact hs
  · exact hs
  · split
    · exact ht
    · extract_lets data st enc stored u lease tile v
      have hu : Keeps σ u := ht.roomForMove
      split
      · exact ht
      · exact hu.put.leaseUse

omit hs in
theorem writeNext_keeps {σ : State} {o : Op} {b : Binding} {slot : ℕ} {a : TileOut × ℕ} {i : ℕ} (ha : KeepsTile σ a.1) :
    KeepsTile σ (writeNext o b slot a i).1 := by
  unfold writeNext
  split
  · rename_i t u e
    have hu : Keeps σ u := ha.ofEq e
    split
    · exact hu
    · split
      · exact hu
      · split
        · rename_i v x₁ e₁
          have hx₁ : Keeps σ x₁ := hu.writeTile.ofEq e₁
          exact hx₁
        · rename_i v _ x₁ e₁
          have hx₁ : Keeps σ x₁ := hu.writeTile.ofEq e₁
          exact hx₁
        · rename_i v _ _
          exact trivial
  · rename_i t _ u e
    have hu : Keeps σ u := ha.ofEq e
    exact ha
  · rename_i t _ _
    exact ha

theorem writeTiles_keeps {o : Op} {b : Binding} {slot first count n : ℕ} :
    KeepsTile σ (writeTiles o b slot first count n s).1 :=
  List.foldlRecOn (motive := fun a : TileOut × ℕ => KeepsTile σ a.1) _ _ (b := (.ok s, n)) hs fun _ ha _ _ => writeNext_keeps ha

theorem bodyWeightWrite_keeps {o : Op} :
    Keeps σ (bodyWeightWrite o s).state := by
  unfold bodyWeightWrite
  split
  · exact hs
  · extract_lets first cnt
    split
    · exact hs
    · split
      · exact hs
      · split
        · exact hs
        · split
          · exact hs
          · split
            · exact hs
            · split
              · rename_i t u _ e
                have hu : Keeps σ u := (writeTiles_keeps hs).ofFst e
                exact hu
              · rename_i t _ u _ e
                have hu : Keeps σ u := (writeTiles_keeps hs).ofFst e
                exact hu
              · rename_i t _ _ _
                exact hs

theorem unitWeightWrite_keeps {o : Op} :
    Keeps σ (unitWeightWrite o s).state := by
  unfold unitWeightWrite
  split
  · exact hs
  · split
    · rename_i t u _ e
      have hu : Keeps σ u := (writeTiles_keeps hs).ofFst e
      split
      · exact hu
      · exact hu
    · rename_i t _ u _ e
      have hu : Keeps σ u := (writeTiles_keeps hs).ofFst e
      exact hu
    · rename_i t _ _ _
      exact hs

theorem execWeightWrite_goes {c : Cmd} :
    Goes σ (execWeightWrite c s) :=
  (hs.submit (fun _ _ h => bodyWeightWrite_keeps h)).toNext

theorem Keeps.queueDeliver {o : Op} {x : Source2} {layers k q size : ℕ} :
    Keeps σ (s.queueDeliver o x layers k q size) := by
  unfold State.queueDeliver
  extract_lets per dl
  exact hs.foldl (fun _ _ h => h.enqueue)

theorem Keeps.startDeliver {o : Op} {x : Source2} {layers part : ℕ} :
    Keeps σ (s.startDeliver o x layers part).state := by
  unfold State.startDeliver
  extract_lets k stride ovr t
  have ht : Keeps σ t := hs.setOp
  split
  · exact hs
  · split
    · exact hs
    · split
      · exact hs
      · extract_lets units u
        have hu : Keeps σ u := ht.queueDeliver
        split
        · exact hs
        · split
          · exact hs
          · split
            · exact hu
            · exact hu

theorem bodyDeliver_keeps {o : Op} :
    Keeps σ (bodyDeliver o s).state := by
  unfold bodyDeliver
  split
  · exact hs
  · split
    · exact hs
    · split
      · split
        · exact hs
        · split
          · exact hs
          · split
            · exact hs
            · split
              · exact hs
              · split
                · exact hs
                · exact hs.startDeliver
      · refine hs.withView ?_
        intro a b
        split
        · exact hs
        · exact hs
        · split
          · exact hs
          · split
            · exact hs
            · split
              · exact hs
              · exact hs.setOp.startDeliver

theorem execDeliver_goes {c : Cmd} :
    Goes σ (execDeliver c s) :=
  (hs.submit (fun _ _ h => bodyDeliver_keeps h)).toNext

theorem Keeps.stopDeliver {o : Op} {st : Status} {result : ℕ} :
    Keeps σ (s.stopDeliver o st result) := by
  unfold State.stopDeliver
  extract_lets t u
  have ht : Keeps σ t := hs.purge
  have hu : Keeps σ u := ht.bump
  exact .ite hu.updOp hu.finish

theorem unitDeliver_keeps {o : Op} :
    Keeps σ (unitDeliver o s).state := by
  unfold unitDeliver
  split
  · split
    · exact hs
    · extract_lets r t
      have ht : Keeps σ t := hs.setOp
      split
      · exact ht.bump
      · split
        · exact ht.purge.bump
        · exact ht
  · exact hs

theorem Keeps.setPlan {p : Plan} :
    Keeps σ (s.setPlan p) :=
  hs.put

theorem Keeps.planRecord {p : Plan} :
    Keeps σ (s.planRecord p) :=
  hs.updOp

theorem Keeps.endPlan {p : Plan} {st : PlanState} {code : Status} :
    Keeps σ (s.endPlan p st code) := by
  unfold State.endPlan
  extract_lets t u
  have ht : Keeps σ t := hs.setPlan
  have hu : Keeps σ u := ht.updOp
  exact hu.finalise.gc

theorem Keeps.queueSeq {p : Plan} {m : ℕ} :
    Keeps σ (s.queueSeq p m) := by
  unfold State.queueSeq
  split
  · extract_lets per
    exact hs.foldl (fun _ _ h => h.enqueue)
  · exact hs

theorem Keeps.issue {tag a : ℕ} :
    Keeps σ (s.issue tag a) := by
  induction a generalizing s tag with
  | zero =>
    rw [State.issue]
    exact hs
  | succ a ih =>
    rw [State.issue]
    split
    · exact .ite (ih hs.queueSeq.setPlan) hs
    · exact hs

theorem Keeps.planPromote {p : Plan} {from_ to_ : ℕ} :
    Keeps σ (s.planPromote p from_ to_) := by
  unfold State.planPromote
  split
  · exact hs
  · refine hs.foldl ?_
    intro t x ht
    extract_lets m
    split
    · exact ht
    · split
      · extract_lets ids
        exact .ite ht ht.addMove
      · exact ht.foldl (fun _ _ h => h.addMove)
      · exact ht

theorem Keeps.planCheck {tag : ℕ} :
    Keeps σ (s.planCheck tag) := by
  unfold State.planCheck
  split
  · exact hs
  · extract_lets t
    have ht : Keeps σ t := hs.planRecord
    exact .ite (.ite ht ht.endPlan) (.ite (.ite ht ht.endPlan) (.ite (.ite ht ht.endPlan) (.ite ht.endPlan ht)))

theorem Keeps.startPlan {o : Op} {p : Plan} :
    Keeps σ (s.startPlan o p).state := by
  unfold State.startPlan
  extract_lets t u units v
  have hu : Keeps σ u := hs.put
  have hv : Keeps σ v := hu.setOp.bump
  exact hv.planPromote.issue

theorem Keeps.makePlan {o : Op} {y part ns weight : ℕ} {v : Option View} {count : ℕ} :
    Keeps σ (s.makePlan o y part ns weight v count).state := by
  unfold State.makePlan
  extract_lets x r a ap guard stall idle q layers k stride
  split
  · exact hs
  · split
    · exact hs
    · split
      · exact hs
      · extract_lets gen p
        exact hs.startPlan

theorem bodyPrefetchPlan_keeps {o : Op} :
    Keeps σ (bodyPrefetchPlan o s).state := by
  unfold bodyPrefetchPlan
  split
  · split
    · exact hs
    · split
      · exact hs
      · extract_lets layers
        split
        · exact hs
        · split
          · exact hs
          · split
            · exact hs
            · split
              · exact hs
              · exact hs.makePlan
  · refine hs.withView ?_
    intro a b
    extract_lets layers
    split
    · exact hs
    · split
      · exact hs
      · split
        · exact hs
        · split
          · exact hs
          · exact hs.makePlan

theorem execPrefetchPlan_goes {c : Cmd} :
    Goes σ (execPrefetchPlan c s) :=
  (hs.submit (fun _ _ h => bodyPrefetchPlan_keeps h)).toNext

theorem Keeps.dropSkipped {tag n : ℕ} :
    Keeps σ (s.dropSkipped tag n) :=
  hs.purge

theorem Keeps.retime {p : Plan} :
    Keeps σ (s.retime p) := by
  unfold State.retime
  extract_lets one t
  exact hs.put

theorem Keeps.tickPlan {p : Plan} {t n : ℕ} :
    Keeps σ (s.tickPlan p t n).2 := by
  unfold State.tickPlan
  split
  · exact hs.bump.setPlan
  · extract_lets late skip p' q u v
    have hu : Keeps σ u := hs.bump.bump.setPlan
    have hv : Keeps σ v := hu.dropSkipped.retime.planPromote
    exact hv.issue.planCheck

theorem bodyLayerTick_keeps {o : Op} :
    Keeps σ (bodyLayerTick o s).state := by
  unfold bodyLayerTick
  split
  · exact hs
  · extract_lets t r
    have hr : Keeps σ r.2 := hs.tickPlan
    split
    · exact hs
    · exact hr

theorem execLayerTick_goes {c : Cmd} :
    Goes σ (execLayerTick c s) :=
  (hs.submit (fun _ _ h => bodyLayerTick_keeps h)).toNext

theorem execTickDoorbell_goes {r : Req} {slot width value : ℕ} :
    Goes σ (execTickDoorbell r slot width value s) := by
  unfold execTickDoorbell
  split
  · exact hs.toNext
  · split
    · extract_lets n
      split
      · exact hs.bump.toNext
      · exact hs.tickPlan.toNext
    · exact hs.bump.toNext

theorem execSequenceLanded_goes {plan : ℕ} :
    Goes σ (execSequenceLanded plan s) := by
  unfold execSequenceLanded
  split
  · exact hs.toNext
  · split
    · exact hs.toNext
    · extract_lets f flag q
      split
      · rename_i t _ _
        exact hs.toNext
      · rename_i t _
        exact hs.endPlan.toNext
      · rename_i t _
        exact hs.endPlan.toNext
      · rename_i t u e
        have hu : Keeps σ u := ((hs.elim (fun _ _ => hs.actFor)).hostWrite) e
        extract_lets v
        have hv : Keeps σ v := hu.rested.pass
        exact hv.bump.setPlan.issue.planCheck.toNext

theorem execDeadlineMiss_goes {plan seq : ℕ} :
    Goes σ (execDeadlineMiss plan seq s) := by
  unfold execDeadlineMiss
  split
  · exact hs.toNext
  · extract_lets ovr q t u
    have hu : Keeps σ u := hs.put.bump
    split
    · exact hs.toNext
    · exact hu.setPlan.raiseSrc.planCheck.toNext

theorem execPlanStallTimeout_goes {plan : ℕ} :
    Goes σ (execPlanStallTimeout plan s) := by
  unfold execPlanStallTimeout
  split
  · split
    · exact hs.setPlan.bump.toNext
    · exact hs.toNext
  · exact hs.toNext

theorem execPlanIdleLimit_goes {plan : ℕ} :
    Goes σ (execPlanIdleLimit plan s) := by
  unfold execPlanIdleLimit
  split
  · split
    · exact hs.endPlan.toNext
    · exact hs.toNext
  · exact hs.toNext

theorem bodyCancelPlan_keeps {o : Op} :
    Keeps σ (bodyCancelPlan o s).state := by
  unfold bodyCancelPlan
  split
  · split
    · exact hs
    · exact hs
    · exact hs
  · split
    · exact hs
    · split
      · exact hs
      · extract_lets stop n sel part t q u v
        have ht : Keeps σ t := hs.purge
        have hu : Keeps σ u := .ite ((ht.foldl (fun _ _ h => h.queueSeq)).setPlan) ht.setPlan
        have hv : Keeps σ v := hu.planCheck
        split
        · exact hv
        · exact hv

theorem execCancelPlan_goes {c : Cmd} :
    Goes σ (execCancelPlan c s) :=
  (hs.submit (fun _ _ h => bodyCancelPlan_keeps h)).toNext

theorem bodyPlanQuery_keeps {o : Op} :
    Keeps σ (bodyPlanQuery o s).state := by
  unfold bodyPlanQuery
  split
  · exact hs
  · split
    · exact hs
    · exact hs.writeThen (fun _ h => h)

theorem execPlanQuery_goes {c : Cmd} :
    Goes σ (execPlanQuery c s) :=
  (hs.submit (fun _ _ h => bodyPlanQuery_keeps h)).toNext

theorem Keeps.stopUnit {u : SUnit} {st : Status} :
    Keeps σ (s.stopUnit u st) := by
  unfold State.stopUnit
  split
  · exact hs.elim (fun _ _ => hs.stopDeliver)
  · exact hs.elim (fun _ _ => hs.purge.endPlan)
  · exact hs

theorem Keeps.unitLeft {u : SUnit} {x : Sending} {size t : ℕ} :
    Keeps σ (s.unitLeft u x size t) := by
  unfold State.unitLeft
  extract_lets v w
  have hv : Keeps σ v := hs.touchAll
  have hw : Keeps σ w := by
    unfold w
    split
    · exact hv.touchTile
    · exact hv
  split
  · split
    · exact hw
    · exact .ite hw.setOp hw.stopDeliver
  · exact hw.updOp.planCheck
  · exact hw

theorem Keeps.writePiece {x : Sending} {segs : List (ℕ × List Byte)} :
    HoldsOk σ (s.writePiece x segs) := by
  refine List.foldlRecOn (motive := HoldsOk σ) _ _ hs.toOk fun a ha g _ => ?_
  cases a with
  | error e => exact .error
  | ok t => exact Keeps.hostWrite (ha rfl)

theorem Keeps.portSent {p : SPort} {h : Head} {n : ℕ} :
    Keeps σ (s.portSent p h n) := by
  unfold State.portSent
  extract_lets t u v toll mark
  have hu : Keeps σ u := hs.setPort.bump.bump
  have hv : Keeps σ v := hu.bump
  exact hv.emit

theorem Keeps.readUnit {x : Sending} {size rank : ℕ} :
    Keeps σ (s.readUnit x size rank) := by
  unfold State.readUnit
  extract_lets io n ids
  split
  · refine hs.foldl ?_
    intro t a ht
    split
    · exact ht
    · extract_lets u
      have hu : Keeps σ u := ht.footRead
      exact hu.foldl (fun _ _ h => .ite h.pierIo h)
  · extract_lets i
    split
    · exact hs
    · exact .ite (Keeps.pierIo (.ite hs.footRead hs)) (.ite hs.footRead hs)

theorem Keeps.sendPiece {p : SPort} {h : Head} :
    Keeps σ (s.sendPiece p h) := by
  unfold State.sendPiece
  extract_lets t n
  have ht : Keeps σ t := hs.elim (fun _ _ => hs.actFor)
  split
  · exact ht.rested.purge
  · extract_lets pl all u
    have hu : Keeps σ u := .ite ht.readUnit ht
    split
    · exact ht.rested.stopUnit
    · split
      · exact ht.rested.stopUnit
      · split
        · rename_i v _ _
          exact hu.rested
        · rename_i v _
          exact hu.rested.stopUnit
        · rename_i v _
          exact hu.rested.stopUnit
        · rename_i v w e
          have hw : Keeps σ w := hu.writePiece e
          extract_lets x₁
          have hx₁ : Keeps σ x₁ := hw.rested.portSent
          exact .ite hx₁.unitLeft hx₁

theorem bodyAttDesc_keeps {o : Op} :
    Keeps σ (bodyAttDesc o s).state := by
  unfold bodyAttDesc
  extract_lets slot act p t
  split
  · exact hs
  · split
    · exact hs
    · split
      · refine hs.withRead ?_
        intro a
        extract_lets d
        split
        · exact hs.put
        · exact hs
      · exact hs
      · exact hs.put
      · exact hs.writeThen (fun _ h => h)

theorem execAttDesc_goes {c : Cmd} :
    Goes σ (execAttDesc c s) :=
  (hs.submit (fun _ _ h => bodyAttDesc_keeps h)).toNext

theorem bodyAttWindows_keeps {o : Op} :
    Keeps σ (bodyAttWindows o s).state := by
  unfold bodyAttWindows
  extract_lets act ab n first t l
  split
  · exact hs
  · split
    · split
      · exact hs
      · split
        · exact hs.put
        · exact hs.put
        · exact hs
    · split
      · exact hs
      · split
        · exact hs
        · exact hs.put

theorem execAttWindows_goes {c : Cmd} :
    Goes σ (execAttWindows c s) :=
  (hs.submit (fun _ _ h => bodyAttWindows_keeps h)).toNext

theorem Keeps.queryStore {f : Fn} {w offset : ℕ} {bytes : List Byte} :
    Keeps σ (s.queryStore f w offset bytes) := by
  unfold State.queryStore
  extract_lets t named u
  have ht : Keeps σ t := hs.fabricSend
  exact .ite ht.put ht.bump.log

theorem execQueryWindowStore_goes {r : Req} {offset : ℕ} {bytes : List Byte} :
    Goes σ (execQueryWindowStore r offset bytes s) := by
  unfold execQueryWindowStore
  extract_lets first at_ part ws
  exact Keeps.toNext (.ite (hs.wake.foldl (fun _ _ h => h.queryStore)) hs)

theorem Keeps.queueLayers {ids : List ℕ} {first upTo : ℕ} :
    Keeps σ (s.queueLayers ids first upTo) :=
  .ite hs hs.addMove

theorem Keeps.promoteFor {n : Namespace} {ids : List ℕ} {layer : ℕ} :
    Holds σ (s.promoteFor n ids layer) := by
  unfold State.promoteFor
  extract_lets new need t
  have ht : Keeps σ t := hs.roomForMove
  split
  · exact hs.toSome
  · split
    · exact .none
    · exact ht.queueLayers.queueLayers.toSome

theorem Keeps.attCount {o : Op} {n : Namespace} {cs : List AttCtx} {l : List (ℕ × ℕ × Bool)} {rows : List (List Byte × ℕ)} :
    Keeps σ (s.attCount o n cs l rows) := by
  unfold State.attCount
  extract_lets one has t u tables v at_ units w
  have ht : Keeps σ t := hs.bumpAt.bumpAt
  have hu : Keeps σ u := ht.bumpAt.bumpAt.bumpAt
  have hv : Keeps σ v := hu.bumpAt
  have hw : Keeps σ w := hv.foldl (fun _ _ h => h.bumpAt.bump.pierIo)
  exact .ite hw hw.touchAll

theorem Keeps.attWritten {o : Op} {n : Namespace} {cs : List AttCtx} {l : List (ℕ × ℕ × Bool)} :
    KeepsWritten σ (s.attWrite o n cs l) := by
  unfold State.attWrite
  split
  · exact .ite hs.loseBlock hs
  · exact hs
  · extract_lets rows k empty used
    split
    · exact hs.answer
    · rename_i e
      exact (Keeps.attCount (Keeps.pass (hs.hostWrite e))).put

theorem Keeps.withQuery {o : Op} {d : Mem} {k : State → BodyOut} (hk : ∀ t, Keeps σ t → Keeps σ (k t).state) :
    Keeps σ (s.withQuery o d k).state := by
  unfold State.withQuery
  extract_lets n keep
  have hkeep : ∀ q, Keeps σ (keep q s) := fun q => Keeps.put hs.bumpAt
  split
  · exact hk _ hs
  · split
    · exact hs.withRead fun b => hk _ (hkeep _)
    · exact hk _ (hkeep _)

theorem Keeps.attPass {o : Op} {cs : List AttCtx} {l : List (ℕ × ℕ × Bool)} :
    Keeps σ (s.attPass o cs l).state := by
  unfold State.attPass
  extract_lets piers
  split
  · exact hs
  · exact hs.setOp

theorem Keeps.attPromote {o : Op} {n : Namespace} {cs : List AttCtx} {l : List (ℕ × ℕ × Bool)} :
    Keeps σ (s.attPromote o n cs l).state := by
  unfold State.attPromote
  extract_lets below
  clear_value below
  split
  · exact hs.attPass
  · split
    · exact hs
    · split
      · rename_i t _
        exact hs
      · rename_i t u e₁
        have hu : Keeps σ u := hs.promoteFor e₁
        exact .ite hu hu.bumpAt

theorem bodyAttend_keeps {o : Op} :
    Keeps σ (bodyAttend o s).state := by
  unfold bodyAttend
  refine hs.withView fun n v => ?_
  split
  · exact hs
  · extract_lets o' cs t
    have ht : Keeps σ t := hs.setOp
    clear_value cs
    cases cs with
    | nil => exact hs
    | cons c cs =>
      dsimp only
      split
      · exact hs
      · split
        · exact hs
        · split
          · exact hs
          · split
            · exact hs
            · exact ht.withQuery fun _ h => h.attPromote

theorem execAttend_goes {c : Cmd} :
    Goes σ (execAttend c s) :=
  (hs.submit (fun _ _ h => bodyAttend_keeps h)).toNext

theorem Keeps.sparseRun {o : Op} {n : Namespace} {d : Mem} :
    Keeps σ (s.sparseRun o n d).state := by
  unfold State.sparseRun
  extract_lets l plain
  split
  · exact hs
  · split
    · exact hs
    · split
      · exact hs
      · refine hs.withQuery ?_
        intro t ht
        extract_lets cs sel
        split
        · exact ht
        · exact ht.attPromote

theorem bodyAttendSparse_keeps {o : Op} :
    Keeps σ (bodyAttendSparse o s).state := by
  unfold bodyAttendSparse
  extract_lets single run
  split
  · refine hs.withView ?_
    intro a b
    unfold run
    split
    · exact hs
    · split
      · extract_lets t
        split
        · exact hs
        · exact hs.setOp.sparseRun
      · exact hs.sparseRun
      · refine hs.withRead ?_
        intro y
        split
        · exact hs
        · exact hs.setOp.sparseRun
  · refine hs.withNs ?_
    intro a
    unfold run
    split
    · exact hs
    · split
      · extract_lets t
        split
        · exact hs
        · exact hs.setOp.sparseRun
      · exact hs.sparseRun
      · refine hs.withRead ?_
        intro b
        split
        · exact hs
        · exact hs.setOp.sparseRun

theorem execAttendSparse_goes {c : Cmd} :
    Goes σ (execAttendSparse c s) :=
  (hs.submit (fun _ _ h => bodyAttendSparse_keeps h)).toNext

theorem unitAttendSparse_keeps {o : Op} :
    Keeps σ (unitAttendSparse o s).state := by
  unfold unitAttendSparse
  split
  · exact hs
  · rename_i n _
    extract_lets bounding cs sel next promote part
    have hp : ∀ l k, (∀ t, Keeps σ t → Keeps σ (k t).state) → Keeps σ (promote l k).state := fun l k hk => by
      unfold promote
      split
      · exact hs
      · rename_i t e
        exact hk t (hs.promoteFor e)
    split
    · exact hs
    · split
      · exact hp _ _ fun _ h => h
      · split
        · split
          · exact hs
          · exact hp _ _ fun _ h => h
        · split
          · exact hp _ _ fun _ h => h
          · have hw := hs.attWritten (o := o) (n := n) (cs := cs) (l := sel)
            split
            · rename_i e
              exact hw.ofEq e
            · rename_i e
              exact hw.ofEq e
            · exact hs

theorem execAttendResume_goes {tag : ℕ} :
    Goes σ (execAttendResume tag s) := by
  unfold execAttendResume
  split
  · split
    · exact hs.toNext
    · split
      · exact (hs.start (fun _ _ h => bodyAttend_keeps h)).toNext
      · split
        · exact (hs.start (fun _ _ h => bodyAttendSparse_keeps h)).toNext
        · exact hs.toNext
  · exact hs.toNext

theorem Keeps.attMerge {o : Op} :
    Keeps σ (s.attMerge o).state := by
  unfold State.attMerge
  split
  · exact hs
  · rename_i n _
    extract_lets cs sel gone
    clear_value gone
    split
    · exact hs
    · split
      · exact hs.attPromote
      · have hw := hs.attWritten (o := o) (n := n) (cs := cs) (l := sel)
        split
        · rename_i e
          exact hw.ofEq e
        · rename_i e
          exact hw.ofEq e

theorem execAttendPartialMerge_goes {tag : ℕ} :
    Goes σ (execAttendPartialMerge tag s) := by
  unfold execAttendPartialMerge
  split
  · exact Keeps.toNext (.ite (Keeps.settle hs.attMerge) hs)
  · exact hs.toNext

theorem execPartnerGreeting_goes :
    Goes σ (execPartnerGreeting s) := by
  unfold execPartnerGreeting
  split
  · exact hs.toNext
  · extract_lets t u
    have ht : Keeps σ t := hs.foldl (fun _ _ h => h.emit)
    exact ht.put.toNext

theorem execPartnerGreetingReceived_goes {identity : BitVec 128} {slot tray : ℕ} {claimed : Bool} {route : ℕ} :
    Goes σ (execPartnerGreetingReceived identity slot tray claimed route s) := by
  unfold execPartnerGreetingReceived
  extract_lets t d u known v w x₁
  have ht : Keeps σ t := hs.wake
  have hx₁ : Keeps σ x₁ := ht.put
  split
  · exact ht.toNext
  · exact Keeps.toNext (.ite hx₁.emit hx₁)

theorem Keeps.updDevice {identity : ℕ} {f : Device → Device} :
    Keeps σ (s.updDevice identity f) :=
  hs.put

theorem Keeps.losePartnerLeases {entry : ℕ} :
    Keeps σ (s.losePartnerLeases entry) := by
  unfold State.losePartnerLeases
  extract_lets open_
  exact hs.foldl (fun _ _ h => h.loseLease)

theorem Keeps.updPartner {entry : ℕ} {f : Partner → Partner} :
    Keeps σ (s.updPartner entry f) :=
  hs.put

theorem Keeps.abortBallot {g : GroupBlock} :
    Keeps σ (s.abortBallot g) :=
  hs.closeBallot.groupAbort

theorem Keeps.partnerDown {entry : ℕ} {end_ : Bool} :
    Keeps σ (s.partnerDown entry end_) := by
  unfold State.partnerDown
  split
  · exact hs
  · extract_lets t u v
    have ht : Keeps σ t := hs.updPartner
    have hu : Keeps σ u := by
      unfold u
      split
      · split
        · exact ht.losePartnerLeases.forgetMember
        · exact ht.losePartnerLeases
      · exact ht
    have hv : Keeps σ v := hu.bump.groupChanged
    split
    · exact hu.regroup
    · split
      · exact hu
      · exact (hv.foldl (fun _ _ h => h.abortBallot)).regroup

theorem Keeps.partnerAttested {partner : ℕ} {identity : BitVec 128} {session : ℕ} :
    Keeps σ (s.partnerAttested partner identity session) := by
  unfold State.partnerAttested
  extract_lets t u
  have ht : Keeps σ t := hs.draw
  have hu : Keeps σ u := ht.updDevice
  split
  · exact hu
  · extract_lets v
    have hv : Keeps σ v := .ite hu hu.partnerDown
    exact hv.updPartner.groupChanged

theorem execPartnerAttestation_goes {partner : ℕ} {sigOk nonceOk : Bool} {identity : BitVec 128} {tenant session : ℕ} :
    Goes σ (execPartnerAttestation partner sigOk nonceOk identity tenant session s) := by
  unfold execPartnerAttestation
  extract_lets t named u
  have ht : Keeps σ t := hs.wake
  split
  · exact ht.toNext
  · split
    · exact ht.partnerAttested.toNext
    · split
      · exact ht.entropyFailed.toNext
      · exact ht.put.toNext

theorem execPartnerKeyLimit_goes {partner : ℕ} :
    Goes σ (execPartnerKeyLimit partner s) := by
  unfold execPartnerKeyLimit
  split
  · refine Keeps.toNext ?_
    split
    · exact hs
    · extract_lets t u
      have ht : Keeps σ t := hs.partnerDown
      have hu : Keeps σ u := ht.updPartner
      exact hu.updDevice
  · exact hs.toNext

theorem execPartnerHeartbeatSend_goes :
    Goes σ (execPartnerHeartbeatSend s) := by
  unfold execPartnerHeartbeatSend
  split
  · exact hs.toNext
  · refine Keeps.toNext ?_
    extract_lets t u
    have ht : Keeps σ t := hs.beatPartners
    exact ht.put

theorem Keeps.partnerBeat {p : Partner} {up : Bool} :
    Keeps σ (s.partnerBeat p up) := by
  unfold State.partnerBeat
  extract_lets t mine u v w
  have ht : Keeps σ t := hs.updPartner
  have hv : Keeps σ v := ht.put
  have hw : Keeps σ w := hv.groupChanged.regroup
  split
  · exact hv
  · split
    · exact .ite hw.tellHeld hw
    · exact hw

theorem execPartnerHeartbeatReceived_goes {partner session : ℕ} {linkWatch : Bool} {route : ℕ} {sessionEnd : Bool} :
    Goes σ (execPartnerHeartbeatReceived partner session linkWatch route sessionEnd s) := by
  unfold execPartnerHeartbeatReceived
  split
  · exact hs.toNext
  · extract_lets t known u v w
    have ht : Keeps σ t := hs.updPartner
    have hu : Keeps σ u := ht.partnerDown
    have hv : Keeps σ v := hu.bump
    have hw : Keeps σ w := hv.updPartner
    split
    · exact ht.partnerDown.toNext
    · split
      · exact ht.partnerBeat.toNext
      · split
        · exact hu.toNext
        · refine Keeps.toNext ?_
          split
          · exact hw.partnerBeat
          · exact hw

theorem execPartnerSuspectTimeout_goes {partner : ℕ} :
    Goes σ (execPartnerSuspectTimeout partner s) := by
  unfold execPartnerSuspectTimeout
  split
  · exact Keeps.toNext (.ite hs.updPartner.groupChanged hs)
  · exact hs.toNext

theorem execPartnerDownTimeout_goes {partner : ℕ} :
    Goes σ (execPartnerDownTimeout partner s) := by
  unfold execPartnerDownTimeout
  split
  · exact Keeps.toNext (.ite hs.partnerDown hs)
  · exact hs.toNext

theorem execTrayAlertFall_goes :
    Goes σ (execTrayAlertFall s) := by
  unfold execTrayAlertFall
  refine Keeps.toNext ?_
  refine hs.foldl ?_
  intro t x ht
  split
  · exact ht.emit.updPartner
  · exact ht

theorem execAlertAnswerTimeout_goes {partner : ℕ} :
    Goes σ (execAlertAnswerTimeout partner s) := by
  unfold execAlertAnswerTimeout
  split
  · exact Keeps.toNext (.ite hs.partnerDown hs)
  · exact hs.toNext

theorem Keeps.takeVote {slot : ℕ} {b : GroupBlock} {full : Bool} :
    Keeps σ (s.takeVote slot b full) := by
  unfold State.takeVote
  split
  · split
    · exact hs
    · extract_lets t
      have ht : Keeps σ t := hs.castVote
      split
      · exact ht.closeBallot.groupCommit
      · exact ht
  · exact hs

theorem execVoteTimeout_goes {b : GroupBlock} :
    Goes σ (execVoteTimeout b s) :=
  Keeps.toNext (.ite hs.abortBallot hs)

theorem execVoteAnswerTimeout_goes {b : GroupBlock} :
    Goes σ (execVoteAnswerTimeout b s) :=
  Keeps.toNext (.ite hs.groupAbort hs)

theorem Keeps.groupEvict {g : GroupBlock} :
    Keeps σ (s.groupEvict g) := by
  unfold State.groupEvict
  extract_lets t u
  have hu : Keeps σ u := hs.put
  split
  · exact hu.bumpAt.evictBlocks
  · exact hu

theorem Keeps.takeProposal {slot : ℕ} {b : GroupBlock} :
    Keeps σ (s.takeProposal slot b) := by
  unfold State.takeProposal
  split
  · split
    · exact hs
    · extract_lets free p t
      exact hs.put.toMembers
  · exact hs

theorem Keeps.takeQuery {b : GroupBlock} :
    Keeps σ (s.takeQuery b) := by
  unfold State.takeQuery
  split
  · exact hs.toLeader
  · exact hs

theorem Keeps.takeAnswer {slot : ℕ} {b : GroupBlock} {free : Bool} :
    Keeps σ (s.takeAnswer slot b free) := by
  unfold State.takeAnswer
  split
  · split
    · exact hs
    · extract_lets votes t
      exact .ite hs.toMembers.groupEvict hs.put
  · exact hs

theorem execEvictionProposalLapse_goes {b : GroupBlock} :
    Goes σ (execEvictionProposalLapse b s) := by
  unfold execEvictionProposalLapse
  extract_lets due t
  exact hs.put.toNext

theorem Keeps.groupDrop {g : GroupBlock} :
    Keeps σ (s.groupDrop g) := by
  unfold State.groupDrop
  extract_lets t
  have ht : Keeps σ t := hs.groupAbort
  split
  · exact ht.dropWith
  · exact ht

theorem Keeps.groupUnindex {g : GroupBlock} :
    Keeps σ (s.groupUnindex g) := by
  unfold State.groupUnindex
  split
  · exact .ite hs.unindex.gc hs
  · exact hs

theorem Keeps.leadOrder {b : GroupBlock} {kind : ℕ} {do_ : State → State} (hdo_ : ∀ t, Keeps σ t → Keeps σ (do_ t)) :
    Keeps σ (s.leadOrder b kind do_) := by
  unfold State.leadOrder
  split
  · exact .ite (hdo_ _ hs.toMembers) hs
  · exact hs

theorem Keeps.resumeSeals :
    Keeps σ (s.resumeSeals) :=
  hs.foldl (fun _ _ h => autoseal_keeps h)

theorem Keeps.reconciled {n : Namespace} :
    Keeps σ (s.reconciled n) := by
  unfold State.reconciled
  extract_lets t u v
  have ht : Keeps σ t := hs.updNs.groupChanged
  have hv : Keeps σ v := ht.put
  exact hv.resumeSeals

theorem Keeps.compareLists {n : Namespace} :
    Keeps σ (s.compareLists n) := by
  unfold State.compareLists
  extract_lets ls all names held t lost u
  have ht : Keeps σ t := hs.foldl (fun _ _ h => h.toMembers.groupDrop)
  have hu : Keeps σ u := ht.foldl (fun _ _ h => h.toMembers.groupUnindex)
  exact hu.toMembers.reconciled

theorem Keeps.takeLines {slot : ℕ} {salt : BitVec 128} {lines : List ReconcileLine} :
    Keeps σ (s.takeLines slot salt lines) := by
  unfold State.takeLines
  split
  · exact hs
  · split
    · extract_lets t u
      have hu : Keeps σ u := hs.put
      exact .ite hu.compareLists hu
    · exact .ite hs.reconciled hs

theorem execMemberNamespaceReport_goes {slot : ℕ} {salt : BitVec 128} {holds : Bool} {params : MemberParams} :
    Goes σ (execMemberNamespaceReport slot salt holds params s) := by
  unfold execMemberNamespaceReport
  extract_lets t rest u v w
  have ht : Keeps σ t := hs.wake
  have hv : Keeps σ v := ht.put
  have hw : Keeps σ w := hv.matchReports
  split
  · exact ht.toNext
  · split
    · exact hv.toNext
    · extract_lets bad x₁
      have hx₁ : Keeps σ x₁ := .ite hw.log hw
      exact hx₁.regroup.resumeSeals.toNext

theorem Keeps.takeMsg {a : PartnerMsg} :
    Keeps σ (s.takeMsg a) := by
  unfold State.takeMsg
  split
  · exact hs.takeVote
  · exact hs.groupCommit
  · exact hs.groupAbort
  · exact hs.takeProposal
  · exact hs.takeQuery
  · exact hs.takeAnswer
  · exact hs.groupEvict
  · exact hs.leadOrder (fun _ h => h.groupDrop)
  · exact hs.groupDrop
  · exact hs.leadOrder (fun _ h => h.groupUnindex)
  · exact hs.groupUnindex
  · exact hs.takeLines

theorem Keeps.partnerMsg {m : PartnerMsg} :
    Keeps σ (s.partnerMsg m) := by
  unfold State.partnerMsg
  extract_lets t u
  have ht : Keeps σ t := hs.wake
  exact .ite ht.put ht.takeMsg

theorem Keeps.answerHeld :
    Keeps σ (s.answerHeld) :=
  .ite hs (hs.put.foldl (fun _ _ h => h.takeMsg))

theorem execVoteReceived_goes {slot : ℕ} {b : GroupBlock} {a full : Bool} :
    Goes σ (execVoteReceived slot b a full s) :=
  hs.partnerMsg.toNext

theorem execGroupCommitReceived_goes {b : GroupBlock} {unindexed : Bool} :
    Goes σ (execGroupCommitReceived b unindexed s) :=
  hs.partnerMsg.toNext

theorem execGroupAbortReceived_goes {b : GroupBlock} :
    Goes σ (execGroupAbortReceived b s) :=
  hs.partnerMsg.toNext

theorem execEvictionProposalReceived_goes {slot : ℕ} {b : GroupBlock} :
    Goes σ (execEvictionProposalReceived slot b s) :=
  hs.partnerMsg.toNext

theorem execEvictionQueryReceived_goes {b : GroupBlock} :
    Goes σ (execEvictionQueryReceived b s) :=
  hs.partnerMsg.toNext

theorem execEvictionAnswerReceived_goes {slot : ℕ} {b : GroupBlock} {free : Bool} :
    Goes σ (execEvictionAnswerReceived slot b free s) :=
  hs.partnerMsg.toNext

theorem execGroupEvictionOrder_goes {b : GroupBlock} :
    Goes σ (execGroupEvictionOrder b s) :=
  hs.partnerMsg.toNext

theorem execDropReportReceived_goes {b : GroupBlock} :
    Goes σ (execDropReportReceived b s) :=
  hs.partnerMsg.toNext

theorem execGroupDropOrder_goes {b : GroupBlock} :
    Goes σ (execGroupDropOrder b s) :=
  hs.partnerMsg.toNext

theorem execUnindexReportReceived_goes {b : GroupBlock} :
    Goes σ (execUnindexReportReceived b s) :=
  hs.partnerMsg.toNext

theorem execGroupUnindexOrder_goes {b : GroupBlock} :
    Goes σ (execGroupUnindexOrder b s) :=
  hs.partnerMsg.toNext

theorem execReconcileListReceived_goes {slot : ℕ} {salt : BitVec 128} {lines : List ReconcileLine} :
    Goes σ (execReconcileListReceived slot salt lines s) :=
  hs.partnerMsg.toNext

theorem Keeps.partyChanged {k : PartyKind} {link : ℕ} :
    Keeps σ (s.partyChanged k link) := by
  unfold State.partyChanged
  extract_lets t
  have ht : Keeps σ t := hs.emit
  exact .ite ht.linkChanged ht

theorem Keeps.seeParty {k : PartyKind} {link route : ℕ} :
    Keeps σ (s.seeParty k link route) :=
  .ite hs.put (.ite hs hs.put.partyChanged)

theorem Keeps.dropParties {sel : Party → Bool} :
    Keeps σ (s.dropParties sel) :=
  hs.put.foldl (fun _ _ h => h.partyChanged)

theorem Keeps.partyDead {f : Option Fn} {dead : Bool} :
    Keeps σ (s.partyDead f dead) := by
  unfold State.partyDead
  split
  · exact hs
  · extract_lets hit t
    exact .ite hs.put.partyChanged hs

theorem Keeps.fmSeen {link : ℕ} :
    Keeps σ (s.fmSeen link) :=
  hs.seeParty

theorem Keeps.expireSnap {x : PoolSnap} :
    Keeps σ (s.expireSnap x) := by
  unfold State.expireSnap
  split
  · exact hs
  · extract_lets t u v w
    have hu : Keeps σ u := hs.put
    have hv : Keeps σ v := hu.bump
    exact hv.put

theorem Keeps.copyGranule {slot g : ℕ} :
    Keeps σ (s.copyGranule slot g) := by
  unfold State.copyGranule
  split
  · exact hs
  · split
    · exact hs
    · extract_lets t m u
      have ht : Keeps σ t := .ite hs.expireSnap hs
      split
      · exact ht
      · split
        · exact ht
        · extract_lets copied
          exact ht.put.bump

theorem Keeps.copyOnWrite {a n : ℕ} :
    Keeps σ (s.copyOnWrite a n) :=
  hs.foldl (fun _ _ h => h.foldl (fun _ _ h => h.copyGranule))

theorem Keeps.poolIo {a n : ℕ} {write : Bool} :
    Keeps σ (s.poolIo a n write) := by
  unfold State.poolIo
  refine hs.foldl ?_
  intro t x ht
  extract_lets k
  exact .ite ht ht.pierIo

theorem Keeps.poolStore {a : ℕ} {b : List Byte} {poison : Bool} :
    Keeps σ (s.poolStore a b poison) := by
  unfold State.poolStore
  extract_lets t ls whole u rest
  have hu : Keeps σ u := Keeps.poolIo hs.copyOnWrite
  exact hu.put (hp := Mem.write_wf _ _ _)

theorem Keeps.poisonLines {ls : List ℕ} :
    Keeps σ (s.poisonLines ls) :=
  hs.put

theorem Keeps.dpaStore {a : ℕ} {b : List Byte} {poison : Bool} :
    Keeps σ (s.dpaStore a b poison) := by
  unfold State.dpaStore
  split
  · refine hs.foldl ?_
    intro t x ht
    extract_lets lo part
    exact ht.poolStore.getD ht.windowStore
  · exact hs.poolStore

theorem Keeps.dpaPoison {ls : List ℕ} :
    Keeps σ (s.dpaPoison ls) :=
  hs.foldl (fun _ _ h => .ite h.dpaStore h.poisonLines)

theorem Keeps.killRegions :
    Keeps σ (s.killRegions) :=
  hs.put

theorem Keeps.pickKey {key : ℕ} :
    Keeps σ (s.pickKey key).2 := by
  unfold State.pickKey
  extract_lets old k t
  split
  · exact hs.put
  · exact hs

theorem Keeps.touchRegion {r : RRegion} {off n : ℕ} :
    Keeps σ (s.touchRegion r off n) := by
  unfold State.touchRegion
  split
  · exact hs.touchAll
  · exact hs

theorem Keeps.regionRecall {r : RRegion} {off n : ℕ} {read : Bool} :
    Keeps σ (s.regionRecall r off n read) :=
  .ite hs hs.recallRange

theorem Keeps.admitRemote {c : Conn} {key off n : ℕ} {write : Bool} :
    Keeps σ (s.admitRemote c key off n write).2 := by
  unfold State.admitRemote
  extract_lets x
  have hx : Keeps σ x.2 := hs.pickKey
  exact hx

theorem Keeps.packet {c : Conn} {kind psn : ℕ} {fields : List ℕ} {b : List Byte} :
    Keeps σ (s.packet c kind psn fields b) :=
  hs.bumpAt.emit

theorem Keeps.sendAck {c : Conn} {psn : ℕ} :
    Keeps σ (s.sendAck c psn) :=
  hs.packet

theorem Keeps.sendNak {c : Conn} {psn code : ℕ} :
    Keeps σ (s.sendNak c psn code) := by
  unfold State.sendNak
  extract_lets t u v w
  have ht : Keeps σ t := hs.packet.bumpAt
  have hv : Keeps σ v := .ite ht.put ht
  have hw : Keeps σ w := .ite hv hv.log
  exact hw.connError

theorem Keeps.setNq {q : NQ} :
    Keeps σ (s.setNq q) :=
  hs.put

theorem Keeps.nqEvent {q : NQ} :
    Keeps σ (s.nqEvent q) :=
  .ite hs.setNq.pendVector hs

theorem Keeps.postNq {q : NQ} {imm handle bytes key : ℕ} :
    Holds σ (s.postNq q imm handle bytes key) := by
  unfold State.postNq
  extract_lets b wrap q' post
  split
  · rename_i t u e
    have hu : Keeps σ u := hs.hostWrite e
    exact Keeps.toSome (.ite hu.setNq.nqEvent hu.setNq)
  · rename_i t _ _
    exact .none
  · rename_i t _ _ _
    exact Keeps.toSome (.ite hs.setNq.nqEvent hs.setNq)

theorem Keeps.msgDone {slot : ℕ} {m : Msg} :
    Keeps σ (s.msgDone slot m) := by
  unfold State.msgDone
  extract_lets t
  have ht : Keeps σ t := hs.updConn
  split
  · exact ht
  · extract_lets r
    exact .ite ht (.ite ht.updOp.stopDue ht.finish)

theorem Keeps.stopRma {o : Op} {st : Status} {result : ℕ} :
    Keeps σ (s.stopRma o st result) := by
  unfold State.stopRma
  extract_lets waits t u
  have ht : Keeps σ t := hs.purge
  exact ht.put.endRma

theorem Keeps.stopMsg {m : Msg} {st : Status} {result : Option ℕ} :
    Keeps σ (s.stopMsg m st result) := by
  unfold State.stopMsg
  split
  · exact .ite hs hs.stopRma
  · exact hs

theorem Keeps.queueMsg {c : Conn} {m : Msg} {off : ℕ} :
    Keeps σ (s.queueMsg c m off) := by
  unfold State.queueMsg
  extract_lets q isRequest
  exact hs.enqueue

theorem Keeps.addMsg {slot : ℕ} {m : Msg} :
    Keeps σ (s.addMsg slot m) := by
  unfold State.addMsg
  split
  · exact hs
  · extract_lets t
    exact hs.updConn.queueMsg

theorem Keeps.applyWrite {c : Conn} {r : RRegion} {m : InMsg} :
    Keeps σ (s.applyWrite c r m).2 := by
  unfold State.applyWrite
  split
  · exact hs.dpaStore.sendAck
  · extract_lets early t u v w
    have hu : Keeps σ u := hs.put.bumpAt
    have hv : Keeps σ v := hs.dpaStore.updConn
    have hw : Keeps σ w := hs.dpaStore
    split
    · exact hu.dpaStore.sendNak
    · split
      · exact hv.packet.bumpAt
      · split
        · rename_i x₁ _
          exact hs
        · rename_i x₁ x₂ e
          have hx₂ : Keeps σ x₂ := hw.postNq e
          extract_lets x₃
          have hx₃ : Keeps σ x₃ := hx₂.bumpAt.updConn
          exact hx₃.sendAck

theorem Keeps.applyResponse {c : Conn} {m : InMsg} :
    Keeps σ (s.applyResponse c m).2 := by
  unfold State.applyResponse
  split
  · exact hs
  · split
    · exact hs
    · extract_lets t u v
      have ht : Keeps σ t := hs.dpaStore
      have hv : Keeps σ v := ht.updConn
      exact .ite hv.msgDone hv

theorem Keeps.applyInbound {m : InMsg} :
    Keeps σ (s.applyInbound m).2 := by
  unfold State.applyInbound
  split
  · exact hs
  · split
    · exact hs
    · split
      · exact .ite hs hs.sendNak
      · split
        · exact .ite (hs.elim (fun _ _ => hs.stopMsg)) hs.sendNak
        · extract_lets t
          have ht : Keeps σ t := hs.regionRecall
          split
          · exact ht
          · split
            · split
              · exact ht.sendNak
              · exact ht.addMsg
            · split
              · exact ht.applyResponse
              · exact ht.applyWrite

theorem Keeps.setHost {x : HostState} :
    Keeps σ (s.setHost x) :=
  hs.put

theorem Keeps.useCap {h : ℕ} {write : Bool} :
    Keeps σ (s.useCap h write) := by
  unfold State.useCap
  extract_lets x
  exact hs.setHost

theorem Keeps.grant {g h : ℕ} {owned : Bool} :
    Keeps σ (s.grant g h owned) := by
  unfold State.grant
  split
  · extract_lets e t
    exact hs.put.bump
  · extract_lets alone new
    exact hs.updDir

theorem Keeps.evictWay {g : ℕ} :
    Keeps σ (s.evictWay g) := by
  unfold State.evictWay
  extract_lets set
  split
  · extract_lets t u
    have ht : Keeps σ t := hs.startRecall.bump
    exact ht.put
  · exact hs

theorem Keeps.respond {link a n : ℕ} :
    Keeps σ (s.respond link a n) :=
  hs.charge

theorem Keeps.answerLoad {r : HeldReq} :
    Keeps σ (s.answerLoad r) := by
  unfold State.answerLoad
  extract_lets dl bad t u
  have ht : Keeps σ t := by
    unfold t
    split
    · exact hs.discardStore
    · exact hs
  have hu : Keeps σ u := .ite ht.bumpAt ht
  exact hu.poolIo.respond.emit

theorem Keeps.answerPoison {link h a : ℕ} :
    Keeps σ (s.answerPoison link h a) :=
  hs.bumpAt.respond.emit

theorem Keeps.landStore {r : HeldReq} {b : List Byte} {poison : Bool} :
    Keeps σ (s.landStore r b poison) := by
  unfold State.landStore
  split
  · rename_i t u e
    have hu : Keeps σ u := hs.windowStore e
    exact hu.respond.emit
  · rename_i t _
    extract_lets u
    have hu : Keeps σ u := hs.poolStore
    split
    · extract_lets v w
      have hv : Keeps σ v := hu.bumpAt.emit
      exact hv.put
    · exact hu.respond.emit

theorem Keeps.serveReq {r : HeldReq} {a : ℕ} :
    Keeps σ (s.serveReq r a).2 := by
  induction a generalizing s with
  | zero => exact hs
  | succ k ih =>
    unfold State.serveReq
    extract_lets g w track others again
    have hagain : ∀ t, Keeps σ t → Keeps σ (again t).2 := fun t ht => by
      unfold again
      split
      · exact ht
      · exact ih ht
    have hevict : ∀ t, Keeps σ t → Keeps σ (if t.setFull g then (false, t) else t.serveReq r k).2 := fun t ht => by
      split
      · exact ht
      · exact ih ht
    split
    · exact .ite hs hs.answerPoison
    · split
      · exact hs
      · split
        · split
          · exact hagain _ hs.startRecallOf
          · split
            · exact hevict _ hs.evictWay
            · exact Keeps.answerLoad (Keeps.useCap (.ite hs.grant hs))
        · split
          · exact hagain _ hs.startRecallOf
          · split
            · exact hs
            · split
              · exact hevict _ hs.evictWay
              · exact Keeps.answerLoad (Keeps.useCap (.ite hs.copyOnWrite.grant hs.copyOnWrite))
        · split
          · exact hagain _ hs.startRecallOf
          · exact hs.useCap.landStore
        · split
          · exact hagain _ hs.startRecallOf
          · exact hs.useCap.storeN.respond.emit
        · exact hs.applyInbound

theorem Keeps.serveOne {r : HeldReq} :
    Keeps σ (s.serveOne r).2 := by
  unfold State.serveOne
  split
  · exact hs.applyInbound
  · split
    · exact hs.serveReq
    · exact hs
  · split
    · exact hs.serveReq
    · exact hs
  · split
    · exact hs.serveReq
    · exact hs
  · split
    · exact hs.serveReq
    · exact hs

theorem Keeps.serveHeld :
    Keeps σ (s.serveHeld) := by
  unfold State.serveHeld
  extract_lets one _ r
  have hr : Keeps σ r.1 :=
    List.foldlRecOn (motive := fun a : State × List HeldReq => Keeps σ a.1) _ one (b := ({ s with pool.heldReqs := [] }, []))
      hs.put fun a ha x _ => by
        unfold one
        split
        · exact ha
        · exact Keeps.serveOne ha
  exact hr.put

theorem Keeps.request {r : HeldReq} :
    Keeps σ (s.request r) :=
  hs.put.serveHeld

theorem execCxlMemRead_goes {src : Source} {addr : ℕ} {kind : LoadKind} :
    Goes σ (execCxlMemRead src addr kind s) := by
  unfold execCxlMemRead
  extract_lets t a host u
  have ht : Keeps σ t := hs.wake
  have hu : Keeps σ u := ht.bumpAt
  split
  · exact ht.discardStore.answerPoison.toNext
  · split
    · exact ht.answerPoison.toNext
    · split
      · exact hu.request.toNext
      · exact hu.refuse.answerPoison.toNext

theorem Keeps.storeRequest {src : Source} {a n : ℕ} {own : Bool} {req : PoolReq} :
    Keeps σ (s.storeRequest src a n own req) := by
  unfold State.storeRequest
  extract_lets t host poison u
  have ht : Keeps σ t := hs.wake
  have hu : Keeps σ u := ht.bumpAt
  split
  · exact .ite ht.discardStore.answerPoison ht.discardStore
  · split
    · exact .ite ht.answerPoison ht
    · split
      · exact hu.request
      · exact .ite hu.refuse.answerPoison hu.refuse

theorem execCxlMemWrite_goes {src : Source} {addr : ℕ} {kind : StoreKind} {bytes : List Byte} {poison : Bool} :
    Goes σ (execCxlMemWrite src addr kind bytes poison s) := by
  unfold execCxlMemWrite
  extract_lets a
  exact hs.storeRequest.toNext

theorem execTailWindowStore_goes {src : Source} {addr : ℕ} {bytes : List Byte} :
    Goes σ (execTailWindowStore src addr bytes s) :=
  hs.storeRequest.toNext

theorem execControlPageNStore_goes {src : Source} {addr value : ℕ} :
    Goes σ (execControlPageNStore src addr value s) :=
  hs.storeRequest.toNext

theorem execHostCapWindow_goes {host : ℕ} :
    Goes σ (execHostCapWindow host s) := by
  unfold execHostCapWindow
  extract_lets x
  exact hs.setHost.serveHeld.toNext

theorem Keeps.freeExtent {e : Extent} :
    Keeps σ (s.freeExtent e) := by
  unfold State.freeExtent
  extract_lets inside t u
  have ht : Keeps σ t := hs.foldl fun _ _ h => by
    split
    · exact h.unmapWindow
    · exact h
  have hu : Keeps σ u := ht.foldl fun _ _ h => h.expireSnap
  exact Keeps.gc (Keeps.leaseUse (Keeps.killRegions (Keeps.mapOver (hu.put (hp := Mem.clear_wf _ _ _)))))

theorem Keeps.updExtent {id : ℕ} {f : Extent → Extent} :
    Keeps σ (s.updExtent id f) :=
  hs.put

theorem Keeps.detach :
    Keeps σ (s.detach) := by
  unfold State.detach
  extract_lets gone
  refine hs.foldl ?_
  intro t x ht
  split
  · extract_lets sides u
    have hu : Keeps σ u := ht.updExtent
    exact .ite hu.freeExtent hu
  · exact ht

theorem Keeps.recallHost {e : Extent} {h : ℕ} :
    Keeps σ (s.recallHost e h) :=
  hs.foldl (fun _ _ h => h.startRecallOf)

theorem Keeps.settlePool :
    Keeps σ (s.settlePool) :=
  hs.recallLate.detach.serveHeld

theorem execWakePartBack_goes {part : WakePart} :
    Goes σ (execWakePartBack part s) := by
  unfold execWakePartBack
  split
  · split
    · exact hs.put.answerHeld.serveHeld.toNext
    · exact hs.put.serveHeld.toNext
    · exact hs.put.serveHeld.toNext
  · exact hs.toNext

theorem execLinkWatchServiceRestored_goes :
    Goes σ (execLinkWatchServiceRestored s) := by
  unfold execLinkWatchServiceRestored
  split
  · exact hs.put.readyChanged.answerHeld.serveHeld.toNext
  · exact hs.toNext

theorem Keeps.recallEnds {g h : ℕ} :
    Keeps σ (s.recallEnds g h) := by
  unfold State.recallEnds
  split
  · exact hs
  · extract_lets waiting t
    exact .ite hs.put.afterRecall hs.put

theorem execBackInvalidateResponse_goes {host addr : ℕ} {dirty : List Byte} :
    Goes σ (execBackInvalidateResponse host addr dirty s) := by
  unfold execBackInvalidateResponse
  extract_lets g t
  have ht : Keeps σ t := .ite hs hs.dpaStore
  split
  · exact ht.recallEnds.settlePool.toNext
  · exact hs.toNext

theorem Keeps.dropHolder {h : ℕ} :
    Keeps σ (s.dropHolder h) := by
  unfold State.dropHolder
  refine hs.foldl ?_
  intro t x ht
  split
  · exact ht
  · extract_lets u v
    have hu : Keeps σ u := .ite ht.poisonLines ht
    exact hu.put

theorem Keeps.declareDead {h : ℕ} :
    Keeps σ (s.declareDead h) := by
  have hrecalls : ∀ (l : List Recall) {t : State}, Keeps σ t → Keeps σ (l.foldl (fun s r =>
      (if r.owned then s.poisonLines ((List.range 4).map (· + 4 * r.group)) else s).recallEnds r.group h) t) :=
    fun l t ht => ht.foldl fun _ _ h => Keeps.recallEnds (.ite h.poisonLines h)
  unfold State.declareDead
  extract_lets x f soon t u held _ v w y z
  have ht : Keeps σ t := hs.setHost.bumpAt
  have hu : Keeps σ u := ht.log
  have hv : Keeps σ v := Keeps.bump hu.put
  have hw : Keeps σ w := hrecalls _ hv
  have hy : Keeps σ y := hw.dropHolder
  have hz : Keeps σ z := by
    unfold z
    clear_value y f
    cases f with
    | none => exact hy
    | some f => exact Keeps.discardBank (hy.foldl fun _ _ h => h.killPair)
  clear_value z
  split
  · exact hs
  · exact hz.unrouteHost.partyDead.emit.raiseSrc.settlePool

theorem execRecallTimeout_goes {host addr : ℕ} :
    Goes σ (execRecallTimeout host addr s) := by
  unfold execRecallTimeout
  extract_lets late
  exact Keeps.toNext (.ite hs (.ite hs.recallEnds.settlePool hs.declareDead))

theorem execHostLeaseExpiry_goes {host : ℕ} :
    Goes σ (execHostLeaseExpiry host s) := by
  unfold execHostLeaseExpiry
  extract_lets x
  refine Keeps.toNext ?_
  split
  · exact .ite hs.declareDead hs
  · exact hs

theorem execHostUnbind_goes {host : ℕ} :
    Goes σ (execHostUnbind host s) := by
  unfold execHostUnbind
  extract_lets f t u
  have ht : Keeps σ t := .ite hs.declareDead hs
  exact ht.put.dropParties.toNext

theorem execHeartbeatRenew_goes {r : Req} :
    Goes σ (execHeartbeatRenew r s) := by
  unfold execHeartbeatRenew
  extract_lets t
  have ht : Keeps σ t := hs.wake
  split
  · extract_lets u
    exact Keeps.toNext (.ite ht ht.setHost)
  · exact ht.toNext

theorem execHeartbeatRejoin_goes {r : Req} :
    Goes σ (execHeartbeatRejoin r s) := by
  unfold execHeartbeatRejoin
  extract_lets t
  have ht : Keeps σ t := hs.wake
  split
  · extract_lets u v
    have hv : Keeps σ v := ht.setHost
    split
    · exact hv.routeWaiting.partyDead.toNext
    · exact Keeps.toNext (.ite ht ht.setHost)
  · exact ht.toNext

theorem bodyPoolLease_keeps {o : Op} :
    Keeps σ (bodyPoolLease o s).state := by
  unfold bodyPoolLease
  extract_lets act t
  split
  · exact hs
  · extract_lets x
    split
    · exact hs
    · split
      · exact hs.setHost
      · split
        · exact hs.setHost
        · split
          · exact hs
          · exact hs

theorem execPoolLease_goes {c : Cmd} :
    Goes σ (execPoolLease c s) :=
  (hs.submit (fun _ _ h => bodyPoolLease_keeps h)).toNext

theorem Keeps.startMirror {e : Extent} :
    Keeps σ (s.startMirror e) := by
  unfold State.startMirror
  split
  · exact hs
  · split
    · exact hs
    · extract_lets t u
      have ht : Keeps σ t := hs.updExtent.emit
      exact ht.put.leaseUse
    · exact .ite hs hs.put.log

theorem execDcAdd_goes {hosts : List Source} {region : ℕ} {base : Option ℕ} {length tag partition : ℕ} {shared : Bool} :
    Goes σ (execDcAdd hosts region base length tag partition shared s) := by
  unfold execDcAdd
  extract_lets hosts' part named place
  clear_value part place
  split
  · split
    · exact hs.emit.toNext
    · refine (Keeps.emit (.ite hs.updExtent ?_)).toNext
      exact hs.updExtent.foldl fun _ _ h => h.emit
  · split
    · exact hs.emit.toNext
    · split
      · exact hs.emit.toNext
      · split
        · exact hs.emit.toNext
        · exact (Keeps.emit hs.put).toNext

theorem execExtentZeroEnd_goes {extent : ℕ} :
    Goes σ (execExtentZeroEnd extent s) := by
  unfold execExtentZeroEnd
  split
  · rename_i e _
    split
    · exact hs.toNext
    · extract_lets _ _ t
      have ht : Keeps σ t := hs.put (hp := Mem.clear_wf _ _ _)
      exact (ht.foldl fun _ _ h => h.emit).toNext
  · exact hs.toNext

theorem execAddDcResponse_goes {host : Source} {extent : ℕ} {accept : Bool} :
    Goes σ (execAddDcResponse host extent accept s) := by
  unfold execAddDcResponse
  split
  · split
    · exact hs.toNext
    · split
      · extract_lets t
        have ht : Keeps σ t := hs.updExtent
        refine Keeps.toNext ?_
        split
        · exact ht.startMirror
        · exact ht
      · extract_lets sides t
        have ht : Keeps σ t := hs.updExtent
        exact Keeps.toNext (.ite ht.freeExtent ht)
  · exact hs.toNext

theorem Keeps.leave {e : Extent} {h : ℕ} {dest : SideState} :
    Keeps σ (s.leave e h dest) := by
  unfold State.leave
  extract_lets t
  have ht : Keeps σ t := hs.updExtent.killRegions
  exact (ht.elim (fun _ _ => ht.recallHost)).settlePool

theorem execReleaseDynamicCapacity_goes {host : Source} {extent : ℕ} :
    Goes σ (execReleaseDynamicCapacity host extent s) := by
  unfold execReleaseDynamicCapacity
  split
  · exact Keeps.toNext (.ite hs.leave hs)
  · exact hs.toNext

theorem execDcRelease_goes {host : Source} {extent : ℕ} {forced : Bool} :
    Goes σ (execDcRelease host extent forced s) := by
  unfold execDcRelease
  split
  · split
    · exact hs.emit.toNext
    · split
      · exact hs.emit.emit.toNext
      · extract_lets t
        have ht : Keeps σ t := hs.foldl (fun _ _ h => h.expireSnap)
        exact ht.leave.emit.toNext
  · exact hs.emit.toNext

theorem execGetDcdInfo_goes {link : ℕ} :
    Goes σ (execGetDcdInfo link s) :=
  Keeps.toNext (.ite hs.fmSeen.emit hs)

theorem execGetHostDcRegionConfig_goes {link ld : ℕ} :
    Goes σ (execGetHostDcRegionConfig link ld s) :=
  hs.fmSeen.emit.toNext

theorem execSetDcRegionConfig_goes {link ld region blockSize : ℕ} :
    Goes σ (execSetDcRegionConfig link ld region blockSize s) :=
  hs.fmSeen.emit.toNext

theorem execGetDcRegionExtentLists_goes {link ld : ℕ} :
    Goes σ (execGetDcRegionExtentLists link ld s) :=
  hs.fmSeen.emit.toNext

theorem execMirrorPartnerAck_goes {addr : ℕ} :
    Goes σ (execMirrorPartnerAck addr s) := by
  unfold execMirrorPartnerAck
  split
  · exact hs.put.respond.emit.toNext
  · exact hs.toNext

theorem execRemirrorStart_goes {extent : ℕ} :
    Goes σ (execRemirrorStart extent s) := by
  unfold execRemirrorStart
  split
  · exact Keeps.toNext (.ite hs.startMirror hs)
  · exact hs.toNext

theorem Keeps.nearRecall {o : Op} {srcs : List NearSrc} {off n : ℕ} :
    Keeps σ (s.nearRecall o srcs off n) := by
  unfold State.nearRecall
  extract_lets t
  have ht : Keeps σ t := hs.foldl (fun _ _ h => h.recallRange)
  exact .ite ht ht.recallRange

theorem Keeps.nearUnit {o : Op} {srcs : List NearSrc} {off n : ℕ} :
    Keeps σ (s.nearUnit o srcs off n).1 := by
  unfold State.nearUnit
  extract_lets t bad diff a fed b
  have ht : Keeps σ t := hs.bumpAt
  split
  · exact ht
  · exact ht.dpaStore.dpaPoison

theorem Keeps.nearRun {o : Op} :
    Keeps σ (s.nearRun o).state := by
  unfold State.nearRun
  extract_lets n
  split
  · exact hs
  · split
    · exact hs
    · split
      · exact hs
      · extract_lets t r
        have ht : Keeps σ t := hs.nearRecall
        have hr : Keeps σ r.1 := ht.nearUnit
        split
        · exact ht
        · exact hr

theorem bodyNear_keeps {o : Op} :
    Keeps σ (bodyNear o s).state := by
  unfold bodyNear
  split
  · exact hs
  · split
    · refine hs.withRead ?_
      intro a
      extract_lets l t
      exact hs.setOp.nearRun
    · extract_lets t
      exact hs.setOp.nearRun
    · exact hs.nearRun

theorem unitNear_keeps {o : Op} :
    Keeps σ (unitNear o s).state := by
  unfold unitNear
  extract_lets n off len was
  split
  · exact hs
  · split
    · exact hs
    · extract_lets t r bad result u
      have ht : Keeps σ t := hs.nearRecall
      have hr : Keeps σ r.1 := ht.nearUnit
      have hu : Keeps σ u := hr.setOp
      split
      · exact ht
      · split
        · exact hu
        · exact hu

theorem execFill_goes {c : Cmd} :
    Goes σ (execFill c s) :=
  (hs.submitTaking (fun _ _ h => bodyNear_keeps h)).toNext

theorem execCopy_goes {c : Cmd} :
    Goes σ (execCopy c s) :=
  (hs.submitTaking (fun _ _ h => bodyNear_keeps h)).toNext

theorem execCompare_goes {c : Cmd} :
    Goes σ (execCompare c s) :=
  (hs.submitTaking (fun _ _ h => bodyNear_keeps h)).toNext

theorem execReduce_goes {c : Cmd} :
    Goes σ (execReduce c s) :=
  (hs.submitTaking (fun _ _ h => bodyNear_keeps h)).toNext

theorem Keeps.markSnap {x : PoolSnap} :
    Keeps σ (s.markSnap x).2 := by
  unfold State.markSnap
  extract_lets v t done u
  have ht : Keeps σ t := hs.updExtent
  exact ht.put.serveHeld

theorem Keeps.snapRun {x : PoolSnap} :
    Keeps σ (s.snapRun x).state := by
  unfold State.snapRun
  extract_lets t r
  have ht : Keeps σ t := hs.recallRange
  have hr : Keeps σ r.2 := ht.markSnap
  split
  · exact ht
  · exact hr

theorem snapCreate_keeps {o : Op} :
    Keeps σ (snapCreate o s).state := by
  unfold snapCreate
  extract_lets a n t
  split
  · exact hs.snapRun
  · split
    · exact hs
    · split
      · split
        · exact hs
        · split
          · exact hs
          · split
            · exact hs
            · extract_lets gen u v
              have hv : Keeps σ v := hs.put
              split
              · exact hv
              · exact hv.snapRun
      · exact hs

theorem Keeps.restoreUnit {x : PoolSnap} {off n : ℕ} :
    Holds σ (s.restoreUnit x off n) := by
  unfold State.restoreUnit
  extract_lets a t mine
  have ht : Keeps σ t := hs.recallRange
  split
  · exact .none
  · exact (ht.foldl (fun _ _ h => h.poolStore.poisonLines)).toSome

theorem bodyPoolSnapshot_keeps {o : Op} :
    Keeps σ (bodyPoolSnapshot o s).state := by
  unfold bodyPoolSnapshot
  extract_lets act known
  have hknown : ∀ k, (∀ x, Keeps σ (k x).state) → Keeps σ (known k).state := fun k hk => by
    unfold known
    split
    · exact hk _
    · exact hs
  clear_value act
  split
  · exact snapCreate_keeps hs
  · exact hknown _ fun x => hs.put
  · split
    · exact hs
    · split
      · exact hs
      · split
        · exact hs
        · split
          · rename_i e
            exact hs.restoreUnit e
          · exact hs.recallRange
  · exact hknown _ fun x => hs.writeThen fun _ h => h
  · exact hs

theorem unitPoolSnapshot_keeps {o : Op} :
    Keeps σ (unitPoolSnapshot o s).state := by
  unfold unitPoolSnapshot
  extract_lets last off t
  split
  · split
    · exact hs
    · split
      · exact hs
      · extract_lets n u
        have hu : Keeps σ u := hs.recallRange
        split
        · exact hu
        · split
          · exact hu
          · split
            · rename_i v _ _ w e
              have hw : Keeps σ w := hu.snapRun.ofBody e
              split
              · exact hw
              · exact hw
            · rename_i v _ w e
              have hw : Keeps σ w := hu.snapRun.ofBody e
              exact hw
            · rename_i v _ _ w e
              have hw : Keeps σ w := hu.snapRun.ofBody e
              exact hw
  · split
    · exact hs
    · extract_lets n
      split
      · rename_i _ u _ _
        exact hs
      · rename_i _ u _ _
        exact hs.recallRange
      · rename_i _ u v _ e
        have hv : Keeps σ v := hs.restoreUnit e
        split
        · exact hv
        · exact hv

theorem execPoolSnapshot_goes {c : Cmd} :
    Goes σ (execPoolSnapshot c s) :=
  (hs.submit (fun _ _ h => bodyPoolSnapshot_keeps h)).toNext

theorem execPoolSnapshotExpiry_goes {slot : ℕ} :
    Goes σ (execPoolSnapshotExpiry slot s) := by
  unfold execPoolSnapshotExpiry
  split
  · exact hs.expireSnap.toNext
  · exact hs.toNext

theorem linkRetry_keeps :
    Keeps σ (linkRetry s).state :=
  hs

theorem Keeps.closeConn {c : Conn} :
    Keeps σ (s.closeConn c) := by
  unfold State.closeConn
  extract_lets t u
  have ht : Keeps σ t := hs.endConnOps
  exact ht.put

theorem connCreate_keeps {o : Op} :
    Keeps σ (connCreate o s).state := by
  unfold connCreate
  extract_lets port part t
  split
  · exact hs
  · split
    · exact hs
    · split
      · exact linkRetry_keeps hs
      · split
        · exact hs
        · extract_lets gen c
          exact hs.put

theorem connArm_keeps {o : Op} {c : Conn} :
    Keeps σ (connArm o c s).state := by
  unfold connArm
  extract_lets t
  split
  · exact hs
  · split
    · exact linkRetry_keeps hs
    · exact hs.updConn

theorem bodyConnect_keeps {o : Op} :
    Keeps σ (bodyConnect o s).state := by
  unfold bodyConnect
  extract_lets act
  split
  · exact hs
  · split
    · exact connCreate_keeps hs
    · split
      · exact hs
      · split
        · exact hs
        · split
          · exact hs.closeConn
          · split
            · exact hs
            · split
              · exact connArm_keeps hs
              · exact hs.writeThen (fun _ h => h)

theorem execRmaConnect_goes {c : Cmd} :
    Goes σ (execRmaConnect c s) :=
  (hs.submit (fun _ _ h => bodyConnect_keeps h)).toNext

theorem Keeps.addRegion {o : Op} {r : RRegion} :
    Keeps σ (s.addRegion o r).state := by
  unfold State.addRegion
  split
  · exact hs
  · refine hs.withEntropy ?_
    intro t ht
    extract_lets gen d u v w x₁
    have hd : Keeps σ d.2 := ht.draw
    have hv : Keeps σ v := hd
    have hx₁ : Keeps σ x₁ := hv.put
    exact hx₁

theorem regionExtent_keeps {o : Op} :
    Keeps σ (regionExtent o s).state := by
  unfold regionExtent
  extract_lets part
  split
  · exact hs
  · split
    · exact hs
    · split
      · exact hs
      · exact hs
      · exact hs.addRegion

theorem Keeps.regionPin {n : Namespace} {ids : List ℕ} :
    HoldsSnd σ (s.regionPin n ids) := by
  unfold State.regionPin
  split
  · exact .none
  · extract_lets gen pin t u
    have hu : Keeps σ u := hs.put
    split
    · exact .none
    · exact hu.queueMove.toSomeSnd

theorem regionPagesNew_keeps {o : Op} :
    Keeps σ (regionPagesNew o s).state := by
  unfold regionPagesNew
  refine hs.withNs fun n => ?_
  split
  · exact hs
  · exact hs
  · rename_i v _
    extract_lets all first count ids
    split
    · exact hs
    · split
      · exact hs
      · split
        · exact hs
        · split
          · exact hs
          · refine hs.withEntropy fun s hs => ?_
            split
            · exact hs
            · rename_i h t e
              have ht : Keeps σ t := hs.addSnapshot e
              have hpinned : HoldsSnd σ (if o.expert && bit (o.p 33 1) 0 then
                  (t.regionPin n ids).map (fun x => (some x.1, x.2)) else some (none, t)) := by
                split
                · exact .map fun x ex => ht.regionPin ex
                · exact ht.toSomeSnd
              generalize (if o.expert && bit (o.p 33 1) 0 then
                (t.regionPin n ids).map (fun x => (some x.1, x.2)) else some (none, t)) = pinned at hpinned
              dsimp only
              split
              · exact hs
              · rename_i p u
                have hu : Keeps σ u := hpinned rfl
                split
                · rename_i e
                  exact hu.addRegion.ofBody e
                · exact hs
                · exact hs
                · exact hs

theorem Keeps.dropRegion {r : RRegion} :
    Keeps σ (s.dropRegion r) := by
  unfold State.dropRegion
  extract_lets mine t u
  exact hs.put.gc

theorem regionRemove_keeps {r : RRegion} :
    Keeps σ (regionRemove r s).state := by
  unfold regionRemove
  extract_lets t u
  have hu : Keeps σ u := hs.put
  split
  · exact hu
  · exact hu.dropRegion

theorem regionRewrite_keeps {o : Op} {r : RRegion} :
    Keeps σ (regionRewrite o r s).state := by
  unfold regionRewrite
  split
  · exact hs
  · split
    · exact hs
    · split
      · exact hs
      · extract_lets new t
        exact hs.put

theorem bodyRegion_keeps {o : Op} :
    Keeps σ (bodyRegion o s).state := by
  unfold bodyRegion
  extract_lets act
  split
  · exact hs
  · split
    · exact regionExtent_keeps hs
    · split
      · exact regionPagesNew_keeps hs
      · split
        · exact hs
        · split
          · exact hs
          · split
            · exact regionRemove_keeps hs
            · split
              · exact hs.writeThen (fun _ h => h)
              · split
                · exact hs
                · exact regionRewrite_keeps hs

theorem execRmaRegion_goes {c : Cmd} :
    Goes σ (execRmaRegion c s) :=
  (hs.submit (fun _ _ h => bodyRegion_keeps h)).toNext

theorem bodyRma_keeps {o : Op} :
    Keeps σ (bodyRma o s).state := by
  unfold bodyRma
  extract_lets n imm pick r t u
  have hpick : Keeps σ pick.2 := by
    unfold pick
    split
    · exact hs
    · exact hs.pickKey
  have ht : Keeps σ t := hpick
  have hu : Keeps σ u := ht.setOp
  split
  · exact hs
  · split
    · exact hs
    · split
      · exact hs
      · split
        · exact hs
        · split
          · exact hs
          · split
            · exact hs
            · split
              · exact linkRetry_keeps ht
              · split
                · exact linkRetry_keeps ht
                · split
                  · exact ht
                  · split
                    · exact ht
                    · split
                      · exact ht
                      · extract_lets ms v
                        have hv : Keeps σ v := hu.foldl (fun _ _ h => h.addMsg)
                        split
                        · exact hv
                        · exact hv

theorem execRmaWrite_goes {c : Cmd} :
    Goes σ (execRmaWrite c s) :=
  (hs.submit (fun _ _ h => bodyRma_keeps h)).toNext

theorem execRmaRead_goes {c : Cmd} :
    Goes σ (execRmaRead c s) :=
  (hs.submit (fun _ _ h => bodyRma_keeps h)).toNext

theorem Keeps.startMsg {c : Conn} {m : Msg} :
    Keeps σ (s.startMsg c m) :=
  .ite hs hs.updConn

theorem Keeps.sendMsg {p : SPort} {h : Head} {c : Conn} {m : Msg} :
    Keeps σ (s.sendMsg p h c m) := by
  unfold State.sendMsg
  extract_lets n off gone request t psn kind u last v
  have hgone : Keeps σ gone := hs.purge
  have ht : Keeps σ t := hs.startMsg
  have hu : Keeps σ u := ht.portSent.packet
  split
  · exact hgone
  · split
    · exact .ite hu.updConn hu
    · split
      · exact hgone
      · split
        · exact .ite hs.stopMsg hgone.sendNak
        · extract_lets w b x₁ x₂ x₃
          have hw : Keeps σ w := hs.regionRecall
          have hx₁ : Keeps σ x₁ := hw.startMsg
          have hx₂ : Keeps σ x₂ := hx₁.portSent.packet
          have hx₃ : Keeps σ x₃ := .ite hx₂.touchRegion hx₂
          exact .ite hw (.ite hx₃.updConn hx₃)

theorem execSchedUnitStart_goes {port : ℕ} :
    Goes σ (execSchedUnitStart port s) := by
  unfold execSchedUnitStart
  split
  · exact hs.toNext
  · split
    · exact hs.toNext
    · extract_lets t u
      have hu : Keeps σ u := hs.setPort.bump
      split
      · refine Keeps.toNext ?_
        split
        · exact hu.sendPiece.stopDue
        · exact hu.sendPiece
        · split
          · split
            · exact hu.sendMsg
            · exact hu.purge
          · exact hu.purge
      · exact hu.toNext

theorem nqCreate_keeps {o : Op} :
    Keeps σ (nqCreate o s).state := by
  unfold nqCreate
  extract_lets n port part t
  split
  · exact hs
  · split
    · exact hs
    · split
      · exact hs
      · extract_lets gen q
        exact hs.put

theorem bodyNotify_keeps {o : Op} :
    Keeps σ (bodyNotify o s).state := by
  unfold bodyNotify
  extract_lets act m conn t
  split
  · exact hs
  · split
    · exact nqCreate_keeps hs
    · split
      · exact hs
      · split
        · exact hs
        · split
          · extract_lets waits u v
            have hu : Keeps σ u := hs.foldl (fun _ _ h => h.finish)
            exact hu.put
          · split
            · split
              · exact hs
              · split
                · exact hs
                · split
                  · exact hs
                  · exact hs.put
            · split
              · split
                · exact hs
                · exact hs.put
              · exact hs.writeThen (fun _ h => h)

theorem execRmaNotify_goes {c : Cmd} :
    Goes σ (execRmaNotify c s) :=
  (hs.submit (fun _ _ h => bodyNotify_keeps h)).toNext

theorem execNqHeadDoorbell_goes {r : Req} {nq value : ℕ} :
    Goes σ (execNqHeadDoorbell r nq value s) := by
  unfold execNqHeadDoorbell
  split
  · exact hs.toNext
  · split
    · exact hs.toNext
    · extract_lets t u head d freed v
      have ht : Keeps σ t := hs.wake
      split
      · exact ht.toNext
      · exact Keeps.toNext (.ite ht.setNq ht.setNq.nqEvent)

theorem bodyWait_keeps {o : Op} :
    Keeps σ (bodyWait o s).state := by
  unfold bodyWait
  split
  · exact hs
  · split
    · exact hs
    · extract_lets part t
      have ht : Keeps σ t := .ite hs.setOp hs
      split
      · exact hs
      · split
        · exact hs
        · split
          · exact hs
          · exact ht

theorem execRmaWait_goes {c : Cmd} :
    Goes σ (execRmaWait c s) :=
  (hs.submit (fun _ _ h => bodyWait_keeps h)).toNext

theorem execRmaWaitTimeout_goes {tag : ℕ} :
    Goes σ (execRmaWaitTimeout tag s) := by
  unfold execRmaWaitTimeout
  split
  · split
    · exact Keeps.toNext (.ite hs.finish hs)
    · exact hs.toNext
  · exact hs.toNext

theorem Keeps.ceMark {c : Conn} {ce : Bool} :
    Keeps σ (s.ceMark c ce) :=
  .ite hs hs.packet.bumpAt.updConn

theorem Keeps.inbound {m : Inbound} {kind imm length : ℕ} {bytes : List Byte} :
    Keeps σ (s.inbound m kind imm length bytes) := by
  unfold State.inbound
  split
  · exact hs
  · extract_lets k t u start a v nq w d x₁
    have ht : Keeps σ t := hs.bumpAt
    have hu : Keeps σ u := ht.ceMark
    have ha : Keeps σ a.2 := hu.admitRemote
    have hv : Keeps σ v := ha
    have hx₁ : Keeps σ x₁ := .ite hv hv.updConn
    exact .ite ht (.ite hv.packet.bumpAt (.ite hv.sendAck hx₁.request))

theorem execInboundRdmaWrite_goes {m : Inbound} {bytes : List Byte} :
    Goes σ (execInboundRdmaWrite m bytes s) :=
  hs.inbound.toNext

theorem execInboundRdmaWriteImm_goes {m : Inbound} {bytes : List Byte} {immediate : ℕ} :
    Goes σ (execInboundRdmaWriteImm m bytes immediate s) :=
  hs.inbound.toNext

theorem execInboundRdmaRead_goes {m : Inbound} {length : ℕ} :
    Goes σ (execInboundRdmaRead m length s) :=
  hs.inbound.toNext

theorem Keeps.ackUpTo {slot psn a : ℕ} :
    Keeps σ (s.ackUpTo slot psn a) := by
  induction a generalizing s slot psn with
  | zero =>
    rw [State.ackUpTo]
    exact hs
  | succ a ih =>
    rw [State.ackUpTo]
    split
    · exact hs
    · split
      · exact hs
      · extract_lets last
        exact .ite hs (ih hs.msgDone)

theorem Keeps.ackSeen {c : Conn} {psn : ℕ} :
    Keeps σ (s.ackSeen c psn) := by
  unfold State.ackSeen
  extract_lets t u
  have ht : Keeps σ t := hs.updConn
  have hu : Keeps σ u := ht.ackUpTo
  exact hu.updConn

theorem execInboundAck_goes {qpn psn : ℕ} :
    Goes σ (execInboundAck qpn psn s) := by
  unfold execInboundAck
  split
  · exact hs.toNext
  · extract_lets t
    have ht : Keeps σ t := hs.bumpAt
    exact Keeps.toNext (.ite ht.ackSeen ht)

theorem Keeps.resend {c : Conn} :
    Keeps σ (s.resend c) := by
  unfold State.resend
  extract_lets mine ids t again u n
  have ht : Keeps σ t := hs.purge
  have hu : Keeps σ u := ht.foldl (fun _ _ h => h.queueMsg)
  exact hu.bumpAt.updConn

theorem execInboundNak_goes {qpn : ℕ} {nak : Nak} :
    Goes σ (execInboundNak qpn nak s) := by
  unfold execInboundNak
  split
  · exact hs.toNext
  · extract_lets t ids u
    have ht : Keeps σ t := hs.bumpAt
    have hu : Keeps σ u := ht.purge
    split
    · exact ht.toNext
    · split
      · exact ht.connError.toNext
      · exact ht.connError.toNext
      · exact ht.connError.toNext
      · exact ht.connError.toNext
      · split
        · exact ht.connError.toNext
        · exact hu.updConn.toNext

theorem execInboundReadResponse_goes {qpn psn : ℕ} {bytes : List Byte} :
    Goes σ (execInboundReadResponse qpn psn bytes s) := by
  unfold execInboundReadResponse
  split
  · exact hs.toNext
  · rename_i c _
    have ht : Keeps σ (s.bumpAt 0x281 (packetsOf c.mtu bytes.length) (some c.partition) (some c.handle)) := hs.bumpAt
    refine .ite ht.toNext ?_
    split
    · generalize s.bumpAt 0x281 (packetsOf c.mtu bytes.length) (some c.partition) (some c.handle) = t at ht
      dsimp only
      split
      · exact ht.toNext
      · exact (Keeps.ite ht.request ht).toNext
    · have hu : Keeps σ ((s.bumpAt 0x281 (packetsOf c.mtu bytes.length) (some c.partition) (some c.handle)).ackUpTo c.slot
          (psnSub (psnSub psn (packetsOf c.mtu bytes.length - 1)) 1) c.msgs.length) := ht.ackUpTo
      generalize (s.bumpAt 0x281 (packetsOf c.mtu bytes.length) (some c.partition) (some c.handle)).ackUpTo c.slot
        (psnSub (psnSub psn (packetsOf c.mtu bytes.length - 1)) 1) c.msgs.length = u at hu
      dsimp only
      split
      · exact hu.toNext
      · exact (Keeps.ite hu.request hu).toNext

theorem execInboundCnp_goes {qpn : ℕ} :
    Goes σ (execInboundCnp qpn s) := by
  unfold execInboundCnp
  split
  · exact hs.toNext
  · exact hs.bumpAt.bumpAt.updConn.toNext

theorem execAckTimeout_goes {qpn : ℕ} :
    Goes σ (execAckTimeout qpn s) := by
  unfold execAckTimeout
  split
  · exact hs.toNext
  · extract_lets due
    split
    · exact hs.toNext
    · split
      · exact hs.connError.toNext
      · exact hs.updConn.resend.toNext

theorem execRnrTimerExpiry_goes {qpn : ℕ} :
    Goes σ (execRnrTimerExpiry qpn s) := by
  unfold execRnrTimerExpiry
  split
  · exact hs.toNext
  · exact Keeps.toNext (.ite hs.resend hs)

theorem Keeps.failRequest {r : EReq} :
    Keeps σ (s.failRequest r) := by
  unfold State.failRequest
  split
  · exact hs.entropyFailed.finish
  · exact hs.entropyFailed.emit
  · exact hs.entropyFailed

theorem Keeps.failWaiting {sel : ℕ × EReq × ℕ → Bool} :
    Keeps σ (s.failWaiting sel) := by
  unfold State.failWaiting
  extract_lets l t u
  have hu : Keeps σ u := hs.put
  exact hu.foldl (fun _ _ h => h.failRequest)

theorem execEntropyHealthFail_goes {test : EntropyTest} :
    Goes σ (execEntropyHealthFail test s) := by
  unfold execEntropyHealthFail
  split
  · exact hs.toNext
  · extract_lets n t u v w x₁
    have hu : Keeps σ u := hs.put
    have hv : Keeps σ v := hu.log.bump.securityChanged
    have hw : Keeps σ w := .ite hv.failWaiting hv
    exact Keeps.toNext (.ite hw.put.readyChanged hw)

theorem execEntropyWaitTimeout_goes {request : ℕ} :
    Goes σ (execEntropyWaitTimeout request s) :=
  Keeps.toNext (.ite hs hs.failWaiting)

theorem execConsecFailClear_goes :
    Goes σ (execConsecFailClear s) := by
  unfold execConsecFailClear
  split
  · exact hs.put.securityChanged.toNext
  · exact hs.toNext

theorem Keeps.drawN {a : ℕ} :
    Keeps σ (s.drawN a).2 := by
  induction a generalizing s with
  | zero =>
    rw [State.drawN]
    exact hs
  | succ a ih =>
    rw [State.drawN]
    exact ih hs.draw

theorem Keeps.updSpdm {id : ℕ} {f : Spdm → Spdm} :
    Keeps σ (s.updSpdm id f) :=
  hs.put

theorem Keeps.endSpdm {id : ℕ} :
    Keeps σ (s.endSpdm id) :=
  hs.put

theorem Keeps.keyExchange {f : Fn} {hbeat : ℕ} :
    Keeps σ (s.keyExchange f hbeat) := by
  unfold State.keyExchange
  extract_lets t x u
  have ht : Keeps σ t := hs.drawN
  exact ht.put.emit

theorem execSpdmKeyExchange_goes {f : Fn} {hbeat : ℕ} :
    Goes σ (execSpdmKeyExchange f hbeat s) := by
  unfold execSpdmKeyExchange
  split
  · exact hs.toNext
  · extract_lets t u
    have ht : Keeps σ t := hs.wake
    split
    · exact ht.emit.toNext
    · split
      · exact ht.keyExchange.toNext
      · split
        · exact ht.entropyFailed.emit.toNext
        · exact ht.put.toNext

theorem execEntropyRestartDone_goes :
    Goes σ (execEntropyRestartDone s) := by
  unfold execEntropyRestartDone
  split
  · exact hs.toNext
  · extract_lets t u isOp l v
    have hu : Keeps σ u := hs.put.securityChanged
    refine Keeps.toNext ?_
    refine hu.put.foldl ?_
    intro w x hw
    split
    · exact hw
    · exact .ite hw.emit hw.keyExchange
    · exact hw.partnerAttested

theorem execSpdmSessionLimit_goes {session : ℕ} :
    Goes σ (execSpdmSessionLimit session s) :=
  Keeps.toNext (.ite hs.endSpdm hs)

theorem execSpdmHeartbeatTimeout_goes {session : ℕ} :
    Goes σ (execSpdmHeartbeatTimeout session s) :=
  Keeps.toNext (.ite hs.endSpdm hs)

theorem bodyAttestReport_keeps {o : Op} :
    Keeps σ (bodyAttestReport o s).state := by
  unfold bodyAttestReport
  split
  · exact hs
  · exact hs.writeThen (fun _ h => h)

theorem execAttestReport_goes {c : Cmd} :
    Goes σ (execAttestReport c s) :=
  (hs.submit (fun _ _ h => bodyAttestReport_keeps h)).toNext

theorem Keeps.inSpdm {f : Fn} {id : ℕ} {k : Spdm → State → State} (hk : ∀ a t, Keeps σ t → Keeps σ (k a t)) :
    Keeps σ (s.inSpdm f id k) := by
  unfold State.inSpdm
  split
  · exact (hk _ _ hs.updSpdm).emit
  · exact hs.emit

theorem execSpdmRequest_goes {f : Fn} {request : SpdmReq} :
    Goes σ (execSpdmRequest f request s) := by
  unfold execSpdmRequest
  split
  · exact hs.toNext
  · extract_lets t answer
    have ht : Keeps σ t := hs.wake
    split
    · exact ht.emit.toNext
    · exact ht.emit.toNext
    · exact ht.emit.toNext
    · exact ht.emit.toNext
    · exact ht.emit.toNext
    · exact ht.emit.toNext
    · split
      · exact ht.emit.toNext
      · exact ht.emit.toNext
    · split
      · extract_lets u
        have hu : Keeps σ u := ht.updSpdm.bump
        exact hu.emit.toNext
      · exact ht.emit.toNext
    · exact (ht.inSpdm (fun _ _ h => h.updSpdm)).toNext
    · exact (ht.inSpdm (fun _ _ h => h.updSpdm)).toNext
    · exact (ht.inSpdm (fun _ _ h => h.endSpdm)).toNext

theorem claimFails_keeps {st : Status} :
    Keeps σ (claimFails st s).state :=
  hs.dropClaim

theorem Keeps.claimSettings :
    Keeps σ (s.claimSettings) :=
  hs.put

theorem Keeps.attestAll :
    Keeps σ (s.attestAll) :=
  hs.foldl (fun _ _ h => h.emit)

theorem claimRest_keeps {o : Op} :
    Keeps σ (claimRest o s).state := by
  unfold claimRest
  split
  · exact hs
  · split
    · have ht : Keeps σ ((s.dropClaim.log (.plain .fatal 0x0F05 0x6000 none)).finish o.tag .denied 0) := hs.dropClaim.log.finish
      generalize (s.dropClaim.log (.plain .fatal 0x0F05 0x6000 none)).finish o.tag .denied 0 = t at ht
      exact (ht.warmReset : Keeps σ (t.warmReset 6))
    · split
      · exact claimFails_keeps hs.entropyFailed
      · refine hs.withEntropy fun s hs => ?_
        extract_lets root id r _ t v _ _ u
        have hid : Keeps σ id.2 := Keeps.drawN (Keeps.drawN hs)
        have ht : Keeps σ t := hid.put

        split
        · exact ht
        · have hu : Keeps σ u := ht.claimSettings.put
          exact Keeps.attestAll (Keeps.bump hu.securityChanged)

theorem bodyTenantClaim_keeps {o : Op} :
    Keeps σ (bodyTenantClaim o s).state := by
  unfold bodyTenantClaim
  split
  · exact claimRest_keeps hs
  · split
    · exact hs
    · split
      · exact hs
      · extract_lets t u was v w
        have hu : Keeps σ u := hs.put.securityChanged
        have hv : Keeps σ v := hu.senseFuses
        have hw : Keeps σ w := .ite hv hv.readyChanged
        split
        · exact claimFails_keeps hu.entropyFailed
        · split
          · exact claimFails_keeps hw
          · exact claimRest_keeps hw

theorem execTenantClaim_goes {c : Cmd} :
    Goes σ (execTenantClaim c s) :=
  (hs.submit (fun _ _ h => bodyTenantClaim_keeps h)).toNext

theorem execClaimResume_goes :
    Goes σ (execClaimResume s) := by
  unfold execClaimResume
  split
  · exact (hs.start (fun _ _ h => bodyTenantClaim_keeps h)).toNext
  · exact hs.toNext

theorem bodyTenantActivate_keeps {o : Op} :
    Keeps σ (bodyTenantActivate o s).state := by
  unfold bodyTenantActivate
  split
  · exact hs
  · exact hs.put.securityChanged

theorem execTenantActivate_goes {c : Cmd} :
    Goes σ (execTenantActivate c s) :=
  (hs.submit (fun _ _ h => bodyTenantActivate_keeps h)).toNext

theorem Keeps.loseLeases :
    Keeps σ (s.loseLeases) :=
  hs.foldl (fun _ _ h => h.loseLease)

theorem Keeps.releaseStops {tag : Option ℕ} :
    Keeps σ (s.releaseStops tag) := by
  unfold State.releaseStops
  extract_lets l t u v
  have ht : Keeps σ t := hs.discardCommit
  have hu : Keeps σ u := ht.foldl (fun _ _ h => h.stopAny)
  have hv : Keeps σ v := hu.foldl (fun _ _ h => h.closeConn)
  exact hv.loseLeases

theorem Keeps.releaseHeld :
    Keeps σ (s.releaseHeld) := by
  unfold State.releaseHeld
  extract_lets l t
  refine hs.put.foldl ?_
  intro u x hu
  split
  · exact hu.answerPoison
  · exact hu.answerPoison
  · exact hu
  · exact hu
  · exact hu

theorem Keeps.beginRelease {tag : Option ℕ} :
    Keeps σ (s.beginRelease tag) := by
  unfold State.beginRelease
  extract_lets t u v w x₁
  have hu : Keeps σ u := hs.put.securityChanged
  have hv : Keeps σ v := hu.trayAlert.bump
  have hw : Keeps σ w := hv.beatPartners
  have hx₁ : Keeps σ x₁ := hw.releaseStops.releaseHeld
  exact hx₁.foldl (fun _ _ h => h.startRecall)

theorem bodyTenantRelease_keeps {o : Op} :
    Keeps σ (bodyTenantRelease o s).state := by
  have hbegin : Keeps σ (s.beginRelease (some o.tag)) := hs.beginRelease
  unfold bodyTenantRelease
  generalize s.beginRelease (some o.tag) = t at hbegin
  split
  · exact hs
  · split
    · exact hs
    · exact hbegin

theorem execTenantRelease_goes {c : Cmd} :
    Goes σ (execTenantRelease c s) :=
  (hs.submit (fun _ _ h => bodyTenantRelease_keeps h)).toNext

theorem execReleaseWalkEnd_goes :
    Goes σ (execReleaseWalkEnd s) := by
  unfold execReleaseWalkEnd
  extract_lets op _ t
  have ht : Keeps σ t := hs.put
  clear_value t op
  split
  · cases op with
    | none => exact (Keeps.ite ht.emit ht).toNext
    | some tag => exact ht.finish.toNext
  · exact hs.toNext

theorem execReleaseResetTimer_goes :
    Goes σ (execReleaseResetTimer s) := by
  unfold execReleaseResetTimer
  split
  · exact Keeps.toNext (.ite hs.warmReset hs)
  · exact hs.toNext

theorem bodyTenantStatus_keeps {o : Op} :
    Keeps σ (bodyTenantStatus o s).state :=
  hs.writeThen (fun _ h => h)

theorem execTenantStatus_goes {c : Cmd} :
    Goes σ (execTenantStatus c s) :=
  (hs.submit (fun _ _ h => bodyTenantStatus_keeps h)).toNext

theorem Keeps.addBinding {key iv : ℕ} :
    Keeps σ (s.addBinding key iv).state := by
  unfold State.addBinding
  split
  · exact hs
  · extract_lets gen t
    exact hs.put

theorem bindBlob_keeps {b : List Byte} :
    Keeps σ (bindBlob b s).state := by
  unfold bindBlob
  split
  · exact hs
  · extract_lets h tenant
    split
    · exact hs
    · split
      · exact hs
      · exact hs.addBinding

theorem bodyWeightBind_keeps {o : Op} :
    Keeps σ (bodyWeightBind o s).state := by
  unfold bodyWeightBind
  split
  · exact hs
  · split
    · extract_lets len
      split
      · exact hs
      · refine hs.withRead ?_
        intro a
        split
        · exact bindBlob_keeps hs
        · exact hs
    · split
      · exact hs
      · split
        · exact hs
        · exact hs.put
    · exact hs

theorem execWeightBind_goes {c : Cmd} :
    Goes σ (execWeightBind c s) :=
  (hs.submit (fun _ _ h => bodyWeightBind_keeps h)).toNext

theorem Keeps.setMac {port : ℕ} {m : List MacSec} :
    Keeps σ (s.setMac port m) :=
  hs.put.securityChanged

theorem bodyNetKey_keeps {o : Op} :
    Keeps σ (bodyNetKey o s).state := by
  unfold bodyNetKey
  extract_lets port session
  split
  · exact hs
  · split
    · exact hs
    · split
      · exact hs.setMac
      · split
        · exact hs
        · refine hs.withRead ?_
          intro a
          split
          · exact hs
          · split
            · exact hs
            · exact hs.setMac

theorem execNetKey_goes {c : Cmd} :
    Goes σ (execNetKey c s) :=
  (hs.submit (fun _ _ h => bodyNetKey_keeps h)).toNext

theorem execMkaSecured_goes {port : ℕ} :
    Goes σ (execMkaSecured port s) := by
  unfold execMkaSecured
  split
  · exact hs.put.securityChanged.toNext
  · exact hs.toNext

theorem Keeps.setIde {x : Ide} :
    Keeps σ (s.setIde x) :=
  hs.put

theorem Keeps.ideLeaves {x : Ide} :
    Keeps σ (s.ideLeaves x) :=
  .ite hs.setIde.bump.failTdis hs

theorem Keeps.ideReady {link : ℕ} :
    Keeps σ (s.ideReady link) := by
  unfold State.ideReady
  extract_lets t
  have ht : Keeps σ t := hs.foldl (fun _ _ h => h.flushHeld)
  exact ht.foldl (fun _ _ h => h.releaseVectors)

theorem Keeps.ideKm {link session : ℕ} {k : State → Option State} (hk : ∀ t, Keeps σ t → Holds σ (k t)) :
    Keeps σ (s.ideKm link session k) := by
  unfold State.ideKm
  split
  · exact hs.emit
  · extract_lets t
    have ht : Keeps σ t := hs.wake.updSpdm
    split
    · rename_i u v e
      have hv : Keeps σ v := (hk _ ht) e
      exact hv.emit
    · rename_i u _
      exact ht.emit

theorem execIdeKmQuery_goes {link session : ℕ} :
    Goes σ (execIdeKmQuery link session s) := by
  unfold execIdeKmQuery
  split
  · exact hs.emit.toNext
  · extract_lets t
    have ht : Keeps σ t := hs.wake.updSpdm
    exact ht.emit.toNext

theorem execIdeKmKeyProg_goes {link session : ℕ} {stream : IdeStream} {keySet : ℕ} :
    Goes σ (execIdeKmKeyProg link session stream keySet s) := by
  unfold execIdeKmKeyProg
  refine Keeps.toNext ?_
  refine hs.ideKm ?_
  intro t ht
  split
  · exact .none
  · extract_lets x u
    exact ht.setIde.toSome

theorem execIdeKmKSetGo_goes {link session : ℕ} {stream : IdeStream} {keySet : ℕ} :
    Goes σ (execIdeKmKSetGo link session stream keySet s) := by
  unfold execIdeKmKSetGo
  refine Keeps.toNext ?_
  refine hs.ideKm ?_
  intro t ht
  split
  · exact .none
  · split
    · split
      · exact .none
      · exact ht.setIde.ideReady.toSome
    · split
      · split
        · exact .none
        · exact ht.setIde.ideReady.toSome
      · split
        · exact .none
        · exact ht.setIde.ideReady.toSome

theorem execIdeKmKSetStop_goes {link session : ℕ} {stream : IdeStream} {keySet : ℕ} :
    Goes σ (execIdeKmKSetStop link session stream keySet s) := by
  unfold execIdeKmKSetStop
  refine Keeps.toNext ?_
  refine hs.ideKm ?_
  intro t ht
  split
  · exact .none
  · split
    · exact .none
    · extract_lets y
      exact Keeps.toSome (.ite ht.setIde.ideLeaves ht.setIde)

theorem execIdeKeyLimit_goes {link : ℕ} {stream : IdeStream} :
    Goes σ (execIdeKeyLimit link stream s) := by
  unfold execIdeKeyLimit
  split
  · exact hs.ideLeaves.toNext
  · exact hs.toNext

theorem Keeps.setTdi {f : Fn} {t : TdiState} :
    Keeps σ (s.setTdi f t) := by
  unfold State.setTdi
  extract_lets rest u
  exact hs.put.emit

theorem execLockInterfaceRequest_goes {f : Fn} :
    Goes σ (execLockInterfaceRequest f s) := by
  unfold execLockInterfaceRequest
  split
  · exact hs.setTdi.toNext
  · exact hs.emit.toNext

theorem execStartInterfaceRequest_goes {f : Fn} :
    Goes σ (execStartInterfaceRequest f s) := by
  unfold execStartInterfaceRequest
  split
  · exact hs.setTdi.toNext
  · exact hs.emit.toNext

theorem Keeps.killPairs {f : Fn} :
    Keeps σ (s.killPairs f) :=
  hs.foldl (fun _ _ h => h.killPair)

theorem execStopInterfaceRequest_goes {f : Fn} :
    Goes σ (execStopInterfaceRequest f s) := by
  unfold execStopInterfaceRequest
  extract_lets t u
  have ht : Keeps σ t := hs.killPairs
  have hu : Keeps σ u := by
    unfold u
    split
    · exact (ht.foldl (fun _ _ h => h.recallHost)).settlePool
    · exact ht
  exact hu.discardBank.setTdi.toNext

theorem execFunctionLevelReset_goes {f : Fn} :
    Goes σ (execFunctionLevelReset f s) := by
  unfold execFunctionLevelReset
  extract_lets t u v w x₁
  have ht : Keeps σ t := hs.failTdis.killPairs
  exact ht.put.toNext

theorem execConfigurationSpaceWrite_goes {f : Fn} {bars command : ℕ} :
    Goes σ (execConfigurationSpaceWrite f bars command s) := by
  unfold execConfigurationSpaceWrite
  split
  · exact hs.toNext
  · exact hs.put.failTdis.toNext

theorem execJtagInstruction_goes {bypassOrIdcode : Bool} :
    Goes σ (execJtagInstruction bypassOrIdcode s) := by
  unfold execJtagInstruction
  split
  · exact hs.emit.toNext
  · split
    · exact hs.emit.toNext
    · split
      · exact hs.emit.toNext
      · refine Keeps.toNext ?_
        refine Keeps.warmReset ?_
        extract_lets t u
        have ht : Keeps σ t := hs.endSession
        exact ht.put

theorem Keeps.takeOut {x : Out} :
    Keeps σ (s.takeOut x) :=
  hs.put

theorem execFabricLinkAckTimeout_goes {link : ℕ} :
    Goes σ (execFabricLinkAckTimeout link s) := by
  unfold execFabricLinkAckTimeout
  split
  · exact hs.takeOut.fabricReroute.log.toNext
  · exact hs.toNext

theorem execFabricLaneDown_goes {link : ℕ} :
    Goes σ (execFabricLaneDown link s) := by
  unfold execFabricLaneDown
  split
  · exact hs.takeOut.log.toNext
  · exact hs.toNext

theorem Keeps.loseOpenViews {lost : ℕ → Bool} :
    Keeps σ (s.loseOpenViews lost) :=
  hs.put

theorem Keeps.loseTail {lost : ℕ → Bool} {c : Chain} {n : Namespace} :
    Keeps σ (s.loseTail lost c n) := by
  unfold State.loseTail
  extract_lets v
  split
  · exact hs
  · extract_lets k dest count t u w
    have ht : Keeps σ t := hs.updChain.gc
    have hu : Keeps σ u := by
      unfold u
      split
      · rename_i x₁ _
        exact ht
      · rename_i x₁ _ x₂ e
        have hx₂ : Keeps σ x₂ := ht.openBlock e
        extract_lets x₃
        have hx₃ : Keeps σ x₃ := hx₂.updChain
        exact hx₃.getD hx₃.rebindBoth
    have hw : Keeps σ w := hu.touchControl
    exact .ite hw hw.log

theorem Keeps.loseTails {ids : List ℕ} :
    Keeps σ (s.loseTails ids) := by
  unfold State.loseTails
  split
  · exact hs
  · extract_lets lost votes t
    have ht : Keeps σ t := hs.loseOpenViews.foldl (fun _ _ h => h.groupAbort)
    refine Keeps.gc ?_
    refine ht.foldl ?_
    intro u x hu
    split
    · exact hu.loseTail
    · exact hu

theorem Keeps.poisonPlace {region place : ℕ} :
    Keeps σ (s.poisonPlace region place) :=
  hs.foldl (fun _ _ h => h.poisonLines.foldl (fun _ _ h => h.emit))

theorem Keeps.loseTiles {lost : WeightObj → Tile → Bool} :
    Keeps σ (s.loseTiles lost) :=
  hs.put

theorem Keeps.loseStack {n : ℕ} :
    Keeps σ (s.loseStack n) := by
  unfold State.loseStack
  split
  · exact hs
  · extract_lets rebuilt home t u hit v w
    have hu : Keeps σ u := hs.put.readyChanged.log
    have hv : Keeps σ v := hu.loseTails
    have hw : Keeps σ w := hv.foldl (fun _ _ h => h.dropBlock)
    exact .ite hu hw.loseTiles.poisonPlace.noteShort

theorem execHbmStackTimeout_goes {stack : ℕ} :
    Goes σ (execHbmStackTimeout stack s) :=
  hs.loseStack.toNext

theorem execHbmDataLaneFault_goes {stack channel : ℕ} :
    Goes σ (execHbmDataLaneFault stack channel s) := by
  unfold execHbmDataLaneFault
  split
  · exact hs.toNext
  · split
    · exact hs.loseStack.toNext
    · exact hs.takeOut.log.toNext

theorem Keeps.loseChannel {channel : ℕ} :
    Keeps σ (s.loseChannel channel) := by
  unfold State.loseChannel
  split
  · exact hs
  · extract_lets hit gone lent t u v
    have hu : Keeps σ u := hs.put.readyChanged.log
    have hv : Keeps σ v := hu.foldl (fun _ _ h => h.dropBlock)
    exact (hv.loseTiles.poisonPlace.foldl (fun _ _ h => h.loseLease)).noteShort

theorem execDdrChannelTimeout_goes {channel : ℕ} :
    Goes σ (execDdrChannelTimeout channel s) :=
  hs.loseChannel.toNext

theorem Keeps.rowCorrected {stack key : ℕ} :
    Keeps σ (s.rowCorrected stack key) := by
  unfold State.rowCorrected
  extract_lets row mine old rest t
  exact .ite hs.put.log hs.put

theorem Keeps.channelBad {channel : ℕ} :
    Keeps σ (s.channelBad channel) := by
  unfold State.channelBad
  extract_lets l t u
  have hu : Keeps σ u := hs.put
  exact .ite hu.loseChannel hu

theorem Keeps.lineFound {tier home chan key : ℕ} {found : LineCheck} {copied : Bool} {addr : Option ℕ} {lose : State → State} (hlose : ∀ t,
    Keeps σ t → Keeps σ (lose t)) :
    Keeps σ (s.lineFound tier home chan key found copied addr lose) := by
  unfold State.lineFound
  extract_lets rebuilt t u
  have ht : Keeps σ t := hs.log
  have hu : Keeps σ u := .ite ht (hlose _ ht)
  exact .ite (.ite ht.rowCorrected ht) (.ite hu.channelBad hu)

theorem Keeps.poolLineEvent {a : ℕ} :
    Keeps σ (s.poolLineEvent a) := by
  unfold State.poolLineEvent
  split
  · exact hs.foldl (fun _ _ h => h.emit)
  · exact hs

theorem Keeps.sramFound {found : LineCheck} {locus : ℕ} {addr : Option ℕ} :
    Keeps σ (s.sramFound found locus addr) := by
  unfold State.sramFound
  split
  · exact hs
  · exact hs.log
  · exact hs.log

theorem Keeps.directoryFound {found : LineCheck} {g : ℕ} :
    Keeps σ (s.directoryFound found g) := by
  unfold State.directoryFound
  extract_lets t
  have ht : Keeps σ t := hs.sramFound
  exact .ite ht.updDir.startRecall ht

theorem Keeps.poolLineLost {a : ℕ} :
    Keeps σ (s.poolLineLost a) :=
  hs.poisonLines

theorem Keeps.scrubLine {line : ScrubLine} {found : LineCheck} :
    Keeps σ (s.scrubLine line found) := by
  cases line with
  | pool a => exact Keeps.lineFound (Keeps.poolLineEvent (.ite hs.startRecall hs)) fun _ h => h.poolLineLost
  | page id layer l =>
    unfold State.scrubLine
    dsimp only
    split
    · exact hs
    · exact .ite hs (hs.lineFound fun _ h => .ite h.updBlock.loseBlock h.updBlock)
  | tile w i =>
    unfold State.scrubLine
    dsimp only
    split
    · exact hs
    · exact .ite hs (hs.lineFound fun _ h => h.updTile)
  | record id =>
    unfold State.scrubLine
    dsimp only
    split
    · exact hs
    · exact hs.lineFound fun _ h => h.updBlock
  | tokens id =>
    unfold State.scrubLine
    dsimp only
    split
    · exact hs
    · exact hs.lineFound fun _ h => h.updBlock
  | summary id layer =>
    unfold State.scrubLine
    dsimp only
    split
    · exact hs
    · exact hs.lineFound fun _ h => h.updBlock
  | codebook slot pier => exact hs.lineFound fun _ h => h
  | sram x => exact hs
  | directory g => exact hs

theorem execPatrolScrub_goes {line : ScrubLine} {found : LineCheck} :
    Goes σ (execPatrolScrub line found s) := by
  unfold execPatrolScrub
  split
  · exact hs.sramFound.toNext
  · exact hs.directoryFound.toNext
  · exact Keeps.toNext (.ite hs hs.scrubLine)
  · exact Keeps.toNext (.ite hs hs.scrubLine)
  · exact Keeps.toNext (.ite hs hs.scrubLine)
  · exact Keeps.toNext (.ite hs hs.scrubLine)
  · exact Keeps.toNext (.ite hs hs.scrubLine)
  · exact Keeps.toNext (.ite hs hs.scrubLine)
  · exact Keeps.toNext (.ite hs hs.scrubLine)

theorem execBankPortTimeout_goes {bank : ℕ} :
    Goes σ (execBankPortTimeout bank s) :=
  Keeps.toNext (.ite hs.loseBank hs)

theorem execAttentionSliceWatchdog_goes {pier slice : ℕ} :
    Goes σ (execAttentionSliceWatchdog pier slice s) := by
  unfold execAttentionSliceWatchdog
  split
  · exact hs.put.toNext
  · exact hs.toNext

theorem execControlCoreWatchdog_goes {span core : ℕ} :
    Goes σ (execControlCoreWatchdog span core s) := by
  unfold execControlCoreWatchdog
  split
  · exact hs.takeOut.log.toNext
  · exact hs.toNext

theorem execFatalFault_goes {cause : FatalCause} :
    Goes σ (execFatalFault cause s) := by
  unfold execFatalFault
  split
  · exact hs.toNext
  · split
    · exact hs.put.fatal.toNext
    · exact hs.log.fatal.toNext
    · exact hs.fatal.toNext
    · extract_lets t u
      have hu : Keeps σ u := hs.put
      split
      · exact hu.dropClaim.log.finish.warmReset.toNext
      · exact hu.toNext

theorem execHaltComplete_goes :
    Goes σ (execHaltComplete s) := by
  unfold execHaltComplete
  split
  · exact hs.toNext
  · extract_lets stops t up u v w
    have ht : Keeps σ t := hs.foldl (fun _ _ h => h.stopAny)
    have hw : Keeps σ w := ht.put
    exact Keeps.toNext (.ite hw.linkChanged hw)

theorem Keeps.resume {f : Fn} :
    Keeps σ (s.resume f) := by
  unfold State.resume
  split
  · extract_lets back t u v w
    have hw : Keeps σ w := hs.put
    exact hw.readyChanged.regroup
  · exact hs

theorem execRasResume_goes {r : Req} {value : ℕ} :
    Goes σ (execRasResume r value s) :=
  Keeps.toNext (.ite hs.wake.resume hs)

theorem execRasClearLost_goes {r : Req} :
    Goes σ (execRasClearLost r s) := by
  unfold execRasClearLost
  refine Keeps.toNext ?_
  split
  · extract_lets t u
    have ht : Keeps σ t := hs.wake
    exact ht.put
  · exact hs

theorem execRasHeadWrite_goes {r : Req} {value : ℕ} :
    Goes σ (execRasHeadWrite r value s) := by
  unfold execRasHeadWrite
  extract_lets h t u v w x₁
  have ht : Keeps σ t := hs.wake
  have hw : Keeps σ w := ht.put
  split
  · exact Keeps.toNext (.ite hw hw.put.raiseSrc)
  · exact hs.toNext

theorem Keeps.sameRate {sel : ℕ → Bool} {raw : ℕ} :
    Keeps σ (s.sameRate sel raw) :=
  hs.put

theorem Keeps.cxlUp {k : ℕ} {flit68 : Bool} :
    Keeps σ (s.cxlUp k flit68) := by
  unfold State.cxlUp
  split
  · exact hs
  · extract_lets raw t here u v w x₁
    have ht : Keeps σ t := hs.portUp.sameRate
    have hw : Keeps σ w := ht.put
    have hx₁ : Keeps σ x₁ := .ite hw.log hw
    exact hx₁.linkChanged

theorem execLinkUp_goes {l : LinkId} {flit68 : Bool} :
    Goes σ (execLinkUp l flit68 s) := by
  unfold execLinkUp
  split
  · exact hs.cxlUp.toNext
  · extract_lets k raw t u
    have ht : Keeps σ t := hs.portUp.sameRate
    split
    · exact hs.toNext
    · exact ht.put.linkChanged.toNext

theorem Keeps.cxlDown {k : ℕ} :
    Keeps σ (s.cxlDown k) := by
  unfold State.cxlDown
  split
  · exact hs
  · extract_lets t u v w x₁ x₂ cut x₃
    have hu : Keeps σ u := hs.put
    have hv : Keeps σ v := hu.log.linkChanged
    have hw : Keeps σ w := hv.foldl (fun _ _ h => h.ideLeaves)
    have hx₁ : Keeps σ x₁ := hw.foldl (fun _ _ h => h.declareDead)
    have hx₂ : Keeps σ x₂ := hx₁.foldl (fun _ _ h => h.partnerDown)
    have hx₃ : Keeps σ x₃ := hx₂.foldl (fun _ _ h => h.loseLease)
    exact hx₃.dropParties

theorem execLinkDown_goes {l : LinkId} :
    Goes σ (execLinkDown l s) := by
  unfold execLinkDown
  split
  · exact hs.cxlDown.toNext
  · extract_lets k t u v w
    have hu : Keeps σ u := hs.put
    have hv : Keeps σ v := hu.log.linkChanged
    split
    · exact hs.toNext
    · exact hv.put.connPortsDown.toNext

theorem execPerstNAssert_goes {port : ℕ} :
    Goes σ (execPerstNAssert port s) := by
  unfold execPerstNAssert
  split
  · exact hs.toNext
  · extract_lets t u v
    have ht : Keeps σ t := hs.foldl (fun _ _ h => h.cxlDown)
    exact ht.put.toNext

theorem Keeps.setMonitor {m : Monitor} :
    Keeps σ (s.setMonitor m) :=
  hs.setMonitors

theorem execMonitorClear_goes {r : Req} {monitor : ℕ} :
    Goes σ (execMonitorClear r monitor s) :=
  Keeps.toNext (.ite hs.wake.setMonitor hs)

theorem Keeps.clearWrap {i : ℕ} :
    Keeps σ (s.clearWrap i) :=
  hs.put

theorem Keeps.dumpSent {qp port n : ℕ} :
    Keeps σ (s.dumpSent qp port n) :=
  hs.charge

theorem Keeps.snapTaken :
    Keeps σ (s.snapTaken) :=
  hs.bump.raiseSrc

theorem Keeps.dumpFails :
    Keeps σ (s.dumpFails) :=
  hs.put

theorem bodyCntDump_keeps {o : Op} :
    Keeps σ (bodyCntDump o s).state := by
  unfold bodyCntDump
  extract_lets act t k b slots first period
  split
  · split
    · exact hs
    · split
      · exact hs.put
      · exact hs
  · split
    · exact hs
    · split
      · split
        · rename_i u v e
          have hv : Keeps σ v := hs.hostWrite e
          exact hv.dumpSent.snapTaken
        · rename_i u _ _
          exact hs.answer
      · split
        · exact hs
        · split
          · exact hs
          · split
            · exact hs
            · split
              · exact hs
              · exact hs.put

theorem execCntDump_goes {c : Cmd} :
    Goes σ (execCntDump c s) :=
  (hs.submit (fun _ _ h => bodyCntDump_keeps h)).toNext

theorem execSnapshotInstant_goes :
    Goes σ (execSnapshotInstant s) := by
  unfold execSnapshotInstant
  split
  · exact hs.toNext
  · extract_lets t u b
    split
    · exact hs.toNext
    · split
      · exact hs.put.bump.toNext
      · split
        · exact hs.dumpFails.toNext
        · split
          · rename_i v w e
            have hw : Keeps σ w := hs.hostWrite e
            refine Keeps.toNext ?_
            extract_lets x₁ x₂
            have hx₁ : Keeps σ x₁ := hw.dumpSent
            exact hx₁.put
          · rename_i v _ _
            exact hs.put.toNext
          · rename_i v _ _ _
            exact hs.dumpFails.toNext

theorem execDumpSlotWritten_goes :
    Goes σ (execDumpSlotWritten s) := by
  unfold execDumpSlotWritten
  split
  · exact hs.toNext
  · split
    · exact hs.toNext
    · split
      · exact hs.dumpFails.toNext
      · split
        · rename_i t u e
          have hu : Keeps σ u := hs.hostWrite e
          refine Keeps.toNext ?_
          refine Keeps.snapTaken ?_
          extract_lets v w
          have hv : Keeps σ v := hu.dumpSent
          exact hv.put
        · rename_i t _ _
          exact hs.toNext
        · rename_i t _ _ _
          exact hs.dumpFails.toNext

theorem execIrqSharedAck_goes {r : Req} {value : ℕ} :
    Goes σ (execIrqSharedAck r value s) := by
  unfold execIrqSharedAck
  split
  · extract_lets t keep u v
    have ht : Keeps σ t := hs.wake
    have hv : Keeps σ v := ht.put
    exact (hv.foldl (fun _ _ h => h.raiseSrc)).toNext
  · exact hs.toNext

theorem execIrqModerationTimer_goes {f : Fn} {vector : ℕ} :
    Goes σ (execIrqModerationTimer f vector s) := by
  unfold execIrqModerationTimer
  extract_lets v
  exact Keeps.toNext (.ite hs.sendVector hs)

theorem Keeps.holdClear {f : Fn} :
    Keeps σ (s.holdClear f) :=
  .ite hs.put.releaseVectors hs

theorem execIrqHoldClear_goes {r : Req} :
    Goes σ (execIrqHoldClear r s) :=
  Keeps.toNext (.ite hs.wake.holdClear hs)

theorem execFixedRatePeriodBoundary_goes :
    Goes σ (execFixedRatePeriodBoundary s) := by
  unfold execFixedRatePeriodBoundary
  split
  · extract_lets was t u v
    have hu : Keeps σ u := hs.put
    have hv : Keeps σ v := hu.sampleLoad.settleDeferred.refreshRegs
    exact Keeps.toNext (.ite hv hv.raiseSrc)
  · exact hs.toNext

theorem Keeps.spend {mw : ℕ} :
    Keeps σ (s.spend mw) :=
  hs.put

theorem execPowerSample_goes {milliwatts : ℕ} :
    Goes σ (execPowerSample milliwatts s) := by
  unfold execPowerSample
  split
  · exact hs.toNext
  · extract_lets now up t u v w since
    have ht : Keeps σ t := hs.spend
    have hv : Keeps σ v := ht.put
    split
    · exact hv.put.setSteps.toNext
    · split
      · exact hv.put.toNext
      · split
        · exact hv.put.setSteps.toNext
        · exact hv.put.toNext

theorem execCoolantFlowReport_goes {millilitresPerMinute : ℕ} :
    Goes σ (execCoolantFlowReport millilitresPerMinute s) :=
  hs.put.toNext

theorem Keeps.holdDies {p : Phase} :
    Keeps σ (s.holdDies p) := by
  unfold State.holdDies
  extract_lets t u v w x₁ x₂
  have ht : Keeps σ t := hs.endSession
  have hu : Keeps σ u := ht.cleared
  exact hu.put

theorem Keeps.trip {locus : ℕ} :
    Keeps σ (s.trip locus) := by
  unfold State.trip
  extract_lets t u
  have ht : Keeps σ t := hs.holdDies
  exact ht.put.emit.emit

theorem execSupplyFault_goes {rail : ℕ} :
    Goes σ (execSupplyFault rail s) := by
  unfold execSupplyFault
  split
  · exact hs.toNext
  · exact hs.holdDies.log.toNext

theorem execThermalSample_goes {logicMax hbmMax locus : ℕ} :
    Goes σ (execThermalSample logicMax hbmMax locus s) := by
  unfold execThermalSample
  split
  · exact hs.toNext
  · extract_lets now was state cool t u v
    have hu : Keeps σ u := hs.put
    split
    · exact hu.trip.toNext
    · split
      · exact hu.toNext
      · split
        · split
          · exact hu.put.setSteps.toNext
          · exact hu.toNext
        · split
          · exact hu.put.setSteps.toNext
          · exact hu.toNext

theorem Keeps.mgmtDenied :
    Keeps σ (s.mgmtDenied) :=
  hs.emit

theorem Keeps.mgmtAct {ok : Bool} {k : State → State} (hk : ∀ t, Keeps σ t → Keeps σ (k t)) :
    Keeps σ (s.mgmtAct ok k) :=
  .ite ((hk _ hs.wake).emit) hs.mgmtDenied

theorem execMgmtHalt_goes :
    Goes σ (execMgmtHalt s) :=
  (hs.mgmtAct (fun _ h => h.halt)).toNext

theorem execMgmtRelease_goes :
    Goes σ (execMgmtRelease s) :=
  Keeps.toNext (.ite hs.wake.beginRelease hs.mgmtDenied)

theorem execMgmtWarmReset_goes :
    Goes σ (execMgmtWarmReset s) :=
  (hs.mgmtAct (fun _ h => h.warmReset)).toNext

theorem execMgmtEnterLinkWatch_goes {port : ℕ} :
    Goes σ (execMgmtEnterLinkWatch port s) := by
  unfold execMgmtEnterLinkWatch
  extract_lets state
  exact Keeps.toNext (.ite hs.mgmtDenied (.ite hs.watch.emit hs.emit))

theorem execMgmtRead_goes {what : MgmtRead} :
    Goes σ (execMgmtRead what s) := by
  unfold execMgmtRead
  extract_lets t answer
  have ht : Keeps σ t := .ite hs.wake hs
  refine Keeps.toNext ?_
  split
  · exact Keeps.emit (.ite hs.wake hs)
  · exact .ite (Keeps.emit (.ite hs.wake hs)) (Keeps.mgmtDenied (.ite hs.wake hs))
  · exact .ite (Keeps.emit (.ite hs.wake hs)) (Keeps.mgmtDenied (.ite hs.wake hs))
  · exact .ite (Keeps.emit (.ite hs.wake hs)) (Keeps.mgmtDenied (.ite hs.wake hs))
  · exact .ite (Keeps.emit (.ite hs.wake hs)) (Keeps.mgmtDenied (.ite hs.wake hs))
  · exact .ite (Keeps.emit (.ite hs.wake hs)) (Keeps.mgmtDenied (.ite hs.wake hs))

theorem execMgmtSetPowerCeiling_goes {watts : ℕ} {boost : Bool} :
    Goes σ (execMgmtSetPowerCeiling watts boost s) :=
  (hs.mgmtAct (fun _ h => h.put)).toNext

theorem execMgmtSetClaimPolicy_goes {roots : List ℕ} :
    Goes σ (execMgmtSetClaimPolicy roots s) :=
  (hs.mgmtAct (fun _ h => h.put)).toNext

theorem execMgmtSetFootingMode_goes {zoned : Bool} {writeShare : ℕ} :
    Goes σ (execMgmtSetFootingMode zoned writeShare s) :=
  (hs.mgmtAct (fun _ h => h.put)).toNext

theorem execMgmtFirmwareWrite_goes {slot : Slot} {image : Image} :
    Goes σ (execMgmtFirmwareWrite slot image s) := by
  unfold execMgmtFirmwareWrite
  split
  · cases slot with
    | a => exact (Keeps.emit (hs.wake.put (boot := s.wake.boot.writeSlot .a image))).toNext
    | b => exact (Keeps.emit (hs.wake.put (boot := s.wake.boot.writeSlot .b image))).toNext
  · exact hs.mgmtDenied.toNext

theorem execMgmtFirmwareActivate_goes {slot : Slot} :
    Goes σ (execMgmtFirmwareActivate slot s) :=
  (hs.mgmtAct (fun _ h => h.put.warmReset)).toNext

theorem execMgmtAdvanceRollback_next :
    ∃ t, execMgmtAdvanceRollback s = .next t ∧ t.pending = σ.pending ∧ t.mgmt.anchors = σ.mgmt.anchors ∧
      (σ.pool.mem.wf = true → t.pool.mem.wf = true) := by
  refine ⟨_, rfl, ?_⟩
  unfold State.mgmtAct
  split
  · obtain ⟨hpending, -, hanchors, hmem⟩ := hs.wake
    exact ⟨hpending, hanchors, hmem⟩
  · obtain ⟨hpending, -, hanchors, hmem⟩ := hs.mgmtDenied
    exact ⟨hpending, hanchors, hmem⟩

theorem execEnrol_next {anchor : ℕ} :
    ∃ t, execEnrol anchor s = .next t ∧ t.pending = σ.pending ∧ t.boot.fuses = σ.boot.fuses ∧
      (σ.pool.mem.wf = true → t.pool.mem.wf = true) := by
  refine ⟨_, rfl, ?_⟩
  split
  · obtain ⟨hpending, hfuses, -, hmem⟩ := hs.wake
    exact ⟨hpending, hfuses, hmem⟩
  · obtain ⟨hpending, hfuses, -, hmem⟩ := hs.mgmtDenied
    exact ⟨hpending, hfuses, hmem⟩

theorem execMgmtTrustAnchorChange_next {anchor : ℕ} {add : Bool} :
    ∃ t, execMgmtTrustAnchorChange anchor add s = .next t ∧ t.pending = σ.pending ∧ t.boot.fuses = σ.boot.fuses ∧
      (σ.pool.mem.wf = true → t.pool.mem.wf = true) := by
  refine ⟨_, rfl, ?_⟩
  unfold State.mgmtAct
  generalize (if add then _ else _ : Bool) = ok
  split
  · obtain ⟨hpending, hfuses, -, hmem⟩ := hs.wake
    exact ⟨hpending, hfuses, hmem⟩
  · obtain ⟨hpending, hfuses, -, hmem⟩ := hs.mgmtDenied
    exact ⟨hpending, hfuses, hmem⟩

theorem Keeps.assignTray {a : PartyKind} {b : Option ℕ} :
    Keeps σ (s.assignTray a b) := by
  unfold State.assignTray
  split
  · exact hs.put
  · exact hs
  · exact hs
  · exact hs
  · exact hs

theorem execDiscoveryUpdate_goes {kind : PartyKind} {link route : ℕ} {seen : Sighting} :
    Goes σ (execDiscoveryUpdate kind link route seen s) := by
  unfold execDiscoveryUpdate
  extract_lets here t f u v w x₁ gone x₂ x₃
  have ht : Keeps σ t := hs.assignTray
  have hv : Keeps σ v := ht.put
  have hx₁ : Keeps σ x₁ := ht.put
  have hx₃ : Keeps σ x₃ := .ite ht.put ht
  split
  · split
    · exact hs.assignTray.put.routeWaiting.seeParty.toNext
    · exact hs.assignTray.toNext
  · exact hs.assignTray.put.dropParties.toNext
  · exact (Keeps.dropParties (.ite hs.assignTray.put hs.assignTray)).toNext
  · exact hs.assignTray.dropParties.toNext
  · exact hs.assignTray.dropParties.toNext
  · exact hs.assignTray.seeParty.toNext
  · exact hs.assignTray.seeParty.toNext
  · exact hs.assignTray.seeParty.toNext

theorem execFmKeepaliveTimeout_goes {link : ℕ} :
    Goes σ (execFmKeepaliveTimeout link s) :=
  hs.dropParties.toNext

theorem execMgmtSetPtp_goes {profile domain : ℕ} {ppsOut : Bool} :
    Goes σ (execMgmtSetPtp profile domain ppsOut s) :=
  (hs.mgmtAct (fun _ h => h.put)).toNext

theorem execPtpMessageReceived_goes {role : PtpRole} {time offset : ℤ} :
    Goes σ (execPtpMessageReceived role time offset s) := by
  unfold execPtpMessageReceived
  split
  · exact hs.toNext
  · exact hs.put.toNext

theorem execPpsInEdge_goes :
    Goes σ (execPpsInEdge s) := by
  unfold execPpsInEdge
  split
  · exact hs.toNext
  · exact hs.put.toNext

theorem Keeps.microsecond :
    Keeps σ (s.microsecond) := by
  unfold State.microsecond
  extract_lets high since t u v w x₁ x₂ x₃
  have hu : Keeps σ u := hs.put
  have hv : Keeps σ v := .ite hu.refreshRegs hu
  have hw : Keeps σ w := hv.noteShort
  have hx₁ : Keeps σ x₁ := .ite (hw.footSync.foldl (fun _ _ h => h.nandStart)) hw
  have hx₂ : Keeps σ x₂ := hx₁.bump
  have hx₃ : Keeps σ x₃ := hx₂.foldl (fun _ _ h => h.bump)
  exact hx₃.foldl (fun _ _ h => h.bump)

theorem tick_keeps :
    Keeps σ (tick s) := by
  unfold tick
  split
  · exact hs
  · extract_lets t u v w x₁ x₂ x₃
    have hu : Keeps σ u := hs.put
    have hv : Keeps σ v := .ite hu hu.fabricStep
    have hw : Keeps σ w := .ite hv.adminSweep hv
    have hx₁ : Keeps σ x₁ := .ite hw hw.cascadeRun
    have hx₂ : Keeps σ x₂ := .ite hx₁.microsecond hx₁
    have hx₃ : Keeps σ x₃ := .ite hx₂.emit hx₂
    exact .ite hx₃.setMonitors hx₃

theorem Keeps.readClears {f : Fn} {off : ℕ} :
    Keeps σ (s.readClears f off) := by
  unfold State.readClears
  split
  · exact hs
  · split
    · exact hs.put
    · exact hs.put
    · exact hs.put
    · exact hs.put
    · exact hs.put
    · exact hs

omit hs in
theorem afterRow_keeps {o : Host.Outcome State Fault Refusal} (ho : Goes σ o) :
    Keeps σ (afterRow o s) := by
  obtain ⟨t, rfl, ht⟩ := ho
  exact ht

theorem Keeps.writeMonitor {n i v : ℕ} :
    Keeps σ (s.writeMonitor n i v) := by
  unfold State.writeMonitor
  extract_lets m t
  exact hs.setMonitor

theorem Keeps.writeGlobal {hold : Bool} :
    Keeps σ (s.writeGlobal hold) := by
  unfold State.writeGlobal
  extract_lets was t u
  have hu : Keeps σ u := hs.put
  exact .ite (hu.foldl (fun _ _ h => h.releaseVectors)) hu

theorem Keeps.writeRoute {src v : ℕ} :
    Keeps σ (s.writeRoute src v) := by
  unfold State.writeRoute
  extract_lets unsent t u w x₁ x₂
  have hu : Keeps σ u := hs.put
  have hw : Keeps σ w := hu.takeSrc
  have hx₂ : Keeps σ x₂ := .ite hw.put hu
  exact hx₂.routeWaiting

theorem Keeps.writeMsix {f : Fn} {n word v : ℕ} :
    Keeps σ (s.writeMsix f n word v) := by
  unfold State.writeMsix
  extract_lets x was t u
  have hu : Keeps σ u := hs.setVector
  exact .ite hu.releaseOne hu

theorem Keeps.writeHdm {f : Fn} {off v : ℕ} :
    Keeps σ (s.writeHdm f off v) := by
  unfold State.writeHdm
  extract_lets was t
  exact .ite hs hs.put.failTdis

theorem Keeps.writeRasCtrl {f : Fn} {v : ℕ} :
    Keeps σ (s.writeRasCtrl f v) := by
  unfold State.writeRasCtrl
  extract_lets t u
  have hu : Keeps σ u := .ite hs.put hs
  exact .ite hu.resume hu

theorem Keeps.writeLoader {f : Fn} {v : ℕ} :
    Keeps σ (s.writeLoader f v) := by
  unfold State.writeLoader
  extract_lets l
  split
  · exact hs
  · split
    · exact hs.setLoader
    · refine afterRow_keeps ?_
      split
      · exact execCodebookUnload_goes hs
      · exact execCodebookLoad_goes hs

theorem Keeps.write32 {f : Fn} {off v : ℕ} :
    Keeps σ (s.write32 f off v) := by
  unfold State.write32
  extract_lets a t u w x₁ x₂
  have ht : Keeps σ t := afterRow_keeps (execAdminQueueDisable_goes hs)
  exact .ite (afterRow_keeps (execDevResetWarm_goes hs)) (.ite (.ite hs hs.setAdmin) (.ite (.ite (afterRow_keeps (execAdminQueueEnable_goes
      hs)) ht.setAdmin) (.ite hs.cascadeWrite (.ite hs.writeLoader (.ite (.ite hs.setLoader hs) (.ite (afterRow_keeps
      (execRasHeadWrite_goes hs)) (.ite hs.writeRasCtrl (.ite (.ite hs.writeMonitor hs) (.ite (.ite hs.put hs.holdClear) (.ite (.ite
      hs.writeGlobal hs) (.ite (afterRow_keeps (execIrqSharedAck_goes hs)) (.ite (.ite hs.writeRoute hs) (.ite hs.setVector (.ite
      hs.writeMsix (.ite hs.writeHdm hs)))))))))))))))

theorem Keeps.write64 {f : Fn} {off v : ℕ} :
    Keeps σ (s.write64 f off v) := by
  unfold State.write64
  extract_lets a t u
  exact .ite (.ite hs.put hs) (.ite (.ite hs hs.setAdmin) (.ite (.ite hs hs.setAdmin) (.ite hs.setLoader (.ite (.ite hs.clearWrap hs) (.ite
      (.ite hs.writeMonitor hs) (.ite hs.writeMsix.writeMsix (.ite hs.writeHdm.writeHdm hs)))))))

theorem Keeps.writeBar0 {f : Fn} {tee : Bool} {off width v : ℕ} :
    Keeps σ (s.writeBar0 f tee off width v) :=
  .ite hs (.ite hs.wake.write32 (.ite hs.wake.write64 hs))

theorem Keeps.writeBar2 {f : Fn} {tee : Bool} {off width v : ℕ} :
    Keeps σ (s.writeBar2 f tee off width v) :=
  .ite hs (.ite (.ite hs (.ite (afterRow_keeps (execSqTailDoorbell_goes hs)) (.ite (afterRow_keeps (execCqHeadDoorbell_goes hs)) hs)))
      (.ite (.ite (afterRow_keeps (execTickDoorbell_goes hs)) hs) (.ite (.ite (afterRow_keeps (execHeartbeatRenew_goes hs)) hs) (.ite (.ite
      (afterRow_keeps (execNqHeadDoorbell_goes hs)) hs) hs))))

theorem Keeps.readAccess {f : Fn} {tee : Bool} {bar off width : ℕ} :
    Keeps σ (s.readAccess f tee bar off width) := by
  unfold State.readAccess
  split
  · exact hs.emit
  · split
    · exact hs.emit
    · split
      · extract_lets v
        exact Keeps.emit (.ite hs.wake.readClears hs.wake)
      · exact hs.wake.emit
      · exact hs.wake.emit

theorem execRegisterWrite_goes {r : Req} {reg : BarAddr} {width : ℕ} {value : Option ℕ} :
    Goes σ (execRegisterWrite r reg width value s) := by
  unfold execRegisterWrite
  split
  · exact hs.readAccess.toNext
  · refine Keeps.toNext ?_
    split
    · exact hs.writeBar0
    · exact hs.writeBar2
    · exact afterRow_keeps (execQueryWindowStore_goes hs)
    · exact hs

theorem bodyIdentify_keeps {o : Op} :
    Keeps σ (bodyIdentify o s).state := by
  unfold bodyIdentify
  split
  · exact hs
  · exact hs.writeThen (fun _ h => h)

theorem execIdentify_goes {c : Cmd} :
    Goes σ (execIdentify c s) :=
  (hs.submit (fun _ _ h => bodyIdentify_keeps h)).toNext

theorem bodyStageOpen_keeps {o : Op} :
    Keeps σ (bodyStageOpen o s).state := by
  unfold bodyStageOpen
  split
  · exact hs
  · extract_lets lease id x t
    split
    · exact hs
    · split
      · exact hs
      · exact hs.put

theorem bodyStageWrite_keeps {o : Op} :
    Keeps σ (bodyStageWrite o s).state := by
  unfold bodyStageWrite
  split
  · exact hs
  · split
    · exact hs
    · split
      · exact hs
      · extract_lets code first t
        refine hs.withRead ?_
        intro a
        extract_lets es keep
        split
        · exact hs.put
        · exact hs

theorem bodyStageRead_keeps {o : Op} :
    Keeps σ (bodyStageRead o s).state := by
  unfold bodyStageRead
  split
  · exact hs
  · split
    · exact hs
    · split
      · exact hs
      · extract_lets code staged
        exact hs.writeThen (fun _ h => h)

theorem bodyStageDiscard_keeps {o : Op} :
    Keeps σ (bodyStageDiscard o s).state := by
  unfold bodyStageDiscard
  split
  · exact hs
  · split
    · exact hs
    · exact hs.put

theorem bodyStageCheck_keeps {o : Op} :
    Keeps σ (bodyStageCheck o s).state := by
  unfold bodyStageCheck
  split
  · exact hs
  · split
    · exact hs
    · split
      · exact hs
      · exact hs

theorem bodyCommit_keeps {o : Op} :
    Keeps σ (bodyCommit o s).state := by
  unfold bodyCommit
  split
  · exact hs
  · split
    · exact hs
    · split
      · exact hs
      · split
        · exact hs
        · extract_lets at_ t
          split
          · exact hs
          · exact hs.put

theorem execStagingLeaseExpiry_goes :
    Goes σ (execStagingLeaseExpiry s) := by
  unfold execStagingLeaseExpiry
  split
  · exact Keeps.toNext (.ite hs.put hs)
  · exact hs.toNext

theorem Keeps.switchPartners {old new : List Item} :
    Keeps σ (s.switchPartners old new) := by
  unfold State.switchPartners
  extract_lets ps ignored left fresh slots t u v
  have hu : Keeps σ u := hs.put.bump.foldl (fun _ _ h => h.forgetMember)
  have hv : Keeps σ v := hu.foldl (fun _ _ h => h.tellHeld)
  exact hv.foldl (fun _ _ h => h.log)

theorem Keeps.switchTdis {old new : List Item} :
    Keeps σ (s.switchTdis old new) := by
  unfold State.switchTdis
  extract_lets hit
  exact hs.failTdis

theorem Keeps.switchHosts {old new : List Item} :
    Keeps σ (s.switchHosts old new) := by
  unfold State.switchHosts
  split
  · exact hs
  · extract_lets f dest t
    exact hs.put

theorem Keeps.install {c : Commit} :
    Keeps σ (s.install c) := by
  unfold State.install
  extract_lets old new epoch ports t u v w x₁ x₂
  have hv : Keeps σ v := hs.put
  have hw : Keeps σ w := hv.lowered.noteShort.bump
  have hx₁ : Keeps σ x₁ := hw.switchPartners.regroup.switchTdis.switchHosts.routeWaiting
  have hx₂ : Keeps σ x₂ := .ite hx₁ (.ite hx₁.securityChanged.fixedOn hx₁.securityChanged.fixedOff)
  exact hx₂.updOp

theorem execCommitDrainEnd_goes :
    Goes σ (execCommitDrainEnd s) := by
  unfold execCommitDrainEnd
  split
  · split
    · extract_lets t u
      have hu : Keeps σ u := hs.put
      exact hu.setOp.finalise.toNext
    · exact hs.toNext
  · exact hs.toNext

theorem execStageOpen_goes {c : Cmd} :
    Goes σ (execStageOpen c s) :=
  (hs.submit (fun _ _ h => bodyStageOpen_keeps h)).toNext

theorem execStageWrite_goes {c : Cmd} :
    Goes σ (execStageWrite c s) :=
  (hs.submit (fun _ _ h => bodyStageWrite_keeps h)).toNext

theorem execStageRead_goes {c : Cmd} :
    Goes σ (execStageRead c s) :=
  (hs.submit (fun _ _ h => bodyStageRead_keeps h)).toNext

theorem execStageCheck_goes {c : Cmd} :
    Goes σ (execStageCheck c s) :=
  (hs.submit (fun _ _ h => bodyStageCheck_keeps h)).toNext

theorem execCommit_goes {c : Cmd} :
    Goes σ (execCommit c s) :=
  (hs.submit (fun _ _ h => bodyCommit_keeps h)).toNext

theorem execStageDiscard_goes {c : Cmd} :
    Goes σ (execStageDiscard c s) :=
  (hs.submit (fun _ _ h => bodyStageDiscard_keeps h)).toNext

theorem Keeps.revokeOne {tag : ℕ} :
    Keeps σ (s.revokeOne tag) := by
  unfold State.revokeOne
  split
  · exact .ite hs.stopAny hs
  · exact hs

theorem Keeps.switch {c : Commit} :
    Keeps σ (s.switch c) := by
  unfold State.switch
  extract_lets t
  have ht : Keeps σ t := hs.install
  exact ht.foldl (fun _ _ h => h.revokeOne)

theorem execCommitSwitch_goes :
    Goes σ (execCommitSwitch s) := by
  unfold execCommitSwitch
  split
  · exact Keeps.toNext (.ite hs.switch hs)
  · exact hs.toNext

omit hs in
theorem opBody_keeps {σ : State} {opcode : ℕ} {body : Op → State → BodyOut} (h : opBody opcode = some body) :
    ∀ o t, Keeps σ t → Keeps σ (body o t).state := by
  intro o t ht
  unfold opBody at h
  split at h <;> cases h
  exacts [bodyIdentify_keeps ht, bodyCreateQueuePair_keeps ht, bodyDeleteQueuePair_keeps ht, bodyAbort_keeps ht, bodyHalt_keeps ht,
      bodyEnterLinkWatch_keeps ht, bodyStageOpen_keeps ht, bodyStageWrite_keeps ht, bodyStageRead_keeps ht, bodyStageCheck_keeps ht,
      bodyCommit_keeps ht, bodyStageDiscard_keeps ht, bodyCreateNamespace_keeps ht, bodyDeleteNamespace_keeps ht, bodyQueryNamespace_keeps
      ht, bodySetNamespace_keeps ht, bodyProbe_keeps ht, bodyLookup_keeps ht, bodyIndexTag_keeps ht, bodyIndexEvict_keeps ht,
      bodyFrRegion_keeps ht, bodyFrWrite_keeps ht, bodyFrSearch_keeps ht, bodyIndexBanks_keeps ht, bodyOpenChain_keeps ht,
      bodyInsertBlock_keeps ht, bodyAppendCommit_keeps ht, bodySeal_keeps ht, bodyFork_keeps ht, bodyOpenSnapshot_keeps ht,
      bodyTruncate_keeps ht, bodyPin_keeps ht, bodyRelease_keeps ht, bodyMapTail_keeps ht, bodyChainQuery_keeps ht, bodyFetch_keeps ht,
      bodyDeliver_keeps ht, bodySpill_keeps ht, bodyPromote_keeps ht, bodyDrop_keeps ht, bodyPlaceHint_keeps ht, bodyPlaceReport_keeps ht,
      bodyLease_keeps ht, bodyWeightObject_keeps ht, bodyWeightWrite_keeps ht, bodyPrefetchPlan_keeps ht, bodyLayerTick_keeps ht,
      bodyCancelPlan_keeps ht, bodyPlanQuery_keeps ht, bodyAttend_keeps ht, bodyAttendSparse_keeps ht, bodyAttDesc_keeps ht,
      bodyAttWindows_keeps ht, bodyNear_keeps ht, bodyNear_keeps ht, bodyNear_keeps ht, bodyNear_keeps ht, bodyPoolSnapshot_keeps ht,
      bodyPoolLease_keeps ht, bodyConnect_keeps ht, bodyRegion_keeps ht, bodyRma_keeps ht, bodyRma_keeps ht, bodyNotify_keeps ht,
      bodyWait_keeps ht, bodyTenantClaim_keeps ht, bodyTenantActivate_keeps ht, bodyTenantRelease_keeps ht, bodyTenantStatus_keeps ht,
      bodyAttestReport_keeps ht, bodyWeightBind_keeps ht, bodyNetKey_keeps ht, bodyCntDump_keeps ht]

omit hs in
theorem opUnit_keeps {σ : State} {opcode : ℕ} {unit : Op → State → UnitOut} (h : opUnit opcode = some unit) :
    ∀ o t, Keeps σ t → Keeps σ (unit o t).state := by
  intro o t ht
  unfold opUnit at h
  split at h <;> cases h
  exacts [unitDeleteQueuePair_keeps ht, unitDeleteNamespace_keeps ht, unitProbe_keeps ht, unitIndexEvict_keeps ht, unitFrRegion_keeps ht,
      unitFork_keeps ht, unitFetch_keeps ht, unitDeliver_keeps ht, unitSpill_keeps ht, unitPromote_keeps ht, unitDrop_keeps ht,
      unitWeightDelete_keeps ht, unitWeightWrite_keeps ht, unitAttendSparse_keeps ht, unitNear_keeps ht, unitNear_keeps ht, unitNear_keeps
      ht, unitNear_keeps ht, unitPoolSnapshot_keeps ht]

theorem execOperationStart_goes {tag : ℕ} :
    Goes σ (execOperationStart tag s) ∨ ∃ o, s.op tag = some o ∧ opBody o.opcode = none ∧ s.startable o = true ∧
      execOperationStart tag s = .refused (.vendorDiagnostics o.opcode) := by
  unfold execOperationStart
  cases ho : s.op tag with
  | none => exact .inl hs.toNext
  | some o =>
    dsimp only
    split
    · exact .inl hs.revokeOne.toNext
    · split
      · exact .inl hs.toNext
      · split
        · rename_i b e
          have hstart : Keeps σ (s.start b tag) := hs.start (opBody_keeps e)
          exact .inl (Keeps.ite hstart.cascadeRun hstart).toNext
        · rename_i e
          split
          · rename_i hstart
            exact .inr ⟨o, rfl, e, hstart, rfl⟩
          · exact .inl hs.toNext

theorem execLongOpUnitEnd_goes {tag : ℕ} :
    Goes σ (execLongOpUnitEnd tag s) := by
  unfold execLongOpUnitEnd
  split
  · exact hs.toNext
  · split
    · rename_i u e
      exact (Keeps.ite hs.revokeOne (hs.unit (opUnit_keeps e))).toNext
    · exact hs.toNext

end

/-- Commands with an exception of their own: the start of an operation, which may be refused, and the management actions that name
the fuses or the anchors. -/
def exceptional : Instr → Bool
  | .operationStart _ | .mgmtAdvanceRollback | .enrol _ | .mgmtTrustAnchorChange .. => true
  | _ => false

/-- Every other command goes on to a next state and keeps what no step takes away. -/
theorem exec_goes {i : Instr} (hi : exceptional i = false) {σ s : State} (hs : Keeps σ s) : Goes σ (exec i s) := by
  cases i with
  | coldStart _ => exact execColdStart_goes hs
  | porNAssert => exact execPorNAssert_goes hs
  | perstNDeassert _ => exact execPerstNDeassert_goes hs
  | firmwareVerified => exact execFirmwareVerified_goes hs
  | fabricLinksTrained => exact execFabricLinksTrained_goes hs
  | readyLink => exact execReadyLink_goes hs
  | ddr5CalibrationComplete _ => exact execDdr5CalibrationComplete_goes hs
  | hbmTrainingComplete _ => exact execHbmTrainingComplete_goes hs
  | readyDeck => exact execReadyDeck_goes hs
  | nandCalibrationComplete _ => exact execNandCalibrationComplete_goes hs
  | causewayScanComplete _ => exact execCausewayScanComplete_goes hs
  | footingMountComplete => exact execFootingMountComplete_goes hs
  | haltNAssert => exact execHaltNAssert_goes hs
  | haltNDeassert => exact execHaltNDeassert_goes hs
  | entropyHealthFail _ => exact execEntropyHealthFail_goes hs
  | entropyRestartDone => exact execEntropyRestartDone_goes hs
  | entropyWaitTimeout _ => exact execEntropyWaitTimeout_goes hs
  | enterLinkWatch _ => exact execEnterLinkWatch_goes hs
  | linkWatchWake _ => exact execLinkWatchWake_goes hs
  | devWakeAtReached => exact execDevWakeAtReached_goes hs
  | linkWatchServiceRestored => exact execLinkWatchServiceRestored_goes hs
  | ethernetLinksTrained _ => exact execEthernetLinksTrained_goes hs
  | warmReset => exact execWarmReset_goes hs
  | devResetWarm _ _ => exact execDevResetWarm_goes hs
  | registerWrite _ _ _ _ => exact execRegisterWrite_goes hs
  | adminQueueEnable _ _ => exact execAdminQueueEnable_goes hs
  | adminQueueDisable _ => exact execAdminQueueDisable_goes hs
  | sqTailDoorbell _ _ _ => exact execSqTailDoorbell_goes hs
  | cqHeadDoorbell _ _ _ => exact execCqHeadDoorbell_goes hs
  | commandFetch _ => exact execCommandFetch_goes hs
  | operationStart _ => nomatch hi
  | bufferGrant _ => exact execBufferGrant_goes hs
  | longOpUnitEnd _ => exact execLongOpUnitEnd_goes hs
  | longOpFinal _ => exact execLongOpFinal_goes hs
  | identify _ => exact execIdentify_goes hs
  | createQueuePair _ => exact execCreateQueuePair_goes hs
  | deleteQueuePair _ => exact execDeleteQueuePair_goes hs
  | abort _ => exact execAbort_goes hs
  | halt _ => exact execHalt_goes hs
  | stageOpen _ => exact execStageOpen_goes hs
  | stageWrite _ => exact execStageWrite_goes hs
  | stageRead _ => exact execStageRead_goes hs
  | stageCheck _ => exact execStageCheck_goes hs
  | commit _ => exact execCommit_goes hs
  | stageDiscard _ => exact execStageDiscard_goes hs
  | stagingLeaseExpiry => exact execStagingLeaseExpiry_goes hs
  | commitSwitch => exact execCommitSwitch_goes hs
  | commitDrainEnd => exact execCommitDrainEnd_goes hs
  | createNamespace _ => exact execCreateNamespace_goes hs
  | deleteNamespace _ => exact execDeleteNamespace_goes hs
  | queryNamespace _ => exact execQueryNamespace_goes hs
  | setNamespace _ => exact execSetNamespace_goes hs
  | tailWindowStore _ _ _ => exact execTailWindowStore_goes hs
  | controlPageNStore _ _ _ => exact execControlPageNStore_goes hs
  | tailRebindEnd _ _ => exact execTailRebindEnd_goes hs
  | probe _ => exact execProbe_goes hs
  | openChain _ => exact execOpenChain_goes hs
  | insertBlock _ => exact execInsertBlock_goes hs
  | appendCommit _ => exact execAppendCommit_goes hs
  | fork _ => exact execFork_goes hs
  | openSnapshot _ => exact execOpenSnapshot_goes hs
  | truncate _ => exact execTruncate_goes hs
  | pin _ => exact execPin_goes hs
  | release _ => exact execRelease_goes hs
  | mapTail _ => exact execMapTail_goes hs
  | chainQuery _ => exact execChainQuery_goes hs
  | snapshotExpiry _ => exact execSnapshotExpiry_goes hs
  | pinExpiry _ => exact execPinExpiry_goes hs
  | codebookLoad _ _ => exact execCodebookLoad_goes hs
  | codebookUnload _ _ => exact execCodebookUnload_goes hs
  | codebookLoadEnd => exact execCodebookLoadEnd_goes hs
  | lookup _ => exact execLookup_goes hs
  | indexTag _ => exact execIndexTag_goes hs
  | indexEvict _ => exact execIndexEvict_goes hs
  | frRegion _ => exact execFrRegion_goes hs
  | frWrite _ => exact execFrWrite_goes hs
  | frSearch _ => exact execFrSearch_goes hs
  | indexBanks _ => exact execIndexBanks_goes hs
  | forcedWrite _ => exact execForcedWrite_goes hs
  | cascadeFrameReceived _ _ _ => exact execCascadeFrameReceived_goes hs
  | cascadeTimeout => exact execCascadeTimeout_goes hs
  | cascadeResync _ _ => exact execCascadeResync_goes hs
  | trestleTempSample _ _ => exact execTrestleTempSample_goes hs
  | indexParityScan _ _ => exact execIndexParityScan_goes hs
  | blockRecordFree _ => exact execBlockRecordFree_goes hs
  | placementDemoteWatermark _ => exact execPlacementDemoteWatermark_goes hs
  | placementDemoteHorizon _ => exact execPlacementDemoteHorizon_goes hs
  | placementEvict _ => exact execPlacementEvict_goes hs
  | placementPromote _ _ => exact execPlacementPromote_goes hs
  | moveUnit _ => exact execMoveUnit_goes hs
  | oldCopyRelease _ => exact execOldCopyRelease_goes hs
  | histogramHalve => exact execHistogramHalve_goes hs
  | fetch _ => exact execFetch_goes hs
  | deliver _ => exact execDeliver_goes hs
  | spill _ => exact execSpill_goes hs
  | promote _ => exact execPromote_goes hs
  | drop _ => exact execDrop_goes hs
  | placeHint _ => exact execPlaceHint_goes hs
  | hintExpiry _ => exact execHintExpiry_goes hs
  | placeReport _ => exact execPlaceReport_goes hs
  | lease _ => exact execLease_goes hs
  | leaseAutoRequest _ => exact execLeaseAutoRequest_goes hs
  | leaseRequestReceived _ _ _ _ _ _ => exact execLeaseRequestReceived_goes hs
  | leaseAnswerReceived _ _ => exact execLeaseAnswerReceived_goes hs
  | leaseRequestTimeout _ => exact execLeaseRequestTimeout_goes hs
  | leaseReclaimReceived _ => exact execLeaseReclaimReceived_goes hs
  | leaseTermEnd _ => exact execLeaseTermEnd_goes hs
  | leaseNoticeExpiry _ => exact execLeaseNoticeExpiry_goes hs
  | leaseHeartbeatTimeout _ => exact execLeaseHeartbeatTimeout_goes hs
  | leaseEmpty _ => exact execLeaseEmpty_goes hs
  | leaseLostBookkeeping _ => exact execLeaseLostBookkeeping_goes hs
  | weightObject _ => exact execWeightObject_goes hs
  | weightWrite _ => exact execWeightWrite_goes hs
  | ftlBackgroundOp _ _ => exact execFtlBackgroundOp_goes hs
  | nandOpComplete _ _ => exact execNandOpComplete_goes hs
  | relocationAgeTrigger _ => exact execRelocationAgeTrigger_goes hs
  | metadataJournalCompact => exact execMetadataJournalCompact_goes hs
  | sanitise => exact execSanitise_goes hs
  | sanitiseEnd => exact execSanitiseEnd_goes hs
  | prefetchPlan _ => exact execPrefetchPlan_goes hs
  | layerTick _ => exact execLayerTick_goes hs
  | tickDoorbell _ _ _ _ => exact execTickDoorbell_goes hs
  | sequenceLanded _ => exact execSequenceLanded_goes hs
  | deadlineMiss _ _ => exact execDeadlineMiss_goes hs
  | planStallTimeout _ => exact execPlanStallTimeout_goes hs
  | planIdleLimit _ => exact execPlanIdleLimit_goes hs
  | cancelPlan _ => exact execCancelPlan_goes hs
  | planQuery _ => exact execPlanQuery_goes hs
  | schedUnitStart _ => exact execSchedUnitStart_goes hs
  | gateTakeover _ => exact execGateTakeover_goes hs
  | gateEntryChange _ => exact execGateEntryChange_goes hs
  | tollRecolour _ _ => exact execTollRecolour_goes hs
  | attend _ => exact execAttend_goes hs
  | attendResume _ => exact execAttendResume_goes hs
  | attendPartialMerge _ => exact execAttendPartialMerge_goes hs
  | attendSparse _ => exact execAttendSparse_goes hs
  | attDesc _ => exact execAttDesc_goes hs
  | attWindows _ => exact execAttWindows_goes hs
  | queryWindowStore _ _ _ => exact execQueryWindowStore_goes hs
  | dcAdd _ _ _ _ _ _ _ => exact execDcAdd_goes hs
  | extentZeroEnd _ => exact execExtentZeroEnd_goes hs
  | addDcResponse _ _ _ => exact execAddDcResponse_goes hs
  | releaseDynamicCapacity _ _ => exact execReleaseDynamicCapacity_goes hs
  | dcRelease _ _ _ => exact execDcRelease_goes hs
  | getDcdInfo _ => exact execGetDcdInfo_goes hs
  | getHostDcRegionConfig _ _ => exact execGetHostDcRegionConfig_goes hs
  | setDcRegionConfig _ _ _ _ => exact execSetDcRegionConfig_goes hs
  | getDcRegionExtentLists _ _ => exact execGetDcRegionExtentLists_goes hs
  | cxlMemRead _ _ _ => exact execCxlMemRead_goes hs
  | cxlMemWrite _ _ _ _ _ => exact execCxlMemWrite_goes hs
  | backInvalidateResponse _ _ _ => exact execBackInvalidateResponse_goes hs
  | recallTimeout _ _ => exact execRecallTimeout_goes hs
  | poolLease _ => exact execPoolLease_goes hs
  | heartbeatRenew _ => exact execHeartbeatRenew_goes hs
  | heartbeatRejoin _ => exact execHeartbeatRejoin_goes hs
  | hostLeaseExpiry _ => exact execHostLeaseExpiry_goes hs
  | hostUnbind _ => exact execHostUnbind_goes hs
  | poolSnapshot _ => exact execPoolSnapshot_goes hs
  | poolSnapshotExpiry _ => exact execPoolSnapshotExpiry_goes hs
  | fill _ => exact execFill_goes hs
  | copy _ => exact execCopy_goes hs
  | compare _ => exact execCompare_goes hs
  | reduce _ => exact execReduce_goes hs
  | mirrorPartnerAck _ => exact execMirrorPartnerAck_goes hs
  | remirrorStart _ => exact execRemirrorStart_goes hs
  | patrolScrub _ _ => exact execPatrolScrub_goes hs
  | linkUp _ _ => exact execLinkUp_goes hs
  | linkDown _ => exact execLinkDown_goes hs
  | rmaConnect _ => exact execRmaConnect_goes hs
  | rmaRegion _ => exact execRmaRegion_goes hs
  | rmaWrite _ => exact execRmaWrite_goes hs
  | rmaRead _ => exact execRmaRead_goes hs
  | rmaNotify _ => exact execRmaNotify_goes hs
  | rmaWait _ => exact execRmaWait_goes hs
  | rmaWaitTimeout _ => exact execRmaWaitTimeout_goes hs
  | inboundRdmaWrite _ _ => exact execInboundRdmaWrite_goes hs
  | inboundRdmaWriteImm _ _ _ => exact execInboundRdmaWriteImm_goes hs
  | inboundRdmaRead _ _ => exact execInboundRdmaRead_goes hs
  | inboundAck _ _ => exact execInboundAck_goes hs
  | inboundNak _ _ => exact execInboundNak_goes hs
  | inboundReadResponse _ _ _ => exact execInboundReadResponse_goes hs
  | inboundCnp _ => exact execInboundCnp_goes hs
  | ackTimeout _ => exact execAckTimeout_goes hs
  | rnrTimerExpiry _ => exact execRnrTimerExpiry_goes hs
  | nqHeadDoorbell _ _ _ => exact execNqHeadDoorbell_goes hs
  | partnerGreeting => exact execPartnerGreeting_goes hs
  | partnerGreetingReceived _ _ _ _ _ => exact execPartnerGreetingReceived_goes hs
  | partnerAttestation _ _ _ _ _ _ => exact execPartnerAttestation_goes hs
  | partnerHeartbeatSend => exact execPartnerHeartbeatSend_goes hs
  | partnerHeartbeatReceived _ _ _ _ _ => exact execPartnerHeartbeatReceived_goes hs
  | partnerSuspectTimeout _ => exact execPartnerSuspectTimeout_goes hs
  | partnerDownTimeout _ => exact execPartnerDownTimeout_goes hs
  | trayAlertFall => exact execTrayAlertFall_goes hs
  | alertAnswerTimeout _ => exact execAlertAnswerTimeout_goes hs
  | partnerKeyLimit _ => exact execPartnerKeyLimit_goes hs
  | voteReceived _ _ dup _ => exact execVoteReceived_goes hs (a := dup)
  | groupCommitReceived _ _ => exact execGroupCommitReceived_goes hs
  | voteTimeout _ => exact execVoteTimeout_goes hs
  | voteAnswerTimeout _ => exact execVoteAnswerTimeout_goes hs
  | groupAbortReceived _ => exact execGroupAbortReceived_goes hs
  | evictionProposalReceived _ _ => exact execEvictionProposalReceived_goes hs
  | evictionQueryReceived _ => exact execEvictionQueryReceived_goes hs
  | evictionAnswerReceived _ _ _ => exact execEvictionAnswerReceived_goes hs
  | evictionProposalLapse _ => exact execEvictionProposalLapse_goes hs
  | groupEvictionOrder _ => exact execGroupEvictionOrder_goes hs
  | dropReportReceived _ => exact execDropReportReceived_goes hs
  | groupDropOrder _ => exact execGroupDropOrder_goes hs
  | unindexReportReceived _ => exact execUnindexReportReceived_goes hs
  | groupUnindexOrder _ => exact execGroupUnindexOrder_goes hs
  | reconcileListReceived _ _ _ => exact execReconcileListReceived_goes hs
  | tenantClaim _ => exact execTenantClaim_goes hs
  | claimResume => exact execClaimResume_goes hs
  | tenantActivate _ => exact execTenantActivate_goes hs
  | tenantRelease _ => exact execTenantRelease_goes hs
  | releaseWalkEnd => exact execReleaseWalkEnd_goes hs
  | releaseResetTimer => exact execReleaseResetTimer_goes hs
  | tenantStatus _ => exact execTenantStatus_goes hs
  | attestReport _ => exact execAttestReport_goes hs
  | weightBind _ => exact execWeightBind_goes hs
  | netKey _ => exact execNetKey_goes hs
  | mkaSecured _ => exact execMkaSecured_goes hs
  | spdmRequest _ _ => exact execSpdmRequest_goes hs
  | spdmKeyExchange _ _ => exact execSpdmKeyExchange_goes hs
  | spdmSessionLimit _ => exact execSpdmSessionLimit_goes hs
  | ideKmQuery _ _ => exact execIdeKmQuery_goes hs
  | ideKmKeyProg _ _ _ _ => exact execIdeKmKeyProg_goes hs
  | ideKmKSetGo _ _ _ _ => exact execIdeKmKSetGo_goes hs
  | ideKmKSetStop _ _ _ _ => exact execIdeKmKSetStop_goes hs
  | ideKeyLimit _ _ => exact execIdeKeyLimit_goes hs
  | lockInterfaceRequest _ => exact execLockInterfaceRequest_goes hs
  | stopInterfaceRequest _ => exact execStopInterfaceRequest_goes hs
  | jtagInstruction _ => exact execJtagInstruction_goes hs
  | fabricLinkAckTimeout _ => exact execFabricLinkAckTimeout_goes hs
  | hbmStackTimeout _ => exact execHbmStackTimeout_goes hs
  | ddrChannelTimeout _ => exact execDdrChannelTimeout_goes hs
  | bankPortTimeout _ => exact execBankPortTimeout_goes hs
  | fatalFault _ => exact execFatalFault_goes hs
  | haltComplete => exact execHaltComplete_goes hs
  | rasHeadWrite _ _ => exact execRasHeadWrite_goes hs
  | rasResume _ _ => exact execRasResume_goes hs
  | rasClearLost _ => exact execRasClearLost_goes hs
  | monitorClear _ _ => exact execMonitorClear_goes hs
  | cntDump _ => exact execCntDump_goes hs
  | snapshotInstant => exact execSnapshotInstant_goes hs
  | dumpSlotWritten => exact execDumpSlotWritten_goes hs
  | irqSharedAck _ _ => exact execIrqSharedAck_goes hs
  | irqModerationTimer _ _ => exact execIrqModerationTimer_goes hs
  | irqHoldClear _ => exact execIrqHoldClear_goes hs
  | mgmtHalt => exact execMgmtHalt_goes hs
  | mgmtRelease => exact execMgmtRelease_goes hs
  | mgmtWarmReset => exact execMgmtWarmReset_goes hs
  | mgmtEnterLinkWatch _ => exact execMgmtEnterLinkWatch_goes hs
  | mgmtRead _ => exact execMgmtRead_goes hs
  | mgmtSetPowerCeiling _ _ => exact execMgmtSetPowerCeiling_goes hs
  | mgmtSetClaimPolicy _ => exact execMgmtSetClaimPolicy_goes hs
  | mgmtSetFootingMode _ _ => exact execMgmtSetFootingMode_goes hs
  | mgmtFirmwareWrite _ _ => exact execMgmtFirmwareWrite_goes hs
  | mgmtFirmwareActivate _ => exact execMgmtFirmwareActivate_goes hs
  | mgmtAdvanceRollback => nomatch hi
  | mgmtSetPtp _ _ _ => exact execMgmtSetPtp_goes hs
  | enrol _ => nomatch hi
  | mgmtTrustAnchorChange _ _ => nomatch hi
  | coolantFlowReport _ => exact execCoolantFlowReport_goes hs
  | powerSample _ => exact execPowerSample_goes hs
  | thermalSample _ _ _ => exact execThermalSample_goes hs
  | discoveryUpdate _ _ _ _ => exact execDiscoveryUpdate_goes hs
  | fmKeepaliveTimeout _ => exact execFmKeepaliveTimeout_goes hs
  | ppsInEdge => exact execPpsInEdge_goes hs
  | supplyFault _ => exact execSupplyFault_goes hs
  | fixedRatePeriodBoundary => exact execFixedRatePeriodBoundary_goes hs
  | startInterfaceRequest _ => exact execStartInterfaceRequest_goes hs
  | functionLevelReset _ => exact execFunctionLevelReset_goes hs
  | configurationSpaceWrite _ _ _ => exact execConfigurationSpaceWrite_goes hs
  | fabricLaneDown _ => exact execFabricLaneDown_goes hs
  | attentionSliceWatchdog _ _ => exact execAttentionSliceWatchdog_goes hs
  | controlCoreWatchdog _ _ => exact execControlCoreWatchdog_goes hs
  | hbmDataLaneFault _ _ => exact execHbmDataLaneFault_goes hs
  | memberNamespaceReport _ _ _ _ => exact execMemberNamespaceReport_goes hs
  | spdmHeartbeatTimeout _ => exact execSpdmHeartbeatTimeout_goes hs
  | ptpMessageReceived _ _ _ => exact execPtpMessageReceived_goes hs
  | perstNAssert _ => exact execPerstNAssert_goes hs
  | hostCapWindow _ => exact execHostCapWindow_goes hs
  | consecFailClear => exact execConsecFailClear_goes hs
  | wakePartBack _ => exact execWakePartBack_goes hs
  | _ => exact execSeal_goes hs -- SEAL is the one left: its name is a keyword of Lean and cannot name a case

/-- What each command that goes on leaves as it was, with the management actions that name a trusted store. -/
theorem exec_next_keeps {i : Instr} {s t : State} (h : exec i s = .next t) :
    t.pending = s.pending ∧ (t.boot.fuses ≠ s.boot.fuses → i = .mgmtAdvanceRollback) ∧
      (t.mgmt.anchors ≠ s.mgmt.anchors → (∃ a, i = .enrol a) ∨ ∃ a add, i = .mgmtTrustAnchorChange a add) ∧
      (s.pool.mem.wf = true → t.pool.mem.wf = true) := by
  have hgoes : Goes s (exec i s) → t.pending = s.pending ∧ (t.boot.fuses ≠ s.boot.fuses → i = .mgmtAdvanceRollback) ∧
      (t.mgmt.anchors ≠ s.mgmt.anchors → (∃ a, i = .enrol a) ∨ ∃ a add, i = .mgmtTrustAnchorChange a add) ∧
      (s.pool.mem.wf = true → t.pool.mem.wf = true) := by
    rintro ⟨u, hu, hpending, hfuses, hanchors, hmem⟩
    obtain rfl : u = t := Host.Outcome.next.inj (hu.symm.trans h)
    exact ⟨hpending, fun hne => absurd hfuses hne, fun hne => absurd hanchors hne, hmem⟩
  cases hi : exceptional i with
  | false => exact hgoes (exec_goes hi (.refl s))
  | true =>
    cases i with
    | operationStart tag =>
      obtain hg | ⟨_, _, _, _, href⟩ := execOperationStart_goes (.refl s) (tag := tag)
      · exact hgoes hg
      · exact nomatch href.symm.trans h
    | mgmtAdvanceRollback =>
      obtain ⟨u, hu, hpending, hanchors, hmem⟩ := execMgmtAdvanceRollback_next (.refl s)
      obtain rfl : u = t := Host.Outcome.next.inj (hu.symm.trans h)
      exact ⟨hpending, fun _ => rfl, fun hne => absurd hanchors hne, hmem⟩
    | enrol a =>
      obtain ⟨u, hu, hpending, hfuses, hmem⟩ := execEnrol_next (.refl s) (anchor := a)
      obtain rfl : u = t := Host.Outcome.next.inj (hu.symm.trans h)
      exact ⟨hpending, fun hne => absurd hfuses hne, fun _ => .inl ⟨a, rfl⟩, hmem⟩
    | mgmtTrustAnchorChange a add =>
      obtain ⟨u, hu, hpending, hfuses, hmem⟩ := execMgmtTrustAnchorChange_next (.refl s) (anchor := a) (add := add)
      obtain rfl : u = t := Host.Outcome.next.inj (hu.symm.trans h)
      exact ⟨hpending, fun hne => absurd hfuses hne, fun _ => .inr ⟨a, add, rfl⟩, hmem⟩
    | _ => cases hi

/-- Settles O4: a step is a tick of the device's time or the front command, and either keeps the pool memory's form. -/
theorem stepKeepsPoolMemory : Obligations.StepKeepsPoolMemory := by
  unfold Obligations.StepKeepsPoolMemory
  intro s t hwf h
  unfold step at h
  split at h
  · obtain rfl := Host.Outcome.next.inj h
    obtain ⟨-, -, -, hmem⟩ := tick_keeps (.refl s)
    exact hmem hwf
  · obtain ⟨-, -, -, hmem⟩ := exec_next_keeps h
    exact hmem hwf

/-- Settles O7: only the start of an operation may be refused, and only where its opcode has no body. -/
theorem onlyVendorRefused : Obligations.OnlyVendorRefused := by
  unfold Obligations.OnlyVendorRefused
  refine ⟨fun i s => ?_, by decide⟩
  have hgoes : Goes s (exec i s) → ∃ t, exec i s = .next t := fun ⟨t, ht, _⟩ => ⟨t, ht⟩
  cases hi : exceptional i with
  | false => exact .inl (hgoes (exec_goes hi (.refl s)))
  | true =>
    cases i with
    | operationStart tag =>
      obtain hg | ⟨o, ho, hbody, hstart, href⟩ := execOperationStart_goes (.refl s) (tag := tag)
      · exact .inl (hgoes hg)
      · exact .inr ⟨tag, o, rfl, ho, hbody, hstart, href⟩
    | mgmtAdvanceRollback => exact .inl ⟨_, rfl⟩
    | enrol a => exact .inl ⟨_, rfl⟩
    | mgmtTrustAnchorChange a add => exact .inl ⟨_, rfl⟩
    | _ => cases hi

/-- Settles O8: no command touches the queue. -/
theorem execKeepsQueue : Obligations.ExecKeepsQueue := by
  unfold Obligations.ExecKeepsQueue
  intro i s t h
  obtain ⟨hpending, -⟩ := exec_next_keeps h
  exact hpending

/-- Settles O9: the fuses and the trust anchors stay under every command but those that name them. -/
theorem trustedStores : Obligations.TrustedStores := by
  unfold Obligations.TrustedStores
  intro i s t h
  obtain ⟨-, hfuses, hanchors, -⟩ := exec_next_keeps h
  exact ⟨hfuses, hanchors⟩

end Sys2Proof.Machine
end

section
/-! PROOFS. MemoryAndScheduling.lean: reset and the step, byte memory, and the scheduler's pick. -/
namespace Sys2Proof.Machine

/-! ### The step and reset -/

/-- Settles O1. -/
theorem stepRunsFrontCommand : Obligations.StepRunsFrontCommand := ⟨fun _ _ _ => rfl, fun _ => rfl⟩

/-- Settles O2. -/
theorem resetState : Obligations.ResetState := by
  unfold Obligations.ResetState
  decide

/-- Settles O3. -/
theorem resetMemoryCanonical : Obligations.ResetMemoryCanonical := ⟨rfl, fun _ => rfl⟩

/-! ### Byte memory -/

/-- A canonical memory has no byte at an address below every listed one. -/
theorem Mem.byte_eq_zero {m : Mem} {a : Nat} (h : ∀ d ∈ m, a < d.1) : m.byte a = 0#8 := by
  induction m with
  | nil => rfl
  | cons c t ih =>
    have hne : c.1 ≠ a := Nat.ne_of_gt (h c List.mem_cons_self)
    rw [Mem.byte, if_neg hne]
    exact ih fun d hd => h d (List.mem_cons_of_mem _ hd)

/-- What each address reads after a one-byte write. -/
theorem Mem.byte_set {m : Mem} (h : m.wf = true) (a x : Nat) (b : Byte) :
    (m.set a b).byte x = if x = a then b else m.byte x := by
  induction m with
  | nil =>
    by_cases hb : b = 0#8
    · simp [Mem.set, Mem.byte, hb]
    · simp [Mem.set, Mem.byte, hb, eq_comm]
  | cons c t ih =>
    obtain ⟨-, -, ht⟩ := (Mem.wf_cons_iff c t).1 h
    have habove := Mem.wf_above c t h
    unfold Mem.set
    split
    · rename_i hlt
      simp only [Mem.byte, ih ht]
      by_cases hx : x = a
      · rw [if_neg (by omega), if_pos hx, if_pos hx]
      · rw [if_neg hx, if_neg hx]
    · split
      · rename_i heq
        have hzero : Mem.byte t a = 0#8 := Mem.byte_eq_zero fun d hd => heq ▸ habove d hd
        split
        · rename_i hb
          subst hb heq
          by_cases hx : x = c.1
          · simp [hx, hzero]
          · simp [Mem.byte, hx, Ne.symm hx]
        · subst heq
          by_cases hx : x = c.1
          · simp [Mem.byte, hx]
          · simp [Mem.byte, hx, Ne.symm hx]
      · have hzero : (Mem.byte (c :: t) a) = 0#8 := Mem.byte_eq_zero fun d hd => by
          rcases List.mem_cons.1 hd with rfl | hd
          · omega
          · have := habove d hd
            omega
        split
        · rename_i hb
          by_cases hx : x = a
          · simp [hx, hzero, hb]
          · simp [hx]
        · by_cases hx : x = a
          · simp [Mem.byte, hx]
          · simp [Mem.byte, hx, Ne.symm hx]

/-- What each address reads after a write of bytes. -/
theorem Mem.byte_write (l : List Byte) {m : Mem} (h : m.wf = true) (a x : Nat) :
    (m.write a l).byte x = if a ≤ x ∧ x < a + l.length then l.getD (x - a) 0#8 else m.byte x := by
  induction l generalizing m a with
  | nil =>
    have hempty : ¬ (a ≤ x ∧ x < a + ([] : List Byte).length) := fun h => by simp at h; omega
    rw [if_neg hempty]
    rfl
  | cons b t ih =>
    rw [Mem.write, ih (Mem.set_wf m a b h), Mem.byte_set h]
    obtain hlt | rfl | hgt := Nat.lt_trichotomy x a
    · rw [if_neg (by omega), if_neg (by omega), if_neg (by omega)]
    · rw [if_neg (by omega), if_pos rfl, if_pos (by simp)]
      simp
    · obtain ⟨k, rfl⟩ : ∃ k, x = a + 1 + k := ⟨x - a - 1, by omega⟩
      have hsub : a + 1 + k - a = k + 1 := by omega
      have hlen : (b :: t).length = t.length + 1 := rfl
      by_cases hk : k < t.length
      · rw [if_pos (by omega), if_pos (by omega), hsub]
        simp
      · rw [if_neg (by omega), if_neg (by omega), if_neg (by omega)]

/-- Canonical memories that read the same everywhere are the same. -/
theorem Mem.ext_byte {m k : Mem} (hm : m.wf = true) (hk : k.wf = true) (h : ∀ a, m.byte a = k.byte a) : m = k := by
  induction m generalizing k with
  | nil =>
    cases k with
    | nil => rfl
    | cons d u =>
      obtain ⟨hd, -⟩ := (Mem.wf_cons_iff d u).1 hk
      exact absurd (by simpa [Mem.byte] using (h d.1).symm) hd
  | cons c t ih =>
    obtain ⟨hc, -, ht⟩ := (Mem.wf_cons_iff c t).1 hm
    have hct := Mem.wf_above c t hm
    cases k with
    | nil => exact absurd (by simpa [Mem.byte] using h c.1) hc
    | cons d u =>
      obtain ⟨hd, -, hu⟩ := (Mem.wf_cons_iff d u).1 hk
      have hdu := Mem.wf_above d u hk
      have hlow : ∀ {c d : Nat × Byte} {t u : Mem}, c.2 ≠ 0#8 → (∀ e ∈ u, d.1 < e.1) →
          Mem.byte (c :: t) c.1 = Mem.byte (d :: u) c.1 → ¬ c.1 < d.1 := fun {c d t u} hc hdu h hlt => by
        rw [Mem.byte_eq_zero (m := d :: u)] at h
        · exact hc (by simpa [Mem.byte] using h)
        · intro e he
          rcases List.mem_cons.1 he with rfl | he
          · exact hlt
          · exact hlt.trans (hdu e he)
      have haddr : c.1 = d.1 :=
        Nat.le_antisymm (Nat.not_lt.1 (hlow hd hct (h d.1).symm)) (Nat.not_lt.1 (hlow hc hdu (h c.1)))
      have hbyte : c.2 = d.2 := by simpa [Mem.byte, haddr] using h c.1
      have hrest : t = u := ih ht hu fun a => by
        by_cases hca : c.1 = a
        · rw [Mem.byte_eq_zero fun e he => hca ▸ hct e he, Mem.byte_eq_zero fun e he => hca ▸ haddr ▸ hdu e he]
        · have ha := h a
          rwa [Mem.byte, if_neg hca, Mem.byte, if_neg (haddr ▸ hca)] at ha
      rw [hrest, Prod.ext haddr hbyte]

/-- Settles O5. -/
theorem memoryLaws : Obligations.MemoryLaws := by
  unfold Obligations.MemoryLaws
  refine ⟨fun m a x b h => ⟨Mem.set_wf m a b h, ?_, fun hne => ?_⟩, fun m a x l h => ⟨Mem.write_wf l m a h, Mem.byte_write l h a x⟩,
    fun m k => Mem.ext_byte⟩
  · rw [Mem.byte_set h, if_pos rfl]
  · rw [Mem.byte_set h, if_neg hne]

/-! ### The scheduler's pick -/

/-- The better of the head picked so far and the next one (R267). -/
def betterHead (a : Option Head) (h : Head) : Option Head := match a with
  | none => some h
  | some x => if x.queue.num != 0 && (h.queue.num = 0 || h.tag < x.tag) then some h else a

/-- The heads that may start: those that are not deferred, or, when every eligible one is, all eligible ones. -/
def candidates (l : List Head) : List Head :=
  if ((l.filter (fun h => h.colour != .red)).filter (fun h => !h.deferred)).isEmpty then l.filter (fun h => h.colour != .red)
  else (l.filter (fun h => h.colour != .red)).filter (fun h => !h.deferred)

theorem pickHead_eq (l : List Head) : pickHead l = (candidates l).foldl betterHead none := rfl

/-- The candidates: eligible, and deferred only when every eligible head is. -/
theorem mem_candidates {l : List Head} {h : Head} :
    h ∈ candidates l ↔ h ∈ l ∧ h.colour ≠ .red ∧ (h.deferred = true → ∀ x ∈ l, x.colour ≠ .red → x.deferred = true) := by
  unfold candidates
  split
  · rename_i he
    have hall : ∀ x ∈ l, x.colour ≠ .red → x.deferred = true := by
      simpa only [List.isEmpty_iff, List.filter_eq_nil_iff, List.mem_filter, bne_iff_ne, Bool.not_eq_true', Bool.not_eq_false,
        and_imp] using he
    simp only [List.mem_filter, bne_iff_ne, ne_eq]
    exact ⟨fun ⟨hl, hc⟩ => ⟨hl, hc, fun _ => hall⟩, fun ⟨hl, hc, _⟩ => ⟨hl, hc⟩⟩
  · rename_i he
    obtain ⟨y, hy, hyd, hyc⟩ : ∃ x ∈ l, x.deferred = false ∧ ¬ x.colour = .red := by
      simpa [List.filter_eq_nil_iff] using he
    simp only [List.mem_filter, bne_iff_ne, ne_eq, Bool.not_eq_true']
    constructor
    · rintro ⟨⟨hl, hc⟩, hd⟩
      exact ⟨hl, hc, fun ht => absurd (ht.symm.trans hd) (by simp)⟩
    · rintro ⟨hl, hc, hd⟩
      refine ⟨⟨hl, hc⟩, Bool.eq_false_iff.2 fun ht => ?_⟩
      exact absurd (hyd.symm.trans (hd ht y hy hyc)) (by simp)

theorem candidates_eq_nil_iff {l : List Head} : candidates l = [] ↔ ∀ x ∈ l, x.colour = .red := by
  unfold candidates
  split
  · simp [List.filter_eq_nil_iff]
  · rename_i he
    obtain ⟨y, hy, hyd, hyc⟩ : ∃ x ∈ l, x.deferred = false ∧ ¬ x.colour = .red := by
      simpa [List.filter_eq_nil_iff] using he
    exact ⟨fun h => absurd h (mt List.isEmpty_iff.2 he), fun h => absurd (h y hy) hyc⟩

/-- Is `h` to be preferred to `x`: a head of queue 0, or one of another queue with no higher tag, the lower queue on a tie? -/
def preferred (h x : Head) : Prop :=
  h.queue.num ≠ 0 → x.queue.num ≠ 0 ∧ (h.tag < x.tag ∨ (h.tag = x.tag ∧ h.queue.num ≤ x.queue.num))

/-- A fold over heads of rising queues from a picked one picks one of them that is preferred to all. -/
theorem foldl_betterHead {l : List Head} {a : Head} (h : (a :: l).Pairwise (fun a b => a.queue.num < b.queue.num)) :
    ∃ b, l.foldl betterHead (some a) = some b ∧ b ∈ a :: l ∧ ∀ x ∈ a :: l, preferred b x := by
  induction l generalizing a with
  | nil => exact ⟨a, rfl, by simp, by simp [preferred]⟩
  | cons c t ih =>
    obtain ⟨ha, hct⟩ := List.pairwise_cons.1 h
    obtain ⟨hc, ht⟩ := List.pairwise_cons.1 hct
    have hac : a.queue.num < c.queue.num := ha c List.mem_cons_self
    rw [List.foldl_cons, betterHead]
    split
    · rename_i hnew
      obtain ⟨b, hb, hmem, hpref⟩ := ih hct
      refine ⟨b, hb, List.mem_cons_of_mem _ hmem, fun x hx => ?_⟩
      rcases List.mem_cons.1 hx with rfl | hx
      · intro hb0
        have htag : c.tag < x.tag := by
          simp only [bne_iff_ne, ne_eq, Bool.and_eq_true, Bool.or_eq_true, decide_eq_true_eq] at hnew
          omega
        have hbc := (hpref c List.mem_cons_self hb0).2
        simp only [bne_iff_ne, ne_eq, Bool.and_eq_true] at hnew
        omega
      · exact hpref x hx
    · rename_i hold
      have hat : (a :: t).Pairwise (fun a b => a.queue.num < b.queue.num) :=
        List.pairwise_cons.2 ⟨fun x hx => ha x (List.mem_cons_of_mem _ hx), ht⟩
      obtain ⟨b, hb, hmem, hpref⟩ := ih hat
      refine ⟨b, hb, ?_, fun x hx => ?_⟩
      · rcases List.mem_cons.1 hmem with rfl | hmem
        · exact List.mem_cons_self
        · exact List.mem_cons_of_mem _ (List.mem_cons_of_mem _ hmem)
      · rcases List.mem_cons.1 hx with rfl | hx
        · exact hpref x List.mem_cons_self
        · rcases List.mem_cons.1 hx with rfl | hx
          · intro hb0
            have hba := hpref a List.mem_cons_self hb0
            simp only [bne_iff_ne, ne_eq, Bool.and_eq_true, Bool.or_eq_true, decide_eq_true_eq] at hold
            omega
          · exact hpref x (List.mem_cons_of_mem _ hx)

/-- The pick is one of the candidates, whatever their order. -/
theorem foldl_betterHead_mem {l : List Head} {a : Option Head} {h : Head} (hh : l.foldl betterHead a = some h) : a = some h ∨ h ∈ l := by
  induction l generalizing a with
  | nil => exact .inl hh
  | cons c t ih =>
    rcases ih hh with hc | ht
    · unfold betterHead at hc
      split at hc
      · exact .inr (by simp_all)
      · split at hc
        · exact .inr (by simp_all)
        · exact .inl hc
    · exact .inr (List.mem_cons_of_mem _ ht)

theorem foldl_betterHead_isSome {l : List Head} {a : Option Head} (h : a.isSome = true ∨ l ≠ []) : (l.foldl betterHead a).isSome = true :=
    by
  induction l generalizing a with
  | nil => simpa using h
  | cons c t ih =>
    refine ih (.inl ?_)
    unfold betterHead
    split
    · rfl
    · split <;> rfl

theorem pickHead_eq_none_iff {l : List Head} : pickHead l = none ↔ candidates l = [] := by
  rw [pickHead_eq]
  refine ⟨fun h => by_contra fun hne => ?_, fun h => by rw [h]; rfl⟩
  simpa [h] using foldl_betterHead_isSome (a := none) (.inr hne)

/-- Heads in the order of their queues: the pick is preferred to every candidate. -/
theorem pickHead_preferred {l : List Head} {h : Head} (hl : l.Pairwise (fun a b => a.queue.num < b.queue.num)) (hh : pickHead l = some h) :
    ∀ x ∈ candidates l, preferred h x := by
  have hc : (candidates l).Pairwise (fun a b => a.queue.num < b.queue.num) := by
    unfold candidates
    split
    · exact hl.filter _
    · exact (hl.filter _).filter _
  rw [pickHead_eq] at hh
  cases hcand : candidates l with
  | nil => simp
  | cons a t =>
    rw [hcand] at hc hh
    obtain ⟨b, hb, -, hpref⟩ := foldl_betterHead hc
    obtain rfl : h = b := Option.some.inj (hh.symm.trans hb)
    exact hpref

/-- Settles O6: the pick is the fold of the preference over the candidates. -/
theorem schedulerPick : Obligations.SchedulerPick := by
  unfold Obligations.SchedulerPick
  have hmem : ∀ {l h}, pickHead l = some h → h ∈ candidates l := fun hh => (foldl_betterHead_mem hh).resolve_left (by simp)
  refine ⟨fun l => pickHead_eq_none_iff.trans candidates_eq_nil_iff, fun l h hh => mem_candidates.1 (hmem hh),
    fun l h hl hh h0 x hx hxc hxd => ?_⟩
  refine pickHead_preferred hl hh x (mem_candidates.2 ⟨hx, hxc, ?_⟩) h0
  rw [hxd]
  exact (mem_candidates.1 (hmem hh)).2.2

end Sys2Proof.Machine
end

section
/-! PROOFS. Queries.lean: acceptance where two operations hold one tag, and what the query commands leave alone. -/
namespace Sys2Proof.Machine

/-! ### A tag held twice -/

/-- A running device whose operation table already holds, under the next tag of span 0, an IDENTIFY of pair 2. -/
def doubleTag : State := { Tests.base with q.ops := [Tests.op0 0 2 0x00 (Tests.pkt [])] }

theorem doubleTag_begins : (doubleTag.begins 0x00 (Tests.ctl [])).any (fun x => x.1.qp != 0) = true := by
  decide +kernel

/-- Refutes O12: where an operation of pair 2 already holds the tag that a command of pair 0 takes, the operation that starts is that
of pair 2. -/
theorem not_beginsFrame : ¬ Obligations.BeginsFrame := by
  unfold Obligations.BeginsFrame
  intro h
  obtain ⟨⟨o, t⟩, hbegins, hqp⟩ := (Option.any_eq_true _ _).1 doubleTag_begins
  obtain ⟨-, hpair, -⟩ := h _ _ _ _ _ hbegins
  exact bne_iff_ne.1 hqp hpair

/-! ### What a query leaves alone -/

/-- What no query changes: the pool's bytes, extents and directory, the footing, the live settings and their epoch, the banks and
groups of the index, the fuses and the management settings. -/
def State.shown (s : State) :=
  (s.pool.mem, s.pool.extents, s.pool.dir, s.foot, s.stg.live, s.stg.epoch, s.idx.banks, s.idx.groups, s.boot.fuses, s.mgmt)

theorem Enters.shown_eq {s t : State} : Enters s t → t.shown = s.shown := by
  rintro ⟨_, _, _, _, _, _, _, _, _, _, rfl⟩
  rfl

theorem State.ite_shown {c : Prop} [Decidable c] {s t u : State} (ht : t.shown = s.shown) (hu : u.shown = s.shown) :
    (if c then t else u).shown = s.shown := by
  split
  · exact ht
  · exact hu

theorem State.wake_shown (s : State) : s.wake.shown = s.shown := State.ite_shown rfl rfl

theorem State.updOp_shown (s : State) (tag : Nat) (f : Op → Op) : (s.updOp tag f).shown = s.shown :=
  (State.updOp_signals s tag f).enters.shown_eq

theorem State.complete_shown (s : State) (o : Op) (st : Status) (result progress : Nat) :
    (s.complete o st result progress).shown = s.shown :=
  (State.complete_completes s o st result progress).enters.shown_eq

theorem State.gc_shown (s : State) : s.gc.shown = s.shown := by
  unfold State.gc
  extract_lets
  exact State.ite_shown rfl rfl

theorem State.dropClaim_shown (s : State) : s.dropClaim.shown = s.shown := (State.raiseSrc_signals _ 8).enters.shown_eq

theorem State.endOp_shown (s : State) (tag : Nat) : (s.endOp tag).shown = s.shown := by
  unfold State.endOp
  split
  · rfl
  · refine (State.ite_shown (State.gc_shown _) rfl).trans ((State.ite_shown (State.dropClaim_shown _) rfl).trans ?_)
    exact (State.setTags_signals _ _ _).enters.shown_eq.trans (State.ite_shown rfl rfl)

theorem State.finalise_shown (s : State) (tag : Nat) : (s.finalise tag).shown = s.shown := by
  have hrec : ∀ f, (s.updOp tag f).shown = s.shown := State.updOp_shown s tag
  unfold State.finalise
  extract_lets t
  split
  · exact (State.endOp_shown _ _).trans (State.ite_shown ((State.complete_shown _ _ _ _ _).trans (hrec _)) (hrec _))
  · exact hrec _

theorem State.finish_shown (s : State) (tag : Nat) (st : Status) (result : Nat) : (s.finish tag st result).shown = s.shown := by
  have hrec : ∀ f, (s.rested.updOp tag f).shown = s.shown := State.updOp_shown s.rested tag
  unfold State.finish
  extract_lets t
  split
  · exact State.ite_shown ((State.finalise_shown _ _).trans (hrec _))
      ((State.endOp_shown _ _).trans ((State.complete_shown _ _ _ _ _).trans (hrec _)))
  · exact hrec _

theorem State.accept_shown (s : State) (qp op : Nat) (pkt : BitVec 512) : (s.accept qp op pkt).2.shown = s.shown := by
  obtain h | ⟨q, u, tag, -, henter, h⟩ := s.accept_cases qp op pkt
  · rw [h]
  · rw [h]
    cases s.reject q op pkt with
    | none => exact henter.shown_eq
    | some why => exact (State.finish_shown _ _ _ _).trans henter.shown_eq

theorem State.settle_shown (tag : Nat) (a : BodyOut) : (State.settle tag a).shown = a.state.shown := by
  cases a with
  | done st r s => exact State.finish_shown s tag st r
  | wait w s => exact State.updOp_shown s.rested tag _
  | long n r s =>
    have hrec : ∀ f, (s.rested.updOp tag f).shown = s.shown := State.updOp_shown s.rested tag
    dsimp only [State.settle, BodyOut.state]
    split
    · refine State.ite_shown (hrec _) ((State.complete_shown _ _ _ _ _).trans ?_)
      exact (State.setOp_signals _ _ _).enters.shown_eq.trans (hrec _)
    · exact hrec _

theorem State.takeOne_shown {s t : State} {o : Op} {p : Pool} (h : s.takeOne o p = some t) : t.shown = s.shown := by
  unfold State.takeOne at h
  split at h
  · rw [← Option.some.inj h]
  · split at h
    · rw [← Option.some.inj h]
    · obtain ⟨part, -, rfl⟩ := Option.map_eq_some_iff.1 h
      rfl

theorem State.acquire_shown (s : State) (o : Op) (l : List Pool) : (s.acquire o l).1.shown = s.shown := by
  induction l generalizing s with
  | nil => rfl
  | cons p l ih =>
    unfold State.acquire
    split
    · rename_i h
      exact (ih _).trans (State.takeOne_shown h)
    · rfl

theorem State.launch_shown {s t : State} {tag : Nat} {o : Op} (h : s.launch tag o = some t) : t.shown = s.shown := by
  have hacq := s.acquire_shown o (s.needs o)
  unfold State.launch at h
  split at h
  · rename_i u e
    rw [e] at hacq
    split at h
    · rw [← Option.some.inj h]
      exact (State.updOp_shown _ _ _).trans hacq
    · cases h
  · cases h

theorem State.park_shown (s : State) (o : Op) (p : Pool) : (s.park o p).shown = s.shown := by
  unfold State.park
  refine (State.updOp_shown _ _ _).trans ((State.bumpAt_signals _ _ _ _ _).enters.shown_eq.trans ?_)
  split <;> rfl

theorem State.lacksBuffer_shown (s : State) (tag : Nat) (o : Op) : (s.lacksBuffer tag o).shown = s.shown := by
  have hacq := s.acquire_shown o (s.needs o)
  unfold State.lacksBuffer
  split
  · rename_i e
    rw [e] at hacq
    exact State.ite_shown (State.finish_shown _ _ _ _) ((State.park_shown _ _ _).trans hacq)
  · rename_i e
    rw [e] at hacq
    exact (State.updOp_shown _ _ _).trans hacq

theorem State.announce_shown (body : Op → State → BodyOut) (s : State) (tag : Nat) : (State.announce body s tag).shown = s.shown := by
  unfold State.announce
  split
  · rfl
  · split
    · rfl
    · split
      · exact (State.complete_shown _ _ _ _ _).trans ((State.updOp_shown _ _ _).trans (State.ite_shown rfl rfl))
      · rfl
      · rfl

/-- A command keeps what its first unit keeps. -/
theorem State.submit_shown {body : Op → State → BodyOut} (hbody : ∀ o t, (body o t).state.shown = t.shown) (op : Nat) (c : Cmd)
    (s : State) : (s.submit op body c).shown = s.shown := by
  have hstart : ∀ t tag, (State.start body t tag).shown = t.shown := fun t tag => by
    unfold State.start
    split
    · rfl
    · split
      · rfl
      · split
        · exact (State.settle_shown _ _).trans (hbody _ _)
        · split
          · exact (State.announce_shown _ _ _).trans (State.updOp_shown _ _ _)
          · split
            · rename_i h
              split
              · exact (State.settle_shown _ _).trans ((hbody _ _).trans (State.launch_shown h))
              · exact State.launch_shown h
            · exact (State.announce_shown _ _ _).trans (State.lacksBuffer_shown _ _ _)
  have haccept := (s.wake.accept_shown c.qp op c.pkt).trans s.wake_shown
  unfold State.submit
  split
  · rename_i e
    rw [e] at haccept
    exact (hstart _ _).trans haccept
  · rename_i e
    rw [e] at haccept
    exact haccept

/-- An answer written to host memory, or not, keeps them. -/
theorem State.writeThen_shown (s : State) (o : Op) (a : Nat) (b : List Byte) :
    (s.writeThen o a b (fun t => .done .ok 0 t)).state.shown = s.shown := by
  have hans : ∀ (x : Xfer) (t : State), (x.answer t).state = t := fun x t => by cases x <;> rfl
  unfold State.writeThen
  split
  · rename_i h
    obtain ⟨-, rfl⟩ := State.hostWrite_ok h
    exact (State.charge_completes _ _ _ _ _).enters.shown_eq
  · rw [hans]
    exact State.ite_shown rfl rfl
  · rw [hans]

theorem bodyIdentify_shown (o : Op) (s : State) : (bodyIdentify o s).state.shown = s.shown := by
  unfold bodyIdentify
  split
  · rfl
  · exact State.writeThen_shown _ _ _ _

theorem bodyStageRead_shown (o : Op) (s : State) : (bodyStageRead o s).state.shown = s.shown := by
  unfold bodyStageRead
  split
  · rfl
  · split
    · rfl
    · split
      · rfl
      · exact State.writeThen_shown _ _ _ _

theorem bodyStageCheck_shown (o : Op) (s : State) : (bodyStageCheck o s).state.shown = s.shown := by
  unfold bodyStageCheck
  split
  · rfl
  · split
    · rfl
    · split <;> rfl

theorem bodyQueryNamespace_shown (o : Op) (s : State) : (bodyQueryNamespace o s).state.shown = s.shown := by
  unfold bodyQueryNamespace State.withNs
  split
  · exact State.writeThen_shown _ _ _ _
  · rfl

theorem State.onChain_shown (s : State) (c : Chain) {a : BodyOut} (ha : a.state.shown = s.shown) :
    (s.onChain c a).state.shown = s.shown := by
  unfold State.onChain
  split
  · rfl
  · split
    · rfl
    · exact ha

theorem State.withView_shown {s : State} {o : Op} {k : Namespace → View → BodyOut} (hk : ∀ n v, (k n v).state.shown = s.shown) :
    (s.withView o k).state.shown = s.shown := by
  have hnamed : ∀ n, (match o.view with
      | some v => k n v
      | none => match s.named n (o.p 8 4) (o.p 12 1) with
        | .view v => k n v
        | .refused st => .done st 0 s
        | .busy => .wait .ended s).state.shown = s.shown := fun n => by
    split
    · exact hk _ _
    · split
      · exact hk _ _
      · rfl
      · rfl
  unfold State.withView State.withNs
  split
  · dsimp only
    split
    · exact State.onChain_shown _ _ (hnamed _)
    · exact hnamed _
  · rfl

theorem bodyChainQuery_shown (o : Op) (s : State) : (bodyChainQuery o s).state.shown = s.shown :=
  State.withView_shown fun _ _ => State.writeThen_shown _ _ _ _

theorem bodyPlanQuery_shown (o : Op) (s : State) : (bodyPlanQuery o s).state.shown = s.shown := by
  unfold bodyPlanQuery
  split
  · rfl
  · split
    · rfl
    · exact State.writeThen_shown _ _ _ _

theorem bodyAttestReport_shown (o : Op) (s : State) : (bodyAttestReport o s).state.shown = s.shown := by
  unfold bodyAttestReport
  split
  · rfl
  · exact State.writeThen_shown _ _ _ _

/-- Settles O13: acceptance, the start and the completion of a command keep all of `State.shown`, and so does each query's unit. -/
theorem readOnlyFrame : Obligations.ReadOnlyFrame := by
  unfold Obligations.ReadOnlyFrame
  intro c i s u hi h
  have hshown : u.shown = s.shown := by
    simp only [List.mem_cons, List.not_mem_nil, or_false] at hi
    obtain rfl | rfl | rfl | rfl | rfl | rfl | rfl | rfl := hi <;> obtain rfl := Host.Outcome.next.inj h
    · exact State.submit_shown bodyIdentify_shown _ _ _
    · exact State.submit_shown bodyStageRead_shown _ _ _
    · exact State.submit_shown bodyStageCheck_shown _ _ _
    · exact State.submit_shown bodyQueryNamespace_shown _ _ _
    · exact State.submit_shown bodyChainQuery_shown _ _ _
    · exact State.submit_shown bodyPlanQuery_shown _ _ _
    · exact State.submit_shown (fun _ _ => State.writeThen_shown _ _ _ _) _ _ _
    · exact State.submit_shown bodyAttestReport_shown _ _ _
  simp only [State.shown, Prod.mk.injEq] at hshown
  obtain ⟨hmem, hextents, hdir, hfoot, hlive, hepoch, hbanks, hgroups, hfuses, hmgmt⟩ := hshown
  exact ⟨fun a => by rw [hmem], hextents, hdir, hfoot, hlive, hepoch, hbanks, hgroups, hfuses, by rw [hmgmt], by rw [hmgmt],
    by rw [hmgmt]⟩

end Sys2Proof.Machine
end

section
/-! PROOFS. Startup.lean: pins, the steps of the start-up, memory training and the warm reset. -/
namespace Sys2Proof.Machine

/-! ### What signalling leaves alone -/

section
variable {s t : State} (h : Signals s t)
include h

theorem Signals.boot : t.boot = s.boot := by obtain ⟨_, _, _, rfl⟩ := h; rfl
theorem Signals.fab : t.fab = s.fab := by obtain ⟨_, _, _, rfl⟩ := h; rfl
theorem Signals.clock : t.clock = s.clock := by obtain ⟨_, _, _, rfl⟩ := h; rfl
theorem Signals.stg : t.stg = s.stg := by obtain ⟨_, _, _, rfl⟩ := h; rfl
theorem Signals.store : t.store = s.store := by obtain ⟨_, _, _, rfl⟩ := h; rfl
theorem Signals.idx : t.idx = s.idx := by obtain ⟨_, _, _, rfl⟩ := h; rfl
theorem Signals.tiers : t.tiers = s.tiers := by obtain ⟨_, _, _, rfl⟩ := h; rfl
theorem Signals.foot : t.foot = s.foot := by obtain ⟨_, _, _, rfl⟩ := h; rfl
theorem Signals.dlv : t.dlv = s.dlv := by obtain ⟨_, _, _, rfl⟩ := h; rfl
theorem Signals.att : t.att = s.att := by obtain ⟨_, _, _, rfl⟩ := h; rfl
theorem Signals.pool : t.pool = s.pool := by obtain ⟨_, _, _, rfl⟩ := h; rfl
theorem Signals.rma : t.rma = s.rma := by obtain ⟨_, _, _, rfl⟩ := h; rfl
theorem Signals.grp : t.grp = s.grp := by obtain ⟨_, _, _, rfl⟩ := h; rfl
theorem Signals.sec : t.sec = s.sec := by obtain ⟨_, _, _, rfl⟩ := h; rfl
theorem Signals.ras : t.ras = s.ras := by obtain ⟨_, _, _, rfl⟩ := h; rfl
theorem Signals.mgmt : t.mgmt = s.mgmt := by obtain ⟨_, _, _, rfl⟩ := h; rfl
theorem Signals.host : t.host = s.host := by obtain ⟨_, _, _, rfl⟩ := h; rfl
theorem Signals.pending : t.pending = s.pending := by obtain ⟨_, _, _, rfl⟩ := h; rfl

end

/-- Noting a change of DEV_READY only signals. -/
theorem State.noteReady_signals (s : State) (was : Nat) : Signals s (s.noteReady was) := by
  unfold State.noteReady
  split
  · exact Signals.refl s
  · exact State.raiseSrc_signals s 0

theorem State.readyChanged_signals (s : State) : Signals s s.readyChanged := State.raiseSrc_signals s 0

/-- A source that is raised where nothing is routed and no monitor is set waits. -/
theorem State.raiseSrc_of_unrouted {s : State} (hroutes : s.tel.routes = []) (hmonitors : s.tel.monitors = []) (n : Nat) :
    ∃ shared waiting, s.raiseSrc n = { s with tel.shared := shared, tel.waiting := waiting } := by
  have hquiet : s.anyHit = false := by simp [State.anyHit, hmonitors]
  have hroute : s.routeOf n = none := by simp [State.routeOf, hroutes]
  by_cases hb : bit s.tel.shared n = true
  · exact ⟨s.tel.shared, s.tel.waiting, by simp [State.raiseSrc, State.noteHit, State.raiseOne, hb, hquiet]⟩
  · refine ⟨s.tel.shared + 2 ^ n, Nat.lor s.tel.waiting (2 ^ n), ?_⟩
    have hone : s.raiseOne n = { s with tel.shared := s.tel.shared + 2 ^ n, tel.waiting := Nat.lor s.tel.waiting (2 ^ n) } := by
      unfold State.raiseOne
      rw [if_neg hb]
      dsimp only
      rw [show ({ s with tel.shared := s.tel.shared + 2 ^ n } : State).routeOf n = none from hroute]
    rw [State.raiseSrc, hone]
    exact if_neg (by simp [State.anyHit, hmonitors])

/-! ### Pins -/

theorem coldStart_frame (s : State) (slot : Nat) (h : s.boot.porN = true) :
    ∃ u, exec (.coldStart slot) s = .next u ∧ u.boot.phase = .sensing ∧
    u.boot.porN = false ∧ u.boot.slotStrap = slot % 8 ∧ u.boot.link = false ∧ u.boot.deck = false ∧ u.boot.full = false ∧
    u.boot.fuses = s.boot.fuses ∧ u.sec.life = .unclaimed ∧ u.pending = s.pending := by
  refine ⟨_, if_pos h, ?_⟩
  rw [(State.noteReady_signals _ _).boot, (State.noteReady_signals _ _).sec, (State.noteReady_signals _ _).pending]
  exact ⟨rfl, rfl, rfl, rfl, rfl, rfl, rfl, rfl, rfl⟩

theorem haltNAssert_running (s : State) (hlink : s.boot.link = true) (hhalt : s.boot.haltN = false) :
    exec .haltNAssert s = .next (({ s with boot.haltN := true }).halt 3 (.plain .fatal 0x0F03 0x6000 none)) :=
  congrArg Host.Outcome.next (if_pos (by simp [hlink, hhalt]))

theorem haltNAssert_starting (s : State) (hlink : s.boot.link = false) :
    exec .haltNAssert s = .next { s with boot.haltN := true } :=
  congrArg Host.Outcome.next (if_neg (by simp [hlink]))

theorem haltNDeassert_sensing (s : State) (hphase : s.boot.phase = .sensing) (hrun : s.boot.running.isSome = true) :
    exec .haltNDeassert s = .next { s with boot.haltN := false, boot.phase := .verified } :=
  congrArg Host.Outcome.next (if_pos (by simp [hphase, hrun]))

theorem haltNDeassert_other (s : State) (hphase : s.boot.phase ≠ .sensing) :
    exec .haltNDeassert s = .next { s with boot.haltN := false } :=
  congrArg Host.Outcome.next (if_neg (by simp [hphase]))

/-- Settles O14. -/
theorem pins : Obligations.Pins := by
  unfold Obligations.Pins
  exact ⟨⟨fun s => ⟨_, rfl, rfl, rfl, rfl, rfl, rfl, rfl, rfl, rfl, rfl, rfl, rfl, rfl, rfl, rfl⟩, coldStart_frame, fun _ _ => rfl⟩,
    haltNAssert_running, haltNAssert_starting, haltNDeassert_sensing, haltNDeassert_other⟩

/-! ### The start-up -/

theorem Boot.bootSlot_selector {b : Boot} (h : b.accepts b.selector = true) : b.bootSlot = some b.selector := if_pos h

theorem Boot.bootSlot_other {b : Boot} (h : b.accepts b.selector = false) (ho : b.accepts b.selector.other = true) :
    b.bootSlot = some b.selector.other :=
  (if_neg (by simp [h])).trans (if_pos ho)

theorem Boot.bootSlot_none {b : Boot} (ha : b.accepts .a = false) (hb : b.accepts .b = false) : b.bootSlot = none := by
  have hall : ∀ sl, b.accepts sl = false := fun sl => by
    cases sl
    · exact ha
    · exact hb
  unfold Boot.bootSlot
  rw [hall, hall]
  rfl

/-- A location that failed its read-back is recorded and stays poisoned. -/
theorem State.retireLine_poison (s : State) (code locus a : Nat) :
    ∃ u : State, s.retireLine code locus a = u.log ⟨.dataLoss, code, locus, none, none, some a, 0, true⟩ ∧
      u.pool.poison.contains (a / 64) = true ∧ ∀ x, x ≠ a / 64 → u.pool.poison.contains x = s.pool.poison.contains x := by
  refine ⟨_, rfl, ?_⟩
  split
  · rename_i h
    exact ⟨h, fun _ _ => rfl⟩
  · exact ⟨by simp, fun x hx => by simp [hx]⟩

theorem readyLink_next (s : State) (hphase : s.boot.phase = .linksTrained) (hperst : s.boot.perst ≠ 0) (hlink : s.boot.link = false)
    (hfatal : s.sec.fatalPersists = false) : exec .readyLink s =
      .next ((Config.badSram s.free).foldl (fun s l => s.log (.plain .recovered 0x0122 l none))
        ({ s with boot.phase := .up, boot.link := true, free := s.free + 1 }).readyChanged) := by
  have hrepair : ∀ (l : List Nat) (t : State), Reports t (t.repairSram l) := fun l => by
    induction l with
    | nil => exact Reports.refl
    | cons x l ih => exact fun t => (State.log_reports t _).trans (ih _)
  obtain ⟨_, _, _, _, hkept⟩ := (State.readyChanged_signals
    ({ s with boot.phase := .up, boot.link := true, free := s.free + 1 } : State)).reports.trans (hrepair (Config.badSram s.free) _)
  refine (if_pos (by simp [hphase, hperst, hlink])).trans (congrArg Host.Outcome.next (if_neg ?_))
  rw [hkept]
  simp [hfatal]

/-- Settles O15. -/
theorem startUp : Obligations.StartUp := by
  unfold Obligations.StartUp
  refine ⟨⟨fun s sl hphase hrun hent hslot => ?_, fun b => ⟨Boot.bootSlot_selector, Boot.bootSlot_other⟩,
    fun s hphase hrun hent ha hb => ?_, fun s hphase hkey => if_pos (by simp [hphase, hkey])⟩,
    readyLink_next, fun s hrel htrained hdeck hfatal => if_pos (by simp [hrel, htrained, hdeck, hfatal]),
    State.retireLine_poison, fun s hdeck hfull hscan hnand hfoot => if_pos (by simp [hdeck, hfull, hscan, hnand, hfoot]),
    fun s hdeck hfull hmounted hfoot hscan hnand => if_pos (by simp [hdeck, hfull, hmounted, hfoot, hscan, hnand]),
    fun s channels hrel hnand => if_pos (by simp [hrel, hnand]), fun s bad hddr hscan => if_pos (by simp [hddr, hscan])⟩
  · simp [exec, execFirmwareVerified, hslot, hphase, hrun, hent]
  · simp [exec, execFirmwareVerified, hphase, hrun, hent, Boot.bootSlot_none ha hb]

/-! ### Memory training -/

/-- A mask built bit by bit has the bits that were asked for. -/
theorem bit_foldl_mask (p : Nat → Bool) (n : Nat) :
    ((List.range n).foldl (fun a c => a + if p c then 2 ^ c else 0) 0 < 2 ^ n) ∧
      ∀ c, c < n → bit ((List.range n).foldl (fun a c => a + if p c then 2 ^ c else 0) 0) c = p c := by
  induction n with
  | zero => simp
  | succ n ih =>
    obtain ⟨hlt, hbit⟩ := ih
    rw [List.range_succ, List.foldl_concat]
    generalize (List.range n).foldl (fun a c => a + if p c then 2 ^ c else 0) 0 = m at hlt hbit
    cases hp : p n with
    | false =>
      simp only [Bool.false_eq_true, if_false, Nat.add_zero]
      refine ⟨hlt.trans (Nat.pow_lt_pow_right (by omega) (by omega)), fun c hc => ?_⟩
      rcases Nat.lt_succ_iff_lt_or_eq.1 hc with hc | rfl
      · exact hbit c hc
      · rw [hp, bit, Nat.div_eq_of_lt hlt]
        rfl
    | true =>
      simp only [if_true]
      refine ⟨by rw [Nat.pow_succ]; omega, fun c hc => ?_⟩
      rcases Nat.lt_succ_iff_lt_or_eq.1 hc with hc | rfl
      · rw [← hbit c hc]
        obtain ⟨k, rfl⟩ : ∃ k, n = c + k + 1 := ⟨n - c - 1, by omega⟩
        have hsplit : (m + 2 ^ (c + k + 1)) / 2 ^ c = m / 2 ^ c + 2 ^ (k + 1) := by
          rw [Nat.add_assoc, Nat.pow_add 2 c, Nat.add_mul_div_left _ _ (Nat.two_pow_pos c)]
        rw [bit, bit, hsplit, Nat.pow_succ, Nat.add_mul_mod_self_right]
      · rw [hp, bit, Nat.add_div_right _ (Nat.two_pow_pos c), Nat.div_eq_of_lt hlt]
        rfl

theorem ddr5CalibrationComplete_next (s : State) (dimms : List (Nat × Nat × Nat)) (hrel : s.released = true)
    (hdone : s.boot.ddrDone = false) :
    ∃ b : Boot, exec (.ddr5CalibrationComplete dimms) s = .next ({ s with boot := b }).readyChanged ∧ b.ddrDone = true ∧
      (∀ d, d ∈ b.dimms ↔ d ∈ dimms ∧ d.1 < 8 ∧ d.2.1 ≠ 0 ∧ d.2.2 ≠ 0) ∧
      b.ddrRate = (if ∃ d ∈ dimms, d.1 < 8 ∧ 2 ≤ d.2.1 then 5600 else 6400) ∧
      (∀ c, c < 8 → (bit b.causewayOk c = true ↔ ∃ d ∈ b.dimms, d.1 = c)) := by
  refine ⟨_, if_pos (by simp [hrel, hdone]), rfl, fun d => ?_, ?_, fun c hc => ?_⟩
  · simp only [List.mem_filter, decide_eq_true_eq, Bool.and_eq_true, bne_iff_ne, ne_eq]
    tauto
  · refine if_congr ?_ rfl rfl
    simp only [List.any_eq_true, List.mem_filter, decide_eq_true_eq, Bool.and_eq_true, bne_iff_ne, ne_eq]
    constructor
    · rintro ⟨d, ⟨hd, hlt, -⟩, h2⟩
      exact ⟨d, hd, hlt, h2⟩
    · rintro ⟨d, hd, hlt, h2⟩
      exact ⟨d, ⟨hd, hlt, by omega⟩, h2⟩
  · rw [(bit_foldl_mask _ 8).2 c hc]
    simp

theorem hbmTrainingComplete_next (s : State) (lanes : List (Nat × Nat × Nat)) (hrel : s.released = true)
    (htrained : s.boot.deckTrained = false) :
    ∃ u : State, exec (.hbmTrainingComplete lanes) s = .next u.readyChanged ∧ u.boot.deckTrained = true ∧
      (∀ n, n < 6 → (bit u.boot.stackOk n = true ↔ ∀ x ∈ lanes, x.1 = n → x.2.2 ≤ 4)) ∧
      u.boot.stacksAtStart = ((List.range 6).filter (fun n => bit u.boot.stackOk n)).length ∧
      u.store = s.store ∧ u.stg = s.stg ∧ u.sec = s.sec ∧ u.pool = s.pool := by
  have hbit : ∀ n, n < 6 → bit (((List.range 6).filter fun n => !lanes.any (fun x => x.1 == n && 4 < x.2.2)).foldl
      (fun a n => a + 2 ^ n) 0) n = !lanes.any (fun x => x.1 == n && 4 < x.2.2) := fun n hn => by
    rw [List.foldl_filter, ← (bit_foldl_mask (fun n => !lanes.any (fun x => x.1 == n && 4 < x.2.2)) 6).2 n hn]
    congr 2
    funext a c
    split <;> simp_all
  refine ⟨_, if_pos (by simp [hrel, htrained]), rfl, fun n hn => ?_, ?_, rfl, rfl, rfl, rfl⟩
  · rw [hbit n hn]
    simp
  · refine congrArg List.length (List.filter_congr fun n hn => ?_)
    rw [hbit n (List.mem_range.1 hn)]

/-- Settles O16. -/
theorem memoryTraining : Obligations.MemoryTraining := ⟨ddr5CalibrationComplete_next, hbmTrainingComplete_next⟩

end Sys2Proof.Machine
end

section
/-! PROOFS. Signalling.lean: what signalling leaves of the queues and of telemetry: all of a pair but its pending count, and of
telemetry all but counters, monitors, vectors and raised sources. -/
namespace Sys2Proof.Machine

/-- A pair without its count of completions not signalled yet. -/
def unpend (q : QPair) : QPair := { q with pend := 0 }

/-- Telemetry without what signalling moves. -/
def Telemetry.still (t : Telemetry) : Telemetry :=
  { t with counters := [], wraps := [], monitors := [], vectors := [], shared := 0, waiting := 0, deferred := [] }

/-- `t` is `s` but for the pairs' pending counts, what signalling moves of telemetry, and the outputs. -/
def Rings (s t : State) : Prop :=
  ∃ pairs tel out, t = { s with q.pairs := pairs, tel := tel, out := out } ∧ pairs.map unpend = s.q.pairs.map unpend ∧
    tel.still = s.tel.still

theorem Rings.refl (s : State) : Rings s s := ⟨_, _, _, rfl, rfl, rfl⟩

theorem Rings.trans {s t u : State} : Rings s t → Rings t u → Rings s u := by
  rintro ⟨_, _, _, rfl, hp, ht⟩ ⟨_, _, _, rfl, hp', ht'⟩
  exact ⟨_, _, _, rfl, hp'.trans hp, ht'.trans ht⟩

/-- A step that moves only what signalling moves of telemetry. -/
theorem Rings.of_tel {s : State} {tel : Telemetry} (h : tel.still = s.tel.still) : Rings s { s with tel := tel } :=
  ⟨_, _, _, rfl, rfl, h⟩

theorem Rings.ite {c : Prop} [Decidable c] {s t u : State} (ht : Rings s t) (hu : Rings s u) : Rings s (if c then t else u) := by
  split
  · exact ht
  · exact hu

theorem Rings.signals {s t : State} : Rings s t → Signals s t := by
  rintro ⟨_, _, _, rfl, -, -⟩
  exact ⟨_, _, _, rfl⟩

theorem State.addCounter_rings (s : State) (i n : Nat) : Rings s (s.addCounter i n) := Rings.of_tel rfl

theorem State.setVector_rings (s : State) (v : Vector) : Rings s (s.setVector v) := Rings.of_tel rfl

theorem State.emit_rings (s : State) (o : Output) : Rings s (s.emit o) := ⟨_, _, _, rfl, rfl, rfl⟩

theorem State.countIrq_rings (s : State) (i n : Nat) : Rings s (s.countIrq i n) := Rings.of_tel rfl

/-- Clearing the pending counts of some pairs. -/
theorem Rings.clear_pend (s : State) (p : QPair → Bool) :
    Rings s { s with q.pairs := upd p (fun q : QPair => { q with pend := 0 }) s.q.pairs } := by
  refine ⟨_, _, _, rfl, ?_, rfl⟩
  rw [upd, List.map_map]
  refine List.map_congr_left fun q _ => ?_
  rw [Function.comp_apply]
  split <;> rfl

theorem State.sendOne_rings (s : State) (v : Vector) : Rings s (s.sendOne v) := by
  unfold State.sendOne
  extract_lets t u w x
  have ht : Rings s t := s.countIrq_rings _ _
  have hu : Rings s u := .ite (ht.trans (t.countIrq_rings _ _)) ht
  have hw : Rings s w := hu.trans ((u.countIrq_rings _ _).trans (State.countIrq_rings _ _ _))
  exact hw.trans ((Rings.clear_pend w _).trans ((State.setVector_rings _ _).trans (State.emit_rings _ _)))

theorem State.pendOne_rings (s : State) (f : Fn) (n : Nat) (now : Bool) : Rings s (s.pendOne f n now) := by
  unfold State.pendOne
  extract_lets v idle w
  exact .ite (s.setVector_rings w) (.ite (s.sendOne_rings w) (.ite ((s.countIrq_rings _ _).trans (State.sendOne_rings _ w))
    (s.setVector_rings w)))

theorem State.pendSrcOne_rings (s : State) (src : Nat) (f : Fn) (n : Nat) : Rings s (s.pendSrcOne src f n) :=
  .ite (s.pendOne_rings f n false) ((s.pendOne_rings f n false).trans (State.setVector_rings _ _))

theorem State.raiseOne_rings (s : State) (src : Nat) : Rings s (s.raiseOne src) := by
  unfold State.raiseOne
  split
  · exact Rings.refl s
  · extract_lets _ t
    have ht : Rings s t := Rings.of_tel rfl
    split
    · exact ht.trans (t.pendSrcOne_rings _ _ _)
    · exact ht.trans (Rings.of_tel rfl)

theorem State.noteHit_rings {s t : State} (h : Rings s t) : Rings s (s.noteHit t) := .ite (h.trans (t.raiseOne_rings 4)) h

theorem State.raiseSrc_rings (s : State) (src : Nat) : Rings s (s.raiseSrc src) := State.noteHit_rings (s.raiseOne_rings src)

theorem State.pendVector_rings (s : State) (f : Fn) (n : Nat) (now : Bool) : Rings s (s.pendVector f n now) :=
  State.noteHit_rings (s.pendOne_rings f n now)

theorem State.sendVector_rings (s : State) (v : Vector) : Rings s (s.sendVector v) := State.noteHit_rings (s.sendOne_rings v)

theorem State.pendSrc_rings (s : State) (src : Nat) (f : Fn) (n : Nat) : Rings s (s.pendSrc src f n) :=
  State.noteHit_rings (s.pendSrcOne_rings src f n)

theorem State.setMonitors_rings (s : State) (l : List Monitor) : Rings s (s.setMonitors l) := by
  unfold State.setMonitors
  extract_lets before _ t
  have ht : Rings s t := Rings.of_tel rfl
  exact .ite (ht.trans (t.raiseSrc_rings 4)) ht

theorem State.count_rings (s : State) (e : Event) : Rings s (s.count e) := by
  unfold State.count
  extract_lets t
  have ht : Rings s t := s.addCounter_rings _ _
  exact .ite (ht.trans (t.setMonitors_rings _)) ht

theorem State.event_rings (s : State) (e : Event) : Rings s (s.event e) := .ite (Rings.of_tel rfl) (s.count_rings e)

theorem State.bump_rings (s : State) (src n : Nat) : Rings s (s.bump src n) := .ite (Rings.refl s) (s.event_rings _)

theorem State.bumpAt_rings (s : State) (src n : Nat) (part obj : Option Nat) : Rings s (s.bumpAt src n part obj) :=
  .ite (Rings.refl s) (s.event_rings _)

/-- A pair found by its index, but for its pending count. -/
theorem Rings.pair {s t : State} (h : Rings s t) (i : Nat) : (t.pair i).map unpend = (s.pair i).map unpend := by
  obtain ⟨pairs, _, _, rfl, hp, -⟩ := h
  have hfind : ∀ l : List QPair, (l.find? (·.index == i)).map unpend = (l.map unpend).find? (·.index == i) := fun l => by
    rw [List.find?_map]
    rfl
  exact (hfind pairs).trans ((congrArg (List.find? (·.index == i)) hp).trans (hfind s.q.pairs).symm)

end Sys2Proof.Machine
end

section
/-! PROOFS. WarmReset.lean: the warm reset by either route. -/
namespace Sys2Proof.Machine

/-- The end of a session leaves the device's own parts alone, and LAST_CAUSE names its cause only when there was a session. -/
theorem State.endSession_frame (s : State) (cause : Nat) :
    (s.endSession cause).boot = s.boot ∧ (s.endSession cause).clock = s.clock ∧ (s.endSession cause).mgmt = s.mgmt ∧
      (s.endSession cause).host = s.host ∧ (s.endSession cause).pending = s.pending ∧
      (s.endSession cause).sec.config = s.sec.config ∧ (s.endSession cause).tel.funcMask = s.tel.funcMask ∧
      (s.endSession cause).sec.lastCause = if s.sec.keysPresent then cause else s.sec.lastCause := by
  unfold State.endSession State.hasSession
  split
  · obtain ⟨_, tel, _, h, -, htel⟩ : Rings _ ((State.failTdis _ (fun _ => true)).securityChanged) :=
      (State.bump_rings _ 0x306 _).trans (State.raiseSrc_rings _ 8)
    have hmask := congrArg Telemetry.funcMask htel
    rw [h]
    exact ⟨rfl, rfl, rfl, rfl, rfl, rfl, hmask, rfl⟩
  · exact ⟨rfl, rfl, rfl, rfl, rfl, rfl, rfl, rfl⟩

/-- Settles O18: both routes take the same reset, and what is raised at its end only waits, since nothing is routed any more. -/
theorem warmResetClears : Obligations.WarmResetClears := by
  unfold Obligations.WarmResetClears
  refine ⟨fun s i cause hroute => ?_, fun s f tee v hkey => if_neg (by simp [hkey])⟩
  have hexec : exec i s = .next (s.warmReset cause) := by
    obtain ⟨rfl, rfl, hoff, htripped, hheld⟩ | ⟨f, tee, v, rfl, rfl, hlink, hhears, hkey, hbit, hwrite, hlife⟩ := hroute
    · exact if_neg (by simp [hoff, htripped, hheld])
    · exact if_pos (by simp [hlink, hhears, hkey, hbit, hwrite, hlife])
  obtain ⟨hboot, hclock, hmgmt, hhost, hpending, hconfig, hmask, hcause⟩ := s.endSession_frame cause
  have hready : ∀ (t : State) (was : Nat), t.tel.routes = [] → t.tel.monitors = [] →
      ∃ shared waiting, t.noteReady was = { t with tel.shared := shared, tel.waiting := waiting } := fun t was hr hm => by
    unfold State.noteReady
    split
    · exact ⟨t.tel.shared, t.tel.waiting, rfl⟩
    · exact State.raiseSrc_of_unrouted hr hm 0
  obtain ⟨_, _, hreset⟩ : ∃ shared waiting, s.warmReset cause = _ := hready _ _ rfl rfl
  refine ⟨_, hexec, ?_⟩
  rw [hreset]
  refine ⟨rfl, rfl, rfl, rfl, rfl, rfl, rfl, rfl, rfl, rfl, rfl, rfl, rfl, rfl, rfl, rfl, rfl, rfl, rfl, hmask, rfl, rfl, rfl, rfl,
    rfl, rfl, rfl, rfl, rfl, ?_, rfl, hconfig, rfl, rfl, fun h => hcause.trans (if_pos h), fun h => hcause.trans (if_neg (by simp [h])),
    (congrArg Boot.fuses hboot :), (congrArg Boot.deckTrained hboot :), (congrArg Boot.stackOk hboot :), (congrArg Boot.dimms hboot :),
    (congrArg Boot.perst hboot :), (congrArg Clock.now hclock :), (congrArg Mgmt.anchors hmgmt :), (congrArg Mgmt.policy hmgmt :),
    (congrArg Mgmt.ceiling hmgmt :), hhost, hpending⟩
  intro m hm
  obtain ⟨x, -, rfl⟩ := List.mem_map.1 hm
  exact ⟨rfl, rfl⟩

end Sys2Proof.Machine
end

section
/-! PROOFS. Watching.lean: what entering link-watch takes away. -/
namespace Sys2Proof.Machine

/-- A device with an RMA connection on Ethernet port 0 and a request from that connection that its pool holds back (R325, R352). -/
def heldInbound : State := { Tests.remote with
  pool.heldReqs := [⟨⟨0, 0, 0, false⟩, 0, 2 ^ 32, .inbound ⟨0, Tests.conn0.qpn, 0, none, none, 0, [], 0, 0⟩⟩] }

/-- Refutes O17: entering link-watch fails the connections of the Ethernet ports, and with each goes what the pool holds back for it, so
the pool does not stay as it was. -/
theorem not_linkWatch : ¬ Obligations.LinkWatch := by
  unfold Obligations.LinkWatch
  rintro ⟨-, hwatch, -⟩
  obtain ⟨-, -, -, -, -, hpool, -⟩ := hwatch heldInbound 0 (.inl rfl)
  have hgone : (heldInbound.watch 0).pool.heldReqs = [] := by decide +kernel
  have hkept : (heldInbound.watch 0).pool.heldReqs = heldInbound.pool.heldReqs := by rw [hpool]
  exact absurd (hgone.symm.trans hkept) (by decide +kernel)

end Sys2Proof.Machine
end

section
/-! PROOFS. AdminPair.lean: the queue pair that the QM_ADMIN registers make and take away. -/
namespace Sys2Proof.Machine

/-! ### Waking, finding registers and pairs -/

/-- Waking touches only the start-up's state and the clock. -/
theorem State.wake_eq (s : State) : ∃ boot clock, s.wake = { s with boot := boot, clock := clock } := by
  unfold State.wake
  split
  · exact ⟨_, _, rfl⟩
  · exact ⟨_, _, rfl⟩

@[simp] theorem State.wake_q (s : State) : s.wake.q = s.q := by
  obtain ⟨_, _, h⟩ := s.wake_eq
  rw [h]

@[simp] theorem State.wake_store (s : State) : s.wake.store = s.store := by
  obtain ⟨_, _, h⟩ := s.wake_eq
  rw [h]

@[simp] theorem State.wake_stg (s : State) : s.wake.stg = s.stg := by
  obtain ⟨_, _, h⟩ := s.wake_eq
  rw [h]

@[simp] theorem State.wake_sec (s : State) : s.wake.sec = s.sec := by
  obtain ⟨_, _, h⟩ := s.wake_eq
  rw [h]

theorem State.adminOf_fn (s : State) (f : Fn) : (s.adminOf f).fn = f := by
  unfold State.adminOf
  split
  · rename_i a ha
    simpa using List.find?_some ha
  · rfl

theorem State.pair_index {s : State} {i : Nat} {q : QPair} (h : s.pair i = some q) : q.index = i := by
  simpa using List.find?_some h

/-- Registers that are set are found. -/
theorem State.adminOf_setAdmin (s : State) {f : Fn} {a : AdminRegs} (h : a.fn = f) : (s.setAdmin a).adminOf f = a := by
  subst h
  simp [State.adminOf, State.setAdmin]

theorem find?_insertBy_same {le : QPair → QPair → Bool} {q : QPair} {i : Nat} (hq : q.index = i) :
    ∀ {l : List QPair}, l.find? (·.index == i) = none → (insertBy le q l).find? (·.index == i) = some q := by
  intro l
  induction l with
  | nil => exact fun _ => List.find?_cons_of_pos (by simp [hq])
  | cons y l ih =>
    intro h
    obtain ⟨hy, hl⟩ : y.index ≠ i ∧ l.find? (·.index == i) = none := by simpa [List.find?_eq_none] using h
    unfold insertBy
    split
    · simp [hy, ih hl]
    · exact List.find?_cons_of_pos (by simp [hq])

theorem find?_insertBy_other {le : QPair → QPair → Bool} {q : QPair} {j : Nat} (hq : q.index ≠ j) (l : List QPair) :
    (insertBy le q l).find? (·.index == j) = l.find? (·.index == j) := by
  induction l with
  | nil => simp [insertBy, hq]
  | cons y l ih =>
    unfold insertBy
    split
    · rw [List.find?_cons, List.find?_cons, ih]
    · exact List.find?_cons_of_neg (by simp [hq])

/-- Changing only pairs of another index does not change what is found at an index. -/
theorem find?_upd_other {p : QPair → Bool} {f : QPair → QPair} {j : Nat} (h : ∀ x, p x = true → x.index ≠ j ∧ (f x).index ≠ j)
    (l : List QPair) : (upd p f l).find? (·.index == j) = l.find? (·.index == j) := by
  unfold upd
  induction l with
  | nil => rfl
  | cons x l ih =>
    by_cases hx : p x = true
    · simp [hx, h x hx, ih]
    · simp [hx, List.find?_cons, ih]

/-! ### Taking a pair away -/

theorem filter_upd_index {i : Nat} {f : QPair → QPair} (hf : ∀ x, (f x).index = i) (l : List QPair) :
    (upd (·.index == i) f l).filter (·.index != i) = l.filter (·.index != i) := by
  unfold upd
  induction l with
  | nil => rfl
  | cons x l ih =>
    simp only [beq_iff_eq] at ih
    by_cases hx : x.index = i <;> simp [hx, hf, ih]

/-- What stops waiting for an interrupt when a pair goes: every other pair stays but for its pending count. -/
theorem State.discardCq_others (s : State) (i : Nat) : ∃ pairs tel out,
    s.discardCq i = { s with q.pairs := pairs, tel := tel, out := out } ∧
    (pairs.filter (·.index != i)).map unpend = (s.q.pairs.filter (·.index != i)).map unpend := by
  unfold State.discardCq
  split
  · exact ⟨_, _, _, rfl, rfl⟩
  · rename_i q hq
    split
    · exact ⟨_, _, _, rfl, rfl⟩
    · have hrings : Rings s (s.discardSome (s.vector q.owner q.vector) q.pend) := .ite (Rings.refl s)
        (State.noteHit_rings ((s.countIrq_rings _ _).trans (State.setVector_rings _ _)))
      obtain ⟨pairs, _, _, hd, hp, -⟩ := hrings
      have hindex : q.index = i := State.pair_index hq
      refine ⟨upd (·.index == q.index) (fun _ => { q with pend := 0 }) pairs, _, _, congrArg (State.setPair · _) hd, ?_⟩
      have hunpend : ∀ l : List QPair, (l.filter (·.index != i)).map unpend = (l.map unpend).filter (·.index != i) := fun l => by
        rw [List.filter_map]
        rfl
      refine (congrArg (List.map unpend) ?_).trans ((hunpend pairs).trans ((congrArg _ hp).trans (hunpend _).symm))
      rw [← hindex]
      exact filter_upd_index (f := fun _ => { q with pend := 0 }) (fun _ => rfl) pairs

theorem State.removePair_frame (s : State) (i : Nat) : (s.removePair i).q.admin = s.q.admin ∧ (s.removePair i).q.ops = s.q.ops ∧
    (s.removePair i).pair i = none ∧ ∀ j, j ≠ i → ((s.removePair i).pair j).map unpend = (s.pair j).map unpend := by
  obtain ⟨pairs, tel, out, hd, hp⟩ := s.discardCq_others i
  have hfind : ∀ (l : List QPair) (j : Nat), j ≠ i →
      (l.find? (·.index == j)).map unpend = (((l.filter (·.index != i)).map unpend).find? (·.index == j)) := fun l j hj => by
    rw [List.find?_map, List.find?_filter]
    congr 2
    funext q
    by_cases hq : q.index = j <;> simp [unpend, hq, hj]
  unfold State.removePair
  rw [hd]
  refine ⟨rfl, rfl, List.find?_eq_none.2 fun q hq => ?_, fun j hj => ?_⟩
  · have hne := (List.mem_filter.1 hq).2
    simpa using hne
  · refine (hfind _ j hj).trans (Eq.trans ?_ (hfind s.q.pairs j hj).symm)
    rw [List.filter_filter]
    simp only [Bool.and_self]
    rw [hp]

/-- The registers of a function show no pair. -/
def State.adminOff (s : State) (f : Fn) : Prop := ∀ a ∈ s.q.admin, a.fn = f → a.enable = false ∧ a.ready = false

theorem State.adminOff.adminOf {s : State} {f : Fn} (h : s.adminOff f) : (s.adminOf f).enable = false ∧ (s.adminOf f).ready = false := by
  unfold State.adminOf
  split
  · rename_i a ha
    exact h a (List.mem_of_find?_eq_some ha) (by simpa using List.find?_some ha)
  · exact ⟨rfl, rfl⟩

theorem State.adminOff.setAdmin {s : State} {f : Fn} {a : AdminRegs} (h : s.adminOff f)
    (ha : a.fn = f → a.enable = false ∧ a.ready = false) : (s.setAdmin a).adminOff f := by
  intro x hx hf
  obtain rfl | hx := List.mem_cons.1 hx
  · exact ha hf
  · exact h x (List.mem_filter.1 hx).1 hf

/-- Registers that are set to show no pair do so, whatever the others held. -/
theorem State.setAdmin_adminOff (s : State) {a : AdminRegs} (ha : a.enable = false ∧ a.ready = false) :
    (s.setAdmin a).adminOff a.fn := by
  intro x hx hf
  obtain rfl | hx := List.mem_cons.1 hx
  · exact ha
  · exact absurd hf (by simpa using (List.mem_filter.1 hx).2)

theorem State.adminSweep_adminOff {s : State} {f : Fn} (h : s.adminOff f) : s.adminSweep.adminOff f := by
  have hfold : ∀ (l : List AdminRegs), (∀ a ∈ l, a.fn = f → a.enable = false ∧ a.ready = false) → ∀ t : State, t.adminOff f →
      (l.foldl (fun s a => (s.removePair a.index).setAdmin { a with busy := false }) t).adminOff f := by
    intro l
    induction l with
    | nil => exact fun _ _ ht => ht
    | cons a l ih =>
      intro hl t ht
      refine ih (fun x hx => hl x (List.mem_cons_of_mem _ hx)) _ (State.adminOff.setAdmin ?_ (hl a List.mem_cons_self))
      exact fun x hx => ht x ((t.removePair_frame a.index).1 ▸ hx)
  exact hfold _ (fun a ha => h a (List.mem_filter.1 ha).1) s h

/-! ### The registers -/

theorem exec_adminQueueEnable {s : State} {f : Fn} {tee : Bool} {v i : Nat} (hlink : s.boot.link = true)
    (hhears : s.hears f tee = true) (hbit : bit v 31 = true) (hoff : (s.adminOf f).enable = false) (hidle : (s.adminOf f).busy = false)
    (hrings : ringsOk (s.adminOf f).sqBase (s.adminOf f).cqBase ((s.adminOf f).depth % 2 ^ 16)
      ((s.adminOf f).depth / 2 ^ 16 % 2 ^ 16) = true) (hmay : s.wake.mayPair f true 0 = true)
    (hpart : s.wake.partLink f.link 0 = true) (hi : (if s.wake.q.firstAdmin then s.wake.freeIndex 2 true else some 0) = some i) :
    exec (.adminQueueEnable ⟨f, tee⟩ v) s = .next (({ s.wake.addPair (QPair.new i f true 0 0 (v % 2 ^ 11) (s.adminOf f).sqBase
      (s.adminOf f).cqBase ((s.adminOf f).depth % 2 ^ 16) ((s.adminOf f).depth / 2 ^ 16 % 2 ^ 16)) with q.firstAdmin := true }).setAdmin
      { s.adminOf f with enable := true, vector := v % 2 ^ 11, ready := true, busy := false, fail := 0, index := i }) := by
  simp only [exec, execAdminQueueEnable, hlink, hhears, hbit, hoff, hidle, hrings, hmay, hpart, hi, Bool.not_true, Bool.or_self,
    Bool.false_eq_true, if_false]

theorem exec_adminQueueDisable {s : State} {f : Fn} {tee : Bool} (hlink : s.boot.link = true) (hhears : s.hears f tee = true)
    (hon : (s.adminOf f).enable = true) : ∃ w : State, exec (.adminQueueDisable ⟨f, tee⟩) s =
      .next (w.setAdmin { s.adminOf f with enable := false, ready := false, busy := true }).adminSweep ∧
      ((∀ o ∈ s.q.ops, o.qp ≠ (s.adminOf f).index) →
        w.q = { s.q with
          pairs := upd (fun q : QPair => q.index == (s.adminOf f).index) (fun q : QPair => { q with deleting := true }) s.q.pairs }) := by
  refine ⟨_, if_neg (by simp [hlink, hhears, hon]), fun h => ?_⟩
  have hnone : s.wake.q.ops.filter (fun x => x.qp == (s.adminOf f).index) = [] :=
    List.filter_eq_nil_iff.2 fun o ho => by simpa using h o (s.wake_q ▸ ho)
  dsimp only
  rw [hnone]
  exact congrArg (fun q : Queues => { q with
    pairs := upd (fun x : QPair => x.index == (s.adminOf f).index) (fun x : QPair => { x with deleting := true }) q.pairs }) s.wake_q

/-- Settles O19: a new pair stands at its free index, and the sweep after ENABLE is cleared finds one set of registers busy. -/
theorem adminQueue : Obligations.AdminQueue := by
  unfold Obligations.AdminQueue
  refine ⟨?enabled, ?refused, ?gone, ?cleared⟩
  case enabled =>
    intro s f tee v i hlink hhears hbit hoff hidle hmay hpart hrings hi hfree
    have hfn := s.adminOf_fn f
    have hexec := exec_adminQueueEnable hlink hhears hbit hoff hidle hrings hmay hpart hi
    have hregs : ∀ w : State, (w.setAdmin { s.adminOf f with
        enable := true, vector := v % 2 ^ 11, ready := true, busy := false, fail := 0, index := i }).adminOf f = { s.adminOf f with
        enable := true, vector := v % 2 ^ 11, ready := true, busy := false, fail := 0, index := i } :=
      fun w => w.adminOf_setAdmin hfn
    have hpairs : s.wake.q.pairs = s.q.pairs := congrArg Queues.pairs s.wake_q
    refine ⟨_, hexec, (congrArg (fun l => List.find? _ (insertBy _ _ l)) hpairs).trans (find?_insertBy_same (i := i) rfl hfree),
      congrArg AdminRegs.enable (hregs _), congrArg AdminRegs.ready (hregs _), congrArg AdminRegs.index (hregs _),
      congrArg AdminRegs.fail (hregs _), fun j hj => (congrArg (fun l => List.find? _ (insertBy _ _ l)) hpairs).trans
        (find?_insertBy_other (Ne.symm hj) _), s.wake_store, s.wake_stg, s.wake_sec⟩
  case refused =>
    intro s f tee v hlink hhears hbit hoff hidle
    refine ⟨fun hrings => ?_, fun hrings hmay => ?_⟩
    · simp only [exec, execAdminQueueEnable, hlink, hhears, hbit, hoff, hidle, hrings, Bool.not_true, Bool.not_false, Bool.or_self,
        Bool.false_eq_true, if_false, if_true]
    · simp only [exec, execAdminQueueEnable, hlink, hhears, hbit, hoff, hidle, hrings, hmay, Bool.not_true, Bool.not_false,
        Bool.or_self, Bool.true_or, Bool.false_eq_true, if_false, if_true]
  case gone =>
    intro s f tee hlink hhears hon hops hidle
    obtain ⟨w, hexec, hw⟩ := exec_adminQueueDisable hlink hhears hon
    have hq := hw hops
    have hfn := s.adminOf_fn f
    generalize s.adminOf f = a at *
    have hlast : (w.setAdmin { a with enable := false, ready := false, busy := true }).adminSweep =
        ((w.setAdmin { a with enable := false, ready := false, busy := true }).removePair a.index).setAdmin
          { a with enable := false, ready := false, busy := false } := by
      have hbusy : ((w.setAdmin { a with enable := false, ready := false, busy := true }).q.admin.filter
          (fun x => x.busy && !w.q.ops.any (fun o => o.qp == x.index))) = [{ a with enable := false, ready := false, busy := true }] := by
        rw [hq]
        refine List.filter_cons_of_pos (by simpa using hops) |>.trans (congrArg _ (List.filter_eq_nil_iff.2 fun x hx => ?_))
        have hx' := (List.mem_filter.1 hx).1
        rw [hq] at hx'
        simp [hidle x hx']
      exact congrArg (List.foldl _ _) hbusy
    obtain ⟨-, hkept, hnone, hothers⟩ := (w.setAdmin { a with enable := false, ready := false, busy := true }).removePair_frame a.index
    have hregs := State.adminOf_setAdmin ((w.setAdmin { a with enable := false, ready := false, busy := true }).removePair a.index)
      (a := { a with enable := false, ready := false, busy := false }) hfn
    refine ⟨_, hexec.trans (congrArg _ hlast), hnone, congrArg AdminRegs.enable hregs, congrArg AdminRegs.ready hregs,
      congrArg AdminRegs.busy hregs, fun j hj => (hothers j hj).trans ?_, hkept.trans ?_⟩
    · refine congrArg (Option.map unpend) ?_
      show w.q.pairs.find? _ = s.q.pairs.find? _
      rw [hq]
      exact find?_upd_other (fun x hx => by simp [beq_iff_eq.1 hx, Ne.symm hj]) _
    · show w.q.ops = s.q.ops
      rw [hq]
  case cleared =>
    intro s f tee hlink hhears hon
    obtain ⟨w, hexec, -⟩ := exec_adminQueueDisable hlink hhears hon
    have hoff := (w.setAdmin_adminOff (a := { s.adminOf f with enable := false, ready := false, busy := true }) ⟨rfl, rfl⟩)
    rw [show ({ s.adminOf f with enable := false, ready := false, busy := true } : AdminRegs).fn = f from s.adminOf_fn f] at hoff
    exact ⟨_, hexec, (State.adminSweep_adminOff hoff).adminOf⟩

end Sys2Proof.Machine
end

section
/-! PROOFS. QueuesAndOperations.lean: doorbells, fetches, and the life of an operation. -/
namespace Sys2Proof.Machine

/-! ### Doorbells -/

/-- Settles O20: each clause names the branch that its ring arithmetic selects. -/
theorem doorbells : Obligations.Doorbells := by
  unfold Obligations.Doorbells
  refine ⟨fun s f tee qp v q hq ho hh => ⟨fun hin hroom => ?_, fun hout => ?_, fun hin hpast => ?_⟩,
    fun s f tee qp v q hq ho hh => ⟨fun hin hpos hsome => ?_, fun hin hall hpos => ?_, fun hout => ?_⟩,
    fun s f tee qp v q hq ho => ⟨?_, ?_⟩⟩
  · simp only [exec, execSqTailDoorbell, hq, ho, hh, bne_self_eq_false, Bool.not_true, Bool.or_self, Bool.false_eq_true, if_false,
      if_neg (Nat.not_le.2 hin), if_neg (Nat.not_le.2 hroom), ge_iff_le]
  · simp only [exec, execSqTailDoorbell, hq, ho, hh, bne_self_eq_false, Bool.not_true, Bool.or_self, Bool.false_eq_true, if_false,
      if_pos hout, ge_iff_le]
  · simp only [exec, execSqTailDoorbell, hq, ho, hh, bne_self_eq_false, Bool.not_true, Bool.or_self, Bool.false_eq_true, if_false,
      if_neg (Nat.not_le.2 hin), if_pos hpast, ge_iff_le]
  · simp only [exec, execCqHeadDoorbell, hq, ho, hh, bne_self_eq_false, Bool.not_true, Bool.or_self, Bool.false_eq_true, if_false,
      if_neg (Nat.not_le.2 hin), ge_iff_le, gt_iff_lt, hpos.ne', decide_false, Bool.false_and, if_neg (Nat.lt_asymm hsome),
      if_neg hsome.ne']
  · simp only [exec, execCqHeadDoorbell, hq, ho, hh, bne_self_eq_false, Bool.not_true, Bool.or_self, Bool.false_eq_true, if_false,
      if_neg (Nat.not_le.2 hin), ge_iff_le, gt_iff_lt, hall, hpos.ne', decide_false, Bool.false_and, lt_irrefl, Nat.sub_self, if_true]
  · simp only [exec, execCqHeadDoorbell, hq, ho, hh, bne_self_eq_false, Bool.not_true, Bool.or_self, Bool.false_eq_true, if_false,
      if_pos hout, ge_iff_le]
  · simp only [exec, execSqTailDoorbell, hq, bne_iff_ne.2 ho, Bool.true_or, if_true]
  · simp only [exec, execCqHeadDoorbell, hq, bne_iff_ne.2 ho, Bool.true_or, if_true]

/-! ### Fetches -/

theorem State.fetchFrom_succ (s : State) (i n : Nat) : s.fetchFrom i (n + 1) =
    if (s.fetchOne i).1 = true then (s.fetchOne i).2.fetchFrom i n else (s.fetchOne i).2 := by
  have hstop : ∀ (k : Nat) (t : State),
      (fun a : Bool × State => if a.1 then a.2.fetchOne i else a)^[k] (false, t) = (false, t) := fun k t =>
    Function.iterate_fixed (x := (false, t)) rfl k
  unfold State.fetchFrom
  rw [List.foldl_const, List.foldl_const, List.length_range, List.length_range, Function.iterate_succ_apply]
  generalize hr : s.fetchOne i = r
  obtain ⟨_ | _, t⟩ := r
  · simp [hstop]
  · simp

/-- Settles O21: the CTL pair stands before the DATA pairs in the choice, and an entry is taken once its owner span has room. -/
theorem fetchPriority : Obligations.FetchPriority := by
  unfold Obligations.FetchPriority
  refine ⟨fun s span q hctl => ?_, fun s span q hdata hturn => ?_, fun s i q b hq hf hb => ⟨fun hroom => ?_, fun hroom t r ha => ?_⟩,
    State.fetchFrom_succ⟩
  · simp only [exec, execCommandFetch, hctl]
  · have hnone : (s.q.pairs.filter (fun q => q.index % 2 == span && s.fetchable q)).find? (·.ctl) = none := by
      refine List.find?_eq_none.2 fun x hx => ?_
      obtain ⟨hx, hmine⟩ := List.mem_filter.1 hx
      obtain ⟨hspan, hfetch⟩ := (Bool.and_eq_true _ _).mp hmine
      simp [hdata x hx (beq_iff_eq.1 hspan) hfetch]
    simp only [exec, execCommandFetch, hnone, hturn]
  · simp only [State.fetchOne, hq, hf, hb, hroom, Bool.not_true, Bool.not_false, Bool.false_eq_true, if_false, if_true]
  · simp only [State.fetchOne, hq, hf, hb, hroom, ha, Bool.not_true, Bool.false_eq_true, if_false]
    cases r <;> rfl

/-! ### The life of an operation -/

theorem Rings.ops {s t : State} (h : Rings s t) : t.q.ops = s.q.ops := by
  obtain ⟨_, _, _, rfl, -, -⟩ := h
  rfl

theorem State.gc_ops (s : State) : s.gc.q.ops = s.q.ops := by
  unfold State.gc
  extract_lets
  split <;> rfl

theorem State.setTags_ops (s : State) (span : Nat) (t : TagPool) : (s.setTags span t).q.ops = s.q.ops := by
  unfold State.setTags
  split <;> rfl

theorem State.ite_ops (f : State → State) (hf : ∀ t, (f t).q.ops = t.q.ops) {c : Prop} [Decidable c] (t : State) :
    (if c then f t else t).q.ops = t.q.ops := by
  split
  · exact hf t
  · rfl

theorem State.dropClaim_ops (s : State) : s.dropClaim.q.ops = s.q.ops := (State.raiseSrc_rings _ 8).ops

/-- An operation that ends leaves the table. -/
theorem State.endOp_ops (s : State) (tag : Nat) : (s.endOp tag).q.ops = s.q.ops.filter (·.tag != tag) := by
  unfold State.endOp
  split
  · rename_i hnone
    refine (List.filter_eq_self.2 fun o ho => ?_).symm
    simpa using List.find?_eq_none.1 hnone o ho
  · refine (State.ite_ops State.gc State.gc_ops _).trans ((State.ite_ops State.dropClaim State.dropClaim_ops _).trans ?_)
    exact congrArg (List.filter _) ((State.setTags_ops _ _ _).trans (State.ite_ops (State.purge · _) (fun _ => rfl) s))

theorem State.endOp_op (s : State) (tag : Nat) : (s.endOp tag).op tag = none := by
  refine List.find?_eq_none.2 fun o ho => ?_
  rw [s.endOp_ops tag] at ho
  simpa using (List.mem_filter.1 ho).2

theorem State.finalise_op (s : State) (tag : Nat) : (s.finalise tag).op tag = none := by
  unfold State.finalise
  extract_lets t
  split
  · exact State.endOp_op _ _
  · assumption

theorem State.finish_op (s : State) (tag : Nat) (st : Status) (r : Nat) : (s.finish tag st r).op tag = none := by
  unfold State.finish
  extract_lets t
  split
  · split
    · exact State.finalise_op _ _
    · exact State.endOp_op _ _
  · assumption

theorem BufPool.grantee_eq {b b' : BufPool} {x : Waiter} {part : Nat} (h : b.grantee = some (x, part, b')) :
    x ∈ b.waiters ∧ b.part x.cls = some part ∧ b' = { b.add part with waiters := b.waiters.filter (·.id != x.id) } := by
  obtain ⟨w, hw, hpart⟩ := List.exists_of_findSome?_eq_some h
  obtain ⟨p, hp, hx⟩ := Option.map_eq_some_iff.1 hpart
  cases hx
  exact ⟨hw, hp, rfl⟩

/-- Settles O22: each event of an operation's life in the branch that its state selects; an operation that finishes leaves the
table by either way. -/
theorem operationLife : Obligations.OperationLife := by
  unfold Obligations.OperationLife
  refine ⟨?start, ?grant, fun _ _ _ _ => BufPool.grantee_eq, ?more, ?last, ?final, State.finish_op⟩
  case start =>
    intro s w tag o p b ho hrev hmerge hlong hfin hstart hbody h36 hlaunch hp
    simp only [State.startable, Bool.and_eq_true, Bool.not_eq_true'] at hstart
    obtain ⟨⟨⟨hstarted, hhalt⟩, hawake⟩, hfence⟩ := hstart
    simp only [exec, execOperationStart, ho, hrev, hmerge, hbody, h36, State.start, hlong, hfin, hhalt, hawake, hstarted, hfence,
      hlaunch, hp, Bool.not_true, Bool.or_self, Bool.false_eq_true, if_false]
  case grant =>
    intro s pool b b' x part hb hg hx
    have hgrantee : (s.bufPool pool).bind BufPool.grantee = some (x, part, b') := by rw [hb]; exact hg
    simp only [exec, execBufferGrant, hgrantee, if_neg (Nat.not_le.2 hx)]
  case more =>
    intro s t tag r p o unit ho hrev hunit hlong hfin hhalt hmore
    simp only [exec, execLongOpUnitEnd, State.unit, ho, hrev, hunit, hlong, hfin, hhalt, hmore, Bool.not_true, Bool.or_self,
      Bool.false_eq_true, if_false]
  case last =>
    intro s t tag r p st o unit ho hrev hunit hlong hfin hhalt hlast
    simp only [exec, execLongOpUnitEnd, State.unit, ho, hrev, hunit, hlong, hfin, hhalt, hlast, Bool.not_true, Bool.or_self,
      Bool.false_eq_true, if_false]
  case final =>
    intro s tag o ho hlong hfin
    simp only [exec, execLongOpFinal, ho, hlong, hfin, Bool.and_self, if_true]

end Sys2Proof.Machine
end

section
/-! PROOFS. AdminAndStaging.lean: the administration and staging commands, the switch and the drain of a commit. -/
namespace Sys2Proof.Machine

/-- The row of a command that begins answers what its first unit answers. -/
theorem State.next_submit {s t : State} {op : Nat} {c : Cmd} {o : Op} {body : Op → State → BodyOut} {out : BodyOut}
    (h : s.begins op c = some (o, t)) (hout : body o t = out) :
    (.next (s.submit op body c) : Host.Outcome State Fault Refusal) = .next (State.settle o.tag out) :=
  congrArg _ ((State.submit_begins body h).trans (congrArg _ hout))

/-! ### Administration -/

/-- An ABORT that selects one operation. -/
theorem bodyAbort_one {t w : State} {o x : Op} {k : Nat} (hwork : o.work = .nothing) (hmode : o.p 8 1 < 3)
    (hpair : o.p 8 1 = 0 ∨ (t.pair (o.p 12 2)).isSome) (hsel : t.abortSelects o = [x]) (hone : t.abortOne x = (k, w)) :
    bodyAbort o t =
      if (x.shortStarted || (w.op x.tag).any (·.stopping.isSome)) = true then
        .wait .ended (w.setOp o.tag (fun y => { y with work := .slots [x.tag], result := 2 ^ (16 * k) }))
      else .done .ok (2 ^ (16 * k)) w := by
  have hnamed : (o.p 8 1 != 0 && (t.pair (o.p 12 2)).isNone) = false := by
    obtain h | h := hpair
    · simp [h]
    · simp [h]
  simp only [bodyAbort, hwork, hsel, hone, hnamed, decide_eq_false (Nat.not_le.2 hmode), Bool.or_self, Bool.false_eq_true, if_false,
    List.isEmpty_cons, Bool.and_false, List.foldl_cons, List.foldl_nil, List.filter_cons, List.filter_nil, Nat.zero_add]
  by_cases hleft : (x.shortStarted || (w.op x.tag).any (·.stopping.isSome)) = true <;> simp [hleft]

/-- What ABORT does to one operation that is no COMMIT in force. -/
theorem State.abortOne_plain {s : State} {x : Op} (h : s.commitStage x.tag = none) :
    (x.started = false → s.abortOne x = (0,
      (if x.opcode = 0x14 ∧ s.stg.session.any (fun y => y.id == x.p 8 2 && y.owner == x.qp) = true then
        { s with stg.session := none } else s).stopAny x.tag .aborted)) ∧
    (x.started = true → x.long = true → x.finished = false → s.abortOne x = (1, s.stopAny x.tag .aborted)) ∧
    (x.started = true → x.long = false ∨ x.finished = true → s.abortOne x = (2, s)) := by
  refine ⟨fun hs => ?_, fun hs hl hf => ?_, fun hs hlf => ?_⟩
  · simp only [State.abortOne, h, hs, Bool.not_false, if_true]
    have hsession : s.stg.session.filter (fun y => !(decide (x.opcode = 0x14) && decide (y.id = x.p 8 2) && decide (y.owner = x.qp))) =
        if x.opcode = 0x14 ∧ s.stg.session.any (fun y => y.id == x.p 8 2 && y.owner == x.qp) = true then none else s.stg.session := by
      cases s.stg.session with
      | none => simp
      | some y => by_cases hop : x.opcode = 0x14 <;> by_cases hy : y.id = x.p 8 2 ∧ y.owner = x.qp <;> simp [Option.filter, hop, hy]
    rw [hsession]
    split <;> rfl
  · simp [State.abortOne, h, hs, hl, hf]
  · obtain hl | hf := hlf
    · simp [State.abortOne, h, hs, hl]
    · simp [State.abortOne, h, hs, hf]

/-- Settles O23: each body in the branch that the arguments select. -/
theorem administrationCommands : Obligations.AdministrationCommands := by
  unfold Obligations.AdministrationCommands
  refine ⟨?identify, ?create, ?delete, ?abort, ?abortNone, fun s x => State.abortOne_plain, ?switched, ?waiting,
    fun s t c o h => State.next_submit h rfl⟩
  case identify =>
    intro s t w c o h hbuf hw
    refine State.next_submit (out := .done .ok 0 w) h ?_
    unfold bodyIdentify
    rw [if_neg (by simp [hbuf])]
    exact State.writeThen_wrote _ hw
  case create =>
    intro s t c o i h hidx hcls hrings hvec hpart hw1 hw16 hspan hvalid hmay hlink hfree
    refine State.next_submit (out := .done .ok i _) h ?_
    simp [bodyCreateQueuePair, hidx, hcls, hrings, Nat.not_le.2 hvec, Nat.not_le.2 hpart, Nat.not_lt.2 hw1, Nat.not_lt.2 hw16,
      hspan, hvalid, hmay, hlink, hfree]
  case delete =>
    intro s t c o q h hq h0 hown hdel
    refine State.next_submit (out := .long 2 0 (t.setPair { q with deleting := true })) h ?_
    simp [bodyDeleteQueuePair, hq, h0, hown, hdel]
  case abort =>
    intro s t w c o x k h hwork hmode hpair hsel hone
    have hbody := bodyAbort_one hwork hmode hpair hsel hone
    refine ⟨fun ⟨hshort, hstop⟩ => ?_, fun hleft => ?_⟩
    · exact State.next_submit (out := .done _ _ _) h (hbody.trans (if_neg (by simp [hshort, hstop])))
    · exact State.next_submit h (hbody.trans (if_pos (by simpa using hleft)))
  case abortNone =>
    intro s t c o h hwork hmode hsel
    refine State.next_submit (out := .done .ok (2 ^ 32) t) h ?_
    simp [bodyAbort, hwork, hmode, hsel]
  case switched => exact fun s x h => by simp [State.abortOne, h]
  case waiting => exact fun s x h => by simp [State.abortOne, h]

/-! ### Staging -/

/-- Settles O24: each body in the branch that the session and the arguments select. -/
theorem stagingCommands : Obligations.StagingCommands := by
  unfold Obligations.StagingCommands
  refine ⟨?opened, ?write, ?read, ?check, ?commit, ?failed, ?discard⟩
  case opened =>
    intro s t c o h hmay hlow hhigh hnone
    refine State.next_submit (out := .done _ _ _) h ?_
    simp [bodyStageOpen, hmay, Nat.not_lt.2 hlow, Nat.not_lt.2 hhigh, hnone]
  case write =>
    intro s t c o x b es h hmay hx hargs hb hes hok
    subst hes
    refine State.next_submit (out := .done _ _ _) h ?_
    simp only [bodyStageWrite, hmay, hx, hargs, Bool.false_eq_true, if_false]
    rw [State.withRead_got _ hb, if_pos hok]
    rfl
  case read =>
    intro s t w c o x h hmay hx hmode hargs hw
    refine State.next_submit (out := .done .ok 0 w) h ?_
    simp only [bodyStageRead, hmay, hx, hargs, if_neg (Nat.not_le.2 hmode), Bool.false_eq_true, if_false]
    exact State.writeThen_wrote _ hw
  case check =>
    intro s t c o x h hmay hx
    refine (State.next_submit (out := _) h rfl).trans (congrArg _ ?_)
    simp only [bodyStageCheck, hmay, hx, Bool.false_eq_true, if_false]
    cases t.checks x.staged (t.clock.now + 50000) <;> rfl
  case commit =>
    intro s t c o x h hmay hx hmode hnone hchecks
    refine State.next_submit h ?_
    simp [bodyCommit, hmay, hx, Nat.not_le.2 hmode, hnone, hchecks]
  case failed =>
    intro s t c o x f h hmay hx hmode hnone hchecks
    refine State.next_submit (out := .done .checkFailed f.result t) h ?_
    simp [bodyCommit, hmay, hx, Nat.not_le.2 hmode, hnone, hchecks]
  case discard =>
    intro s t c o x h hmay hx
    refine State.next_submit (out := .done .ok 0 { t with stg.session := none }) h ?_
    simp [bodyStageDiscard, hmay, hx]

end Sys2Proof.Machine
end

section
/-! PROOFS. SwitchOfSettings.lean: what an operation's end leaves of the settings, and the switch and the drain of a commit. -/
namespace Sys2Proof.Machine

/-- The live settings, those before the switch in force, and the epoch. -/
def State.settings (s : State) := (s.stg.live, s.stg.old, s.stg.epoch)

theorem Enters.settings_eq {s t : State} : Enters s t → t.settings = s.settings := by
  rintro ⟨_, _, _, _, _, _, _, _, _, _, rfl⟩
  rfl

theorem Signals.settings_eq {s t : State} (h : Signals s t) : t.settings = s.settings := h.enters.settings_eq

theorem Reports.settings_eq {s t : State} (h : Reports s t) : t.settings = s.settings := h.completes.enters.settings_eq

theorem State.ite_settings (f : State → State) (hf : ∀ t, (f t).settings = t.settings) {c : Prop} [Decidable c] (t : State) :
    (if c then f t else t).settings = t.settings := by
  split
  · exact hf t
  · rfl

theorem State.foldl_settings {α : Type} {f : State → α → State} (hf : ∀ t x, (f t x).settings = t.settings) (l : List α) (s : State) :
    (l.foldl f s).settings = s.settings := by
  induction l generalizing s with
  | nil => rfl
  | cons x l ih => exact (ih _).trans (hf s x)

/-! ### The end of an operation -/

theorem State.gc_settings (s : State) : s.gc.settings = s.settings := by
  unfold State.gc
  extract_lets
  split <;> rfl

theorem State.dropClaim_settings (s : State) : s.dropClaim.settings = s.settings := (State.raiseSrc_signals _ 8).settings_eq

theorem State.endOp_settings (s : State) (tag : Nat) : (s.endOp tag).settings = s.settings := by
  unfold State.endOp
  split
  · rfl
  · refine (State.ite_settings State.gc State.gc_settings _).trans
      ((State.ite_settings State.dropClaim State.dropClaim_settings _).trans ?_)
    exact (State.setTags_signals _ _ _).settings_eq.trans (State.ite_settings (State.purge · _) (fun _ => rfl) s)

theorem State.complete_settings (s : State) (o : Op) (st : Status) (r p : Nat) : (s.complete o st r p).settings = s.settings :=
  (State.complete_completes s o st r p).enters.settings_eq

theorem State.updOp_settings (s : State) (tag : Nat) (f : Op → Op) : (s.updOp tag f).settings = s.settings :=
  (State.updOp_signals s tag f).settings_eq

theorem State.finalise_settings (s : State) (tag : Nat) : (s.finalise tag).settings = s.settings := by
  unfold State.finalise
  extract_lets t
  have ht : t.settings = s.settings := s.updOp_settings tag _
  split
  · exact (State.endOp_settings _ _).trans
      ((State.ite_settings (State.complete · _ _ _ _) (fun u => u.complete_settings _ _ _ _) t).trans ht)
  · exact ht

theorem State.finish_settings (s : State) (tag : Nat) (st : Status) (r : Nat) : (s.finish tag st r).settings = s.settings := by
  unfold State.finish
  extract_lets t
  have ht : t.settings = s.settings := s.rested.updOp_settings tag _
  split
  · split
    · exact (State.finalise_settings _ _).trans ht
    · exact (State.endOp_settings _ _).trans ((State.complete_settings _ _ _ _ _).trans ht)
  · exact ht

theorem State.stopProbe_settings (s : State) (o : Op) (st : Status) : (s.stopProbe o st).settings = s.settings := by
  unfold State.stopProbe
  split
  · extract_lets d f slow key t
    have ht : t.settings = s.settings := by
      unfold t
      split <;> rfl
    split
    · split
      · exact ht
      · split
        · rename_i u hu
          obtain ⟨-, rfl⟩ := State.hostWrite_ok hu
          exact ht
        · exact ht
    · exact ht
  · rfl

theorem State.stopOp_settings (s : State) (tag : Nat) (st : Status) : (s.stopOp tag st).settings = s.settings := by
  unfold State.stopOp
  split
  · rfl
  · extract_lets t
    have ht : t.settings = s.settings := s.stopProbe_settings _ st
    split
    · exact (State.finalise_settings _ _).trans ht
    · exact (State.finish_settings _ _ _ _).trans ht

theorem State.stopAny_settings (s : State) (tag : Nat) (st : Status) : (s.stopAny tag st).settings = s.settings := by
  unfold State.stopAny
  extract_lets t
  split
  · rfl
  · exact State.stopOp_settings _ _ _

theorem State.revokeOne_settings (s : State) (tag : Nat) : (s.revokeOne tag).settings = s.settings := by
  unfold State.revokeOne
  split
  · exact State.ite_settings (State.stopAny · tag _) (fun t => t.stopAny_settings _ _) s
  · rfl

/-! ### What the switch does besides -/

theorem State.noteShort_settings (s : State) : s.noteShort.settings = s.settings := by
  unfold State.noteShort
  extract_lets l
  split <;> rfl

theorem State.toMember_settings (s : State) (m kind : Nat) (b : Option GroupBlock) (v : Nat) :
    (s.toMember m kind b v).settings = s.settings := by
  unfold State.toMember
  split <;> rfl

theorem State.switchPartners_settings (s : State) (old new : List Item) : (s.switchPartners old new).settings = s.settings := by
  unfold State.switchPartners
  extract_lets ps ignored left fresh slots _ t u
  have ht : t.settings = s.settings := by
    refine (State.foldl_settings (f := State.forgetMember) (fun w m => ?_) _ _).trans (State.bump_signals _ _ _).settings_eq
    refine State.foldl_settings (fun x i => ?_) _ _
    rfl
  have hu : u.settings = s.settings := by
    refine (State.foldl_settings (f := State.tellHeld) (fun w m => ?_) _ _).trans ht
    exact State.foldl_settings (fun x n => x.toMember_settings _ _ _ _) _ _
  exact (State.foldl_settings (fun w i => (w.log_reports _).settings_eq) _ u).trans hu

theorem State.regroup_settings (s : State) : s.regroup.settings = s.settings := by
  unfold State.regroup
  refine State.foldl_settings (fun t n => ?_) _ _
  have hu : ∀ g, (t.updNs n.index fun n => { n with gstate := g }).groupChanged.settings = t.settings := fun _ =>
    (State.raiseSrc_signals _ 6).settings_eq
  dsimp only
  split
  · rfl
  · split
    · exact hu _
    · split
      · exact (State.bumpAt_signals _ _ _ _ _).settings_eq.trans (hu _)
      · exact (State.toMember_settings _ _ _ _ _).trans ((State.bumpAt_signals _ _ _ _ _).settings_eq.trans (hu _))
    · exact hu _
    · exact hu _

theorem State.failTdis_settings (s : State) (sel : Fn → Bool) : (s.failTdis sel).settings = s.settings :=
  (State.bump_signals _ _ _).settings_eq

theorem State.switchHosts_settings (s : State) (old new : List Item) : (s.switchHosts old new).settings = s.settings := by
  unfold State.switchHosts
  split <;> rfl

theorem State.routeWaiting_settings (s : State) : s.routeWaiting.settings = s.settings := by
  refine State.foldl_settings (fun t i => ?_) _ _
  split
  · exact (State.pendSrc_signals _ _ _ _).settings_eq
  · rfl

theorem State.sampleLoad_settings (s : State) : s.sampleLoad.settings = s.settings := by
  refine State.foldl_settings (fun t i => ?_) _ _
  rfl

theorem State.fixedOn_settings (s : State) : s.fixedOn.settings = s.settings := State.sampleLoad_settings _

theorem State.fixedOff_settings (s : State) : s.fixedOff.settings = s.settings := by
  have hfold : ∀ (l : List (Nat × Nat)) (t : State),
      (l.foldr (fun d s => s.count ⟨d.1, d.2, none, srcLocus d.1 none, none⟩) t).settings = t.settings := fun l t => by
    induction l with
    | nil => rfl
    | cons d l ih => exact (State.count_signals _ _).settings_eq.trans ih
  unfold State.fixedOff State.settleDeferred
  extract_lets _ t
  have ht : t.settings = s.settings := hfold _ _
  split
  · exact ht
  · exact (State.raiseSrc_signals _ 9).settings_eq.trans ht

/-- The switch installs the staged entries and counts the epoch. -/
theorem State.install_settings (s : State) (c : Commit) :
    (s.install c).settings = (itemOver s.stg.live c.staged, s.stg.live, s.stg.epoch + 1) := by
  unfold State.install
  extract_lets old new epoch ports _ _ t u v w
  have hu : u.settings = (new, old, epoch) := (State.bump_signals _ _ _).settings_eq.trans (State.noteShort_settings (t.lowered old))
  have hv : v.settings = (new, old, epoch) := (State.routeWaiting_settings _).trans ((State.switchHosts_settings _ _ _).trans
    ((State.failTdis_settings _ _).trans ((State.regroup_settings _).trans ((State.switchPartners_settings _ _ _).trans hu))))
  have hsecurity : v.securityChanged.settings = (new, old, epoch) := (State.raiseSrc_signals v 8).settings_eq.trans hv
  have hw : w.settings = (new, old, epoch) := by
    unfold w
    split
    · exact hv
    · split
      · exact (State.fixedOn_settings _).trans hsecurity
      · exact (State.fixedOff_settings _).trans hsecurity
  exact (w.updOp_settings _ _).trans hw

/-- Settles O25: the switch installs, and then stops what a REVOKE stops, which leaves the settings; the drain waits for the old epoch. -/
theorem switchAndDrain : Obligations.SwitchAndDrain := by
  unfold Obligations.SwitchAndDrain
  refine ⟨?lease, ?installs, ?switch, fun s tag o ho => ⟨fun h => ?_, fun h => ?_⟩, ?drain⟩
  case lease =>
    intro s x hx hover
    simp only [exec, execStagingLeaseExpiry, hx, if_pos hover]
  case installs =>
    intro s c hc hsw hat _
    refine ⟨s.switch c, by simp [exec, execCommitSwitch, hc, hsw, hat], ?_⟩
    have h : (s.switch c).settings = _ := (State.foldl_settings State.revokeOne_settings _ _).trans (s.install_settings c)
    simp only [State.settings, Prod.mk.injEq] at h
    obtain ⟨hlive, hold, hepoch⟩ := h
    exact ⟨hepoch, hlive, hold⟩
  case switch =>
    intro s c hc hsw hat
    simp [exec, execCommitSwitch, hc, hsw, hat, State.switch]
  case drain =>
    intro s c hc hsw hold
    have hany : s.q.ops.any (fun o => o.epoch < s.stg.epoch && o.tag != c.tag) = false :=
      List.any_eq_false.2 fun o ho => by simpa using hold o ho
    simp [exec, execCommitDrainEnd, hc, hsw, hany]
  · simp [State.revokeOne, ho, h]
  · simp [State.revokeOne, ho, h]

end Sys2Proof.Machine
end

section
/-! PROOFS. Namespaces.lean: what completions leave of the operation table, and the namespace commands. -/
namespace Sys2Proof.Machine

/-! ### The operation table -/

theorem State.logFatal_ops (s : State) (r : Report) : (s.logFatal r).q.ops = s.q.ops := by
  unfold State.logFatal
  extract_lets rec0 t
  have ht : t.q.ops = s.q.ops := (s.event_rings _).ops
  split
  · split
    · exact (State.raiseSrc_rings _ 2).ops.trans ht
    · exact ht
  · exact (State.bump_rings _ _ _).ops.trans ht

theorem State.log_ops (s : State) (r : Report) : (s.log r).q.ops = s.q.ops := by
  unfold State.log
  split
  · exact s.logFatal_ops r
  · extract_lets rec0 t
    have ht : t.q.ops = s.q.ops := (s.event_rings _).ops
    split
    · exact (State.bump_rings _ _ _).ops.trans ht
    · split
      · exact (State.bump_rings _ _ _).ops.trans ht
      · split
        · exact (State.raiseSrc_rings _ 1).ops.trans ht
        · exact ht

theorem State.pass_ops (s : State) (link num : Nat) (units : List Nat) : (s.pass link num units).q.ops = s.q.ops := by
  unfold State.pass
  extract_lets l cs t
  have ht : t.q.ops = s.q.ops := ((State.bump_rings _ _ _).trans (State.bump_rings _ _ _)).ops
  split
  · exact ht
  · exact ht

theorem State.fabricSend_ops (s : State) (c : Traffic) (b : FabBody) (src dst : Nat) : (s.fabricSend c b src dst).q.ops = s.q.ops := by
  unfold State.fabricSend State.fabricPut
  extract_lets
  split
  · rfl
  · split <;> rfl

theorem State.pendCq_ops (s : State) (i : Nat) : (s.pendCq i).q.ops = s.q.ops := by
  unfold State.pendCq
  split
  · rfl
  · dsimp only
    split
    · exact (State.pendVector_rings _ _ _ _).ops
    · exact (State.pendVector_rings _ _ _ _).ops

theorem State.queueError_ops (s : State) (q : QPair) (kind : Nat) : (s.queueError q kind).q.ops = s.q.ops :=
  (State.pendVector_rings _ _ _ _).ops.trans ((State.log_ops _ _).trans (State.bumpAt_rings _ _ _ _ _).ops)

theorem State.charge_ops (s : State) (link part cls : Nat) (units : List Nat) : (s.charge link part cls units).q.ops = s.q.ops :=
  State.pass_ops _ _ _ _

theorem State.handBack_ops (s : State) (o : Op) : (s.handBack o).q.ops = s.q.ops := by
  unfold State.handBack
  split
  · rfl
  · exact State.fabricSend_ops _ _ _ _ _

theorem State.settleTarget_ops (s : State) (o : Op) (q : QPair) : (s.settleTarget o q).q.ops = s.q.ops := by
  unfold State.settleTarget
  split
  · split
    · rfl
    · exact State.charge_ops _ _ _ _ _
  · rfl

theorem State.writeCqe_ops (s : State) (q : QPair) (h : HeldCqe) : (s.writeCqe q h).q.ops = s.q.ops := by
  unfold State.writeCqe
  split
  · rfl
  · split
    · rfl
    · extract_lets c
      split
      · rename_i t ht
        obtain ⟨-, rfl⟩ := State.hostWrite_ok ht
        refine (State.pendCq_ops _ _).trans ((State.ite_ops (State.bumpAt · _ _ _ _) (fun u => (u.bumpAt_rings _ _ _ _).ops) _).trans ?_)
        exact State.charge_ops _ _ _ _ _
      · rfl
      · exact State.queueError_ops _ _ _

/-- A completion leaves the operation table. -/
theorem State.complete_ops (s : State) (o : Op) (st : Status) (r p : Nat) : (s.complete o st r p).q.ops = s.q.ops := by
  unfold State.complete
  split
  · exact (State.writeCqe_ops _ _ _).trans ((State.handBack_ops _ _).trans
      ((State.settleTarget_ops _ _ _).trans (State.bumpAt_rings _ _ _ _ _).ops))
  · rfl

theorem State.updOp_ops (s : State) (tag : Nat) (f : Op → Op) : (s.updOp tag f).q.ops = upd (·.tag == tag) f s.q.ops := by
  unfold State.updOp
  extract_lets t
  split <;> rfl

/-! ### Commands with an effect at acceptance -/

/-- The operation of a command that begins has started. -/
theorem State.begins_started {s t : State} {op : Nat} {c : Cmd} {o : Op} (h : s.begins op c = some (o, t)) :
    ∀ x ∈ t.q.ops, x.tag = o.tag → x.started = true := by
  unfold State.begins at h
  split at h
  · cases h
  · simp only [Option.bind_eq_some_iff] at h
    obtain ⟨p, hp, h⟩ := h
    split at h
    · cases h
    · simp only [Option.bind_eq_some_iff, Option.map_eq_some_iff] at h
      obtain ⟨w, hw, o', ho', heq⟩ := h
      cases heq
      unfold State.launch at hw
      split at hw
      · split at hw
        · cases hw
          intro x hx htag
          rw [State.op_tag ho'] at htag
          have hx' : x ∈ (State.updOp _ _ _).q.ops := hx
          rw [State.updOp_ops] at hx'
          obtain ⟨y, -, rfl⟩ := List.mem_map.1 hx'
          split
          · rfl
          · rename_i hy
            rw [if_neg hy] at htag
            exact absurd (beq_iff_eq.2 htag) hy
        · cases hw
      · cases hw

/-- What a finished operation leaves needs nothing at acceptance. -/
theorem State.submitTaking_done {s t w : State} {op : Nat} {c : Cmd} {o : Op} {body : Op → State → BodyOut} {st : Status} {r : Nat}
    (h : s.begins op c = some (o, t)) (hbody : body o t = .done st r w) : s.submitTaking op body c = w.finish o.tag st r := by
  rw [State.submitTaking_begins body h, hbody]
  exact State.atAcceptance_eq (by rw [State.settle_done, State.finish_op]; rfl)

/-- Nor does a long operation that has started. -/
theorem State.submitTaking_long {s t w : State} {op : Nat} {c : Cmd} {o : Op} {body : Op → State → BodyOut} {n r : Nat}
    (h : s.begins op c = some (o, t)) (hbody : body o t = .long n r w) (hops : w.q.ops = t.q.ops) :
    s.submitTaking op body c = State.settle o.tag (.long n r w) := by
  rw [State.submitTaking_begins body h, hbody]
  refine State.atAcceptance_eq ((Option.all_eq_true _ _).2 fun x hx => ?_)
  have hstarted : ∀ x ∈ w.q.ops, x.tag = o.tag → x.started = true := hops ▸ s.begins_started h
  have hupd : ∀ (l : List Op) (f : Op → Op), (∀ y, (f y).tag = y.tag) → (∀ y, (f y).started = y.started) →
      (∀ y ∈ l, y.tag = o.tag → y.started = true) → ∀ y ∈ upd (·.tag == o.tag) f l, y.tag = o.tag → y.started = true := by
    intro l f htag hst hl y hy
    obtain ⟨z, hz, rfl⟩ := List.mem_map.1 hy
    split
    · rw [htag, hst]
      exact hl z hz
    · exact hl z hz
  have hsettled : ∀ y ∈ (State.settle o.tag (.long n r w)).q.ops, y.tag = o.tag → y.started = true := by
    unfold State.settle
    dsimp -zeta only
    extract_lets u
    have hu : ∀ y ∈ u.q.ops, y.tag = o.tag → y.started = true := by
      unfold u
      rw [State.updOp_ops]
      exact hupd _ _ (fun _ => rfl) (fun _ => rfl) hstarted
    split
    · split
      · exact hu
      · rw [State.complete_ops]
        exact hupd _ _ (fun _ => rfl) (fun _ => rfl) hu
    · exact hu
  exact hsettled x (List.mem_of_find?_eq_some hx) (State.op_tag hx)

/-! ### The namespace commands -/

theorem State.toMember_ops (s : State) (m kind : Nat) (b : Option GroupBlock) (v : Nat) : (s.toMember m kind b v).q.ops = s.q.ops := by
  unfold State.toMember
  split <;> rfl

theorem State.foldl_ops {α : Type} {f : State → α → State} (hf : ∀ t x, (f t x).q.ops = t.q.ops) (l : List α) (s : State) :
    (l.foldl f s).q.ops = s.q.ops := by
  induction l generalizing s with
  | nil => rfl
  | cons x l ih => exact (ih _).trans (hf s x)

theorem State.tellNamespace_ops (s : State) (n : Namespace) (b : Bool) : (s.tellNamespace n b).q.ops = s.q.ops := by
  unfold State.tellNamespace
  split
  · exact State.foldl_ops (fun t m => t.toMember_ops _ _ _ _) _ _
  · rfl

theorem State.regroup_ops (s : State) : s.regroup.q.ops = s.q.ops := by
  unfold State.regroup
  refine State.foldl_ops (fun t n => ?_) _ _
  have hu : ∀ g, (t.updNs n.index fun n => { n with gstate := g }).groupChanged.q.ops = t.q.ops := fun _ => (State.raiseSrc_rings _ 6).ops
  dsimp only
  split
  · rfl
  · split
    · exact hu _
    · split
      · exact (State.bumpAt_rings _ _ _ _ _).ops.trans (hu _)
      · exact (State.toMember_ops _ _ _ _ _).trans ((State.bumpAt_rings _ _ _ _ _).ops.trans (hu _))
    · exact hu _
    · exact hu _

theorem State.killNs_ops (s : State) (n : Namespace) : (s.killNs n).q.ops = s.q.ops :=
  (State.regroup_ops _).trans (State.tellNamespace_ops _ _ _)

/-- Settles O26: each body in the branch that the arguments select; what acceptance takes is taken already. -/
theorem namespaceCommands : Obligations.NamespaceCommands := by
  unfold Obligations.NamespaceCommands
  refine ⟨?create, ?delete, fun s n => rfl, ?query, ?set⟩
  case create =>
    intro s t w c o i group gen h n hb hfields hpart hbook hmask hstripe hexpert hmay hfree hgroup hgen hn hh
    refine congrArg Host.Outcome.next (State.submitTaking_done hb ?_)
    have hwide : (o.p 14 1 == 8 && !t.stripeOk o) = false := by
      by_cases h8 : o.p 14 1 = 8 <;> simp [h8, hstripe]
    have hrights : (o.expert && !expertOn (t.itemsOf o) (o.p 18 1)) = false := by
      cases he : o.expert <;> simp [he, hexpert]
    simp only [bodyCreateNamespace, hfields, hpart, hbook, hmask, hwide, hrights, hmay, hfree, hgroup, ← hgen, ← hn, Bool.not_true,
      Bool.or_self, Bool.false_eq_true, if_false]
    have hh' : (if (o.p 14 1 == 8) = true then w.holdersFor n.salt n.params else 1) = h := by simp [hh]
    have hstate : (if (o.p 14 1 == 8 && h % 256 != 255) = true then GroupState.forming else .active) =
        if o.p 14 1 = 8 ∧ h % 256 ≠ 255 then .forming else .active := by simp
    rw [hh', hstate, hn]
    rfl
  case delete =>
    intro s t c o n hb hn hdone hmay
    refine congrArg Host.Outcome.next (State.submitTaking_long hb ?_ (t.killNs_ops n))
    unfold bodyDeleteNamespace
    rw [State.withNs_some _ hn, if_neg, if_neg (by simp [hmay])]
    intro hany
    obtain ⟨x, hx, hc⟩ := List.any_eq_true.1 hany
    simp only [Bool.and_eq_true, beq_iff_eq, bne_iff_ne, Bool.not_eq_true', decide_eq_true_eq] at hc
    obtain ⟨⟨⟨⟨hop, hhandle⟩, htag⟩, hfin⟩, horder⟩ := hc
    exact absurd (hdone x hx hop hhandle htag horder) (by simp [hfin])
  case query =>
    intro s t w c o n hb hn hw
    refine State.next_submit (out := .done .ok 0 w) hb ?_
    unfold bodyQueryNamespace
    rw [State.withNs_some _ hn, State.writeThen_wrote _ hw]
  case set =>
    intro s t c o n hb hwork hn hloss hlow hseal hmay
    refine congrArg Host.Outcome.next (State.submitTaking_done hb ?_)
    simp only [bodySetNamespace, hwork]
    rw [State.withNs_some _ hn, if_neg, if_neg (by simp [hmay])]
    simp only [Bool.or_eq_true, decide_eq_true_eq, not_or, Nat.not_le]
    exact ⟨⟨hloss, hlow⟩, hseal⟩

end Sys2Proof.Machine
end

section
/-! PROOFS. Chains.lean: requests that the pool serves at once, tail windows, and the chain commands. -/
namespace Sys2Proof.Machine

/-! ### Requests served at once -/

theorem State.no_heldReqs {s : State} (h : s.pool.heldReqs = []) : ({ s with pool.heldReqs := [] } : State) = s :=
  congrArg (fun l => ({ s with pool.heldReqs := l } : State)) h.symm

/-- A request that nothing precedes and that is served leaves what its service leaves. -/
theorem State.request_served {s t : State} {r : HeldReq} (hheld : s.pool.heldReqs = []) (hserve : s.serveOne r = (true, t)) :
    s.request r = t := by
  unfold State.request State.serveHeld
  dsimp only
  rw [hheld, State.no_heldReqs hheld]
  simp only [List.nil_append, List.foldl_cons, List.foldl_nil, List.any_nil, Bool.false_eq_true, if_false, hserve, if_true]

/-- A store where the way is clear lands. -/
theorem State.request_write {s : State} {src : Source} {h a : Nat} {b : List Byte} {p : Bool} (hclear : s.clearWay src.link h a true) :
    s.request ⟨src, h, a, .write b p⟩ = (s.useCap h true).landStore ⟨src, h, a, .write b p⟩ b p := by
  obtain ⟨hheld, hdead, hactive, hrecall, hcap, hothers, hawake⟩ := hclear
  refine State.request_served hheld ?_
  cases hdir : s.dirEntry (lineGroup a) with
  | none => simp [State.serveOne, hawake, State.serveReq, hdead, Option.isSome_iff_ne_none.1 hactive, hrecall, hcap, hdir, PoolReq.isWrite]
  | some e =>
    simp [State.serveOne, hawake, State.serveReq, hdead, Option.isSome_iff_ne_none.1 hactive, hrecall, hcap, hdir, hothers e hdir,
      PoolReq.isWrite]

/-- So does a store of N. -/
theorem State.request_commit {s : State} {src : Source} {h a v : Nat} (hclear : s.clearWay src.link h a true) :
    s.request ⟨src, h, a, .commit v⟩ = (((s.useCap h true).storeN a v).respond src.link a 0).emit
      (.cxlDone h a (((s.useCap h true).storeN a v).devLoad src.link)) := by
  obtain ⟨hheld, hdead, hactive, hrecall, hcap, hothers, hawake⟩ := hclear
  refine State.request_served hheld ?_
  cases hdir : s.dirEntry (lineGroup a) with
  | none => simp [State.serveOne, hawake, State.serveReq, hdead, Option.isSome_iff_ne_none.1 hactive, hrecall, hcap, hdir, PoolReq.isWrite]
  | some e =>
    simp [State.serveOne, hawake, State.serveReq, hdead, Option.isSome_iff_ne_none.1 hactive, hrecall, hcap, hdir, hothers e hdir,
      PoolReq.isWrite]

/-- A request of a source that may store goes its way. -/
theorem State.storeRequest_admitted {s u : State} {src : Source} {a n h : Nat} {own : Bool} {req : PoolReq}
    (hu : u = s.wake.bumpAt 0x201 1 none (s.wake.hostOfSrc src)) (hserves : s.wake.servesMemory = true)
    (hshut : s.wake.shutOut src = false) (hadmit : u.admitted src a n true = some h) :
    s.storeRequest src a n own req = u.request ⟨src, h, a, req⟩ := by
  subst hu
  simp only [State.storeRequest, hserves, hshut, hadmit, Bool.not_true, Bool.false_eq_true, if_false]

/-! ### Tail windows and expiries -/

/-- Settles O27: a store whose way is clear is served at once, at its slot or at N; an expiry is its own definition. -/
theorem windowsAndExpiry : Obligations.WindowsAndExpiry := by
  unfold Obligations.WindowsAndExpiry
  refine ⟨⟨?store, ?commit, ?lands, ?number, ?rebound⟩, fun s slot => rfl, fun s slot => rfl⟩
  case store =>
    intro s u src addr h bytes hu hserves hshut hadmit hclear
    exact congrArg Host.Outcome.next ((State.storeRequest_admitted hu hserves hshut hadmit).trans (State.request_write hclear))
  case commit =>
    intro s u src addr h value hu hserves hshut hadmit hclear
    exact congrArg Host.Outcome.next ((State.storeRequest_admitted hu hserves hshut hadmit).trans (State.request_commit hclear))
  case lands =>
    intro s r bytes p c n off hwin hoff
    simp only [State.landStore, State.windowStore, hwin, if_pos hoff]
  case number =>
    intro s addr value c n hwin
    refine ⟨fun t ht => ?_, fun st hst => ?_⟩
    · simp only [State.storeN, hwin, if_true, ht]
    · simp only [State.storeN, hwin, if_true, hst]
  case rebound =>
    intro s chain slot c n w r hc hn hw hr hover
    have hgo : (s.recalling (w.base + slot * n.slotS) n.slotS && decide (s.clock.now < r.2)) = false := by
      obtain h | h := hover
      · simp [h]
      · simp [Nat.not_lt.2 h]
    simp only [exec, execTailRebindEnd, hc, hn, hw, hr, hgo, Option.bind_some, Option.map_some, Bool.false_eq_true, if_false]

/-! ### The chain commands -/

theorem bodyOpenChain_eq {o : Op} {t : State} {n : Namespace} (hn : t.nsAny o.handle = some n) (hactive : n.active = true) :
    bodyOpenChain o t =
      if o.p 24 4 = 0 then
        if BitVec.ofNat 128 (o.p 8 16) != 0 then .done .badParam 0 t
        else match t.openChain n [] with
          | some (h, s) => .done .ok h s
          | none => .done .quotaExceeded 0 t
      else match (match t.findKey n (BitVec.ofNat 128 (o.p 8 16)) with
          | some b => if b.k + 1 = o.p 24 4 then some b else none
          | none => none).bind (fun b => t.refsAt n [] b (o.p 24 4)) with
        | none => .done .versionGone 0 t
        | some refs => match t.openChain n refs with
          | some (h, u) => .done .ok (h + o.p 24 4 * 2 ^ 32) (u.touchAll (refs.filterMap BRef.block))
          | none => .done .quotaExceeded 0 t := by
  unfold bodyOpenChain
  rw [State.withNs_some _ hn, if_neg (by simp [hactive])] <;> rfl

theorem bodyFork_eq {o : Op} {t : State} {n : Namespace} {v : View} (hv : t.onVersion o n v)
    (hthere : v.n / n.geo.b < v.refs.length → v.n % n.geo.b ≠ 0 → (v.blockAt (v.n / n.geo.b)).isSome) {slot gen : Nat}
    (hslot : (t.setOp o.tag (fun o => { o with view := some v })).newChainSlot = some (slot, gen)) :
    bodyFork o t =
      if (t.forkSource n v).1.length ≤ 1024 then
        match ((t.setOp o.tag (fun o => { o with view := some v })).addChain slot gen
          ⟨n.index, n.gen, (t.forkSource n v).1, [], none, v.n, 1⟩ none).forkEnd n v slot with
        | some u => .done .ok (mkHandle 20 slot gen) u
        | none => .done .quotaExceeded 0 (t.setOp o.tag (fun o => { o with view := some v }))
      else match (t.setOp o.tag (fun o => { o with view := some v })).openBlock n 0 with
        | none => .done .quotaExceeded 0 (t.setOp o.tag (fun o => { o with view := some v }))
        | some (id, u) => .long (cdiv (t.forkSource n v).1.length 1024 + 1) (mkHandle 20 slot gen)
            (u.addChain slot gen ⟨n.index, n.gen, [], [], some id, 0, 1⟩ (some o.tag)) := by
  have hwhole : ¬(decide (v.n / n.geo.b < v.refs.length) && v.n % n.geo.b != 0 && (v.blockAt (v.n / n.geo.b)).isNone) = true := by
    intro hgone
    simp only [Bool.and_eq_true, decide_eq_true_eq, bne_iff_ne] at hgone
    obtain ⟨⟨hlt, hne⟩, hnone⟩ := hgone
    simp [Option.isNone_iff_eq_none.1 hnone] at hthere
    exact hne (hthere hlt)
  unfold bodyFork
  rw [State.withView_on _ hv]
  dsimp only
  rw [if_neg hwhole, hslot] <;> rfl

/-- Settles O28: each body in the branch that the chain and the arguments select. -/
theorem chainCommands : Obligations.ChainCommands := by
  unfold Obligations.ChainCommands
  refine ⟨?openEmpty, ?openPrefix, ?openGone, ?commit, ?forkShort, ?forkLong, ?snapshot, ?truncate, ?pin, ?releaseChain, ?releasePin,
    ?releaseSnapshot, ?unmap, ?map, ?query⟩
  case openEmpty =>
    intro s t u c o n h hb hn hactive hd hkey hopen
    refine State.next_submit (out := .done .ok h u) hb ?_
    simp [bodyOpenChain_eq hn hactive, hd, hkey, hopen]
  case openPrefix =>
    intro s t u c o n b refs h hb hn hactive hd hkey hrefs hopen
    refine State.next_submit (out := .done _ _ _) hb ?_
    rw [bodyOpenChain_eq hn hactive, if_neg (by omega), hkey]
    dsimp only
    rw [if_pos hd.symm, Option.bind_some, hrefs]
    dsimp only
    rw [hopen]
  case openGone =>
    intro s t c o n hb hn hactive hd hkey
    refine State.next_submit (out := .done .versionGone 0 t) hb ?_
    rw [bodyOpenChain_eq hn hactive, if_neg hd, hkey]
    rfl
  case commit =>
    intro s t u c o n x hb hx hadvance
    refine State.next_submit (out := .done _ _ _) hb ?_
    unfold bodyAppendCommit
    rw [State.withChain_on _ hx, hadvance]
  case forkShort =>
    intro s t u c o n v slot gen hb hv hthere hshort hslot hend
    refine State.next_submit (out := .done _ _ u) hb ?_
    rw [bodyFork_eq hv hthere hslot, if_pos hshort, hend]
  case forkLong =>
    intro s t u c o n v slot gen id hb hv hthere hlong hslot hopen
    refine State.next_submit hb ?_
    rw [bodyFork_eq hv hthere hslot, if_neg (Nat.not_le.2 hlong), hopen]
  case snapshot =>
    intro s t u c o n x h len hb hx hlen hle hsnap
    refine State.next_submit (out := .done _ _ _) hb ?_
    unfold bodyOpenSnapshot
    rw [State.withChain_on _ hx]
    dsimp only
    rw [← hlen, if_neg (Nat.not_lt.2 hle), hsnap]
  case truncate =>
    intro s t base u w c o n x k id src hb hx hle hk hsrc hgone hbase hcopy hrebind
    refine State.next_submit (out := .done _ _ _) hb ?_
    unfold bodyTruncate
    rw [State.withChain_on _ hx]
    dsimp only
    rw [if_neg (Nat.not_lt.2 hle), ← hk, ← hsrc, hgone]
    dsimp only
    rw [← hbase]
    cases src with
    | none => simp only [hcopy, Option.bind_some, hrebind]
    | some b => simp only [hcopy, Option.bind_some, hrebind]
  case pin =>
    intro s t c o n v i hb hv hexpert hlow hhigh hfree
    refine State.next_submit (out := .done _ _ _) hb ?_
    unfold bodyPin
    rw [State.withView_on _ hv]
    simp [hexpert, Nat.not_lt.2 hlow, Nat.not_lt.2 hhigh, hfree]
  case releaseChain =>
    intro s t c o n x hb hx hkind
    refine State.next_submit (out := .done _ _ _) hb ?_
    obtain ⟨hn, hc, hlost, hfill⟩ := hx
    unfold bodyRelease
    simp only [State.withNs_some _ hn, hkind, hc, State.onChain, Chain.lostOnce, hlost, hfill, Option.map_none, Bool.false_eq_true,
        if_false]
  case releasePin =>
    intro s t c o n p hb hn hkind hp
    refine State.next_submit (out := .done _ _ _) hb ?_
    unfold bodyRelease
    simp only [State.withNs_some _ hn, hkind, hp]
  case releaseSnapshot =>
    intro s t c o n x hb hn hkind hx
    refine State.next_submit (out := .done _ _ _) hb ?_
    unfold bodyRelease
    simp only [State.withNs_some _ hn, hkind, hx]
  case unmap =>
    intro s t c o n x hb hx haddr
    refine State.next_submit (out := .done _ _ _) hb ?_
    unfold bodyMapTail
    simp only [State.withChain_on _ hx, haddr, if_true]
  case map =>
    intro s t u c o n x e id hb hx haddr halign he hpart hactive hcovers hothers hnext
    refine State.next_submit (out := .done _ _ _) hb ?_
    have hapart : t.store.chains.any (fun y => y.slot != x.slot && (match y.window, t.chainNs y with
        | some w, some m => decide (o.p 16 8 < w.base + m.windowBytes ∧ w.base < o.p 16 8 + n.windowBytes)
        | _, _ => false)) = false := by
      refine List.any_eq_false.2 fun y hy => ?_
      by_cases hslot : y.slot = x.slot
      · simp [hslot]
      · simp [hothers y hy hslot]
    unfold bodyMapTail
    rw [State.withChain_on _ hx]
    simp only [haddr, halign, he, hpart, hactive, hcovers, bne_self_eq_false, Bool.not_true, Bool.or_self, Bool.false_eq_true, if_false]
    rw [if_neg]
    · cases hn : x.next with
      | none =>
        rw [hn] at hnext
        simp only [hnext]
      | some id' =>
        rw [hn] at hnext
        cases hnext
        rfl
    · exact Bool.eq_false_iff.1 hapart
  case query =>
    intro s t w c o n v hb hv hw
    refine State.next_submit (out := .done .ok 0 w) hb ?_
    unfold bodyChainQuery
    rw [State.withView_on _ hv, State.writeThen_wrote _ hw]

end Sys2Proof.Machine
end

section
/-! PROOFS. Inserting.lean: INSERT_BLOCK, REFILL and SEAL. -/
namespace Sys2Proof.Machine

theorem bit_eq_false_of_lt {v i : Nat} (h : v < 2 ^ i) : bit v i = false := by
  rw [bit, Nat.div_eq_of_lt h]
  rfl

theorem State.pagesWritten_block (s : State) (id first layers bytes i : Nat) :
    (s.pagesWritten id first layers bytes).block i = s.block i := by
  have hstep : ∀ (t : State) (p : Page), (t.pierIo p.home bytes 0).store = t.store := fun t p =>
    (((State.bump_signals t _ _).trans (State.bump_signals _ _ _)).trans (State.bump_signals _ _ _)).store
  have hfold : (s.pagesWritten id first layers bytes).store = s.store := by
    unfold State.pagesWritten
    generalize (((s.block id).elim [] (·.pages)).filter (fun p => p.tier = 0 && inLayers first layers p)) = l
    induction l generalizing s with
    | nil => rfl
    | cons p l ih => exact (ih _).trans (hstep s p)
  exact congrArg (fun x : Store => x.blocks.find? _) hfold

/-- INSERT_BLOCK of rows of every layer. -/
theorem bodyInsertBlock_rows {o : Op} {t u : State} {n : Namespace} {x : Chain} {id : Nat} {toks : List Nat} {data : List (List Byte)}
    (hwork : o.work = .nothing) (hx : t.onChainOf o n x) (hflags : o.p 18 1 < 4) (hcount : 1 ≤ o.p 16 2)
    (hfit : o.p 12 4 % n.geo.b + o.p 16 2 ≤ n.geo.b) (hfirst : o.p 20 2 = 0) (hlayers : o.p 22 2 = n.geo.l) (hl : 1 ≤ n.geo.l)
    (hactive : 2 ≤ o.p 18 1 → n.active = true) (hpos : x.view.n ≤ o.p 12 4)
    (hblock : t.writableBlock n x (o.p 12 4 / n.geo.b) = .ok (id, u))
    (htoks : readTokens o n u (o.p 12 4 % n.geo.b) (o.p 16 2) = .ok toks) (hdata : readLayers o n u 0 n.geo.l = .ok data) :
    bodyInsertBlock o t = insertEnd o n x.slot (((u.readSource o n (o.p 12 4 % n.geo.b) (o.p 16 2) 0 n.geo.l).pagesWritten id 0 n.geo.l
      (n.geo.pageBytes n.geo.fmt * o.p 16 2 / n.geo.b)).updBlock id
        (fun b => b.insertRows n 0 (o.p 12 4 % n.geo.b) (o.p 16 2) data toks)) := by
  have hrefill : bit (o.p 18 1) 2 = false := bit_eq_false_of_lt hflags
  have hgroup : (bit (o.p 18 1) 1 && !n.active) = false := by
    by_cases h : 2 ≤ o.p 18 1
    · simp [hactive h]
    · simp [bit_eq_false_of_lt (v := o.p 18 1) (i := 1) (by omega)]
  unfold bodyInsertBlock
  simp only [hwork]
  rw [State.withChain_on _ hx, hfirst, hlayers, if_neg (show ¬n.geo.l = 0 by omega), if_neg (by simp [hrefill]; omega),
    if_neg (by simp; omega), if_neg (by rw [hrefill, Bool.or_false, hgroup]; simp), if_neg (by simp [hrefill]), if_neg (Nat.not_lt.2 hpos), hblock]
  simp only [htoks, hdata]

/-- Settles O29: each body in the branch that the chain and the arguments select, and one turn of the sealing. -/
theorem insertAndSeal : Obligations.InsertAndSeal := by
  unfold Obligations.InsertAndSeal
  refine ⟨?insert, ?refill, ?sealing, ?turn, ?answer, ?stop⟩
  case insert =>
    intro s t u w v c o n x y id toks data hb hwork hx hflags hcount hfit hfirst hlayers hl hactive hpos hblock htoks hdata hw hv hy
    have hbody := bodyInsertBlock_rows hwork hx hflags hcount hfit hfirst hlayers hl hactive hpos hblock htoks hdata
    rw [← hw] at hbody
    have hcommit : (if bit (o.p 18 1) 0 then w.advance n x.slot (o.p 12 4 + o.p 16 2) else .ok w) = .ok v := by
      simpa [bit] using hv
    refine ⟨fun hno => ?_, fun hseal hauto i l hsel => ?_⟩
    · refine State.next_submit (out := .done .ok y.view.n v) hb (hbody.trans ?_)
      have hseal : (bit (o.p 18 1) 1 && !n.autoseal) = false := by
        obtain h | h := hno
        · simp [bit_eq_false_of_lt (v := o.p 18 1) (i := 1) h]
        · simp [h]
      simp only [insertEnd, hcommit, hy, hseal, Bool.false_eq_true, if_false]
    · refine State.next_submit hb (hbody.trans ?_)
      have hbit : bit (o.p 18 1) 1 = true := by
        rw [bit, show o.p 18 1 / 2 ^ 1 = 1 by omega]
        rfl
      simp only [insertEnd, hcommit, hy, hbit, hauto, Bool.not_false, Bool.and_self, if_true, hsel]
  case refill =>
    intro s t u c o n x id ver group key parent old toks data hb hwork hx hflags hactive halign hcount hpos hfirst hlayers hl hdropped
      htoks hdata
    have hbody : bodyInsertBlock o t = refill o n x t := by
      unfold bodyInsertBlock
      simp only [hwork]
      rw [State.withChain_on _ hx]
      simp only [hflags, hfirst, hlayers, halign, hcount, hactive]
      rw [if_neg (by simp; omega), if_neg (by simp; omega), if_neg (by simp), if_pos (by decide)]
    have hrefill := hbody
    simp only [refill, halign, hcount, hfirst, hlayers, hdropped, htoks, hdata, bne_self_eq_false, decide_true, Bool.or_true, Bool.not_true,
      Bool.or_self, Bool.false_eq_true, if_false] at hrefill
    refine ⟨fun hkey => ?_, fun hkey hnone hopen => ?_, fun b hkey hwidth hfound => ?_⟩
    · refine State.next_submit (out := .done .integrityError 0 _) hb (hrefill.trans ?_)
      rw [if_pos (by simpa using hkey)]
    · refine State.next_submit hb (hrefill.trans ?_)
      rw [if_neg (by simpa using hkey), if_neg (by simp [hnone]), hopen]
      simp only [State.pagesWritten_block]
    · refine State.next_submit (out := .done .ok _ _) hb (hrefill.trans ?_)
      rw [if_neg (by simpa using hkey), if_pos (by simp [hwidth, hfound])]
      simp only [hfound]
  case sealing =>
    intro s t c o n x ids hb hwork hx hlow hhigh hauto hactive hbuf hids hlen
    refine State.next_submit hb ?_
    unfold bodySeal
    simp only [hwork]
    rw [State.withChain_on _ hx]
    have hroom : o.p 12 1 ≤ (x.view.unsealed.filter (fun i => !t.claimed1 o.tag i)).length := by
      rw [hids, List.length_take] at hlen
      omega
    simp only [hauto, hactive, hbuf, Bool.not_true, Bool.false_eq_true, if_false, if_true, ← hids]
    rw [if_neg (by simp; omega), if_neg (Nat.not_lt.2 hroom)]
  case turn =>
    intro s u tag id i rest o c n b dup k ho hwork hc hturn hid hn hbad hwidth hu hdup
    subst hdup hu
    simp only [sealLoop, ho, hwork, hc, Option.map_some, hturn, hid, hn, hbad, Bool.false_eq_true, if_false, hwidth]
    rfl
  case answer =>
    intro s t o p slot i c hdone hp hwork hc
    simp only [sealAnswer, hdone, hp, Option.getD_some, hwork, hc, Option.map_some, Option.elim_some]
  case stop =>
    intro s t tag k slot i o ho hwork hdone
    simp only [sealLoop, ho, hwork] at hdone
    cases hdone
    rfl

end Sys2Proof.Machine
end

section
/-! PROOFS. Indexing.lean: the codebook loader, probes, and the commands of the native index. -/
namespace Sys2Proof.Machine

/-- Settles O30: the loader's first two registers take the branch of a load or unload that is not refused. -/
theorem codebookLoader : Obligations.CodebookLoader := by
  unfold Obligations.CodebookLoader
  refine ⟨fun s f tee v l hh hgo hok => ?_, fun s f tee v l hh hgo hok => ?_, fun s f rest hl hok => ?_⟩
  · simp only [exec, execCodebookLoad, hh, hgo, hok, if_true]
    rfl
  · simp only [exec, execCodebookUnload, hh, hgo, hok, if_true]
  · simp only [exec, execCodebookLoadEnd, hl, hok]

/-! ### Probes -/

theorem bodyProbe_active {o : Op} {t u : State} {n : Namespace} {r : ProbeRun} (hn : t.nsAny o.handle = some n)
    (hgood : o.probeBad n = false) (hactive : n.active = true)
    (hstart : (t.bumpAt 0x040 1 (some n.partition) (some n.index)).probeStart o n = (r, u)) :
    bodyProbe o t =
      if 256 < o.probeBlocks n.geo.b then
        .long (cdiv (o.probeCap n.geo.b) 256) 0 (u.setOp o.tag (fun o => { o with work := .probe r }))
      else if r.stop.isSome then probeEnd o n r u
      else match probeUnit o n r u with
        | .ok y => probeEnd o n y.1 y.2
        | .error e => e.answer (t.bumpAt 0x040 1 (some n.partition) (some n.index)) := by
  unfold bodyProbe
  rw [State.withNs_some _ hn]
  simp only [hgood, hactive, hstart, Bool.not_true, Bool.false_eq_true, if_false] <;> rfl

/-- Settles O31: each probe in the branch that its length, its stop and its flags select. -/
theorem probeUnits : Obligations.ProbeUnits := by
  unfold Obligations.ProbeUnits
  refine ⟨?long, ?short, ?plain, ?opens, ?capped⟩
  case long =>
    intro s t c o n r u hb hn hgood hactive hlen hstart
    exact State.next_submit hb ((bodyProbe_active hn hgood hactive hstart).trans (if_pos hlen))
  case short =>
    intro s t c o n r r' u u' hb hn hgood hactive hlen hstart hrun
    refine State.next_submit hb ((bodyProbe_active hn hgood hactive hstart).trans ((if_neg (Nat.not_lt.2 hlen)).trans ?_))
    obtain ⟨hstop, rfl, rfl⟩ | ⟨hgoes, hunit⟩ := hrun
    · exact if_pos hstop
    · rw [if_neg (by simp [hgoes]), hunit]
  case plain =>
    intro s o n r hopens hbuf
    simp only [probeEnd, probeWrite, hopens, hbuf, Bool.not_false, Bool.false_eq_true, if_true, if_false]
  case opens =>
    intro s t o n r b d h refs hopens hbuf hd hd0 hlast hrefs hchain
    subst hd
    simp only [probeEnd, probeWrite, hopens, hbuf, Bool.not_true, Bool.false_eq_true, if_true, if_false, if_neg hd0, hlast,
      Option.bind_some, hrefs, hchain]
  case capped =>
    intro s t c o n hb hn hgood hidle
    refine State.next_submit hb ?_
    unfold bodyProbe
    rw [State.withNs_some _ hn]
    simp only [hgood, hidle, Bool.not_false, Bool.false_eq_true, if_true, if_false]

/-! ### The native index -/

/-- A search by key with the entries that it found. -/
theorem lookup_key {o : Op} {n : Namespace} {t u s : State} {es : List Entry} {k : Nat} (hmode : o.p 24 1 = 0)
    (hsearch : t.searchKey n (BitVec.ofNat 128 (o.p 8 16)) (if n.entryWidth = 2 then o.p 28 4 else 0) 0 = (es, k, u))
    (hs : s = u.bumpAt 0x04F 1 (some n.partition) (some n.index)) :
    (es = [] → lookup o n 0 t = .done .ok 0 s) ∧
    (∀ (e : Entry) (b : Block), es = [e] → s.firstBad (s.ptrBlocks e.ptr) false = none →
      ((s.ptrBlocks e.ptr).filterMap s.block).find? (lookupPasses o n 0) = some b → o.p 25 1 = 0 →
      lookup o n 0 t = .done .ok (b.k + 1 + b.slowest * 2 ^ 32 + min 255 k * 2 ^ 40)
        ((s.touch b.id).updBlock b.id (fun b => { b with lastHit := s.clock.now }))) ∧
    (∀ e : Entry, es = [e] → s.firstBad (s.ptrBlocks e.ptr) false = none →
      ((s.ptrBlocks e.ptr).filterMap s.block).find? (lookupPasses o n 0) = none →
      lookup o n 0 t = .done .ok 0 (s.bump 0x043 1)) := by
  subst hs
  refine ⟨fun hes => ?_, fun e b hes hgood hb hplain => ?_, fun e hes hgood hnone => ?_⟩
  · simp only [lookup, hmode, hsearch, hes, sortBy, List.foldl_nil, List.head?_nil]
  · simp only [lookup, hmode, hsearch, hes, sortBy, List.foldl_cons, List.foldl_nil, insertBy, List.head?_cons, hgood, hb, hplain]
    rfl
  · simp only [lookup, hmode, hsearch, hes, sortBy, List.foldl_cons, List.foldl_nil, insertBy, List.head?_cons, hgood, hnone]

theorem bodyLookup_eq {o : Op} {t : State} {n : Namespace} (hn : t.nsAny o.handle = some n) (hmode : o.p 24 1 ≤ 2)
    (hflags : o.p 25 1 < 2) (hgroup : o.p 24 1 = 1 → n.entryWidth = 2) (hdigest : o.p 24 1 = 2 → n.entryWidth = 4)
    (hactive : o.p 25 1 = 1 → n.active = true) :
    bodyLookup o t = if (decide (o.p 24 1 = 2) || (decide (o.p 24 1 = 0) && decide (n.entryWidth = 4) && o.buf != 0)) = true then
        t.withRead o o.buf 32 (fun l => if leNat l = 0 then .done .badParam 0 t else lookup o n (leNat l) t)
      else lookup o n 0 t := by
  have hopen : (bit (o.p 25 1) 0 && !n.active) = false := by
    by_cases h : o.p 25 1 = 1
    · simp [hactive h]
    · simp [show o.p 25 1 = 0 by omega]
  have hargs : (decide (2 < o.p 24 1) || decide (2 ≤ o.p 25 1) || (decide (o.p 24 1 = 1) && n.entryWidth != 2) ||
      (decide (o.p 24 1 = 2) && n.entryWidth != 4)) = false := by
    simp only [Bool.or_eq_false_iff, decide_eq_false_iff_not, Bool.and_eq_false_iff, bne_eq_false_iff_eq]
    refine ⟨⟨⟨by omega, by omega⟩, ?_⟩, ?_⟩
    · exact (em (o.p 24 1 = 1)).elim (fun h => .inr (hgroup h)) .inl
    · exact (em (o.p 24 1 = 2)).elim (fun h => .inr (hdigest h)) .inl
  unfold bodyLookup
  rw [State.withNs_some _ hn]
  simp only [hargs, hopen, Bool.false_eq_true, if_false]

/-- Settles O32: each body in the branch that its mode selects. -/
theorem indexCommands : Obligations.IndexCommands := by
  unfold Obligations.IndexCommands
  refine ⟨?search, ?digest, fun s t u o n es k => lookup_key, ?tag, ?evict, ?banks, ?mask, ?form, ?dissolve⟩
  case search =>
    intro s t c o n hb hn hmode hgroup hflags hactive hbuf
    refine State.next_submit hb ((bodyLookup_eq hn (by omega) hflags hgroup (by omega) hactive).trans (if_neg ?_))
    simp only [Bool.or_eq_true, Bool.and_eq_true, decide_eq_true_eq, bne_iff_ne]
    omega
  case digest =>
    intro s t c o n l hb hn hmode hwidth hflags hactive hl hl0
    refine State.next_submit hb ((bodyLookup_eq hn (by omega) hflags (by omega) (fun _ => hwidth) hactive).trans ?_)
    rw [if_pos (by simp [hmode]), State.withRead_got _ hl, if_neg hl0]
  case tag =>
    intro s t c o n x id b e hb hx hflags hwidth hid hblock hentry
    refine State.next_submit (out := .done .ok 0 _) hb ?_
    unfold bodyIndexTag
    rw [State.withChain_on _ hx]
    simp only [hflags, hwidth, hid, indexTag, hblock, Option.bind_some, hentry, Option.map_some]
    rfl
  case evict =>
    intro s t c o n x first count hb hx hnames
    refine ⟨fun hshort => ?_, fun hlong => ?_⟩
    · refine State.next_submit (out := .done _ _ _) hb ?_
      unfold bodyIndexEvict
      rw [State.withChain_on _ hx, hnames]
      simp only [if_neg (Nat.not_lt.2 hshort)]
    · refine State.next_submit hb ?_
      unfold bodyIndexEvict
      rw [State.withChain_on _ hx, hnames]
      simp only [if_pos hlong]
  case banks =>
    intro s t w c o hb hexpert hmode hw
    refine State.next_submit (out := .done .ok 0 w) hb ?_
    simp only [bodyIndexBanks, hexpert, hmode, Bool.not_true, Bool.false_eq_true, if_false]
    exact State.writeThen_wrote _ hw
  case mask =>
    intro s t c o b hb hexpert hmode hlow hhigh hgot
    refine State.next_submit (out := .done .ok 0 _) hb ?_
    simp only [bodyIndexBanks, hexpert, hmode, Bool.not_true, Bool.false_eq_true, if_false]
    rw [if_neg (by simp; omega), State.withRead_got _ hgot]
    rfl
  case form =>
    intro s t c o b banks num hb hexpert hmode hwidth hcount hpart hmay hgot hbanks hfree hdistinct hnum
    refine State.next_submit (out := .done .ok num _) hb ?_
    simp only [bodyIndexBanks, hexpert, hmode, Bool.not_true, Bool.false_eq_true, if_false]
    rw [if_neg (by simp [hpart]; omega), if_neg (by simp [hmay]), State.withRead_got _ hgot, ← hbanks]
    have hrange : (banks.any (fun b => decide (256 ≤ b)) || banks.eraseDups.length != banks.length) = false := by
      simp only [hdistinct, bne_self_eq_false, Bool.or_false, List.any_eq_false, decide_eq_true_eq, Nat.not_le]
      exact fun x hx => (hfree x hx).1
    have hmine : banks.any (fun b => !t.partBankOk (o.p 12 1) b) = false :=
      List.any_eq_false.2 fun x hx => by simp [(hfree x hx).2.1]
    have hidle : banks.any (fun b => !t.bankIsFree b) = false := List.any_eq_false.2 fun x hx => by simp [(hfree x hx).2.2]
    simp only [formGroup, hrange, hmine, hidle, hnum, Bool.false_eq_true, if_false]
    rfl
  case dissolve =>
    intro s t c o g hb hexpert hmode hg hmay hns hempty
    refine State.next_submit (out := .done .ok 0 _) hb ?_
    have hunused : t.store.namespaces.any (·.group == g.num) = false := List.any_eq_false.2 fun n hn => by simpa using hns n hn
    have hclear : g.banks.any (fun b => !(t.bankList b).isEmpty) = false := List.any_eq_false.2 fun b hb => by simp [hempty b hb]
    simp only [bodyIndexBanks, hexpert, hmode, hg, hmay, hunused, hclear, Bool.not_true, Bool.or_self, Bool.false_eq_true, if_false]

end Sys2Proof.Machine
end

section
/-! PROOFS. Forerunning.lean: the commands of the forerunner's regions, and the events of the trestle. -/
namespace Sys2Proof.Machine

/-! ### The forerunner's regions -/

/-- A region on free banks of a valid partition. -/
theorem frCreate_eq {o : Op} {t : State} {d f gen : Nat} {r : Region} (hnum : o.p 9 1 < 16)
    (hfree : ∀ x ∈ t.idx.regions, x.num ≠ o.p 9 1) (hlow : 1 ≤ o.p 12 1) (hhigh : o.p 12 1 ≤ 64)
    (hwidth : o.p 13 1 = 1 ∨ o.p 13 1 = 2 ∨ o.p 13 1 = 4) (hsize : 3 ≤ o.p 14 1) (hsize' : o.p 14 1 ≤ 8)
    (hdie : o.p 10 1 < 4 ∨ o.p 10 1 = 0xFF) (hfirst : o.p 11 1 + o.p 12 1 ≤ 64 ∨ o.p 11 1 = 0xFF)
    (hpart : partValid (t.itemsOf o) (o.p 15 1) = true) (hmay : t.mayPart (t.opFn o) (o.p 15 1) = true)
    (hplace : t.regionPlace (o.p 10 1) (o.p 11 1) (o.p 12 1) (o.p 15 1) = some (d, f))
    (hgen : gen = nextGen 12 (assoc t.idx.regionGens (o.p 9 1) 0))
    (hr : r = ⟨o.p 9 1, gen, d, f, o.p 12 1, o.p 13 1, 2 ^ o.p 14 1, o.p 15 1⟩) :
    frCreate o t = .done .ok r.handle { t with
      idx.banks := (List.range (o.p 12 1)).map (fun i => Bank.mk (r.base + i) .forerunner (o.p 13 1) (o.p 15 1) (o.p 9 1) false) ++
        t.idx.banks.filter (fun b : Bank => !r.holds b.num)
      idx.regions := t.idx.regions ++ [r]
      idx.regionGens := assocSet t.idx.regionGens (o.p 9 1) gen } := by
  subst hr hgen
  have hnew : t.idx.regions.any (·.num == o.p 9 1) = false := List.any_eq_false.2 fun x hx => by simpa using hfree x hx
  have hargs : (decide (16 ≤ o.p 9 1) || t.idx.regions.any (·.num == o.p 9 1) || decide (o.p 12 1 = 0) || decide (64 < o.p 12 1) ||
      !(decide (o.p 13 1 = 1) || decide (o.p 13 1 = 2) || decide (o.p 13 1 = 4)) || decide (o.p 14 1 < 3) || decide (8 < o.p 14 1) ||
      !(decide (o.p 10 1 < 4) || decide (o.p 10 1 = 0xFF)) || !(decide (o.p 11 1 + o.p 12 1 ≤ 64) || decide (o.p 11 1 = 0xFF)) ||
      !partValid (t.itemsOf o) (o.p 15 1)) = false := by
    simp only [hnew, hpart, Bool.or_false, Bool.not_true, Bool.or_eq_false_iff, decide_eq_false_iff_not, Bool.not_eq_false',
      Bool.or_eq_true, decide_eq_true_eq]
    omega
  simp only [frCreate, hargs, hmay, hplace, Bool.not_true, Bool.false_eq_true, if_false]

/-- The body of a search without cascade. -/
theorem frSearch_alone {o : Op} {r : Region} {key : Nat} {t u : State} (hmode : o.p 10 1 = 0)
    (hu : u = ((List.range r.banks).foldl (fun s i => s.searched (r.base + i)) t).bump 0x048 1) :
    frSearch o r key t = .done .ok (u.frFind r key (u.globalMask (o.p 11 1) r.width)).2 u := by
  subst hu
  simp only [frSearch, hmode]
  rfl

theorem exec_frSearch {s t : State} {c : Cmd} {o : Op} {out : BodyOut} (hb : s.begins 0x36 c = some (o, t))
    (hbody : bodyFrSearch o t = out) : exec (.frSearch c) s =
      .next ((State.settle o.tag out).cascadeRun (State.settle o.tag out).idx.cascade.waiting.length) :=
  congrArg (fun u : State => Host.Outcome.next (u.cascadeRun u.idx.cascade.waiting.length))
    ((State.submit_begins _ hb).trans (congrArg _ hbody))

/-- Settles O33: each body in the branch that its action selects. -/
theorem forerunnerCommands : Obligations.ForerunnerCommands := by
  unfold Obligations.ForerunnerCommands
  refine ⟨?create, ?change, ?insert, ?delete, ?narrow, ?wide, ?drop, ?query, ?unit⟩
  case create =>
    intro s t c o d f gen r hb hmode hnum hfree hlow hhigh hwidth hsize hsize' hdie hfirst hpart hmay hplace hgen hr
    refine State.next_submit (out := .done .ok r.handle _) hb ?_
    simp only [bodyFrRegion, hmode]
    exact frCreate_eq hnum hfree hlow hhigh hwidth hsize hsize' hdie hfirst hpart hmay hplace hgen hr
  case change =>
    intro s t c o r hb hr hany
    refine ⟨fun hact => ?_, fun hact => ?_⟩
    · refine State.next_submit (out := .done .ok _ _) hb ?_
      simp [bodyFrWrite, hr, hact, hany]
    · refine State.next_submit (out := .done .ok _ _) hb ?_
      simp [bodyFrWrite, hr, hact, hany]
  case insert =>
    intro s t c o r b h x k pos hb hr hact hgot hroom hlost hhole hinsert hk
    refine State.next_submit (out := .done .ok _ _) hb ?_
    have hthere : (List.range r.banks).any (fun i => (t.bank (r.base + i)).lost) = false :=
      List.any_eq_false.2 fun i hi => by simp [hlost i (List.mem_range.1 hi)]
    simp only [bodyFrWrite, hr, if_pos hact]
    rw [State.withRead_got _ hgot]
    unfold frInsert
    dsimp only
    rw [hthere, if_neg (by simp [hroom]),
      show r.nearHole _ (r.target (t.regionList r) (o.p 16 2) (decide (o.p 10 1 = 1))) _ _ = some h from hhole]
    dsimp only
    rw [show r.insertAt _ _ (r.target (t.regionList r) (o.p 16 2) (decide (o.p 10 1 = 1))) h = (x.1, pos, x.2) from hinsert, hk]
    rfl
  case delete =>
    intro s t c o r b e hb hr hact hgot he
    refine State.next_submit (out := .done .ok _ _) hb ?_
    simp only [bodyFrWrite, hr, hact]
    rw [if_neg (by decide), if_neg (by decide), if_neg (by decide), if_pos trivial, State.withRead_got _ hgot, he]
    rfl
  case narrow =>
    intro s t u c o r hb hr hwait hmode hmask hwidth hbuf hu
    refine exec_frSearch hb (out := .done .ok _ u) ?_
    simp only [bodyFrSearch, hr, hwait, hmode, hwidth, hbuf, Bool.false_eq_true, if_false, if_true]
    rw [if_neg (by simp; omega), frSearch_alone hmode hu, hwidth]
  case wide =>
    intro s t u c o r b hb hr hwait hmode hmask hwidth hbuf hgot hu
    refine exec_frSearch hb (out := .done .ok _ (u.readFor o o.buf (10 * (r.width - 1)))) ?_
    simp only [bodyFrSearch, hr, hwait, hmode, if_neg hwidth, Bool.false_eq_true, if_false]
    rw [if_neg (by simp [hwidth, hbuf]; omega), State.withRead_got _ hgot, frSearch_alone hmode hu]
    rfl
  case drop =>
    intro s t c o r hb hmode hr hmay
    refine State.next_submit hb ?_
    simp only [bodyFrRegion, hmode, hr, hmay, Bool.not_true, Bool.false_eq_true, if_false]
  case query =>
    intro s t w c o r hb hmode hr hmay hw
    refine State.next_submit (out := .done .ok r.handle w) hb ?_
    simp only [bodyFrRegion, hmode, hr, hmay, Bool.not_true, Bool.false_eq_true, if_false]
    exact State.writeThen_wrote _ hw
  case unit =>
    intro s o b rest t hwork ht
    subst ht
    cases rest <;> simp [unitFrRegion, hwork]

/-! ### The trestle -/

/-- One entry whose parity failed, in a bank with fewer than three earlier errors. -/
theorem execIndexParityScan_one {s u : State} {bank p : Nat} {e : Entry}
    (he : (s.bankList bank).find? (·.pos == p / max 1 (s.bank bank).width) = some e)
    (hu : u = (s.loseEntry e).log ⟨.dataLoss, 0x0123, 0x2000 + 0x100 * (bank / 64) + bank % 64, none, none,
      some (e.pos * max 1 (s.bank bank).width), 0, false⟩)
    (hfew : ((u.idx.parity.filter (fun x => u.clock.now < x.2 + 1000000000)).filter (fun x => x.1 == bank)).length < 3) :
    execIndexParityScan bank [p] s = .next { u with
      idx.parity := (bank, u.clock.now) :: u.idx.parity.filter (fun x => u.clock.now < x.2 + 1000000000) } := by
  subst hu
  have hone : ([p / max 1 (s.bank bank).width].eraseDups).filterMap (fun p => (s.bankList bank).find? (·.pos == p)) = [e] := by
    simp [List.eraseDups_cons, he]
  unfold execIndexParityScan
  simp only [List.map_cons, List.map_nil, hone, List.foldl_cons, List.foldl_nil, List.singleton_append]
  rw [if_neg]
  rw [List.filter_cons_of_pos (by simp), List.length_cons]
  omega

/-- Settles O34: each event in the branch that the cascade, the band or the bank selects. -/
theorem trestleEvents : Obligations.TrestleEvents := by
  unfold Obligations.TrestleEvents
  refine ⟨fun s port => rfl, ?frame, ?run, ?late, ?resync, ?temp, fun s u bank p e => execIndexParityScan_one, fun s r => rfl⟩
  case frame =>
    intro s hit seqBit guard hon hhead hsync
    refine ⟨fun hguard => ?_, fun hguard hmany => ?_, fun hguard hfew hseq => ?_, fun hguard hfew hseq => ?_⟩
    · simp [exec, execCascadeFrameReceived, hon, hhead, hsync, hguard]
    · simp [exec, execCascadeFrameReceived, hon, hhead, hsync, hguard, hmany]
    · simp only [exec, execCascadeFrameReceived, hon, hhead, hsync, hguard, Bool.not_true, Bool.or_self, Bool.false_eq_true, if_false,
        if_neg (Nat.not_le.2 hfew), if_pos (bne_iff_ne.2 hseq)]
    · simp only [exec, execCascadeFrameReceived, hon, hhead, hsync, hguard, Bool.not_true, Bool.or_self, Bool.false_eq_true, if_false,
        if_neg (Nat.not_le.2 hfew), hseq, bne_self_eq_false]
  case run =>
    intro s up x k hup hx
    simp only [State.cascadeRun, hup, hx]
  case late =>
    intro s x hx hon hhead hframes hold
    refine congrArg Host.Outcome.next (if_pos ?_)
    simp only [State.cascadeLate, hon, hhead, Bool.not_false, Bool.and_self, Bool.true_and, List.any_eq_true, Bool.and_eq_true,
      decide_eq_true_eq]
    exact ⟨x, hx, hframes, hold⟩
  case resync =>
    intro s f tee v hh hlink hmay hbit
    simp only [exec, execCascadeResync, hh, if_true, State.cascadeWrite, hlink, hmay, hbit, Bool.not_true, Bool.or_self,
      Bool.false_eq_true, if_false]
  case temp =>
    intro s die temp
    exact ⟨_, rfl, fun h => if_pos h, fun h => if_neg h⟩

end Sys2Proof.Machine
end

section
/-! PROOFS. Placing.lean: the device's own placement. -/
namespace Sys2Proof.Machine

/-- Steps that change nothing. -/
theorem foldl_fixed {α β : Type} {f : β → α → β} {b : β} {l : List α} (h : ∀ x ∈ l, f b x = b) : l.foldl f b = b := by
  induction l with
  | nil => rfl
  | cons x l ih =>
    rw [List.foldl_cons, h x List.mem_cons_self]
    exact ih fun y hy => h y (List.mem_cons_of_mem _ hy)

/-- One step among steps that change neither what stands before it nor what it leaves. -/
theorem foldl_range_single {β : Type} {f : β → Nat → β} {a b : β} {n p : Nat} (hp : p < n) (hbefore : ∀ q, q < n → q ≠ p → f a q = a)
    (hat : f a p = b) (hafter : ∀ q, q < n → q ≠ p → f b q = b) : (List.range n).foldl f a = b := by
  induction n with
  | zero => omega
  | succ n ih =>
    rw [List.range_succ, List.foldl_append, List.foldl_cons, List.foldl_nil]
    by_cases hpn : p = n
    · subst hpn
      rw [foldl_fixed fun q hq => hbefore q (by have := List.mem_range.1 hq; omega) (by have := List.mem_range.1 hq; omega)]
      exact hat
    · rw [ih (by omega) (fun q hq => hbefore q (by omega)) (fun q hq => hafter q (by omega))]
      exact hafter n (by omega) (Ne.symm hpn)

theorem execPlacementDemoteWatermark_all {s : State} {tier : Nat} (hrun : s.boot.halted = false)
    (hfree : ∀ p, p < 16 → quotaLimit s.stg.live p tier = 2 ^ 64 - 1)
    (hhigh : s.usable tier * policyHigh s.stg.live tier < s.useAll tier * 100) :
    execPlacementDemoteWatermark tier s = .next (s.demoteWhile tier 0x01
      (fun u => s.usable tier * policyLow s.stg.live tier / 100 < u.stayingAll tier)
      (fun u c => u.guarantee c.part tier < u.staying c.part tier) (s.cands tier)) := by
  unfold execPlacementDemoteWatermark
  dsimp only
  rw [if_neg (by simp [hrun]), foldl_fixed (b := s), if_neg (Nat.not_le.2 hhigh)]
  exact fun p hp => if_pos (by simp [hfree p (List.mem_range.1 hp)])

theorem execPlacementDemoteWatermark_quota {s u : State} {tier p : Nat} (hrun : s.boot.halted = false) (hp : p < 16)
    (hquota : quotaLimit s.stg.live p tier ≠ 2 ^ 64 - 1)
    (hover : quotaLimit s.stg.live p tier * policyHigh s.stg.live tier < s.use p tier * 100)
    (hu : u = s.demoteWhile tier 0x01 (fun u => quotaLimit s.stg.live p tier * policyLow s.stg.live tier / 100 < u.staying p tier)
      (fun _ _ => true) ((s.cands tier).filter (fun c => c.part = p)))
    (hothers : ∀ q, q < 16 → q ≠ p → quotaLimit s.stg.live q tier = 2 ^ 64 - 1 ∧ quotaLimit u.stg.live q tier = 2 ^ 64 - 1)
    (hlow : u.useAll tier * 100 ≤ u.usable tier * policyHigh s.stg.live tier) :
    execPlacementDemoteWatermark tier s = .next u := by
  unfold execPlacementDemoteWatermark
  dsimp only
  rw [if_neg (by simp [hrun]), foldl_range_single (a := s) (b := u) hp, if_pos hlow]
  · exact fun q hq hne => if_pos (by simp [(hothers q hq hne).1])
  · rw [if_neg, hu]
    simp only [Bool.or_eq_true, decide_eq_true_eq, not_or, Nat.not_le]
    exact ⟨hquota, hover⟩
  · exact fun q hq hne => if_pos (by simp [(hothers q hq hne).2])

/-! ### Promotion -/

section
variable {s : State} {id : Nat} {b : Block}

/-- What the promotion of one sealed block picks. -/
theorem promote_picks (hb : s.block id = some b) (hsealed : b.sealed = true) :
    ([id].filterMap s.block).filter (fun b => b.sealed) = [b] := by simp [hb, hsealed]

theorem promote_below (hslow : 0 < b.slowest) (hidle : ∀ m ∈ s.tiers.moves, m.blocks.contains b.id = false) :
    ([b].filter (fun b => decide (0 < b.slowest) && !s.tiers.moves.any (fun m => m.blocks.contains b.id))).map (·.id) = [b.id] := by
  have hnone : s.tiers.moves.any (fun m => m.blocks.contains b.id) = false := List.any_eq_false.2 fun m hm => Bool.eq_false_iff.1 (hidle m hm)
  rw [List.filter_cons_of_pos (by rw [hnone]; simp [hslow])]
  rfl

/-- The promotion of one sealed block that no move holds, for each reason. -/
theorem execPlacementPromote_block (hrun : s.boot.halted = false) (hb : s.block id = some b) (hsealed : b.sealed = true)
    (hslow : 0 < b.slowest) (hidle : ∀ m ∈ s.tiers.moves, m.blocks.contains b.id = false) :
    (s.tiers.probeHits.contains b.id = true → exec (.placementPromote .probeHit ⟨[id], []⟩) s =
      .next { s.queueMove [b.id] true 0 0x04 true with tiers.probeHits := s.tiers.probeHits.filter (fun i => !([b.id].contains i)) }) ∧
    (∀ why, why = .plan ∨ why = .reader →
      exec (.placementPromote why ⟨[id], []⟩) s = .next (s.queueMove [b.id] false 0 (whyReason why) true)) ∧
    (s.soon b = true → exec (.placementPromote .predicted ⟨[id], []⟩) s = .next (s.queueMove [b.id] false 0 0x06 false)) ∧
    (s.pinTier b.id < b.slowest → exec (.placementPromote .pin ⟨[id], []⟩) s =
      .next (s.queueMove [b.id] false (s.pinTier b.id) 0x08 true)) ∧
    (∀ h : Hint, s.tiers.hints = [h] → h.kind = 0 → exec (.placementPromote .hint ⟨[id], []⟩) s =
      .next (s.queueMove ((s.slowerThan h.blocks h.tier).filter [b.id].contains) false h.tier 0x07 true)) ∧
    (∀ n : Namespace, s.nsOf b = some n →
      exec (.placementPromote .limit ⟨[id], []⟩) s = .next (s.limitMove b.slowest (.block b n))) := by
  have hpick := promote_picks hb hsealed
  have hbelow := promote_below hslow hidle
  refine ⟨fun hhit => ?_, fun why hwhy => ?_, fun hsoon => ?_, fun hpin => ?_, fun h hh hkind => ?_, fun n hn => ?_⟩
  · have hids : [b.id].filter s.tiers.probeHits.contains = [b.id] := List.filter_cons_of_pos hhit
    simp only [exec, execPlacementPromote, hpick, hbelow, hids, hrun, Bool.false_eq_true, if_false]
  · obtain rfl | rfl := hwhy <;>
    simp only [exec, execPlacementPromote, hpick, hbelow, hrun, List.filterMap_nil, List.filter_nil, List.foldl_nil, Bool.false_eq_true,
      if_false]
  · have hids : (([b].filter s.soon).map (·.id)).filter [b.id].contains = [b.id] := by simp [hsoon]
    simp only [exec, execPlacementPromote, hpick, hbelow, hids, hrun, List.filterMap_nil, List.filter_nil, List.foldl_nil,
      Bool.false_eq_true, if_false]
  · simp only [exec, execPlacementPromote, hpick, hrun, List.foldl_cons, List.foldl_nil, if_pos hpin, Bool.false_eq_true, if_false]
  · simp only [exec, execPlacementPromote, hpick, hrun, hh, List.foldl_cons, List.foldl_nil, hkind, if_true, List.map_cons, List.map_nil,
      Bool.false_eq_true, if_false]
  · simp only [exec, execPlacementPromote, hpick, hrun, hn, List.filterMap_nil, List.filter_nil, List.foldl_cons, List.foldl_nil,
      Bool.false_eq_true, if_false]

/-- The promotion of one tile that no move holds, for each reason. -/
theorem execPlacementPromote_tile {slot i : Nat} {w : WeightObj} {x : Tile} (hrun : s.boot.halted = false)
    (hx : s.tileAt (slot, i) = some (w, x)) (hidle : s.queued (.tile w x) = false) :
    (x.tier ≠ 0 → exec (.placementPromote .plan ⟨[], [(slot, i)]⟩) s =
      .next (s.addMove (.ofTile w.slot x.index 0 (whyReason .plan) true true))) ∧
    (x.tier ≠ 0 → s.soonAt (some (s.tileUse x)) = true → exec (.placementPromote .predicted ⟨[], [(slot, i)]⟩) s =
      .next (s.addMove (.ofTile w.slot x.index 0 (whyReason .predicted) false true))) ∧
    exec (.placementPromote .limit ⟨[], [(slot, i)]⟩) s = .next (s.limitMove x.tier (.tile w x)) := by
  have hpick : ([(slot, i)].filterMap s.tileAt).filter (fun x => !s.queued (.tile x.1 x.2)) = [(w, x)] := by simp [hx, hidle]
  have hnone : ∀ (u : State) (l : Bool) (t r : Nat) (lat : Bool), u.queueMove [] l t r lat = u := fun _ _ _ _ _ => if_pos rfl
  refine ⟨fun htier => ?_, fun htier hsoon => ?_, ?_⟩
  · simp [exec, execPlacementPromote, hpick, hrun, hnone, htier]
    rfl
  · simp [exec, execPlacementPromote, hpick, hrun, hnone, htier, hsoon]
  · simp [exec, execPlacementPromote, hpick, hrun]

end

/-- Settles O35: each event in the branch that its tier, its pick or its task selects. -/
theorem placementEvents : Obligations.PlacementEvents := by
  unfold Obligations.PlacementEvents
  refine ⟨fun s tier => execPlacementDemoteWatermark_all, fun s u tier p => execPlacementDemoteWatermark_quota, ?demote, ?horizon, ?evict,
    fun s id b => execPlacementPromote_block, fun s slot i w x => execPlacementPromote_tile, ?unit, ?task, fun s copy => rfl,
    fun s => rfl, fun s h => rfl⟩
  case demote =>
    intro s t reason more ok c l
    simp only [State.demoteWhile, List.foldl_cons, Bool.and_eq_true]
  case horizon =>
    intro s tier hrun htier
    exact if_neg (by simp [hrun, Nat.not_le.2 htier])
  case evict =>
    intro s hrun hover
    simp only [exec, execPlacementEvict, hrun, hover, decide_true, Bool.and_self, Bool.false_eq_true, if_false, if_true]
  case unit =>
    intro s task m hrun hfull hawake hm
    show execMoveUnit task s = _
    unfold execMoveUnit
    rw [hm]
    exact if_neg (by simp [hrun, hfull, hawake])
  case task =>
    intro s task cls locus p b run hturn hgrant hpool
    have hgo : (decide (cls = 4) && s.busyBefore 4) = false := by
      by_cases h : cls = 4 <;> simp [h, hturn]
    refine ⟨fun hroom => ?_, fun hfull => ?_⟩
    · simp only [State.forTask, hgo, hgrant, hpool, hroom, Bool.false_eq_true, if_false, if_true]
    · simp only [State.forTask, hgo, hgrant, hpool, hfull, Option.isSome_none, Bool.false_eq_true, if_false]

end Sys2Proof.Machine
end

section
/-! PROOFS. Delivering.lean: the placement commands. -/
namespace Sys2Proof.Machine

/-- A delivery with the stride of its source that its port can carry. -/
theorem State.startDeliver_linked {s t : State} {o : Op} {x : Source2} {layers part : Nat} {p : SPort}
    (hport : t.port (t.portOf o (o.p 30 1)) = some p) (hnum : o.p 30 1 = 0xFF ∨ o.p 30 1 < 32)
    (hexpert : o.expert = true → o.p 31 1 < 16) (hstride : o.p 40 4 = 0) (hbuf : o.buf % 64 = 0)
    (hmay : outboundDenied (t.itemsOf o) (t.portFn o (t.portOf o (o.p 30 1))) o.buf ((layers - 1) * x.y + x.y) = false)
    (hlink : p.linked = true) (hunits : 1 ≤ layers * x.unitsPerLayer p.unitSize)
    (hs : s = (t.setOp o.tag (fun o => { o with work := .sent [] })).queueDeliver o x layers (t.portOf o (o.p 30 1))
      ((t.setOp o.tag (fun o => { o with work := .sent [] })).queueOf o (t.portOf o (o.p 30 1)) part 1
        (if o.expert then o.p 31 1 else 0)) p.unitSize) :
    t.startDeliver o x layers part = if layers * x.unitsPerLayer p.unitSize = 1 then .wait .none s
      else .long (layers * x.unitsPerLayer p.unitSize) 0 s := by
  have hover : ¬16 ≤ (if o.expert = true then o.p 31 1 else 0) := by
    split
    · exact Nat.not_le.2 (hexpert ‹_›)
    · omega
  unfold State.startDeliver
  simp only [hstride, if_true, hport, hmay, hlink, Bool.not_true, Bool.false_eq_true, if_false]
  rw [if_neg (by simp [hbuf, hover]; omega), if_neg (by omega), hs]

/-- Settles O36: each body in the branch that the selection and the arguments choose. -/
theorem placementCommands : Obligations.PlacementCommands := by
  unfold Obligations.PlacementCommands
  refine ⟨?fetch, ?deliver, ?tiles, fun s t o x layers part p => State.startDeliver_linked, ?spill, ?promote, ?drop, ?hint, ?stats, ?report⟩
  case fetch =>
    intro s t c o n v first count lay layers hb hv hsel hlay hlayout hbuf hearly
    have hbody : bodyFetch o t = if 64 < count then .long count 0 (t.setOp o.tag (fun o => { o with view := some v }))
        else match (List.range count).foldl (fun a i => fetchBlock o n v first count lay layers a (first + i))
            (.go 0 0 (t.setOp o.tag (fun o => { o with view := some v }))) with
          | .go b p s => .done .ok (fetchResult b p) s
          | .stop st r s => .done st r s
          | .waits l => .wait (.link l) t := by
      unfold bodyFetch
      rw [State.withView_on _ hv, hsel, hlay]
      dsimp only
      rw [if_neg (by simp [hbuf]; omega), if_neg (by simp [hearly])] <;> rfl
    refine ⟨fun hlong => ?_, fun b p u hshort hfold => ?_⟩
    · exact State.next_submit hb (hbody.trans (if_pos hlong))
    · refine State.next_submit (out := .done .ok _ u) hb (hbody.trans ((if_neg (Nat.not_lt.2 hshort)).trans ?_))
      rw [hfold]
  case deliver =>
    intro s t c o n v first count lay layers hb hwork hflags hlayout hkv hv hsel hlay hearly hactive hthere
    refine State.next_submit hb ?_
    unfold bodyDeliver
    simp only [hwork]
    rw [if_neg (by simp; omega), if_neg (by simp only [hkv]; simp), State.withView_on _ hv, hsel, hlay]
    dsimp only
    rw [if_neg (by simp [hearly]), if_neg (by simp [hactive]), hthere]
  case tiles =>
    intro s t c o w hb hwork hflags htiles hhandle hlayout hkind hlayers hw hrange hmay hearly
    refine State.next_submit hb ?_
    unfold bodyDeliver
    simp only [hwork]
    rw [if_neg (by simp [hlayout]; omega), if_pos htiles, if_neg (by simp [hhandle, hlayout, hkind, hlayers]), hw]
    dsimp only
    rw [if_neg (Nat.not_lt.2 hrange), if_neg (by simp [hmay]), if_neg (by simp [hearly])]
  case spill =>
    intro s t c o n v first count hb hv hsel hlow hhigh hflags htier hexpert hfull hlease hsane
    refine State.next_submit hb ?_
    have hpick : (o.expert && !(decide (o.p 30 1 < 4) || decide (o.p 30 1 = 0xFF))) = false := by
      cases he : o.expert
      · rfl
      · simp only [Bool.true_and, Bool.not_eq_false', Bool.or_eq_true, decide_eq_true_eq]
        exact hexpert he
    have hready : (!t.boot.full || (decide (o.p 28 1 = 2) && !t.hasLease) || (decide (o.p 28 1 = 3) && t.foot.sanitising)) = false := by
      by_cases h2 : o.p 28 1 = 2 <;> by_cases h3 : o.p 28 1 = 3 <;> simp [hfull, h2, h3, hlease, hsane]
    unfold bodySpill
    rw [State.withView_on _ hv, hsel]
    simp only [hpick, hready, Bool.or_false, Bool.false_eq_true, if_false]
    rw [if_neg (by simp; omega)]
  case promote =>
    intro s t c o n v first count lay layers hb hv hsel hlay htier hflags hfull hlease
    refine State.next_submit hb ?_
    have hready : (!t.boot.full || (decide (o.p 28 1 = 2) && !t.hasLease)) = false := by
      by_cases h2 : o.p 28 1 = 2 <;> simp [hfull, h2, hlease]
    unfold bodyPromote
    rw [State.withView_on _ hv, hsel, hlay]
    simp only [hready, Bool.false_eq_true, if_false]
    rw [if_neg (by simp; omega)]
  case drop =>
    intro s t c o n v first count hb hv hsel hclass
    have hbody : bodyDrop o t = if 1024 < count then .long (cdiv count 1024) 0 (t.setOp o.tag (fun o => { o with
          work := .slots ((List.range count).filterMap (fun i => v.blockAt (first + i))) }))
        else if t.movedFirst o ((List.range count).filterMap (fun i => v.blockAt (first + i))) then .wait .ended t
        else .done .ok (t.dropList ((List.range count).filterMap (fun i => v.blockAt (first + i)))).1
          (t.dropList ((List.range count).filterMap (fun i => v.blockAt (first + i)))).2 := by
      unfold bodyDrop
      rw [State.withView_on _ hv, hsel]
      dsimp only
      rw [if_neg (by simp [hclass])]
    refine ⟨fun hshort hmoved => ?_, fun hlong => ?_⟩
    · exact State.next_submit (out := .done .ok _ _) hb
        (hbody.trans ((if_neg (Nat.not_lt.2 hshort)).trans (if_neg (by simp [hmoved]))))
    · exact State.next_submit hb (hbody.trans (if_pos hlong))
  case hint =>
    intro s t u c o n v first count ids hb hexpert hv hsel hids htier
    refine ⟨fun hkind => ?_, fun hkind hlow hhigh hroom hu => ?_⟩
    · refine State.next_submit (out := .done .ok _ _) hb ?_
      unfold bodyPlaceHint
      rw [if_neg (by simp [hexpert]), State.withView_on _ hv, hsel]
      simp only [hkind, ← hids]
      rw [if_neg (by simp; omega), if_pos trivial]
    · refine State.next_submit (out := .done .ok _ _) hb ?_
      unfold bodyPlaceHint
      rw [if_neg (by simp [hexpert]), State.withView_on _ hv, hsel]
      simp only [← hids]
      rw [if_neg (by simp; omega), if_neg (by omega), if_neg (Nat.not_le.2 hroom), hu]
  case stats =>
    intro s t w c o n hb hmode hn hmay hw
    refine State.next_submit (out := .done .ok 0 w) hb ?_
    unfold bodyPlaceReport
    simp only [hmode, if_true, hn, hmay, Bool.not_true, Bool.false_eq_true, if_false]
    exact State.writeThen_wrote _ hw
  case report =>
    intro s t c o hb hhandle hpart hmay
    refine ⟨fun hmode => ?_, fun hmode hsize hbuf => ?_⟩
    · refine State.next_submit (out := .done .ok 0 _) hb ?_
      simp [bodyPlaceReport, hmode, hhandle, hpart, hmay]
    · obtain ⟨k, hlow, hhigh, hk⟩ := hsize
      have hpow : 2 ^ 6 ≤ 2 ^ k ∧ 2 ^ k ≤ 2 ^ 16 := ⟨Nat.pow_le_pow_right (by omega) hlow, Nat.pow_le_pow_right (by omega) hhigh⟩
      have hany : (List.range 17).any (fun i => decide (2 ^ i = o.p 12 4)) = true :=
        List.any_eq_true.2 ⟨k, List.mem_range.2 (by omega), by simp [hk]⟩
      refine State.next_submit (out := .done .ok 0 _) hb ?_
      unfold bodyPlaceReport
      simp only [hmode, hhandle, hpart, hmay, hany, hbuf]
      rw [if_neg (by omega), if_neg (by simp), if_neg (by simp), if_neg (by omega), if_neg]
      simp only [Bool.not_true, Bool.or_false, bne_self_eq_false, Bool.or_eq_true, decide_eq_true_eq, not_or, Nat.not_lt]
      omega

end Sys2Proof.Machine
end

section
/-! PROOFS. LeasesAndWeights.lean: capacity leases, weight objects and their tiles. -/
namespace Sys2Proof.Machine

theorem leaseRequest_eq {o : Op} {t : State} {p : Nat} (hp : p = o.p 10 2) (hpartner : p < 1024) (hlow : 1 ≤ o.p 16 4)
    (hhigh : o.p 16 4 ≤ 65535) (hnotice : 1 ≤ o.p 22 2) (hnotice' : o.p 22 2 ≤ 60) (hlends : t.lendsWith p = true)
    (hfew : t.leaseCount true < 8) (hnew : ∀ l ∈ t.tiers.leases, l.borrower = true → l.partner ≠ p) :
    leaseRequest o t = .wait (.lease (t.requestLease p (o.p 16 4 * 2 ^ 30) (o.p 20 2) (o.p 22 2) (o.p 24 4)).1)
      (t.requestLease p (o.p 16 4 * 2 ^ 30) (o.p 20 2) (o.p 22 2) (o.p 24 4)).2 := by
  have hnone : t.tiers.leases.any (fun l => l.borrower && l.partner == p) = false :=
    List.any_eq_false.2 fun l hl => by
      cases hrole : l.borrower
      · simp
      · simpa using hnew l hl hrole
  unfold leaseRequest
  dsimp only
  rw [← hp, hnone, if_neg (by simp; omega), if_neg (by simp [hlends]), if_neg (by simp; omega)]

/-- A command that begins and is done with its first unit. -/
theorem State.next_submit_done {s t w : State} {op : Nat} {c : Cmd} {o : Op} {body : Op → State → BodyOut} {st : Status} {r : Nat}
    (h : s.begins op c = some (o, t)) (hout : body o t = .done st r w) :
    (.next (s.submit op body c) : Host.Outcome State Fault Refusal) = .next (w.finish o.tag st r) := State.next_submit h hout

/-- Settles O37: each event in the branch that the lease's role and state select. -/
theorem leaseStates : Obligations.LeaseStates := by
  unfold Obligations.LeaseStates
  refine ⟨?list, ?giveBack, ?returning, ?ask, ?auto, ?granted, ?answered, ?active, ?reclaiming, ?lost⟩
  case list =>
    intro s t w c o hb hwait hmode hw
    refine State.next_submit_done hb ?_
    simp only [bodyLease, hwait, hmode, if_true]
    exact State.writeThen_wrote _ hw
  case giveBack =>
    intro s t c o l hb hwait hexpert hmode hl hstate hrole
    refine State.next_submit_done hb ?_
    simp [bodyLease, hwait, hmode, hexpert, hl, hstate, hrole]
  case returning =>
    intro s t c o l hb hwait hexpert hmode hl hstate hrole
    refine State.next_submit_done hb ?_
    simp [bodyLease, hwait, hmode, hexpert, hl, hstate, hrole]
  case ask =>
    intro s t c o p hb hwait hexpert hmode hp hpartner hlow hhigh hnotice hnotice' hlends hfew hnew
    have hask : bodyLease o t = leaseRequest o t := by simp [bodyLease, hwait, hmode, hexpert]
    have hbody := hask.trans (leaseRequest_eq hp hpartner hlow hhigh hnotice hnotice' hlends hfew hnew)
    exact State.next_submit hb hbody
  case auto =>
    intro s p hflag hhigh hfull hclaimed hrun hturn hfew
    obtain ⟨t, ht, hold⟩ := hhigh
    have hlong : s.tiers.highSince.any (fun t => decide (t + 1000000000 ≤ s.clock.now)) = true :=
      (Option.any_eq_true _ _).2 ⟨t, ht, decide_eq_true hold⟩
    exact if_pos (by simp only [hflag, hlong, hfull, hclaimed, hrun, hturn, hfew, Bool.not_false, Bool.and_self, decide_true])
  case granted =>
    intro s p id cap rate notice term hflag hclaimed hrun hlends hfew hroom
    exact if_pos (by simp only [hflag, hclaimed, hrun, hlends, hfew, hroom, decide_true, Bool.not_false, Bool.and_self])
  case answered =>
    intro s id l hl hrole hstate
    refine ⟨?_, ?_, fun hlate => ?_⟩
    · simp [exec, execLeaseAnswerReceived, hl, hrole, hstate]
    · simp [exec, execLeaseAnswerReceived, hl, hrole, hstate]
    · simp [exec, execLeaseRequestTimeout, hl, hrole, hstate, hlate]
  case active =>
    intro s id l hl hstate
    refine ⟨fun hrole => ?_, fun hterm hover => ?_, fun hlate => ?_⟩
    · simp [exec, execLeaseReclaimReceived, hl, hrole, hstate]
    · simp [exec, execLeaseTermEnd, hl, hstate, hterm, hover]
    · simp [exec, execLeaseHeartbeatTimeout, hl, hstate, LeaseState.beats, hlate]
  case reclaiming =>
    intro s id l hl hstate
    refine ⟨fun hover => ?_, fun hempty => ?_⟩
    · simp [exec, execLeaseNoticeExpiry, hl, hstate, hover]
    · simp [exec, execLeaseEmpty, hl, hstate, hempty]
  case lost =>
    intro s id l hl hstate
    simp [exec, execLeaseLostBookkeeping, hl, hstate]

/-! ### Weight objects -/

theorem weightDelete_eq {o : Op} {t : State} {x : WeightObj}
    (hx : t.tiers.weights.find? (fun w => w.handle == o.p 24 4 && (!w.deleting || o.wait == .ended)) = some x)
    (hmay : t.mayPart (t.opFn o) x.partition = true) {u : State} (hu : u = { t with
      tiers.weights := upd (fun w : WeightObj => w.slot == x.slot) (fun w : WeightObj => { w with deleting := true }) t.tiers.weights }) :
    weightDelete o t = if 1024 < x.count then .long (cdiv x.count 1024) (o.p 24 4) u
      else if u.weightUsed x o.tag then .wait .ended u else .done .ok (o.p 24 4) (u.freeWeight x.slot) := by
  subst hu
  simp only [weightDelete, hx, hmay, Bool.not_true, Bool.false_eq_true, if_false]

theorem bodyWeightWrite_eq {o : Op} {t : State} {x : WeightObj} {b : Binding} (hx : t.weightOf (o.p 8 4) = some x)
    (hbind : t.binding x.binding = some b) (hlow : 1 ≤ o.p 16 4) (hrange : o.p 12 4 + o.p 16 4 ≤ x.count)
    (hmay : t.mayPart (t.opFn o) x.partition = true) (hsane : x.tier = 3 → t.foot.sanitising = false) :
    bodyWeightWrite o t = if 64 < o.p 16 4 then .long (o.p 16 4) 0 t
      else match writeTiles o b x.slot (o.p 12 4) (o.p 16 4) 0 t with
        | (.ok s, n) => .done .ok n s
        | (.stop st s, n) => .done st n s
        | (.waits l, _) => .wait (.link l) t := by
  have hwell : (decide (x.tier = 3) && t.foot.sanitising) = false := by
    by_cases h : x.tier = 3 <;> simp [h, hsane]
  unfold bodyWeightWrite
  simp only [hx, hbind, Option.bind_some, Option.map_some, hmay, hwell, Bool.not_true, Bool.false_eq_true, if_false]
  rw [if_neg (by omega), if_neg (Nat.not_lt.2 hrange)] <;> rfl

/-- A tile is written from its plaintext, when there is one. -/
theorem State.writeTile_opens {s : State} {o : Op} {w : WeightObj} {b : Binding} {i : Nat} {raw : List Byte}
    (hraw : s.hostRead (s.opFn o) (s.opFn o).link (o.buf + (i - o.p 12 4) * (w.tileSize + 64)) (w.tileSize + 16) = .ok raw) :
    ∃ f : List Byte → TileOut, s.writeTile o w b i =
      (Config.gcmOpen b.key (b.iv + i * 2 ^ 64) [] (raw.take w.tileSize) (leNat (raw.drop w.tileSize))).elim
        (.stop .integrityError (s.readFor o (o.buf + (i - o.p 12 4) * (w.tileSize + 64)) (w.tileSize + 16))) f := by
  unfold State.writeTile
  dsimp only
  rw [hraw]
  dsimp only
  cases Config.gcmOpen b.key (b.iv + i * 2 ^ 64) [] (raw.take w.tileSize) (leNat (raw.drop w.tileSize)) with
  | none => exact ⟨fun _ => .waits 0, rfl⟩
  | some plain => exact ⟨fun _ => _, rfl⟩

/-- Settles O38: each body in the branch that the object and the arguments select. -/
theorem weightCommands : Obligations.WeightCommands := by
  unfold Obligations.WeightCommands
  refine ⟨?create, ?query, ?delete, ?unit, ?write, ?writeLong, ?next, ?opened⟩
  case create =>
    intro s t c o i hb hmode hformat hformat' hpart hvalid htier hlow hhigh hsize hsize' halign hbind hmay hroom hfree
    refine State.next_submit_done hb ?_
    simp only [bodyWeightObject, hmode, weightCreate, hvalid, hmay, hfree, Option.isNone_eq_false_iff.2 hbind, Bool.not_true, Bool.or_false,
      Bool.false_eq_true, if_false]
    rw [if_neg (by simp [hformat']; omega), if_neg (Nat.not_lt.2 hroom)]
  case query =>
    intro s t w c o x hb hmode hx hmay hw
    refine State.next_submit_done hb ?_
    simp only [bodyWeightObject, hmode, hx, hmay, Bool.not_true, Bool.false_eq_true, if_false]
    exact State.writeThen_wrote _ hw
  case delete =>
    intro s t u c o x hb hmode hx hmay hu
    have hdelete : bodyWeightObject o t = weightDelete o t := by simp only [bodyWeightObject, hmode]
    have hbody := hdelete.trans (weightDelete_eq hx hmay hu)
    refine ⟨fun hshort hidle => ?_, fun hshort hused => ?_, fun hlong => ?_⟩
    · exact State.next_submit_done hb
        (hbody.trans ((if_neg (Nat.not_lt.2 hshort)).trans (if_neg (by simp [hidle]))))
    · exact State.next_submit hb (hbody.trans ((if_neg (Nat.not_lt.2 hshort)).trans (if_pos hused)))
    · exact State.next_submit hb (hbody.trans (if_pos hlong))
  case unit =>
    intro s o w hw hidle
    refine ⟨fun hlast => ?_, fun hmore => ?_⟩
    · simp only [unitWeightDelete, hw, hidle, Bool.false_eq_true, if_false, if_neg (Nat.not_lt.2 hlast)]
    · simp only [unitWeightDelete, hw, hidle, Bool.false_eq_true, if_false, if_pos hmore]
  case write =>
    intro s t c o x b hb hx hbind hlow hhigh hrange hmay hsane
    refine (State.next_submit hb ((bodyWeightWrite_eq hx hbind hlow hrange hmay hsane).trans (if_neg (Nat.not_lt.2 hhigh)))).trans ?_
    obtain ⟨u | ⟨st, u⟩ | l, k⟩ := writeTiles o b x.slot (o.p 12 4) (o.p 16 4) 0 t <;> rfl
  case writeLong =>
    intro s t c o x b hb hx hbind hlong hrange hmay hsane
    exact State.next_submit hb ((bodyWeightWrite_eq hx hbind (by omega) hrange hmay hsane).trans (if_pos hlong))
  case next =>
    intro s o b w i n hw
    refine ⟨fun hthere => ?_, fun hnew => ?_⟩
    · simp [writeNext, hw, hthere]
    · simp only [writeNext, hw, hnew]
      cases s.writeTile o w b i <;> rfl
  case opened =>
    intro s o w b i raw hraw
    exact State.writeTile_opens hraw

end Sys2Proof.Machine
end

section
/-! PROOFS. Footing.lean: background work of the footing. -/
namespace Sys2Proof.Machine

/-- R232: the end that the head of a channel meets, as its kind and the end say. -/
def State.nandMeets (s t : State) (ch : Nat) (x : NandOp) (b : EraseBlock) : Prop :=
  t = s.nandStart ch ∧ t.nandHead ch = some x ∧ x.started = true ∧ t.eraseBlock x.block = some b

theorem State.nandMeets.head {s t : State} {ch : Nat} {x : NandOp} {b : EraseBlock} (h : s.nandMeets t ch x b) :
    (((s.nandStart ch).nandHead ch).filter (·.started)).bind (fun x => ((s.nandStart ch).eraseBlock x.block).map (fun b => (x, b))) =
      some (x, b) := by
  obtain ⟨rfl, hhead, hstarted, hblock⟩ := h
  rw [hhead, Option.filter_some_pos hstarted]
  simp [hblock]

section
variable {s t : State} {ch : Nat} {x : NandOp} {b : EraseBlock} (h : s.nandMeets t ch x b)
include h

theorem execNandOpComplete_erase (hk : x.kind = 2) :
    execNandOpComplete ch .eraseOk s = .next (((((((t.nandDone x).bump 0x0A2 1).updDie b.die (fun d => { d with
      bytesErased := d.bytesErased + t.foot.part.elim 0 (·.blockBytes) })).eraseEnds b).footingChanged).nandStart ch)) ∧
    execNandOpComplete ch .eraseFailed s = .next ((((t.nandDone x).bump 0x0A2 1).retireErase b.id 1).nandStart ch) := by
  have hhead := h.head
  obtain ⟨rfl, -⟩ := h
  constructor <;> simp only [execNandOpComplete, hhead, hk]

theorem execNandOpComplete_program (hk : x.kind = 1) :
    execNandOpComplete ch .programOk s = .next (((((t.nandDone x).bump 0x0A1 1).updDie b.die (fun d => { d with
      bytesProgrammed := d.bytesProgrammed + 16384 })).footForced).nandStart ch) ∧
    execNandOpComplete ch .programFailed s = .next ((((t.bump 0x0A1 1).retireErase b.id 0).footForced).nandStart ch) := by
  have hhead := h.head
  obtain ⟨rfl, -⟩ := h
  constructor <;> simp only [execNandOpComplete, hhead, hk]

theorem execNandOpComplete_read (hk : x.kind = 0) :
    execNandOpComplete ch (.readOk true) s = .next (((((t.nandDone x).bump 0x0A0 1).updDie b.die (fun d => { d with
      bytesRead := d.bytesRead + 16384 })).readEnds b x.row (.readOk true)).nandStart ch) ∧
    execNandOpComplete ch .readRetried s = .next ((((t.nandDone x).bump 0x0A0 1).readEnds b x.row .readRetried).nandStart ch) ∧
    execNandOpComplete ch .readRebuilt s = .next ((((t.nandDone x).bump 0x0A0 1).readEnds b x.row .readRebuilt).nandStart ch) ∧
    ∀ other, execNandOpComplete ch (.rowLost other) s =
      .next ((((t.nandDone x).bump 0x0A0 1).readEnds b x.row (.rowLost other)).nandStart ch) := by
  have hhead := h.head
  obtain ⟨rfl, -⟩ := h
  refine ⟨?_, ?_, ?_, fun other => ?_⟩ <;>
    simp only [execNandOpComplete, hhead, hk, Bool.not_true, Bool.and_false, Bool.false_eq_true, if_false]

theorem execNandOpComplete_die {d : NandDie} (hd : t.die b.die = some d) (hlive : d.retired = false) :
    execNandOpComplete ch .dieFailed s = .next (((t.retireDie d).footForced).nandStart ch) := by
  have hhead := h.head
  obtain ⟨rfl, -⟩ := h
  simp only [execNandOpComplete, hhead, hd, hlive, Bool.false_eq_true, if_false]

end

theorem execFtlBackgroundOp_gate {s : State} {port : Nat} {w : FtlWork} (hm : s.foot.mounted = true)
    (hs : s.foot.sanitising = false) (hr : s.boot.halted = false) (ha : s.memoriesAwake = true) (hp : port = 40 ∨ port = 41) :
    execFtlBackgroundOp port w s = .next (if s.footNow.ungated w || s.footNow.footGate port then
      (s.footNow.ftlWork (port - 40) w).footForced else s.footNow) := by
  unfold execFtlBackgroundOp
  rw [if_pos (by simp [hm, hs, hr, ha, hp])]

theorem execRelocationAgeTrigger_aged {s : State} {id : Nat} {b : EraseBlock} (hb : s.eraseBlock id = some b)
    (hfree : s.freeErase b = false) (hrun : s.boot.halted = false) :
    execRelocationAgeTrigger id s = .next (if 30 * 86400 * 10 ^ 9 ≤ s.clock.now - b.programmedAt then s.hardRelocate id
      else if 14 * 86400 * 10 ^ 9 ≤ s.clock.now - b.programmedAt && s.footGate (40 + s.channelOfErase b / 16) then
        (s.relocate 5 id).bump 0x0A7 1
      else s) := by
  unfold execRelocationAgeTrigger
  rw [hb]
  dsimp only
  rw [if_neg (by simp [hfree, hrun])]

/-- Settles O39: background work of the footing under its gate, the ends of the NAND operations, ageing, compaction and sanitise. -/
theorem footingEvents : Obligations.FootingEvents := by
  unfold Obligations.FootingEvents
  refine ⟨fun s port w hm hs hr ha hp => ⟨fun hgate => ?_, fun hgate => ?_⟩, ?_, fun s id b hb hfree hrun => ⟨fun hold => ?_, ?_⟩,
    fun s hm hlast => ?_, fun s hman hm hlife hs => ?_, fun s hs hq => ?_⟩
  · exact (execFtlBackgroundOp_gate hm hs hr ha hp).trans (by rw [if_pos hgate])
  · exact (execFtlBackgroundOp_gate hm hs hr ha hp).trans (by rw [if_neg (Bool.eq_false_iff.1 hgate)])
  · intro s t ch x b ht hx hstarted hb
    have h : s.nandMeets t ch x b := ⟨ht, hx, hstarted, hb⟩
    exact ⟨fun hk => (execNandOpComplete_erase h hk).1, fun hk => (execNandOpComplete_erase h hk).2,
      fun hk => (execNandOpComplete_program h hk).1, fun hk => (execNandOpComplete_program h hk).2,
      fun hk => (execNandOpComplete_read h hk).1, fun hk => (execNandOpComplete_read h hk).2.1,
      fun hk => (execNandOpComplete_read h hk).2.2.1, fun hk => (execNandOpComplete_read h hk).2.2.2,
      fun d hd hlive => execNandOpComplete_die h hd hlive⟩
  · exact (execRelocationAgeTrigger_aged hb hfree hrun).trans (by rw [if_pos hold])
  · intro hsoft hyoung hgate
    refine (execRelocationAgeTrigger_aged hb hfree hrun).trans ?_
    rw [if_neg (Nat.not_le.2 hyoung), if_pos (Bool.and_eq_true_iff.2 ⟨decide_eq_true hsoft, hgate⟩)]
  · exact if_pos (Bool.and_eq_true_iff.2 ⟨hm, decide_eq_true hlast⟩)
  · exact if_pos (by simp [hman, hm, hlife, hs])
  · exact if_pos (by simpa [hs] using hq)

end Sys2Proof.Machine
end

section
/-! PROOFS. Plans.lean: prefetch plans. -/
namespace Sys2Proof.Machine

theorem bodyPrefetchPlan_pages {o : Op} {t : State} {n : Namespace} {v : View} {first count : Nat} (hkind : o.p 12 1 ≠ 2)
    (hv : t.onVersion o n v) (hsel : o.selects n v = some (first, count))
    (hfits : o.p 24 1 + (if o.p 25 1 = 0 then 256 else o.p 25 1) ≤ n.geo.l) (hcount : count ≠ 0)
    (hearly : t.tooEarly v first count = false) (hheld : missingResult v.refs first count = none) :
    bodyPrefetchPlan o t = t.makePlan o (count * n.geo.deliveredBytes n.geo.fmt) n.partition n.index 0 (some v) count := by
  unfold bodyPrefetchPlan
  rw [if_neg hkind, State.withView_on _ hv, hsel]
  dsimp only
  rw [if_neg (by simp only [Bool.or_eq_true, decide_eq_true_eq]; omega), if_neg (by simp [hearly]), hheld]

theorem bodyPrefetchPlan_tiles {o : Op} {t : State} {w : WeightObj} {layers : Nat} (hkind : o.p 12 1 = 2) (hhandle : o.handle = 0)
    (hlayout : o.p 13 1 = 0) (hfirst : o.p 24 1 = 0) (hw : t.weightOf (o.p 8 4) = some w)
    (hlayers : layers = (if o.p 25 1 = 0 then 256 else o.p 25 1)) (hcount : o.p 20 4 ≠ 0)
    (hrange : o.p 16 4 + layers * o.p 20 4 ≤ w.count) (hpart : t.mayPart (t.opFn o) w.partition = true)
    (hearly : t.tilesEarly w (o.p 16 4) (layers * o.p 20 4) = false) :
    bodyPrefetchPlan o t = t.makePlan o (o.p 20 4 * w.tileSize) w.partition 0 w.slot none (o.p 20 4) := by
  subst hlayers
  unfold bodyPrefetchPlan
  rw [if_pos hkind, if_neg (by simp [hhandle, hlayout, hfirst]), hw]
  dsimp only
  rw [if_neg hcount, if_neg (by omega), if_neg (by simp [hpart]), if_neg (Bool.eq_false_iff.1 hearly)]

theorem bodyLayerTick_live {o : Op} {t : State} {p : Plan} (hp : t.livePlan (o.p 8 4) = some p) (hpast : o.p 24 8 ≤ t.clock.now)
    (hin : ∀ k, p.total = some k → o.p 16 8 ≤ k) :
    bodyLayerTick o t = .done .ok (b2n (t.tickPlan p (if o.p 24 8 = 0 then t.clock.now else o.p 24 8) (o.p 16 8)).1)
      (t.tickPlan p (if o.p 24 8 = 0 then t.clock.now else o.p 24 8) (o.p 16 8)).2 := by
  have hnotover : p.total.any (fun k => decide (k < o.p 16 8)) = false := by
    cases htotal : p.total with
    | none => rfl
    | some k => simpa using hin k htotal
  unfold bodyLayerTick
  rw [hp]
  dsimp only
  rw [if_neg (by rw [hnotover]; simp only [Bool.or_false, decide_eq_true_eq]; split <;> omega)]

/-- Settles O40: each plan command and the doorbell in the branch that their hypotheses select. -/
theorem planCommands : Obligations.PlanCommands := by
  unfold Obligations.PlanCommands
  refine ⟨?pages, ?tiles, ?made, ?tick, ?doorbell, ?stray, ?stop, ?finish, ?query⟩
  case pages =>
    intro s t c o n v first count hb hkind hv hsel hfits hcount hearly hheld
    exact (State.next_submit hb rfl).trans (by rw [bodyPrefetchPlan_pages hkind hv hsel hfits hcount hearly hheld])
  case tiles =>
    intro s t c o w layers hb hkind hhandle hlayout hfirst hw hlayers hcount hrange hpart hearly
    exact (State.next_submit hb rfl).trans (by rw [bodyPrefetchPlan_tiles hkind hhandle hlayout hfirst hw hlayers hcount hrange hpart
        hearly])
  case made =>
    intro t o y part ns weight count i ap guard stall idle q layers stride v hap hguard hstall hidle hq hlayers hstride hy hgood hout hslot
    subst hap hguard hstall hidle hq hlayers hstride
    unfold State.makePlan
    dsimp only
    rw [if_neg (by rw [hgood, Bool.false_or, decide_eq_true_eq]; exact Nat.not_lt.2 hy), if_neg (by rw [hout]; simp), hslot]
    exact ⟨_, rfl, rfl, rfl, rfl, rfl, rfl, rfl, rfl, rfl, rfl, rfl, rfl, rfl, rfl, rfl, rfl, rfl, rfl, rfl⟩
  case tick =>
    intro s t c o p hb hp hpast hin
    exact State.next_submit_done hb (bodyLayerTick_live hp hpast hin)
  case doorbell =>
    intro s f tee slot v p hhears hrun hp hin
    have hnotover : p.total.any (fun k => decide (k < v % 2 ^ 44)) = false := by
      cases htotal : p.total with
      | none => rfl
      | some k => simpa using hin k htotal
    show execTickDoorbell ⟨f, tee⟩ slot 8 v s = _
    unfold execTickDoorbell
    rw [if_neg (by simp [hhears, hrun]), hp]
    dsimp only
    rw [hnotover]
    rfl
  case stray =>
    intro s f tee slot width v hhears hrun hp
    show execTickDoorbell ⟨f, tee⟩ slot width v s = _
    unfold execTickDoorbell
    rw [if_neg (by simp [hhears, hrun]), hp]
  case stop =>
    intro s t u c o p q hb hwait hp hmode hu hdead hq
    have hbody : bodyCancelPlan o t = (match u.livePlan (o.p 8 4), u.plan (o.p 8 4) with
      | none, some p => .done .ok p.gapless u
      | _, _ => .wait .ended u) := by
      subst hu
      unfold bodyCancelPlan
      rw [if_neg (by simp [hwait]), hp]
      dsimp only
      rw [if_neg (by omega), hmode]
      simp only [decide_true, Bool.true_or, Bool.and_true, Bool.true_and, Bool.not_true, Bool.false_and, Bool.false_eq_true, if_false,
        if_true] <;> rfl
    exact State.next_submit_done hb (hbody.trans (by rw [hdead, hq]))
  case finish =>
    intro s t u c o p q hb hwait hp hmode hn hu
    have hbody : bodyCancelPlan o t = (match u.livePlan (o.p 8 4), u.plan (o.p 8 4) with
      | none, some p => .done .ok p.gapless u
      | _, _ => .wait .ended u) := by
      subst hu
      unfold bodyCancelPlan
      rw [if_neg (by simp [hwait]), hp]
      dsimp only
      rw [if_neg (by omega), hmode]
      simp only [Nat.one_ne_zero, decide_false, Bool.false_or, Bool.not_false, Bool.true_and, decide_eq_true_eq, if_neg (Nat.not_le.2 hn),
        if_false] <;> rfl
    constructor
    · intro hlive
      exact State.next_submit hb (hbody.trans (by rw [hlive]))
    · intro hdead hq
      exact State.next_submit_done hb (hbody.trans (by rw [hdead, hq]))
  case query =>
    intro s t w c o p hb hp hshown hw
    refine State.next_submit_done hb ?_
    have hkept : (!p.live && t.q.ops.any (fun x => x.tag == p.tag)) = false := by
      rcases hshown with hlive | hgone
      · simp [hlive]
      · simpa using fun _ => hgone
    unfold bodyPlanQuery
    rw [hp]
    dsimp only
    rw [hkept, State.writeThen_wrote _ hw]
    rfl

end Sys2Proof.Machine
end

section
/-! PROOFS. Attention.lean: attention commands, descriptors and query windows. -/
namespace Sys2Proof.Machine

/-- A message on the fabric changes the fabric alone. -/
theorem State.fabricSend_eq (s : State) (c : Traffic) (b : FabBody) (src dst : Nat) :
    ∃ fab, s.fabricSend c b src dst = { s with fab := fab } := by
  unfold State.fabricSend State.fabricPut
  dsimp only
  split
  · exact ⟨_, rfl⟩
  · split <;> exact ⟨_, rfl⟩

/-- R295: what ATTEND does with a version that its descriptor and its entry suit. -/
theorem bodyAttend_judged {o : Op} {t : State} {n : Namespace} {v : View} {d : Mem} {x : AttCtx} {xs : List AttCtx}
    (hv : t.onVersion o n v) (hd : t.attJudge o n = .ok d)
    (hcs : ({ o with view := some v } : Op).entries.map (({ o with view := some v } : Op).ctx d [] n) = x :: xs) (hn : x.nk ≤ v.n)
    (hearly : t.attEarly x = false) (hactive : n.active = true) (hthere : x.missing = none) :
    bodyAttend o t = (t.setOp o.tag (fun o => { o with view := some v })).withQuery { o with view := some v } d
      (fun s => s.attPromote { o with view := some v } n (x :: xs) (s.attended { o with view := some v } (x :: xs))) := by
  unfold bodyAttend
  rw [State.withView_on _ hv, hd]
  dsimp only
  rw [hcs]
  dsimp only
  rw [if_neg (Nat.not_lt.2 hn), if_neg (by simp [hearly]), if_neg (by simp [hactive]), hthere]

theorem bodyAttendSparse_view {o : Op} {t : State} {n : Namespace} {v : View} {d : Mem} (hmode : o.p 12 1 ≠ 2)
    (hv : t.onVersion o n v) (hd : t.attJudge o n = .ok d) (hin : ∀ e ∈ ({ o with view := some v } : Op).entries, e.2.1 ≤ v.n) :
    bodyAttendSparse o t =
      (t.setOp o.tag (fun o => { o with view := some v })).sparseRun { o with view := some v } n d := by
  unfold bodyAttendSparse
  dsimp only
  rw [if_pos (by simpa using hmode), State.withView_on _ hv, hd]
  dsimp only
  rw [if_neg (by simpa using hin)]

theorem bodyAttendSparse_list {o : Op} {t : State} {n : Namespace} {d : Mem} {b : List Byte} {l : List (View × Nat × Nat)}
    (hmode : o.p 12 1 = 2) (hwork : o.work = .nothing) (hns : t.nsAny o.handle = some n) (hd : t.attJudge o n = .ok d)
    (hb : t.got o (o.p 40 8) (16 * o.p 8 4) = some b) (hl : t.readList n (Mem.write [] 0 b) 0 (o.p 8 4) = .ok l) :
    bodyAttendSparse o t = ((t.setOp o.tag (fun o => { o with work := .listed l })).sparseRun { o with work := .listed l } n d).after
      (fun w => w.readFor o (o.p 40 8) (16 * o.p 8 4)) := by
  unfold bodyAttendSparse
  dsimp only
  rw [if_neg (by simp [hmode]), State.withNs_some _ hns, hd]
  dsimp only
  rw [hwork]
  dsimp only
  rw [State.withRead_got _ hb, hl]

section
variable {s : State} {o : Op} {n : Namespace} {cs : List AttCtx} {l : List (Nat × Nat × Bool)} {piers : List Nat}
  (hdeck : s.belowDeck cs l = [])
  (hpiers : piers = (l.filterMap (fun x => (cs[x.1]?).bind (fun c => (s.attPage c x.2.1).map (fun y => y.2.home)))).eraseDups)
include hdeck hpiers

/-- With every page on the deck, an attention command waits for contexts or for the merge. -/
theorem State.attPromote_onDeck : s.attPromote o n cs l =
    if piers.any (fun p => 2048 ≤ s.ctxUsed p && !o.contexts.contains p) then .wait .context s
    else .wait .merge (s.setOp o.tag (fun o => { o with contexts := piers })) := by
  unfold State.attPromote
  rw [hdeck, hpiers]
  rfl

end

theorem State.attMerge_whole {s t : State} {o : Op} {n : Namespace} {r : Nat} (hn : s.nsAny o.handle = some n)
    (hthere : ∀ x ∈ s.attCtxs o n, x.missing = none)
    (hdeck : s.belowDeck (s.attCtxs o n) (s.attended o (s.attCtxs o n)) = [])
    (hwrite : s.attWrite o n (s.attCtxs o n) (s.attended o (s.attCtxs o n)) = .ok (r, t)) : s.attMerge o = .done .ok r t := by
  have hnone : (s.attCtxs o n).findSome? AttCtx.missing = none := List.findSome?_eq_none_iff.2 hthere
  unfold State.attMerge
  rw [hn]
  dsimp only
  rw [hnone, ite_self]
  dsimp only
  rw [hdeck, hwrite]
  rfl

/-- A descriptor slot that the command may act on. -/
theorem bodyAttDesc_admitted {o : Op} {t : State} (hslot : o.p 8 2 < 4096) (hact : o.p 10 1 < 3)
    (hvalid : partValid (t.itemsOf o) (o.p 11 1) = true) (hmay : t.mayPart (t.opFn o) (o.p 11 1) = true)
    (hpart : ∀ d, t.desc (o.p 8 2) = some d → d.partition = o.p 11 1) (halign : o.p 10 1 = 1 ∨ o.buf % 64 = 0) :
    bodyAttDesc o t = (match o.p 10 1, t.desc (o.p 8 2) with
      | 0, _ => t.withRead o o.buf 1024 (fun b =>
          if descOk (Mem.write [] 0 b) then
            .done .ok 0 { t with att.descs := ⟨o.p 8 2, o.p 11 1, Mem.write [] 0 b⟩ :: t.att.descs.filter (·.slot != o.p 8 2) }
          else .done .badParam 0 t)
      | _, none => .done .badHandle 0 t
      | 1, some _ => .done .ok 0 { t with att.descs := t.att.descs.filter (·.slot != o.p 8 2) }
      | _, some d => t.writeThen o o.buf (d.bytes.read 0 1024) (fun s => .done .ok 0 s)) := by
  have hsame : (t.desc (o.p 8 2)).any (·.partition != o.p 11 1) = false := by
    cases hd : t.desc (o.p 8 2) with
    | none => rfl
    | some d => simpa using hpart d hd
  unfold bodyAttDesc
  dsimp only
  rw [if_neg (by simp only [hvalid, Bool.or_eq_true, Bool.and_eq_true, decide_eq_true_eq, bne_iff_ne]; simp; omega),
    if_neg (by simp [hmay, hsame])] <;> rfl

/-- Windows that the command may bind or free. -/
theorem bodyAttWindows_bind {o : Op} {t : State} {w : Nat} (hlow : 1 ≤ o.p 10 2) (hhigh : o.p 10 2 ≤ 16) (hact : o.p 8 1 = 0)
    (hab : o.p 9 1 = 0 ∨ o.p 9 1 = 1 ∨ o.p 9 1 = 0xFF) (hroom : (t.att.windows.filter (·.2 == o.qp)).length + o.p 10 2 ≤ 64)
    (hrun : ((if o.p 9 1 = 1 then none else t.windowRun 0 (o.p 10 2)).or
      (if o.p 9 1 = 0 then none else t.windowRun 1 (o.p 10 2))) = some w) :
    bodyAttWindows o t = .done .ok w { t with att.windows := t.att.windows ++ (List.range (o.p 10 2)).map (fun i => (w + i, o.qp)) } := by
  unfold bodyAttWindows
  dsimp only
  rw [if_neg (by simp; omega), if_pos hact, if_neg (Nat.not_lt.2 hroom)]
  revert hrun
  generalize (if o.p 9 1 = 1 then none else t.windowRun 0 (o.p 10 2)) = near
  generalize (if o.p 9 1 = 0 then none else t.windowRun 1 (o.p 10 2)) = far
  intro hrun
  cases near with
  | some x =>
    obtain rfl : x = w := by simpa using hrun
    rfl
  | none =>
    obtain rfl : far = some w := hrun
    rfl

theorem bodyAttWindows_free {o : Op} {t : State} (hlow : 1 ≤ o.p 10 2) (hhigh : o.p 10 2 ≤ 16) (hact : o.p 8 1 = 1)
    (hab : o.p 9 1 = 0 ∨ o.p 9 1 = 1 ∨ o.p 9 1 = 0xFF) (hbound : ∀ i, i < o.p 10 2 → (i + o.p 12 2, o.qp) ∈ t.att.windows) :
    bodyAttWindows o t = if t.queryPending ((List.range (o.p 10 2)).map (· + o.p 12 2)) then .wait .ended t
      else .done .ok (o.p 12 2) { t with att.windows := t.att.windows.filter (fun w =>
          !((List.range (o.p 10 2)).map (· + o.p 12 2)).contains w.1) } := by
  unfold bodyAttWindows
  dsimp only
  rw [if_neg (by simp; omega), if_neg (by omega), if_neg (by simpa using hbound)]

/-- R298: a store to a query window writes the window's bytes. -/
theorem State.queryStore_content {s : State} {f : Fn} {w : Nat} (offset : Nat) (bytes : List Byte) (hown : s.windowOwned f w = true)
    (hsecure : ideRequired s.stg.live = true → s.linkSecure f.link = true) :
    (s.queryStore f w offset bytes).att.content = s.att.content.write offset bytes := by
  unfold State.queryStore
  obtain ⟨fab, hfab⟩ := s.fabricSend_eq .bulk (.store w) (abutmentDie (portAbutment f.link)) (abutmentDie (w / 1024))
  rw [hfab]
  dsimp only
  have hown' : ({ s with fab := fab } : State).windowOwned f w = true := hown
  have hsecure' : (!ideRequired s.stg.live || ({ s with fab := fab } : State).linkSecure f.link) = true := by
    cases hneeds : ideRequired s.stg.live
    · rfl
    · exact hsecure hneeds
  rw [if_pos (Bool.and_eq_true_iff.2 ⟨hown', hsecure'⟩)]

/-- Settles O42: each attention command and event in the branch that its hypotheses select. -/
theorem attentionCommands : Obligations.AttentionCommands := by
  unfold Obligations.AttentionCommands
  refine ⟨?attend, ?sparse, ?list, ?promote, ?resume, ?merge, ?desc, ?windows, ?store, ?content⟩
  case attend =>
    intro s t c o n v d x xs hb hv hd hcs hn hearly hactive hthere
    exact (State.next_submit hb rfl).trans (by rw [bodyAttend_judged hv hd hcs hn hearly hactive hthere])
  case sparse =>
    intro s t c o n v d hb hmode hv hd hin
    exact (State.next_submit hb rfl).trans (by rw [bodyAttendSparse_view hmode hv hd hin])
  case list =>
    intro s t c o n d b l hb hmode _ hwork hns hd hbytes hl
    exact (State.next_submit hb rfl).trans (by rw [bodyAttendSparse_list hmode hwork hns hd hbytes hl])
  case promote =>
    intro s o n cs l piers hdeck hpiers
    rw [State.attPromote_onDeck hdeck hpiers]
    constructor
    · intro hroom
      rw [if_neg]
      simpa [Nat.not_le, or_iff_not_imp_left] using hroom
    · rintro ⟨p, hp, hfull, hnew⟩
      exact if_pos (List.any_eq_true.2 ⟨p, hp, by simp [hfull, hnew]⟩)
  case resume =>
    intro s tag o ho hstarted
    constructor
    · intro hop
      simp [exec, execAttendResume, ho, hstarted, hop]
    · intro hop
      simp [exec, execAttendResume, ho, hstarted, hop]
  case merge =>
    intro s t tag r o n ho hwait hshort hn hthere hdeck hwrite
    have hmerge : s.attMerge o = .done .ok r t := State.attMerge_whole hn hthere hdeck hwrite
    show execAttendPartialMerge tag s = _
    unfold execAttendPartialMerge
    rw [ho]
    dsimp only
    rw [if_pos (by simp [hwait, hshort]), hmerge]
    rfl
  case desc =>
    intro s t c o hb hslot hvalid hmay hpart
    refine ⟨fun b hact halign hbytes hok => ?_, fun hact hthere => ?_, fun d w hact halign hd hw => ?_⟩
    · have hbody := bodyAttDesc_admitted hslot (by omega) hvalid hmay hpart (Or.inr halign)
      rw [hact] at hbody
      refine State.next_submit_done hb (hbody.trans ?_)
      dsimp only
      rw [State.withRead_got _ hbytes, if_pos hok]
      rfl
    · have hbody := bodyAttDesc_admitted hslot (by omega) hvalid hmay hpart (Or.inl hact)
      obtain ⟨d, hd⟩ := Option.isSome_iff_exists.1 hthere
      rw [hact, hd] at hbody
      exact State.next_submit_done hb hbody
    · have hbody := bodyAttDesc_admitted hslot (by omega) hvalid hmay hpart (Or.inr halign)
      rw [hact, hd] at hbody
      exact State.next_submit_done hb (hbody.trans (State.writeThen_wrote _ hw))
  case windows =>
    intro s t c o hb hlow hhigh
    refine ⟨fun w hact hab hroom hrun => ?_, fun hact hab hbound => ⟨fun hidle => ?_, fun hbusy => ?_⟩⟩
    · exact State.next_submit_done hb (bodyAttWindows_bind hlow hhigh hact hab hroom hrun)
    · exact State.next_submit_done hb ((bodyAttWindows_free hlow hhigh hact hab hbound).trans (if_neg (Bool.eq_false_iff.1 hidle)))
    · exact State.next_submit hb ((bodyAttWindows_free hlow hhigh hact hab hbound).trans (if_pos hbusy))
  case store =>
    intro s f tee offset bytes hhears hsome hfits
    have hone : cdiv (offset % 16384 + bytes.length) 16384 = 1 := by
      have := List.length_pos_iff.2 hsome
      unfold cdiv
      omega
    have hpart : bytes.take (16384 - offset % 16384) = bytes := List.take_of_length_le (by omega)
    show execQueryWindowStore ⟨f, tee⟩ offset bytes s = _
    unfold execQueryWindowStore
    dsimp only
    rw [if_pos hhears, hone, if_neg (by simpa using hsome)]
    simp [hpart]
  case content =>
    intro s f w offset bytes hown hsecure
    exact State.queryStore_content offset bytes hown hsecure

end Sys2Proof.Machine
end

section
/-! PROOFS. Extents.lean: the states of an extent. -/
namespace Sys2Proof.Machine

theorem execDcAdd_named {s : State} {src : Source} {region a length tag part h : Nat} (hsrc : s.hostOfSrc src = some h)
    (htrust : fmTrust s.stg.live = false) (hlength : length ≠ 0) (hunits : length % 2 ^ 21 = 0) (halign : a % 2 ^ 21 = 0)
    (hlow : regionBase region ≤ a) (hhigh : a + length ≤ regionBase region + regionLength region)
    (hpart : partValid s.stg.live part = true) (hfree : ∀ e ∈ s.pool.extents, e.base + e.length ≤ a ∨ a + length ≤ e.base)
    (hcovers : s.hostCovers h a length part = true) (hfew : s.pool.extents.length < 8192) (hfull : region = 1 → s.boot.full = true)
    (hroom : s.room part region length = true) :
    execDcAdd [src] region (some a) length tag part false s = .next ({ s with
      pool.extents := s.pool.extents ++ [Extent.mk s.pool.nextExtent region a length tag part false true [(h, .offered)] 1
        (s.placesFor region part) none]
      pool.nextExtent := s.pool.nextExtent + 1 }.emit (.fmReply true [s.pool.nextExtent])) := by
  have hhosts : [src].filterMap s.hostOfSrc = [h] := by simp [hsrc]
  have hunshared : s.pool.extents.find? (fun e => false && e.shared && e.tag == tag) = none := by simp
  have hclear : s.pool.extents.any (fun e => decide (a < e.base + e.length) && decide (e.base < a + length)) = false :=
    List.any_eq_false.2 fun e he => by
      have := hfree e he
      simp only [Bool.and_eq_true, decide_eq_true_eq]
      omega
  have hbacked : (decide (region = 1) && !s.boot.full) = false := by
    by_cases hr : region = 1
    · simp [hfull hr]
    · simp [hr]
  unfold execDcAdd
  rw [hhosts, hunshared]
  dsimp only
  simp only [htrust, Bool.false_eq_true, if_false, hclear, hbacked, hroom]
  rw [if_neg, if_neg]
  · rfl
  · simp only [Bool.not_true, Bool.or_false, decide_eq_true_eq]
    exact Nat.not_le.2 hfew
  · have honce : [h].eraseDups = [h] := rfl
    simp only [honce, hunits, halign, hpart]
    simp [hlength, hcovers, hlow, hhigh]

theorem foldl_emit {α : Type} (s : State) (f : α → Output) (l : List α) :
    l.foldl (fun s x => s.emit (f x)) s = { s with out := (l.map f).reverse ++ s.out } := by
  induction l generalizing s with
  | nil => rfl
  | cons x l ih =>
    rw [List.foldl_cons, ih, List.map_cons, List.reverse_cons, List.append_assoc]
    rfl

/-- Settles O43: each event of an extent in the branch that its hypotheses select. -/
theorem extentStates : Obligations.ExtentStates := by
  unfold Obligations.ExtentStates
  refine ⟨?added, ?zeroed, ?answered, ?released, ?info, ?regions, ?lists⟩
  case added =>
    intro s src region a length tag part h hsrc htrust hlength hunits halign hlow hhigh hpart hfree hcovers hfew hfull hroom
    exact execDcAdd_named hsrc htrust hlength hunits halign hlow hhigh hpart hfree hcovers hfew hfull hroom
  case zeroed =>
    intro s x e he hzeroing
    show ∃ u, execExtentZeroEnd x s = _ ∧ _
    unfold execExtentZeroEnd
    rw [he]
    dsimp only
    rw [if_neg (by simp [hzeroing]), foldl_emit (f := fun y : Nat × SideState => Output.addCapacity y.1 e.id)]
    exact ⟨_, rfl, rfl, rfl, rfl⟩
  case answered =>
    intro s src x h e he hh hzeroing hside
    refine ⟨fun e' he' => ?_, fun hlast => ?_⟩
    · show execAddDcResponse src x true s = _
      unfold execAddDcResponse
      rw [he, hh]
      dsimp only
      rw [if_neg (by simp [hzeroing, hside]), if_pos rfl, he']
    · show execAddDcResponse src x false s = _
      unfold execAddDcResponse
      rw [he, hh]
      dsimp only
      rw [if_neg (by simp [hzeroing, hside]), if_neg Bool.false_ne_true, hlast]
      rfl
  case released =>
    intro s src x h e he hh
    refine ⟨fun hactive => ?_, fun hzeroing hholds => ⟨?_, fun hnone => ?_⟩⟩
    · simp [exec, execReleaseDynamicCapacity, he, hh, hactive]
    · simp [exec, execDcRelease, he, hh, hzeroing, hholds]
    · have hsnaps : s.pool.snaps.filter (fun y => y.extent == e.id) = [] := List.filter_eq_nil_iff.2 fun y hy => by simpa using hnone y hy
      simp [exec, execDcRelease, he, hh, hzeroing, hholds, hsnaps]
  case info =>
    intro s link hup
    exact congrArg Host.Outcome.next (if_pos hup)
  case regions =>
    intro s link ld region hbound
    constructor
    · exact congrArg (fun o => Host.Outcome.next ((s.fmSeen link).emit o)) (if_pos hbound)
    · intro hregion
      exact congrArg (fun o => Host.Outcome.next ((s.fmSeen link).emit o))
        (if_pos (by rw [hbound, decide_eq_true hregion]; rfl))
  case lists =>
    intro s link ld h hh
    show execGetDcRegionExtentLists link ld s = _
    unfold execGetDcRegionExtentLists
    rw [hh]

end Sys2Proof.Machine
end

section
/-! PROOFS. CoherentMemory.lean: requests of CXL.mem, recalls and host leases. -/
namespace Sys2Proof.Machine

section
variable {s : State} {src : Source} {h a : Nat}

/-- A granule whose way is clear has no holder but the requester. -/
theorem State.clearWay.alone (hclear : s.clearWay src.link h a false) : (match s.dirEntry (lineGroup a) with
    | some e => (s.holdersOf e).filter (· != h)
    | none => []) = [] := by
  obtain ⟨-, -, -, -, -, hothers, -⟩ := hclear
  cases hdir : s.dirEntry (lineGroup a) with
  | none => rfl
  | some e => exact hothers e hdir

/-- A load whose way is clear is answered, with the granule granted when it is cached and tracked. -/
theorem State.request_read {cached : Bool} (hclear : s.clearWay src.link h a false)
    (hroom : cached = true → s.untracked h a false = true ∨ s.setFull (lineGroup a) = false) :
    s.request ⟨src, h, a, .read cached⟩ =
      ((if cached = true ∧ s.untracked h a false = false then s.grant (lineGroup a) h false else s).useCap h false).answerLoad
        ⟨src, h, a, .read cached⟩ := by
  have halone := hclear.alone
  have hset : (cached && !s.untracked h a false && s.setFull (lineGroup a)) = false := by
    cases cached with
    | false => rfl
    | true => rcases hroom rfl with hx | hx <;> simp [hx]
  obtain ⟨hheld, hdead, hactive, hrecall, hcap, -, hawake⟩ := hclear
  refine State.request_served hheld ?_
  simp only [State.serveOne, hawake, if_true]
  unfold State.serveReq
  simp only [PoolReq.isWrite, hdead, Option.isNone_eq_false_iff.2 hactive, hrecall, hcap, Bool.or_self, Bool.false_eq_true, if_false]
  cases hdir : s.dirEntry (lineGroup a) with
  | none => simp [hset]
  | some e =>
    rw [hdir] at halone
    simp [halone, hset]

/-- Ownership whose way is clear is granted, after the snapshots' copies. -/
theorem State.request_own (hclear : s.clearWay src.link h a false) (hsnap : s.snapping a = false)
    (htracked : s.untracked h a false = false) (hset : s.setFull (lineGroup a) = false) :
    s.request ⟨src, h, a, .own⟩ = (((s.copyOnWrite (lineGroup a * 256) 256).grant (lineGroup a) h true).useCap h false).answerLoad
      ⟨src, h, a, .own⟩ := by
  have halone := hclear.alone
  obtain ⟨hheld, hdead, hactive, hrecall, hcap, -, hawake⟩ := hclear
  refine State.request_served hheld ?_
  simp only [State.serveOne, hawake, if_true]
  unfold State.serveReq
  simp only [PoolReq.isWrite, hdead, Option.isNone_eq_false_iff.2 hactive, hrecall, hcap, Bool.or_self, Bool.false_eq_true, if_false]
  cases hdir : s.dirEntry (lineGroup a) with
  | none => simp [hsnap, htracked, hset]
  | some e =>
    rw [hdir] at halone
    simp [halone, hsnap, htracked, hset]

end

theorem execCxlMemRead_admitted {s u : State} {src : Source} {addr h : Nat} {k : LoadKind}
    (hu : u = s.wake.bumpAt 0x200 1 none (s.wake.hostOfSrc src)) (hserves : s.wake.servesMemory = true)
    (hshut : s.wake.shutOut src = false) (hadmit : u.admitted src (addr / 64 * 64) 64 false = some h) :
    execCxlMemRead src addr k s = .next (u.request ⟨src, h, addr / 64 * 64, .read (k = .cached)⟩) := by
  subst hu
  simp only [execCxlMemRead, hserves, hshut, hadmit, Bool.not_true, Bool.false_eq_true, if_false]

/-- Outside a window and its leavings, a load reads the pool's line. -/
theorem State.answerLoad_line {s : State} {r : HeldReq} (hwindow : s.windowAt r.addr = none) (hgone : s.goneAt r.addr = none) :
    s.answerLoad r = ((((if s.dpaBad s.store.chains (r.addr / 64) = true then s.bumpAt 0x207 1 none (some r.host) else s).poolIo r.addr 64
      false).respond r.src.link r.addr 64).emit (.cxlData r.host r.addr ((if s.dpaBad s.store.chains (r.addr / 64) = true then
        s.bumpAt 0x207 1 none (some r.host) else s).dpaRead s.store.chains r.addr 64) (s.dpaBad s.store.chains (r.addr / 64))
          (s.devLoad r.src.link))) := by
  have hchains : (if s.dpaBad s.store.chains (r.addr / 64) = true then s.bumpAt 0x207 1 none (some r.host) else s).store = s.store := by
    split
    · exact (State.bumpAt_signals _ _ _ _ _).store
    · rfl
  unfold State.answerLoad
  rw [hwindow, hgone]
  dsimp only
  rw [hchains]

section
variable {s : State} {host addr : Nat} {r : Recall} (hr : r ∈ s.pool.recalls) (hgroup : r.group = lineGroup addr)
  (hwaits : r.waiting.contains host = true)
include hr hgroup hwaits

theorem execBackInvalidateResponse_awaited (dirty : List Byte) : execBackInvalidateResponse host addr dirty s =
    .next ((if dirty.isEmpty || s.sec.life = .releasing then s else s.dpaStore (lineGroup addr * 256) dirty false).recallEnds
      (lineGroup addr) host).settlePool := by
  unfold execBackInvalidateResponse
  dsimp only
  rw [if_pos (List.any_eq_true.2 ⟨r, hr, by rw [hwaits, hgroup]; simp⟩)]

theorem execRecallTimeout_late (htrust : fmTrust s.stg.live = false)
    (hlate : r.since + hostRecallUs s.stg.live host * 1000 ≤ s.clock.now) (hlife : s.sec.life ≠ .releasing) :
    execRecallTimeout host addr s = .next (s.declareDead host) := by
  unfold execRecallTimeout
  dsimp only
  rw [htrust, if_neg, if_neg hlife]
  rw [Bool.not_eq_true', Bool.not_eq_false]
  refine List.any_eq_true.2 ⟨r, hr, ?_⟩
  rw [hwaits, hgroup, if_neg Bool.false_ne_true, decide_eq_true hlate]
  simp

end

section
variable {o : Op} {t : State} {h : Nat} (hh : t.hostOf (t.opFn o) = some h)
include hh

theorem bodyPoolLease_set (hact : o.p 8 1 = 0) (hlow : 10 ≤ o.p 12 4) (hhigh : o.p 12 4 ≤ 60000) :
    bodyPoolLease o t = .done .ok 0 (t.setHost { t.hostState h with lease := some (o.p 12 4), renewed := t.clock.now }) := by
  unfold bodyPoolLease
  dsimp only
  rw [hh]
  dsimp only
  rw [if_neg (by simp [hact]; omega), if_pos hact]

theorem bodyPoolLease_clear (hact : o.p 8 1 = 1) : bodyPoolLease o t = .done .ok 0 (t.setHost { t.hostState h with lease := none }) := by
  unfold bodyPoolLease
  dsimp only
  rw [hh]
  dsimp only
  rw [if_neg (by simp [hact]), if_neg (by omega), if_pos hact]

theorem bodyPoolLease_query (hact : o.p 8 1 = 2) : bodyPoolLease o t = match (t.hostState h).lease with
    | none => .done .ok 0 t
    | some x => .done .ok (x + ((t.hostState h).renewed / 1000000 + x - t.clock.now / 1000000) % 2 ^ 32 * 2 ^ 32) t := by
  unfold bodyPoolLease
  dsimp only
  rw [hh]
  dsimp only
  rw [if_neg (by simp [hact]), if_neg (by omega), if_neg (by omega)] <;> rfl

end

/-- Settles O44: requests that nothing holds are served at once; recalls, leases and the other events in their own branches. -/
theorem cxlMemory : Obligations.CxlMemory := by
  unfold Obligations.CxlMemory
  refine ⟨?read, ?write, ?line, ?shut, ?asleep, ?recalled, ?lease, ?heartbeat, ?expiry, ?unbind, ?mirrored, ?remirror⟩
  case read =>
    intro s u src addr h a k ha hu hserves hshut hadmit hclear hroom
    subst ha
    refine (execCxlMemRead_admitted hu hserves hshut hadmit).trans ?_
    rw [State.request_read hclear (fun hk => hroom (of_decide_eq_true hk))]
    simp only [decide_eq_true_eq]
  case write =>
    intro s u src addr h a bytes poison ha hu hserves hshut hadmit
    subst ha
    refine ⟨fun hclear => ?_, fun hclear hsnap htracked hset => ?_⟩
    · exact congrArg Host.Outcome.next ((State.storeRequest_admitted hu hserves hshut hadmit).trans (State.request_write hclear))
    · exact congrArg Host.Outcome.next
        ((State.storeRequest_admitted hu hserves hshut hadmit).trans (State.request_own hclear hsnap htracked hset))
  case line =>
    intro s r hwindow hgone
    exact State.answerLoad_line hwindow hgone
  case shut =>
    intro s src addr k hserves hshut
    simp only [exec, execCxlMemRead, hserves, hshut, Bool.not_true, Bool.false_eq_true, if_false, if_true]
  case asleep =>
    intro s src addr k hserves
    simp only [exec, execCxlMemRead, hserves, Bool.not_false, if_true]
  case recalled =>
    intro s host addr dirty r hr hgroup hwaits
    refine ⟨fun hclean => ?_, fun hdirty hlife => ?_, fun htrust hlate hlife => execRecallTimeout_late hr hgroup hwaits htrust hlate hlife⟩
    · exact (execBackInvalidateResponse_awaited hr hgroup hwaits dirty).trans (by rw [hclean]; rfl)
    · exact (execBackInvalidateResponse_awaited hr hgroup hwaits dirty).trans (by rw [if_neg (by simp [hdirty, hlife])])
  case lease =>
    intro s t c o h hb hh
    refine ⟨fun hact hlow hhigh => ?_, fun hact => ?_, fun hact hnone => ?_, fun x hact hx => ?_⟩
    · exact State.next_submit_done hb (bodyPoolLease_set hh hact hlow hhigh)
    · exact State.next_submit_done hb (bodyPoolLease_clear hh hact)
    · exact State.next_submit_done hb ((bodyPoolLease_query hh hact).trans (by rw [hnone]))
    · exact State.next_submit_done hb ((bodyPoolLease_query hh hact).trans (by rw [hx]))
  case heartbeat =>
    intro s f tee h hhears hh
    constructor
    · intro hlive hlease
      show execHeartbeatRenew ⟨f, tee⟩ s = _
      unfold execHeartbeatRenew
      dsimp only
      rw [if_pos hhears, hh]
      dsimp only
      rw [if_neg (by simp [hlive, Option.isSome_iff_ne_none.1 hlease])]
    · intro hdead hready
      show execHeartbeatRejoin ⟨f, tee⟩ s = _
      unfold execHeartbeatRejoin
      dsimp only
      rw [if_pos hhears, hh]
      dsimp only
      rw [if_pos (by simp [hdead, hready])]
  case expiry =>
    intro s h t hlease hlate
    show execHostLeaseExpiry h s = _
    unfold execHostLeaseExpiry
    dsimp only
    rw [hlease]
    dsimp only
    rw [if_pos hlate]
  case unbind =>
    intro s h f hf
    show execHostUnbind h s = _
    unfold execHostUnbind
    dsimp only
    rw [hf]
    rfl
  case mirrored =>
    intro s a w hw
    show execMirrorPartnerAck a s = _
    unfold execMirrorPartnerAck
    rw [hw]
  case remirror =>
    intro s x e he hlost
    show execRemirrorStart x s = _
    unfold execRemirrorStart
    rw [he]
    dsimp only
    rw [if_pos hlost]

end Sys2Proof.Machine
end

section
/-! PROOFS. NearMemory.lean: near-memory operations and pool snapshots. -/
namespace Sys2Proof.Machine

/-- R333: a near-memory operation in its first unit takes the windows as they are. -/
theorem bodyNear_first {o : Op} {t : State} (hfields : o.nearFieldsOk = true) (hwork : o.work = .nothing) (hop : o.opcode ≠ 0x83) :
    bodyNear o t = (t.setOp o.tag (fun _ => { o with work := .near [] false, tails := some (t.tailsFor o) })).nearRun
      { o with work := .near [] false, tails := some (t.tailsFor o) } := by
  unfold bodyNear
  rw [if_neg (by simp [hfields]), hwork]
  split
  · contradiction
  · rfl
  · next hnothing _ => exact (hnothing rfl).elim

theorem bodyNear_reduce {o : Op} {t : State} {b : List Byte} (hfields : o.nearFieldsOk = true) (hwork : o.work = .nothing)
    (hop : o.opcode = 0x83) (hb : t.got o o.buf (8 * o.p 26 1) = some b) :
    bodyNear o t = ((t.setOp o.tag (fun _ => { o with
      work := .near ((List.range (o.p 26 1)).map (fun i => leNat ((b.drop (8 * i)).take 8))) false, tails := some (t.tailsFor o) })).nearRun
        { o with work := .near ((List.range (o.p 26 1)).map (fun i => leNat ((b.drop (8 * i)).take 8))) false,
                 tails := some (t.tailsFor o) }).after (fun u => u.readFor o o.buf (8 * o.p 26 1)) := by
  unfold bodyNear
  rw [if_neg (by simp [hfields]), hwork, hop]
  exact State.withRead_got _ hb

section
variable {s : State} {o : Op} {srcs : List NearSrc} (hsrcs : s.nearSrcs o = .ok srcs) (hjudge : s.judgeNear o srcs 0 (o.p 16 8) = none)
include hsrcs hjudge

theorem State.nearRun_long (hlong : 4 * 2 ^ 20 < o.p 16 8) :
    s.nearRun o = .long (cdiv (o.p 16 8) (4 * 2 ^ 20)) o.nearStart s := by
  unfold State.nearRun
  dsimp only
  rw [hsrcs]
  dsimp only
  rw [hjudge]
  dsimp only
  rw [if_pos hlong]

theorem State.nearRun_short (hshort : o.p 16 8 ≤ 4 * 2 ^ 20)
    (hready : (s.nearRecall o srcs 0 (o.p 16 8)).nearWaits o srcs 0 (o.p 16 8) = false) :
    s.nearRun o = .done (if ((s.nearRecall o srcs 0 (o.p 16 8)).nearUnit o srcs 0 (o.p 16 8)).2.2 then .poisoned else .ok)
      (if o.opcode = 0x82 then ((s.nearRecall o srcs 0 (o.p 16 8)).nearUnit o srcs 0 (o.p 16 8)).2.1.getD o.nearStart else o.p 16 8)
      ((s.nearRecall o srcs 0 (o.p 16 8)).nearUnit o srcs 0 (o.p 16 8)).1 := by
  unfold State.nearRun
  dsimp only
  rw [hsrcs]
  dsimp only
  rw [hjudge]
  dsimp only
  rw [if_neg (Nat.not_lt.2 hshort), if_neg (Bool.eq_false_iff.1 hready)]

end

theorem exec_near {s : State} {c : Cmd} {op : Nat} {i : Instr}
    (h : (op = 0x80 ∧ i = .fill c) ∨ (op = 0x81 ∧ i = .copy c) ∨ (op = 0x82 ∧ i = .compare c)) :
    exec i s = .next (s.submitTaking op bodyNear c) ∧ op ≠ 0x83 := by
  rcases h with ⟨rfl, rfl⟩ | ⟨rfl, rfl⟩ | ⟨rfl, rfl⟩ <;> exact ⟨rfl, by decide⟩

theorem snapCreate_free {o : Op} {t : State} {e : Extent} {h i : Nat} {x : PoolSnap} (hnew : t.making o.tag = none)
    (halign : o.p 16 8 % 4096 = 0) (hsome : o.p 24 8 ≠ 0) (hunits : o.p 24 8 % 4096 = 0) (he : t.extentAt (o.p 16 8) (o.p 24 8) = some e)
    (hh : t.hostOf (t.opFn o) = some h) (hactive : e.activeFor h = true)
    (hallowed : t.rangeAllowed (t.opFn o) (o.p 16 8) (o.p 24 8) false = true)
    (hslot : lowestFree (t.pool.snaps.map (·.slot)) 0 (min 4096 (t.pool.snaps.length + 1)) = some i)
    (hx : x = { slot := i, gen := nextGen 20 (assoc t.pool.snapGens i 0), extent := e.id, base := o.p 16 8, length := o.p 24 8
                budget := o.p 32 8, used := 0, version := 0, ttl := o.p 40 4, maker := some o.tag, expires := none, expired := none
                released := none, copies := [], bad := [] }) :
    snapCreate o t = if 256 * 2 ^ 20 < o.p 24 8 then .long (cdiv (o.p 24 8) (256 * 2 ^ 20)) 0
        { t with pool.snaps := t.pool.snaps ++ [x], pool.snapGens := assocSet t.pool.snapGens i x.gen }
      else State.snapRun { t with pool.snaps := t.pool.snaps ++ [x], pool.snapGens := assocSet t.pool.snapGens i x.gen } x := by
  subst hx
  unfold snapCreate
  dsimp only
  rw [hnew]
  dsimp only
  rw [if_neg (by simp [halign, hsome, hunits]), he, hh]
  dsimp only
  rw [if_neg (by simp [hactive]), if_neg (by simp [hallowed]), hslot]

/-- Settles O45: each near-memory command takes its one unit or becomes long; snapshots by their action. -/
theorem nearMemory : Obligations.NearMemory := by
  unfold Obligations.NearMemory
  refine ⟨?near, ?reduce, ?run, ?create, ?known, ?restore, ?expiry⟩
  case near =>
    intro s t u c o p op i srcs hb hop hi hfields hwork hp hu hsrcs hjudge
    obtain ⟨hexec, hother⟩ := exec_near (s := s) hi
    have hbody : bodyNear o t = u.nearRun p := by
      subst hp hu
      exact bodyNear_first hfields hwork (hop ▸ hother)
    have hlen : p.p 16 8 = o.p 16 8 := by rw [hp]; rfl
    have hopcode : p.opcode = op := by rw [hp]; exact hop
    rw [← hlen] at hjudge ⊢
    rw [hexec]
    constructor
    · intro hlong
      rw [State.submitTaking_begins _ hb, hbody, State.nearRun_long hsrcs hjudge hlong]
    · intro hshort hready
      have hrun := hbody.trans (State.nearRun_short hsrcs hjudge hshort hready)
      rw [hopcode] at hrun
      exact congrArg Host.Outcome.next (State.submitTaking_done hb hrun)
  case reduce =>
    intro s t c o p b l hb hfields hop hwork hbytes hl hp
    subst hl hp
    show Host.Outcome.next (s.submitTaking 0x83 bodyNear c) = _
    rw [State.submitTaking_begins _ hb, bodyNear_reduce hfields hwork hop hbytes]
  case run =>
    intro s o srcs hsrcs hjudge hshort hready hop
    rw [State.nearRun_short hsrcs hjudge hshort hready, if_neg hop]
  case create =>
    intro s t u c o e h i x hb hact hnew halign hsome hunits he hh hactive hallowed hslot hx hu
    have hbody : bodyPoolSnapshot o t = snapCreate o t := by
      unfold bodyPoolSnapshot
      rw [hact]
      rfl
    rw [snapCreate_free hnew halign hsome hunits he hh hactive hallowed hslot hx, ← hu] at hbody
    exact (State.next_submit hb rfl).trans (by rw [hbody])
  case known =>
    intro s t c o x hb hx
    refine ⟨fun hact => State.next_submit_done hb ?_, fun w hact hw => State.next_submit_done hb ?_⟩
    · unfold bodyPoolSnapshot
      rw [hact, hx]
      rfl
    · unfold bodyPoolSnapshot
      dsimp only
      rw [hact, hx]
      exact State.writeThen_wrote _ hw
  case restore =>
    intro s t c o x hb hact hx hjudge
    have hbody : bodyPoolSnapshot o t = if 4 * 2 ^ 20 < x.length then .long (cdiv x.length (4 * 2 ^ 20)) 0 t
        else match t.restoreUnit x 0 x.length with
          | some u => .done .ok 0 u
          | none => .wait .recall (t.recallRange x.base x.length false) := by
      unfold bodyPoolSnapshot
      dsimp only
      rw [hact, hx]
      dsimp only
      rw [hjudge] <;> rfl
    constructor
    · intro u hshort hu
      exact State.next_submit_done hb (hbody.trans (by rw [if_neg (Nat.not_lt.2 hshort), hu]))
    · intro hlong
      exact State.next_submit hb (hbody.trans (if_pos hlong))
  case expiry =>
    intro s slot t x hx _
    show execPoolSnapshotExpiry slot s = _
    unfold execPoolSnapshotExpiry
    rw [hx]

end Sys2Proof.Machine
end

section
/-! PROOFS. Scrub.lean: what the patrol scrub finds, and link changes. -/
namespace Sys2Proof.Machine

theorem execPatrolScrub_found {s : State} {l : ScrubLine} {f : LineCheck} (hrun : s.boot.halted = false)
    (hawake : s.memoriesAwake = true) (hf : f ≠ .clean) (hsram : ∀ x, l ≠ .sram x) (hdir : ∀ x, l ≠ .directory x) :
    execPatrolScrub l f s = .next (s.scrubLine l f) := by
  have hfound : (s.boot.halted || decide (f = .clean) || !s.memoriesAwake) = false := by simp [hrun, hawake, hf]
  cases l with
  | sram x => exact absurd rfl (hsram x)
  | directory g => exact absurd rfl (hdir g)
  | pool | page | tile | record | tokens | summary | codebook => simp only [execPatrolScrub, hfound, Bool.false_eq_true, if_false]

theorem execPatrolScrub_clean {s : State} {l : ScrubLine} (hdir : ∀ x, l ≠ .directory x) : execPatrolScrub l .clean s = .next s := by
  cases l with
  | sram x => rfl
  | directory g => exact absurd rfl (hdir g)
  | pool | page | tile | record | tokens | summary | codebook => simp [execPatrolScrub]

section
variable {s : State} {n : Nat} (hn : n < 8)
include hn

theorem execLinkUp_eth {flit : Bool} (hlink : s.boot.link = true) (hwatch : s.boot.linkwatch = false) (hrun : s.boot.halted = false)
    (hdown : s.linkUp (32 + n) = false) {t : State}
    (ht : t = (s.portUp (32 + n) (s.ethRate (32 + n))).sameRate (fun i => i / 2 = (32 + n) / 2) (s.ethRate (32 + n))) :
    execLinkUp (.eth n) flit s = .next ({ t with boot.ethUp := t.ethMask } : State).linkChanged := by
  subst ht
  unfold execLinkUp
  dsimp only
  rw [if_neg]
  simp only [hlink, hwatch, hrun, hdown, Bool.not_true, Bool.or_false, decide_eq_true_eq]
  omega

theorem execLinkDown_eth (hup : s.linkUp (32 + n) = true) {u : State}
    (hu : u = (({ s with
      dlv.ports := upd (fun p : SPort => p.num = 32 + n) (fun p => { p with linked := false }) s.dlv.ports } : State).log
        (.plain .degraded 0x0221 (linkLocus (32 + n)) none)).linkChanged) :
    execLinkDown (.eth n) s = .next ({ u with boot.ethUp := u.ethMask }.connPortsDown (· = 32 + n)) := by
  subst hu
  unfold execLinkDown
  dsimp only
  rw [if_neg]
  simp only [hup, Bool.not_true, Bool.or_false, decide_eq_true_eq]
  omega

end

/-- Settles O46: each kind of line in its own branch of the scrub, each link in its branch of the link events. -/
theorem scrubAndLinks : Obligations.ScrubAndLinks := by
  unfold Obligations.ScrubAndLinks
  refine ⟨?found, ?clean, ?line, ?poolCorrected, ?poolLost, ?tile, ?record, fun s x => ⟨rfl, rfl⟩, fun s g => rfl,
    fun s k flit => ⟨rfl, rfl⟩, ?up, ?down⟩
  case found =>
    intro s l f hrun hawake hf hsram hdir
    exact execPatrolScrub_found hrun hawake hf hsram hdir
  case clean =>
    intro s l hdir
    exact execPatrolScrub_clean hdir
  case line =>
    intro s t tier home chan key copied rebuilt addr lose hrebuilt
    subst hrebuilt
    constructor
    · rintro rfl
      rfl
    · rintro rfl
      rfl
  case poolCorrected =>
    intro s a hunowned
    simp only [State.scrubLine, hunowned, Bool.and_false, Bool.false_eq_true, if_false]
  case poolLost =>
    intro s a
    rfl
  case tile =>
    intro s w i o t f ho ht hnear
    have htile : (s.weight w).bind (fun w => w.tiles.find? (·.index == i)) = some t := by rw [ho]; exact ht
    unfold State.scrubLine
    dsimp only
    rw [htile]
    exact if_neg (Nat.not_le.2 hnear)
  case record =>
    intro s id b f hb
    constructor <;> simp only [State.scrubLine, hb]
  case up =>
    intro s n flit hn hlink hwatch hrun hdown t ht
    exact execLinkUp_eth (flit := flit) hn hlink hwatch hrun hdown ht
  case down =>
    intro s u n hn hup hu
    exact execLinkDown_eth hn hup hu

end Sys2Proof.Machine
end

section
/-! PROOFS. Connections.lean: RMA connections and regions. -/
namespace Sys2Proof.Machine

theorem connCreate_free {o : Op} {t : State} {i : Nat} (hlow : 32 ≤ o.p 9 1) (hhigh : o.p 9 1 < 40)
    (hpart : partValid t.stg.live (o.p 10 1) = true) (hmay : t.mayPart (t.opFn o) (o.p 10 1) = true)
    (hallowed : t.ethAllowed (o.p 9 1) (o.p 10 1) = true) (hready : t.ethReady (o.p 9 1) = true)
    (hslot : lowestFree (t.rma.conns.map (·.slot)) 0 (min 16384 (t.rma.conns.length + 1)) = some i) :
    ∃ x : Conn, connCreate o t = .done .ok (x.handle + x.qpn * 2 ^ 32) { t with
        rma.conns := t.rma.conns ++ [x]
        rma.connGens := assocSet t.rma.connGens i (nextGen 18 (assoc t.rma.connGens i 0)) } ∧
      x.slot = i ∧ x.gen = nextGen 18 (assoc t.rma.connGens i 0) ∧ x.state = .created ∧ x.port = o.p 9 1 ∧
      x.partition = o.p 10 1 ∧ x.span = tagSpan o.tag ∧ x.msgs = [] ∧ x.counter = 0 := by
  unfold connCreate
  dsimp only
  rw [if_neg (by simp [hpart]; omega), if_neg (by simp [hmay, hallowed]), if_neg (by simp [hready]), hslot]
  exact ⟨_, rfl, rfl, rfl, rfl, rfl, rfl, rfl, rfl, rfl⟩

theorem connArm_ready {o : Op} {t : State} {x : Conn} (hstate : x.state = .created) (hflags : o.p 11 1 < 4) (hdscp : o.p 44 1 < 64)
    (hmtu : o.p 45 1 < 3) (hlow : 1 ≤ o.p 46 1 % 32) (hhigh : o.p 46 1 % 32 ≤ 20) (hvlan : bit (o.p 11 1) 1 = false → o.p 42 2 = 0)
    (hip : bit (o.p 11 1) 0 = false → o.p 24 12 = 0) (hqueue : o.expert = true → o.p 48 1 < 16) (hready : t.ethReady x.port = true) :
    connArm o x t = .done .ok 0 (t.updConn x.slot (fun x => { x with
        state := .ready, ipv6 := bit (o.p 11 1) 0, vlan := if bit (o.p 11 1) 1 then some (o.p 42 2) else none
        peerQpn := o.p 16 3, peerIp := o.p 20 16, peerMac := o.p 36 6, dscp := o.p 44 1, mtu := 1024 * 2 ^ o.p 45 1
        ackCode := o.p 46 1 % 32, retry := o.p 46 1 / 32, rnrCode := o.p 47 1 % 32, rnrRetry := o.p 47 1 / 32
        queue := if o.expert then o.p 48 1 else 0 })) := by
  have hv : (!bit (o.p 11 1) 1 && o.p 42 2 != 0) = false := by cases h : bit (o.p 11 1) 1 <;> simp [hvlan, h]
  have hi : (!bit (o.p 11 1) 0 && o.p 24 12 != 0) = false := by cases h : bit (o.p 11 1) 0 <;> simp [hip, h]
  have hq : (o.expert && decide (16 ≤ o.p 48 1)) = false := by
    cases h : o.expert with
    | false => rfl
    | true => simpa using hqueue h
  unfold connArm
  dsimp only
  rw [hv, hi, hq, if_neg (by simp [hstate]; omega), if_neg (by simp [hready])]

theorem bodyConnect_existing {o : Op} {t : State} {x : Conn} (hact : o.p 8 1 ≠ 0) (hvalid : o.p 8 1 < 4)
    (hx : t.conn (o.p 12 4) = some x) (hmay : t.mayPart (t.opFn o) x.partition = true) :
    bodyConnect o t = if o.p 8 1 = 2 then .done .ok 0 (t.closeConn x)
      else if x.state = .error then .done .retry connFailed t
      else if o.p 8 1 = 1 then connArm o x t
      else t.writeThen o o.buf x.record (fun s => .done .ok 0 s) := by
  unfold bodyConnect
  dsimp only
  rw [if_neg (Nat.not_le.2 hvalid), if_neg hact, hx]
  dsimp only
  rw [if_neg (by simp [hmay])]

theorem regionExtent_named {o : Op} {t : State} (hhandle : o.handle = 0) (hlow : 1 ≤ o.p 32 1) (hhigh : o.p 32 1 < 4)
    (hpart : partValid t.stg.live (o.p 33 1) = true) (hmay : t.mayPart (t.opFn o) (o.p 33 1) = true)
    (hscope : t.scopeOk (o.p 12 4) (o.p 33 1) = none) (hrange : t.regionRange (o.p 16 8) (o.p 24 8) (o.p 33 1) = none) :
    regionExtent o t = t.addRegion o
      { slot := 0, gen := 0, check := 0, pages := none, base := o.p 16 8, length := o.p 24 8, readable := bit (o.p 32 1) 0
        writable := bit (o.p 32 1) 1, partition := o.p 33 1, scope := 0, pinSlot := none, dead := false, dying := false } := by
  unfold regionExtent
  dsimp only
  rw [if_neg (by simp [hhandle, hpart]; omega), if_neg (by simp [hmay]), hscope, hrange]

theorem State.addRegion_drawn {s u w : State} {o : Op} {r r' : RRegion} {i : Nat} {b : BitVec 64}
    (hslot : lowestFree (s.rma.regions.map (·.slot)) 0 (min 65536 (s.rma.regions.length + 1)) = some i) (hok : s.entropyOk = true)
    (hu : u = { s with sec.waiting := s.sec.waiting.filter (·.1 != .op o.tag) }) (hdraw : u.draw = (b, w))
    (hr : r' = { r with slot := i, gen := nextGen 8 (assoc u.rma.regionGens i 0), check := b.toNat % 256, scope := o.p 12 4 }) :
    s.addRegion o r = .done .ok (r'.key + cdiv r'.length 64 % 2 ^ 32 * 2 ^ 32) { w with
      rma.regions := w.rma.regions ++ [r']
      rma.regionGens := assocSet w.rma.regionGens i r'.gen } := by
  have hw : w.rma = u.rma := by
    have hsnd : u.draw.2 = w := congrArg Prod.snd hdraw
    rw [← hsnd]
    rfl
  subst hr
  unfold State.addRegion
  rw [hslot]
  dsimp only
  unfold State.withEntropy
  rw [if_pos hok, ← hu]
  dsimp only
  rw [hdraw, hw]

theorem regionPagesNew_named {o : Op} {t u w : State} {n : Namespace} {v : View} {h count r : Nat} (hn : t.nsAny o.handle = some n)
    (hv : t.named n (o.p 16 4) (o.p 20 1) = .view v) (hexpert : o.expert = true → o.p 33 1 = 0)
    (hmay : t.mayPart (t.opFn o) n.partition = true) (hcount : count = (if o.p 28 4 = 0 then v.count n.geo.b - o.p 24 4 else o.p 28 4))
    (hrange : o.p 24 4 + count ≤ v.count n.geo.b) (hsome : count ≠ 0) (hscope : t.scopeOk (o.p 12 4) n.partition = none)
    (hok : t.entropyOk = true)
    (hsnap : ({ t with sec.waiting := t.sec.waiting.filter (·.1 != .op o.tag) } : State).addSnapshot v none true = some (h, u))
    (hadd : u.addRegion o
        { slot := 0, gen := 0, check := 0, pages := some (h, o.p 24 4, count), base := 0
          length := n.geo.l * count * n.geo.deliveredBytes n.geo.fmt, readable := true, writable := false
          partition := n.partition, scope := 0, pinSlot := none, dead := false, dying := false } = .done .ok r w) :
    regionPagesNew o t = .done .ok r w := by
  have hvalid : (o.expert && decide (2 ≤ o.p 33 1)) = false := by
    cases he : o.expert with
    | false => rfl
    | true => simp [hexpert he]
  have hunpinned : (o.expert && bit (o.p 33 1) 0) = false := by
    cases he : o.expert with
    | false => rfl
    | true => rw [hexpert he]; rfl
  unfold regionPagesNew
  rw [State.withNs_some _ hn, hv]
  dsimp only
  rw [hvalid, if_neg Bool.false_ne_true, if_neg (by simp [hmay]), ← hcount, if_neg (by simp; omega), hscope]
  dsimp only
  unfold State.withEntropy
  rw [if_pos hok]
  dsimp only
  rw [hsnap]
  dsimp only
  rw [hunpinned, if_neg Bool.false_ne_true]
  dsimp only
  rw [hadd]

theorem bodyRegion_existing {o : Op} {t : State} {r : RRegion} (hact : 2 ≤ o.p 8 1) (hvalid : o.p 8 1 < 5) (hhandle : o.handle = 0)
    (hr : t.rma.regions.find? (fun r => r.key == o.p 12 4 && (!r.dying || (o.p 8 1 = 2 && o.wait = .ended))) = some r)
    (hmay : t.mayPart (t.opFn o) r.partition = true) :
    bodyRegion o t = if o.p 8 1 = 2 then regionRemove r t
      else if o.p 8 1 = 3 then t.writeThen o o.buf r.record (fun s => .done .ok (r.key + cdiv r.length 64 % 2 ^ 32 * 2 ^ 32) s)
      else if r.dead then .done .badHandle 0 t
      else regionRewrite o r t := by
  unfold bodyRegion
  dsimp only
  rw [if_neg (by simp [hhandle]; omega), if_neg (by omega), if_neg (by omega), hr]
  dsimp only
  rw [if_neg (by simp [hmay])]

theorem regionRewrite_extent {o : Op} {t : State} {r new : RRegion} (hexpert : o.expert = true) (hpages : r.pages = none)
    (hlow : 1 ≤ o.p 32 1) (hhigh : o.p 32 1 < 4) (hpart : o.p 33 1 = r.partition) (hdirect : directWrite (t.itemsOf o) r.partition = true)
    (hrange : t.regionRange (o.p 16 8) (o.p 24 8) r.partition = none)
    (hnew : new = { r with
      base := o.p 16 8, length := o.p 24 8, readable := bit (o.p 32 1) 0, writable := bit (o.p 32 1) 1, dead := false }) :
    regionRewrite o r t = .done .ok (r.key + cdiv new.length 64 % 2 ^ 32 * 2 ^ 32) { t with
      rma.regions := upd (fun x : RRegion => x.slot == r.slot) (fun _ => new) t.rma.regions
      rma.stale := ⟨r, t.clock.now + 512000⟩ :: t.rma.stale.filter (fun x => t.clock.now ≤ x.until_) } := by
  subst hnew
  unfold regionRewrite
  rw [if_neg (by simp [hexpert, hpages, hpart]; omega), if_neg (by simp [hdirect]), hrange]

/-- Settles O47: each action of RMA_CONNECT and RMA_REGION through its own function. -/
theorem connectionCommands : Obligations.ConnectionCommands := by
  unfold Obligations.ConnectionCommands
  refine ⟨?create, ?existing, ?extent, fun s u w o r r' i b hslot hok hu hdraw hr => State.addRegion_drawn hslot hok hu hdraw hr,
    ?pages, ?region⟩
  case create =>
    intro s t c o i hb hact hlow hhigh hpart hmay hallowed hready hslot
    obtain ⟨x, hx, hfields⟩ := connCreate_free hlow hhigh hpart hmay hallowed hready hslot
    have hbody : bodyConnect o t = connCreate o t := by
      unfold bodyConnect
      dsimp only
      rw [if_neg (by omega), if_pos hact]
    exact ⟨x, State.next_submit_done hb (hbody.trans hx), hfields⟩
  case existing =>
    intro s t c o x hb hx hmay
    refine ⟨fun hact => ?_, fun hact hstate hflags hdscp hmtu hlow hhigh hvlan hip hqueue hready => ?_, fun w hact hstate hw => ?_⟩
    · have hbody := bodyConnect_existing (by omega) (by omega) hx hmay
      rw [if_pos hact] at hbody
      exact State.next_submit_done hb hbody
    · have hbody := bodyConnect_existing (by omega) (by omega) hx hmay
      rw [if_neg (by omega), if_neg (by simp [hstate]), if_pos hact,
        connArm_ready hstate hflags hdscp hmtu hlow hhigh hvlan hip hqueue hready] at hbody
      exact State.next_submit_done hb hbody
    · have hbody := bodyConnect_existing (by omega) (by omega) hx hmay
      rw [if_neg (by omega), if_neg hstate, if_neg (by omega), State.writeThen_wrote _ hw] at hbody
      exact State.next_submit_done hb hbody
  case extent =>
    intro s t c o hb hact hhandle hlow hhigh hpart hmay hscope hrange
    have hbody : bodyRegion o t = regionExtent o t := by
      unfold bodyRegion
      dsimp only
      rw [if_neg (by simp [hact, hhandle]), if_pos hact]
    exact (State.next_submit hb rfl).trans (by rw [hbody, regionExtent_named hhandle hlow hhigh hpart hmay hscope hrange])
  case pages =>
    intro s t u c o n v h count hb hact hn hv hexpert hmay hcount hrange hsome hscope hok hsnap r w hadd
    have hbody : bodyRegion o t = regionPagesNew o t := by
      unfold bodyRegion
      dsimp only
      rw [if_neg (by simp [hact]), if_neg (by omega), if_pos hact]
    exact State.next_submit_done hb
      (hbody.trans (regionPagesNew_named hn hv hexpert hmay hcount hrange hsome hscope hok hsnap hadd))
  case region =>
    intro s t c o r hb hhandle hr hmay
    refine ⟨fun u hact hu hidle => ?_, fun w hact hw => ?_,
      fun new hact hlive hexpert hpages hlow hhigh hpart hdirect hrange hnew => ?_⟩
    · have hbody := bodyRegion_existing (by omega) (by omega) hhandle hr hmay
      rw [if_pos hact, regionRemove, ← hu, if_neg (by simp [hidle])] at hbody
      exact State.next_submit_done hb hbody
    · have hbody := bodyRegion_existing (by omega) (by omega) hhandle hr hmay
      rw [if_neg (by omega), if_pos hact, State.writeThen_wrote _ hw] at hbody
      exact State.next_submit_done hb hbody
    · have hbody := bodyRegion_existing (by omega) (by omega) hhandle hr hmay
      rw [if_neg (by omega), if_neg (by omega), if_neg (by simp [hlive]),
        regionRewrite_extent hexpert hpages hlow hhigh hpart hdirect hrange hnew] at hbody
      exact State.next_submit_done hb hbody

end Sys2Proof.Machine
end

section
/-! PROOFS. RemoteCommands.lean: RMA_WRITE and RMA_READ, notification queues and waits. -/
namespace Sys2Proof.Machine

/-- R350: what RMA_WRITE and RMA_READ do on a connection that stands ready for them. -/
theorem bodyRma_ready {o : Op} {t : State} {x : Conn} (hwork : o.work = .nothing) (hflags : o.p 12 1 < 2)
    (hread : o.opcode = 0x93 → o.p 12 1 = 0) (hlength : o.p 40 8 ≤ 2 ^ 31)
    (hsome : o.p 40 8 = 0 → o.opcode = 0x92 ∧ bit (o.p 12 1) 0 = true)
    (himm : o.opcode = 0x92 → bit (o.p 12 1) 0 = false → o.p 48 4 = 0) (hx : t.conn (o.p 8 4) = some x)
    (hmay : t.mayPart (t.opFn o) x.partition = true) (hstate : x.state = .ready) (hbehind : t.rmaBehind o = false)
    {pick : Option RRegion × State} (hpick : pick = if o.p 40 8 = 0 then (none, t) else t.pickKey (o.p 16 4)) {p : SPort}
    (hp : pick.2.port x.port = some p) (hready : pick.2.ethReady x.port = true) {r : Option RRegion}
    (hr : r = pick.1.bind pick.2.entryNow) (hfound : o.p 40 8 ≠ 0 → r.isSome = true)
    (hallowed : r.any (fun r => r.partition != pick.2.opPart o || !r.serves x || (o.opcode = 0x93 && r.pages.isSome)) = false)
    (hrange : r.any (fun r => !pick.2.regionLive r || r.length < o.p 24 8 + o.p 40 8) = false) {ms : List Msg} {w : State}
    (hms : ms = rmaMessages o r p.messageSize)
    (hw : w = ms.foldl (fun s m => s.addMsg x.slot m) (pick.2.setOp o.tag (fun o => { o with work := .sent [] }))) :
    bodyRma o t = if ms.length = 1 then .wait .none w else .long ms.length 0 w := by
  have hfields : (decide (2 ≤ o.p 12 1) || (decide (o.opcode = 0x93) && o.p 12 1 != 0) || decide (2 ^ 31 < o.p 40 8) ||
      (decide (o.p 40 8 = 0) && !(decide (o.opcode = 0x92) && bit (o.p 12 1) 0)) ||
      (!(decide (o.opcode = 0x92) && bit (o.p 12 1) 0) && decide (o.opcode = 0x92) && o.p 48 4 != 0)) = false := by
    have hzero : (decide (o.p 40 8 = 0) && !(decide (o.opcode = 0x92) && bit (o.p 12 1) 0)) = false := by
      by_cases h : o.p 40 8 = 0
      · simp [h, hsome h]
      · simp [h]
    have hkind : (decide (o.opcode = 0x93) && o.p 12 1 != 0) = false := by
      by_cases h : o.opcode = 0x93 <;> simp [h, hread]
    have hplain : (!(decide (o.opcode = 0x92) && bit (o.p 12 1) 0) && decide (o.opcode = 0x92) && o.p 48 4 != 0) = false := by
      by_cases h : o.opcode = 0x92
      · cases hb : bit (o.p 12 1) 0 <;> simp [h, himm, hb]
      · simp [h]
    rw [hzero, hkind, hplain, decide_eq_false (Nat.not_le.2 hflags), decide_eq_false (Nat.not_lt.2 hlength)]
    rfl
  have hpresent : (o.p 40 8 != 0 && r.isNone) = false := by
    by_cases h : o.p 40 8 = 0
    · simp [h]
    · simp [Option.isNone_eq_false_iff.2 (hfound h)]
  unfold bodyRma
  dsimp only
  rw [if_neg (by simp [hwork]), hfields, if_neg Bool.false_ne_true, hx]
  dsimp only
  rw [if_neg (by simp [hmay]), if_neg (by simp [hstate]), if_neg (by simp [hbehind]), ← hpick, hp]
  dsimp only
  rw [if_neg (by simp [hready]), ← hr, hpresent, if_neg Bool.false_ne_true, hallowed, if_neg Bool.false_ne_true, hrange,
    if_neg Bool.false_ne_true, ← hms, ← hw]

theorem rmaMessages_length_empty {o : Op} {r : Option RRegion} {size : Nat} (hn : o.p 40 8 = 0) :
    (rmaMessages o r size).length = 1 := by
  have hone : cdiv 0 size ≤ 1 := by
    unfold cdiv
    rcases Nat.eq_zero_or_pos size with h | h
    · subst h
      simp
    · exact Nat.div_le_of_le_mul (by omega)
  unfold rmaMessages
  rw [List.length_map, List.length_range, hn]
  omega

theorem nqCreate_free {o : Op} {t : State} {i : Nat} {q : NQ} (hlow : 64 ≤ o.p 32 4) (hhigh : o.p 32 4 ≤ 65536)
    (hpow : 2 ^ Nat.log2 (o.p 32 4) = o.p 32 4) (hport : o.p 36 1 < 32) (hpart : partValid t.stg.live (o.p 37 1) = true)
    (hvector : o.p 38 2 < 2048) (halign : o.p 40 8 % 4096 = 0) (hmay : t.mayPart (t.opFn o) (o.p 37 1) = true)
    (hlink : t.partLink (o.p 36 1) (o.p 37 1) = true)
    (hslot : lowestFree (t.rma.nqs.map (·.slot)) 0 (min 1024 (t.rma.nqs.length + 1)) = some i)
    (hq : q = { slot := i, gen := nextGen 22 (assoc t.rma.nqGens i 0), owner := t.opFn o, port := o.p 36 1, base := o.p 40 8
                entries := o.p 32 4, tail := 0, count := 0, phase := true, partition := o.p 37 1, vector := o.p 38 2, counter := 0
                armed := true }) :
    nqCreate o t = .done .ok q.handle { t with rma.nqs := t.rma.nqs ++ [q], rma.nqGens := assocSet t.rma.nqGens i q.gen } := by
  subst hq
  unfold nqCreate
  dsimp only
  rw [if_neg (by simp [hpow, hpart, halign]; omega), if_neg (by simp [hmay, hlink]), hslot]

section
variable {o : Op} {t : State} {q : NQ} (hq : t.nq (o.p 12 4) = some q) (hmay : t.mayPart (t.opFn o) q.partition = true)
include hq hmay

theorem bodyNotify_destroy (hact : o.p 8 1 = 1) (hidle : ∀ x ∈ t.q.ops, x.opcode = 0x95 → x.wait ≠ .counter) :
    bodyNotify o t = .done .ok 0 { t with
      rma.nqs := t.rma.nqs.filter (fun x => x.slot != q.slot)
      rma.matchSlots := t.rma.matchSlots.filter (fun x => x.nq != q.slot) } := by
  have hnone : t.q.ops.filter (fun x => x.opcode = 0x95 && x.p 12 1 = 1 && x.p 8 4 = q.handle && x.wait = .counter) = [] :=
    List.filter_eq_nil_iff.2 fun x hx => by
      by_cases hop : x.opcode = 0x95
      · simp [hidle x hx hop]
      · simp [hop]
  unfold bodyNotify
  dsimp only
  rw [if_neg (by omega), if_neg (by omega), hq]
  dsimp only
  rw [if_neg (by simp [hmay]), if_pos hact, hnone]
  rfl

theorem bodyNotify_match (hact : o.p 8 1 = 2) (hm : o.p 28 2 < 4096) (hconn : o.p 24 4 ≠ 0 → (t.conn (o.p 24 4)).isSome = true)
    (hlive : ∀ x, t.conn (o.p 24 4) = some x → x.state ≠ .error) :
    bodyNotify o t = .done .ok 0 { t with rma.matchSlots :=
      ⟨o.p 28 2, q.slot, o.p 16 4, o.p 20 4, o.p 24 4⟩ :: t.rma.matchSlots.filter (fun x => x.slot != o.p 28 2) } := by
  have hthere : (o.p 24 4 != 0 && (t.conn (o.p 24 4)).isNone) = false := by
    by_cases h : o.p 24 4 = 0
    · simp [h]
    · simp [Option.isNone_eq_false_iff.2 (hconn h)]
  have herr : (t.conn (o.p 24 4)).any (fun c => c.state = .error) = false := by
    cases hx : t.conn (o.p 24 4) with
    | none => rfl
    | some x => simpa using hlive x hx
  unfold bodyNotify
  dsimp only
  rw [if_neg (by omega), if_neg (by omega), hq]
  dsimp only
  rw [if_neg (by simp [hmay]), if_neg (by omega), if_pos hact, if_neg (Nat.not_le.2 hm), hthere, if_neg Bool.false_ne_true, herr,
    if_neg Bool.false_ne_true]

theorem bodyNotify_unmatch (hact : o.p 8 1 = 3) (hmatch : ∃ x ∈ t.rma.matchSlots, x.slot = o.p 28 2 ∧ x.nq = q.slot) :
    bodyNotify o t = .done .ok 0 { t with rma.matchSlots := t.rma.matchSlots.filter (fun x => x.slot != o.p 28 2) } := by
  obtain ⟨x, hx, hslot, hnq⟩ := hmatch
  have hany : t.rma.matchSlots.any (fun x => x.slot == o.p 28 2 && x.nq == q.slot) = true :=
    List.any_eq_true.2 ⟨x, hx, by simp [hslot, hnq]⟩
  unfold bodyNotify
  dsimp only
  rw [if_neg (by omega), if_neg (by omega), hq]
  dsimp only
  rw [if_neg (by simp [hmay]), if_neg (by omega), if_neg (by omega), if_pos hact, hany]
  rfl

theorem bodyNotify_query (hact : o.p 8 1 = 4) :
    bodyNotify o t = t.writeThen o o.buf q.record (fun s => .done .ok 0 s) := by
  unfold bodyNotify
  dsimp only
  rw [if_neg (by omega), if_neg (by omega), hq]
  dsimp only
  rw [if_neg (by simp [hmay]), if_neg (by omega), if_neg (by omega), if_neg (by omega)]

end

/-- Waits for their count. -/
theorem bodyWait_conn {o : Op} {t : State} {x : Conn} {k : Nat} (hkind : o.p 12 1 = 0) (hlow : 1 ≤ o.p 24 4) (hhigh : o.p 24 4 ≤ 60000)
    (hk : t.waitCounter o = some k) (hx : t.conn (o.p 8 4) = some x) (hmay : t.mayPart (t.opFn o) x.partition = true)
    (hstate : x.state ≠ .error) :
    bodyWait o t = if (k % 2 ^ 64 + 2 ^ 64 - o.p 16 8) % 2 ^ 64 < 2 ^ 63 then .done .ok (k % 2 ^ 64) t
      else .wait .counter (if o.work = .nothing then t.setOp o.tag (fun o => { o with work := .slots [t.clock.now] }) else t) := by
  unfold bodyWait
  rw [if_neg (by simp [hkind]; omega), hk]
  dsimp only
  simp only [if_pos hkind, hx, Option.elim, hmay, Option.any_some, hstate, decide_false, Bool.and_false, Bool.not_true, Bool.false_eq_true,
    if_false]

/-- Settles O48: transfers on a ready connection, the actions of RMA_NOTIFY, and waits. -/
theorem rmaCommands : Obligations.RmaCommands := by
  unfold Obligations.RmaCommands
  refine ⟨?transfer, ?immediate, ?create, ?existing, ?wait, ?timeout⟩
  case transfer =>
    intro s t u w c o op i x p e r ms hb hop hkind hwork hflags hlow hhigh hx hmay hstate hbehind hpick hnow hp hready hpart hserves
      hlive hrange hms hw
    have hbody : bodyRma o t = if ms.length = 1 then .wait .none w else .long ms.length 0 w := by
      refine bodyRma_ready (pick := (some e, u)) (r := some r) hwork hflags ?_ hhigh (fun h => by omega) ?_ hx hmay hstate hbehind ?_ hp
        hready hnow.symm (fun _ => rfl) ?_ ?_ hms hw
      · intro h93
        rcases hkind with ⟨h92, -⟩ | ⟨-, -, hzero, -⟩
        · omega
        · exact hzero
      · intro h92
        rcases hkind with ⟨-, -, hplain⟩ | ⟨h93, -⟩
        · exact hplain
        · omega
      · rw [if_neg (by omega), hpick]
      · rcases hkind with ⟨h92, -⟩ | ⟨-, -, -, hpages⟩
        · simp [hpart, hserves, hop, h92]
        · simp [hpart, hserves, hpages]
      · simp [hlive, hrange]
    have hexec : exec i s = .next (s.submit op bodyRma c) := by
      rcases hkind with ⟨rfl, rfl, -⟩ | ⟨rfl, rfl, -⟩ <;> rfl
    rw [hexec]
    exact (State.next_submit hb rfl).trans (by rw [hbody])
  case immediate =>
    intro s t u c o x p ms hb hop hwork hflags hzero hx hmay hstate hbehind hp hready hms hu
    have hbody : bodyRma o t = if ms.length = 1 then .wait .none u else .long ms.length 0 u := by
      refine bodyRma_ready (pick := (none, t)) (r := none) hwork (by omega) (fun h => by omega) (by omega) (fun _ => ⟨hop, ?_⟩)
        (fun _ h => ?_) hx hmay hstate hbehind (by rw [if_pos hzero]) hp hready rfl (fun h => absurd hzero h) rfl rfl hms hu
      · rw [hflags]; rfl
      · rw [hflags] at h; exact absurd h (by decide)
    rw [if_pos (hms ▸ rmaMessages_length_empty hzero)] at hbody
    exact State.next_submit hb hbody
  case create =>
    intro s t c o i q hb hact hlow hhigh hpow hport hpart hvector halign hmay hlink hslot hq
    have hbody : bodyNotify o t = nqCreate o t := by
      unfold bodyNotify
      dsimp only
      rw [if_neg (by omega), if_pos hact]
    exact State.next_submit_done hb (hbody.trans (nqCreate_free hlow hhigh hpow hport hpart hvector halign hmay hlink hslot hq))
  case existing =>
    intro s t c o q hb hq hmay
    refine ⟨fun hact hidle => ?_, fun hact hm hconn hlive => ?_, fun hact hmatch => ?_, fun w hact hw => ?_⟩
    · exact State.next_submit_done hb (bodyNotify_destroy hq hmay hact hidle)
    · exact State.next_submit_done hb (bodyNotify_match hq hmay hact hm hconn hlive)
    · exact State.next_submit_done hb (bodyNotify_unmatch hq hmay hact hmatch)
    · exact State.next_submit_done hb ((bodyNotify_query hq hmay hact).trans (State.writeThen_wrote _ hw))
  case wait =>
    intro s t c o x k hb hkind hlow hhigh hk hx hmay hstate
    have hbody := bodyWait_conn hkind hlow hhigh hk hx hmay hstate
    constructor
    · intro hreached
      exact State.next_submit_done hb (hbody.trans (if_pos hreached))
    · intro hshort hwork
      exact State.next_submit hb (hbody.trans (by rw [if_neg (Nat.not_lt.2 hshort), if_pos hwork]))
  case timeout =>
    intro s tag k t l o ho hop hwork hwait hlate hk
    show execRmaWaitTimeout tag s = _
    unfold execRmaWaitTimeout
    rw [ho]
    dsimp only
    rw [hop, hwork]
    show Host.Outcome.next (if _ then _ else _) = _
    rw [if_pos (by simp [hwait, hlate]), hk]
    rfl

end Sys2Proof.Machine
end

section
/-! PROOFS. RemotePackets.lean: packets from the network, time-outs, and the head of a notification queue. -/
namespace Sys2Proof.Machine

theorem psnSub_zero {p : Nat} (hp : p < 2 ^ 24) : psnSub p 0 = p := by
  unfold psnSub
  rw [Nat.zero_mod, Nat.sub_zero, Nat.add_mod_right, Nat.mod_eq_of_lt hp]

/-- A request next in sequence waits for its memory. -/
theorem State.inbound_next {s u w : State} {m : Inbound} {kind imm length k start : Nat} {b : List Byte} {c : Conn} {r : Option RRegion}
    (hc : s.connIn m.qpn = some c) (hstate : c.state = .ready) (hrun : s.boot.halted = false) (hwatch : s.boot.linkwatch = false)
    (hce : m.ce = false) (hk : k = (if kind = 2 then 1 else packetsOf c.mtu length)) (hstart : start = psnSub m.psn (k - 1))
    (hnext : psnDiff c.expectPsn start = 0) (hu : u = s.bumpAt 0x281 k (some c.partition) (some c.handle))
    (hadmit : u.admitRemote c m.key m.offset length (kind != 2) = (r, w)) :
    s.inbound m kind imm length b = (w.updConn c.slot (fun c => { c with
      expectPsn := psnAdd start (packetsOf c.mtu length) })).request ⟨⟨0, 0, 0, true⟩, 0, 0,
        .inbound ⟨kind, m.qpn, m.psn, r, if kind = 1 then (w.matchImm c imm).map (·.slot) else none, m.offset, b, imm, length⟩⟩ := by
  have hboot : u.boot = s.boot := by
    rw [hu]
    exact (State.bumpAt_signals _ _ _ _ _).boot
  have hrunning : (c.state != .ready || u.boot.halted || u.boot.linkwatch) = false := by simp [hstate, hboot, hrun, hwatch]
  have hmark : u.ceMark c m.ce = u := by rw [hce]; rfl
  unfold State.inbound
  rw [hc]
  dsimp only
  rw [← hk, ← hu, hrunning, if_neg Bool.false_ne_true, hmark, ← hstart, hadmit, hnext]
  rfl

section
variable {s : State} {qpn : Nat} {c : Conn} (hc : s.connIn qpn = some c) (hstate : c.state = .ready)
include hc hstate

theorem execInboundAck_flying {psn : Nat} (hflying : c.inFlight psn = true) : execInboundAck qpn psn s =
    .next ((s.bumpAt 0x281 1 (some c.partition) (some c.handle)).ackSeen c psn) := by
  unfold execInboundAck
  rw [hc]
  dsimp only
  rw [if_pos (by simp [hstate, hflying])]

/-- A refusal of the oldest request ends the connection with the refusal's status. -/
theorem execInboundNak_refused (hold : c.oldest.isSome = true) :
    execInboundNak qpn .remoteAccess s = .next ((s.bumpAt 0x281 1 (some c.partition) (some c.handle)).connError c.slot .denied) ∧
    execInboundNak qpn .invalidRequest s = .next ((s.bumpAt 0x281 1 (some c.partition) (some c.handle)).connError c.slot .badParam) ∧
    execInboundNak qpn .remoteOperational s =
      .next ((s.bumpAt 0x281 1 (some c.partition) (some c.handle)).connError c.slot .mediaError) ∧
    execInboundNak qpn .sequence s = .next ((s.bumpAt 0x281 1 (some c.partition) (some c.handle)).connError c.slot .retry) := by
  have hthere : (c.state != .ready || c.oldest.isNone) = false := by simp [hstate, Option.isNone_eq_false_iff.2 hold]
  refine ⟨?_, ?_, ?_, ?_⟩ <;> simp only [execInboundNak, hc, hthere, Bool.false_eq_true, if_false]

theorem execInboundNak_exhausted (hold : c.oldest.isSome = true) {k : Nat} (hlimit : c.rnrRetry ≠ 7) (htries : c.rnrRetry ≤ c.rnrTries) :
    execInboundNak qpn (.rnr k) s = .next ((s.bumpAt 0x281 1 (some c.partition) (some c.handle)).connError c.slot .retry) := by
  unfold execInboundNak
  rw [hc]
  dsimp only
  rw [if_neg (by simp [hstate, Option.isNone_eq_false_iff.2 hold]), if_pos (by simp [hlimit, htries])]

theorem execInboundReadResponse_next {psn : Nat} {b : List Byte} {c' : Conn} {m : Msg} {u : State} (hpsn : psn < 2 ^ 24)
    (hacked : psn = c.acked) (hflying : c.inFlight psn = true)
    (hu : u = s.bumpAt 0x281 (packetsOf c.mtu b.length) (some c.partition) (some c.handle)) (hone : packetsOf c.mtu b.length = 1)
    (hc' : u.rma.conns.find? (·.slot == c.slot) = some c') (hm : c'.oldest = some m) (hread : m.read = true)
    (hat : psnAdd (m.psn.getD 0) (m.got / c.mtu) = psn) (hfits : m.got + b.length ≤ m.length) (hheld : u.pool.heldReqs = []) :
    execInboundReadResponse qpn psn b s = .next (u.request ⟨⟨0, 0, 0, true⟩, 0, 0,
      .inbound ⟨3, qpn, psn, m.region, none, m.local_ + m.got, b, 0, b.length⟩⟩) := by
  rw [hone] at hu
  simp only [execInboundReadResponse, hc, hone]
  rw [← hu, Nat.sub_self, psnSub_zero hpsn, if_neg (by simp [hstate, hflying]), if_pos hacked, hc', Option.bind_some, hm]
  dsimp only
  rw [hheld]
  simp only [List.map_nil, total, List.foldl_nil, Nat.add_zero]
  rw [if_pos (by simp [hread, hat, hfits])]

end

section
variable {s : State} {qpn : Nat} {c : Conn} (hc : s.connOfQpn qpn = some c) (hstate : c.state = .ready)
include hc hstate

theorem execAckTimeout_due {t : Nat} (hwait : c.rnrWait = false) (hold : c.oldest.isSome = true) (ht : c.timer = some t)
    (hlate : t + 4096 * 2 ^ c.ackCode ≤ s.clock.now) : execAckTimeout qpn s =
      if c.retry ≤ c.retries then .next (s.connError c.slot .retry)
      else .next ((s.updConn c.slot (fun c => { c with retries := c.retries + 1 })).resend c) := by
  have hdue : c.timer.any (fun t => decide (t + 4096 * 2 ^ c.ackCode ≤ s.clock.now)) = true :=
    (Option.any_eq_true _ _).2 ⟨t, ht, decide_eq_true hlate⟩
  unfold execAckTimeout
  rw [hc]
  dsimp only
  rw [hdue, if_neg (by simp [hstate, hwait, Option.isNone_eq_false_iff.2 hold])]

theorem execRnrTimerExpiry_waiting (hwait : c.rnrWait = true) : execRnrTimerExpiry qpn s = .next (s.resend c) := by
  unfold execRnrTimerExpiry
  rw [hc]
  dsimp only
  rw [if_pos (by simp [hstate, hwait])]

end

theorem execNqHeadDoorbell_frees {s : State} {f : Fn} {tee : Bool} {nq v d : Nat} {q : NQ}
    (hq : s.rma.nqs.find? (fun q => q.slot == nq) = some q) (howner : q.owner = f) (hhears : s.hears f tee = true)
    (hv : v % 2 ^ 16 < q.entries) (hd : d = (v % 2 ^ 16 + q.entries - (q.tail + q.entries - q.count) % q.entries) % q.entries)
    (hsome : 0 < d) (hin : d ≤ q.count) :
    execNqHeadDoorbell ⟨f, tee⟩ nq v s = .next (if q.count - d = 0 then s.wake.setNq { q with count := q.count - d, armed := true }
      else (s.wake.setNq { q with count := q.count - d, armed := true }).nqEvent { q with count := q.count - d, armed := true }) := by
  have hfreed : (if (decide (d = 0) && decide (q.count = q.entries)) = true then q.entries else d) = d :=
    if_neg (by simp; omega)
  unfold execNqHeadDoorbell
  rw [hq]
  dsimp only
  rw [if_neg (by simp [howner, hhears]), ← hd, hfreed, if_neg (by simp only [Bool.or_eq_true, decide_eq_true_eq]; omega)]

/-- Settles O49: each packet, time-out and doorbell in the branch that its hypotheses select. -/
theorem remoteInbound : Obligations.RemoteInbound := by
  unfold Obligations.RemoteInbound
  refine ⟨?request, ?answer, ?response, ?cnp, ?timers, ?head⟩
  case request =>
    intro s u w m kind imm length k start b c r hc hstate hrun hwatch hce hk hstart hnext hu hadmit
    refine ⟨fun hkind hlen => ?_, fun hkind hlen => ?_, fun hkind => ?_⟩
    · subst hkind hlen
      exact congrArg Host.Outcome.next (State.inbound_next hc hstate hrun hwatch hce hk hstart hnext hu hadmit)
    · subst hkind hlen
      exact congrArg Host.Outcome.next (State.inbound_next hc hstate hrun hwatch hce hk hstart hnext hu hadmit)
    · subst hkind
      exact congrArg Host.Outcome.next (State.inbound_next hc hstate hrun hwatch hce hk hstart hnext hu hadmit)
  case answer =>
    intro s qpn psn c hc hstate
    refine ⟨fun hflying => execInboundAck_flying hc hstate hflying, fun hold => ?_⟩
    obtain ⟨haccess, hrequest, hoperational, hsequence⟩ := execInboundNak_refused hc hstate hold
    exact ⟨haccess, hrequest, hoperational, hsequence,
      fun k hlimit htries => execInboundNak_exhausted (k := k) hc hstate hold hlimit htries⟩
  case response =>
    intro s qpn psn b c c' m u hc hstate _ _ hpsn hacked hflying _ hu hone hc' hm hread hat hfits hheld
    exact execInboundReadResponse_next hc hstate hpsn hacked hflying hu hone hc' hm hread hat hfits hheld
  case cnp =>
    intro s qpn c hc
    show execInboundCnp qpn s = _
    unfold execInboundCnp
    rw [hc]
  case timers =>
    intro s qpn t c hc hstate
    refine ⟨fun hwait hold ht hlate => ⟨fun hspent => ?_, fun hleft => ?_⟩, fun hwait => execRnrTimerExpiry_waiting hc hstate hwait⟩
    · exact (execAckTimeout_due hc hstate hwait hold ht hlate).trans (if_pos hspent)
    · exact (execAckTimeout_due hc hstate hwait hold ht hlate).trans (if_neg (Nat.not_le.2 hleft))
  case head =>
    intro s f tee nq v d q hq howner hhears hv hd
    constructor
    · intro hsome hin
      refine (execNqHeadDoorbell_frees hq howner hhears hv hd hsome (by omega)).trans ?_
      rw [if_neg (by omega)]
    · intro hsome hall
      refine (execNqHeadDoorbell_frees hq howner hhears hv hd hsome (by omega)).trans ?_
      rw [hall, Nat.sub_self, if_pos rfl]

end Sys2Proof.Machine
end

section
/-! PROOFS. Partners.lean: partners greet, attest, beat, become SUSPECT and DOWN. -/
namespace Sys2Proof.Machine

/-- Outputs that nothing put out before them changes. -/
theorem foldl_emit_of {α : Type} {g : State → α → Output} (hg : ∀ t o x, g (t.emit o) x = g t x) (s : State) (l : List α) :
    l.foldl (fun s x => s.emit (g s x)) s = { s with out := (l.map (g s)).reverse ++ s.out } := by
  induction l generalizing s with
  | nil => rfl
  | cons x l ih =>
    have hsame : l.map (g (s.emit (g s x))) = l.map (g s) := List.map_congr_left fun y _ => hg _ _ _
    rw [List.foldl_cons, ih, hsame, List.map_cons, List.reverse_cons, List.append_assoc]
    rfl

theorem State.ite_emit_grp (c : Prop) [Decidable c] (t : State) (o : Output) : (if c then t.emit o else t).grp = t.grp := by
  split <;> rfl

theorem State.wake_now (s : State) : s.wake.clock.now = s.clock.now := by
  unfold State.wake
  split <;> rfl

theorem State.wake_grp (s : State) : s.wake.grp = s.grp := by
  obtain ⟨_, _, h⟩ := s.wake_eq
  rw [h]

theorem execPartnerGreeting_linked {s : State} (hlink : s.boot.link = true) (hrun : s.boot.halted = false) :
    ∃ u, execPartnerGreeting s = .next u ∧ u.grp.lastGreeting = s.clock.now ∧
      u.out = ((s.mgmt.parties.filter (·.kind == .partner)).map
        (fun p => Output.greeting p.route Config.identityDigest s.slot s.boot.tray s.inSession)).reverse ++ s.out := by
  have hfold := foldl_emit_of (g := fun s (p : Party) => Output.greeting p.route Config.identityDigest s.slot s.boot.tray s.inSession)
    (fun _ _ _ => rfl) s (s.mgmt.parties.filter (·.kind == .partner))
  unfold execPartnerGreeting
  rw [if_neg (by simp [hlink, hrun])]
  exact ⟨_, rfl, congrArg (·.clock.now) hfold, congrArg State.out hfold⟩

theorem execPartnerHeartbeatSend_linked {s : State} (hlink : s.boot.link = true) (hrun : s.boot.halted = false) :
    ∃ u, execPartnerHeartbeatSend s = .next u ∧ u.grp.lastHeartbeat = s.clock.now ∧
      u.out = (s.grp.partners.map (fun p => Output.heartbeat p.entry s.sec.session
        (if s.boot.linkwatch then some s.boot.livePort else none) (s.sec.life = .releasing))).reverse ++ s.out := by
  have hfold := foldl_emit_of (g := fun t (p : Partner) => Output.heartbeat p.entry t.sec.session
    (if t.boot.linkwatch then some t.boot.livePort else none) (s.sec.life = .releasing)) (fun _ _ _ => rfl) s s.grp.partners
  unfold execPartnerHeartbeatSend
  rw [if_neg (by simp [hlink, hrun])]
  exact ⟨_, rfl, rfl, congrArg State.out hfold⟩

theorem execPartnerGreetingReceived_new {s : State} {id : BitVec 128} {slot tray route : Nat} {claimed : Bool}
    (hnew : s.wake.grp.devices.find? (·.identity == id) = none) (hroom : s.grp.devices.length < 1024) :
    ∃ u, execPartnerGreetingReceived id slot tray claimed route s = .next u ∧
      u.grp.devices = s.grp.devices ++ [⟨id, slot, tray, claimed, route, false, 0, s.clock.now⟩] := by
  have hgrp : s.wake.grp = s.grp := State.wake_grp s
  have hnow : s.wake.clock.now = s.clock.now := State.wake_now s
  have hunknown : s.wake.grp.devices.any (·.identity == id) = false := by
    simpa using hnew
  unfold execPartnerGreetingReceived
  dsimp only
  rw [hnew, hunknown, if_neg (by rw [hgrp]; simp; omega)]
  refine ⟨_, rfl, ?_⟩
  rw [State.ite_emit_grp, ← hgrp, ← hnow]
  rfl

section
variable {s : State} {i : Nat} {p : Partner} (hp : s.partner i = some p)
include hp

theorem execPartnerHeartbeatReceived_session {session route : Nat} {watch : Bool} (hsession : session = p.session) (hup : p.state ≠ .down) :
    execPartnerHeartbeatReceived i session watch route false s = .next ((s.updPartner i (fun p => { p with
      linkWatch := watch, route := if watch then route else partnerRoute s.stg.live i })).partnerBeat p true) := by
  unfold execPartnerHeartbeatReceived
  rw [hp]
  dsimp only
  rw [if_neg Bool.false_ne_true, if_pos hsession, (bne_iff_ne.2 hup : (p.state != .down) = true)]
  rfl

theorem partnerTimeouts :
    (p.state = .up → p.lastBeat + 3000000 ≤ s.clock.now → execPartnerSuspectTimeout i s =
      .next (s.updPartner i (fun p => { p with state := .suspect })).groupChanged) ∧
    (p.state ≠ .down → p.lastBeat + 10000000 ≤ s.clock.now → execPartnerDownTimeout i s = .next (s.partnerDown i false)) ∧
    (∀ t, p.alertSince = some t → t + 100000 ≤ s.clock.now → execAlertAnswerTimeout i s = .next (s.partnerDown i false)) ∧
    (p.keySince.isSome = true → execPartnerKeyLimit i s = .next (((s.partnerDown i false).updPartner i (fun p => { p with
        attested := false, keySince := none })).updDevice
          (partnerId ((s.partnerDown i false).updPartner i (fun p => { p with attested := false, keySince := none })).stg.live i)
          (fun d => { d with attested := false }))) := by
  refine ⟨fun hstate hlate => ?_, fun hstate hlate => ?_, fun t ht hlate => ?_, fun hkey => ?_⟩
  · simp only [execPartnerSuspectTimeout, hp]
    rw [if_pos (Bool.and_eq_true_iff.2 ⟨decide_eq_true hstate, decide_eq_true hlate⟩)]
  · simp only [execPartnerDownTimeout, hp]
    rw [if_pos (Bool.and_eq_true_iff.2 ⟨bne_iff_ne.2 hstate, decide_eq_true hlate⟩)]
  · simp only [execAlertAnswerTimeout, hp]
    rw [if_pos ((Option.any_eq_true _ _).2 ⟨t, ht, decide_eq_true hlate⟩)]
  · simp only [execPartnerKeyLimit, hp]
    rw [if_neg (Bool.eq_false_iff.1 (Option.isNone_eq_false_iff.2 hkey))]

theorem execTrayAlertFall_one (htray : trayPartners s.stg.live s.slot = [i]) (hup : p.state ≠ .down) :
    execTrayAlertFall s = .next ((s.emit (.partner i msgHeartbeatRequest none 0)).updPartner i (fun p' => { p' with
      alertSince := some s.clock.now })) := by
  unfold execTrayAlertFall
  rw [htray, List.foldl_cons, List.foldl_nil, hp]
  dsimp only
  rw [if_neg hup]

end

/-- Settles O50: each partner event in the branch that its hypotheses select. -/
theorem partnerEvents : Obligations.PartnerEvents := by
  unfold Obligations.PartnerEvents
  refine ⟨fun s hlink => ⟨fun hrun => execPartnerGreeting_linked hlink hrun, fun hrun => execPartnerHeartbeatSend_linked hlink hrun, fun
      hhalt => ?halted⟩,
    fun s id slot tray route claimed hnew hroom _ => execPartnerGreetingReceived_new hnew hroom, ?attested,
    fun s i session route watch p hp hsession hup => execPartnerHeartbeatReceived_session hp hsession hup,
    fun s i p hp => partnerTimeouts hp, fun s i p htray hp hup => execTrayAlertFall_one hp htray hup⟩
  case halted =>
    exact if_pos (by simp [hhalt])
  case attested =>
    intro s p tenant session id hsession htenant hnamed hok
    show execPartnerAttestation p true true id tenant session s = _
    unfold execPartnerAttestation
    dsimp only
    rw [if_neg, if_pos hok]
    rcases hnamed with hfree | hnamed
    · simp [hsession, htenant, hfree]
    · simp [hsession, htenant, hnamed]

end Sys2Proof.Machine
end

section
/-! PROOFS. GroupProtocol.lean: messages between the members of a stripe group. -/
namespace Sys2Proof.Machine

section
variable {s : State}

theorem State.partnerMsg_held {m : PartnerMsg} (hwatch : s.wake.boot.linkwatch = true) (hdeck : s.wake.boot.awakeDeck = false) :
    s.partnerMsg m = { s.wake with grp.held := s.wake.grp.held ++ [m] } := if_pos (by simp [hwatch, hdeck])

theorem State.partnerMsg_taken {m : PartnerMsg} (hwatch : s.boot.linkwatch = false) : s.partnerMsg m = s.takeMsg m := by
  have hwake : s.wake = s := if_neg (by simp [hwatch])
  unfold State.partnerMsg
  dsimp only
  rw [hwake, if_neg (by simp [hwatch])]

/-! ### The leader's decisions -/

section
variable {b : GroupBlock} {n : Namespace} (hn : s.groupNs b.salt = some n) (hleads : s.leads n = true) (hactive : n.active = true)
include hn hleads hactive

theorem State.takeVote_leader {slot : Nat} {full : Bool} (hup : s.memberUp slot = true) :
    s.takeVote slot b full = (match (s.castVote slot b full).decided b with
      | some v => ((s.castVote slot b full).closeBallot b msgCommit (b2n v)).groupCommit b v
      | none => s.castVote slot b full) := by
  unfold State.takeVote
  rw [hn]
  dsimp only
  rw [if_neg (by simp [hleads, hactive, hup])] <;> rfl

theorem State.leadOrder_leader (kind : Nat) (order : State → State) : s.leadOrder b kind order = order (s.toMembers kind (some b) 0) := by
  unfold State.leadOrder
  rw [hn]
  exact if_pos (by simp [hleads, hactive])

theorem State.takeProposal_new {slot : Nat} (hup : s.memberUp slot = true) (hnew : ∀ p ∈ s.grp.proposals, p.block ≠ b) :
    s.takeProposal slot b = ({ s with
      grp.proposals := ⟨b, if s.groupFree b then 2 ^ s.slot else 0, !s.groupFree b, s.clock.now, false⟩ ::
        s.grp.proposals.filter (fun p => p.block != b) } : State).toMembers msgQuery (some b) 0 := by
  have hnone : s.grp.proposals.any (fun p => p.block == b && !p.refused) = false :=
    List.any_eq_false.2 fun p hp => by simp [hnew p hp]
  unfold State.takeProposal
  rw [hn]
  dsimp only
  rw [if_neg (by simp only [hleads, hactive, hup, hnone]; decide)]

end

theorem State.castVote_first {slot : Nat} {b : GroupBlock} {full : Bool} (hnew : ∀ x ∈ s.grp.ballots, x.block ≠ b) :
    s.castVote slot b full = { s with grp.ballots := s.grp.ballots ++ [⟨b, 2 ^ slot, full, s.clock.now, s.stg.epoch⟩] } := by
  have hnone : s.grp.ballots.find? (·.block == b) = none := List.find?_eq_none.2 fun x hx => by simpa using hnew x hx
  unfold State.castVote
  rw [hnone]

/-- One vote of eight decides nothing. -/
theorem State.decided_first {slot : Nat} {b : GroupBlock} {full : Bool} (hnew : ∀ x ∈ s.grp.ballots, x.block ≠ b) (hslot : slot < 8) :
    (s.castVote slot b full).decided b = none := by
  have hnone : s.grp.ballots.find? (·.block == b) = none := List.find?_eq_none.2 fun x hx => by simpa using hnew x hx
  have hfew : 2 ^ slot % 256 ≠ 255 := by
    have hsmall : 2 ^ slot ≤ 2 ^ 7 := Nat.pow_le_pow_right (by omega) (by omega)
    have hmod : 2 ^ slot % 256 ≤ 2 ^ slot := Nat.mod_le _ _
    omega
  rw [State.castVote_first hnew]
  unfold State.decided
  dsimp only
  rw [List.find?_append, hnone, Option.none_or, List.find?_cons_of_pos (by simp)]
  exact if_neg hfew

/-! ### Answers, lapses and lists -/

theorem State.takeAnswer_leader {slot : Nat} {b : GroupBlock} {n : Namespace} {p : Proposal} {free : Bool}
    (hn : s.groupNs b.salt = some n) (hp : s.grp.proposals.find? (fun p => p.block == b && !p.refused) = some p)
    (hleads : s.leads n = true) (hintime : s.clock.now < p.since + 1000000) :
    s.takeAnswer slot b free = if free && (if free then Nat.lor p.free (2 ^ slot) else p.free) % 256 = 255 then
        (s.toMembers msgEvict (some b) 0).groupEvict b
      else { s with grp.proposals := upd (fun p : Proposal => p.block == b) (fun x => { x with
        free := if free then Nat.lor p.free (2 ^ slot) else p.free, refused := !free }) s.grp.proposals } := by
  unfold State.takeAnswer
  rw [hn, hp]
  dsimp only
  rw [if_neg (by simp [hleads, Nat.not_le.2 hintime])]

theorem execEvictionProposalLapse_members {b : GroupBlock} (hmine : ∀ p ∈ s.grp.proposals, p.mine = false) :
    execEvictionProposalLapse b s = .next { s with
      grp.proposals := s.grp.proposals.filter (fun p => !(p.block == b && decide (p.since + 1000000 ≤ s.clock.now))) } := by
  have hkept : s.grp.proposals.filterMap (fun p => if !(p.block == b && decide (p.since + 1000000 ≤ s.clock.now)) then some p
      else if p.mine && s.clock.now < p.since + 11000000 then some { p with refused := true } else none) =
      s.grp.proposals.filter (fun p => !(p.block == b && decide (p.since + 1000000 ≤ s.clock.now))) := by
    rw [← List.filterMap_eq_filter]
    refine List.filterMap_congr fun p hp => ?_
    rw [hmine p hp, Bool.false_and, if_neg Bool.false_ne_true]
    rfl
  exact congrArg (fun l => Host.Outcome.next { s with grp.proposals := l }) hkept

theorem State.takeLines_leader {slot : Nat} {salt : BitVec 128} {lines : List ReconcileLine} {n : Namespace} (hn : s.groupNs salt = some n)
    (hleads : s.leads n = true) (hstate : n.gstate ≠ .reconciling) : s.takeLines slot salt lines = { s with
      grp.lists := (slot, salt, lines) :: s.grp.lists.filter (fun l => !(l.1 == slot && l.2.1 == salt)) } := by
  unfold State.takeLines
  rw [hn]
  dsimp only
  rw [if_pos hleads, if_neg (by simp [hstate])]

theorem State.takeLines_member {slot : Nat} {salt : BitVec 128} {lines : List ReconcileLine} {n : Namespace} (hn : s.groupNs salt = some n)
    (hleads : s.leads n = false) (hstate : n.gstate = .reconciling) (hleader : s.leader n = some slot) :
    s.takeLines slot salt lines = s.reconciled n := by
  unfold State.takeLines
  rw [hn]
  dsimp only
  rw [if_neg (by simp [hleads]), if_pos (by simp [hstate, hleader])]

end

/-- Settles O51: messages are held in link-watch, and each is taken in the branch that its hypotheses select. -/
theorem groupProtocol : Obligations.GroupProtocol := by
  unfold Obligations.GroupProtocol
  refine ⟨?held, ?member, ?leader, fun s slot b full hnew hslot => ⟨by rw [State.castVote_first hnew], State.decided_first hnew hslot⟩,
    ?voteTimeout, ?answerTimeout, ?answers, fun s b hmine => execEvictionProposalLapse_members hmine, ?lists⟩
  case held =>
    intro s slot b dup f salt lines hwatch hdeck
    have hheld : ∀ m, Host.Outcome.next (s.partnerMsg m) = (.next { s.wake with grp.held := s.wake.grp.held ++ [m] } :
        Host.Outcome State Fault Refusal) := fun m => congrArg _ (State.partnerMsg_held hwatch hdeck)
    exact ⟨hheld _, hheld _, hheld _, hheld _, hheld _, hheld _, hheld _, hheld _, hheld _, hheld _, hheld _, hheld _⟩
  case member =>
    intro s b f hwatch
    have htaken : ∀ m, Host.Outcome.next (s.partnerMsg m) = (.next (s.takeMsg m) : Host.Outcome State Fault Refusal) :=
      fun m => congrArg _ (State.partnerMsg_taken hwatch)
    exact ⟨htaken _, htaken _, htaken _, htaken _, htaken _⟩
  case leader =>
    intro s slot b n hwatch hn hleads hactive
    have htaken : ∀ m, Host.Outcome.next (s.partnerMsg m) = (.next (s.takeMsg m) : Host.Outcome State Fault Refusal) :=
      fun m => congrArg _ (State.partnerMsg_taken hwatch)
    refine ⟨fun dup full v hup hdecided => ?_, fun dup full hup hopen => ?_, ?_, ?_, fun hup hnew => ?_⟩
    · exact (htaken _).trans (congrArg _ ((State.takeVote_leader hn hleads hactive hup).trans (by rw [hdecided])))
    · exact (htaken _).trans (congrArg _ ((State.takeVote_leader hn hleads hactive hup).trans (by rw [hopen])))
    · exact (htaken _).trans (congrArg _ (State.leadOrder_leader hn hleads hactive msgDrop (fun s => s.groupDrop b)))
    · exact (htaken _).trans (congrArg _ (State.leadOrder_leader hn hleads hactive msgUnindex (fun s => s.groupUnindex b)))
    · exact (htaken _).trans (congrArg _ (State.takeProposal_new hn hleads hactive hup hnew))
  case voteTimeout =>
    intro s b x hx hblock hlate
    exact congrArg _ (if_pos (List.any_eq_true.2 ⟨x, hx, Bool.and_eq_true_iff.2 ⟨beq_iff_eq.2 hblock, decide_eq_true hlate⟩⟩))
  case answerTimeout =>
    intro s b x hx hblock hlate
    exact congrArg _ (if_pos (List.any_eq_true.2 ⟨x, hx, Bool.and_eq_true_iff.2 ⟨beq_iff_eq.2 hblock, decide_eq_true hlate⟩⟩))
  case answers =>
    intro s slot b n hwatch hn
    have htaken : ∀ m, Host.Outcome.next (s.partnerMsg m) = (.next (s.takeMsg m) : Host.Outcome State Fault Refusal) :=
      fun m => congrArg _ (State.partnerMsg_taken hwatch)
    refine ⟨(htaken _).trans ?_, fun p free hp hleads hintime => ⟨fun hfree hall => (htaken _).trans (congrArg _ ?_),
      fun hfree hsome => (htaken _).trans (congrArg _ ?_), fun hfree => (htaken _).trans (congrArg _ ?_)⟩⟩
    · show Host.Outcome.next (s.takeQuery b) = _
      unfold State.takeQuery
      rw [hn]
    · subst hfree
      exact (State.takeAnswer_leader hn hp hleads hintime).trans (if_pos (by simpa using hall))
    · subst hfree
      exact (State.takeAnswer_leader hn hp hleads hintime).trans (if_neg (by simpa using hsome))
    · subst hfree
      exact (State.takeAnswer_leader hn hp hleads hintime).trans (if_neg (by simp))
  case lists =>
    intro s slot salt lines n hwatch hn
    have htaken : ∀ m, Host.Outcome.next (s.partnerMsg m) = (.next (s.takeMsg m) : Host.Outcome State Fault Refusal) :=
      fun m => congrArg _ (State.partnerMsg_taken hwatch)
    exact ⟨fun hleads hstate => (htaken _).trans (congrArg _ (State.takeLines_leader hn hleads hstate)),
      fun hleads hstate hleader => (htaken _).trans (congrArg _ (State.takeLines_member hn hleads hstate hleader))⟩

end Sys2Proof.Machine
end

section
/-! PROOFS. Entropy.lean: the entropy source. -/
namespace Sys2Proof.Machine

theorem Reports.sec {s t : State} (h : Reports s t) : t.sec = s.sec := by
  obtain ⟨_, _, _, _, rfl⟩ := h
  rfl

theorem Reports.boot {s t : State} (h : Reports s t) : t.boot = s.boot := by
  obtain ⟨_, _, _, _, rfl⟩ := h
  rfl

theorem State.securityChanged_signals (s : State) : Signals s s.securityChanged := s.raiseSrc_signals 8

/-- R393: the first failure of a health test stops the source, and latches nothing. -/
theorem execEntropyHealthFail_first {s : State} {test : EntropyTest} (hphase : s.boot.phase = .up) (hfirst : s.sec.consecFail = 0)
    (hfree : s.sec.latched = false) : execEntropyHealthFail test s = .next ((({ s with
      sec.sourceOk := false
      sec.requests := 0
      sec.consecFail := 1
      sec.fails := min 255 (s.sec.fails + 1)
      sec.apt := test == EntropyTest.adaptiveProportion
      sec.rct := test == EntropyTest.repetitionCount
      sec.latched := false } : State).log (.plain .recovered 0x0601 0x6000 none)).bump 0x303 1).securityChanged := by
  have hlatched : ∀ u : State, u.sec.latched = false → (((u.log (.plain .recovered 0x0601 0x6000 none)).bump 0x303
      1).securityChanged).sec.latched
      = false := fun u hu => by
    rw [(State.securityChanged_signals _).sec, (State.bump_signals _ _ _).sec, (State.log_reports _ _).sec, hu]
  have hone : min 3 (s.sec.consecFail + 1) = 1 := by omega
  have hoff : (s.sec.latched || decide ((1 : Nat) = 3)) = false := by rw [hfree]; rfl
  unfold execEntropyHealthFail
  rw [if_neg (by simp [hphase])]
  dsimp only
  rw [hone, hoff, hlatched _ rfl, if_neg Bool.false_ne_true, hlatched _ rfl]
  rfl

/-- R395: an end of the restart serves what waited. -/
theorem execEntropyRestartDone_serves {s u : State} (hbad : s.sec.sourceOk = false) (hfree : s.sec.latched = false)
    (hu : u = ({ s with sec.sourceOk := true, sec.requests := 0 } : State).securityChanged) :
    (s.sec.waiting = [] → execEntropyRestartDone s = .next { u with sec.waiting := [] }) ∧
    (∀ t a, s.sec.waiting = [(.op t, a)] → execEntropyRestartDone s = .next { u with sec.waiting := [(.op t, a)] }) ∧
    (∀ p id n a, s.sec.waiting = [(.partner p id n, a)] → execEntropyRestartDone s =
      .next (({ u with sec.waiting := [] } : State).partnerAttested p id n)) := by
  have hwaiting : u.sec.waiting = s.sec.waiting := by rw [hu, (State.securityChanged_signals _).sec]
  unfold execEntropyRestartDone
  dsimp only
  rw [if_neg (by simp [hbad, hfree]), ← hu, hwaiting]
  refine ⟨fun hw => ?_, fun t a hw => ?_, fun p id n a hw => ?_⟩ <;> rw [hw] <;> rfl

/-- Settles O52: the first failure, the restart with at most one request waiting, the time-out and the clearing. -/
theorem entropyEvents : Obligations.EntropyEvents := by
  unfold Obligations.EntropyEvents
  refine ⟨fun s test hphase hfirst hfree => execEntropyHealthFail_first hphase hfirst hfree,
    fun s u hbad hfree hu => execEntropyRestartDone_serves hbad hfree hu, fun s r hbad => ?_, fun s hok hfree hsome => ?_⟩
  · exact congrArg _ (if_neg (by simp [State.entropyOk, hbad]))
  · exact if_pos (by simp [hok, hfree, hsome])

end Sys2Proof.Machine
end

section
/-! PROOFS. Registers.lean: register writes and reads, and the RAS registers. -/
namespace Sys2Proof.Machine

section
variable {s : State} {f : Fn} {tee : Bool} (hlink : s.boot.link = true) (hhears : s.hears f tee = true)
include hlink hhears

theorem execRegisterWrite_32 {off v : Nat} (halign : off % 4 = 0) :
    execRegisterWrite ⟨f, tee⟩ ⟨0, off⟩ 4 (some v) s = .next (s.wake.write32 f off (v % 2 ^ 32)) := by
  refine congrArg Host.Outcome.next ((if_neg ?_).trans (if_pos rfl))
  simp [hlink, hhears, halign]

theorem execRegisterWrite_64 {off v : Nat} (halign : off % 8 = 0) :
    execRegisterWrite ⟨f, tee⟩ ⟨0, off⟩ 8 (some v) s = .next (s.wake.write64 f off (v % 2 ^ 64)) := by
  refine congrArg Host.Outcome.next ((if_neg ?_).trans ((if_neg (by decide)).trans (if_pos rfl)))
  simp [hlink, hhears, halign]

omit hlink in
theorem execRegisterWrite_read (off : Nat) : execRegisterWrite ⟨f, tee⟩ ⟨0, off⟩ 4 none s =
    .next ((s.wake.readClears f off).emit (.read f (some (s.readBar0 f off 4)))) := by
  refine congrArg Host.Outcome.next ((if_neg (show ¬(0 : Nat) = 7 by decide)).trans (if_neg ?_))
  simp [hhears]

/-- BAR 2's status words. -/
theorem execRegisterWrite_qstatus {n : Nat} (hn : n < 2 ^ 13) : execRegisterWrite ⟨f, tee⟩ ⟨2, 64 * n + 8⟩ 4 none s =
    .next (s.wake.emit (.read f (some ((s.pair n).elim 0 QPair.qstatus)))) := by
  have hadmits : s.admits f.link = true := (Bool.and_eq_true_iff.1 hhears).1
  have hindex : (64 * n + 8) / 64 = n := by omega
  have hread : s.readBar2 f (64 * n + 8) 4 = (s.pair n).elim 0 QPair.qstatus := by
    unfold State.readBar2
    rw [if_neg, hindex]
    simp only [hlink, hadmits, Bool.not_true, Bool.false_or, Bool.or_eq_true, bne_iff_ne, decide_eq_true_eq]
    omega
  refine congrArg Host.Outcome.next ((if_neg (show ¬(2 : Nat) = 7 by decide)).trans ((if_neg (by simp [hhears])).trans ?_))
  exact congrArg (fun x => s.wake.emit (.read f (some x))) hread

end

/-! ### What the register rows do -/

section
variable {s : State} {f : Fn}

theorem State.write64_wakeAt (v : Nat) :
    s.write64 f 0x58 v = if s.mayWrite f then { s with clock.wakeAt := v } else s := by
  unfold State.write64
  dsimp only
  rw [if_pos rfl]

theorem State.write64_sqBase (v : Nat) : s.write64 f 0x100000 v =
    if (s.adminOf f).enable then s else s.setAdmin { s.adminOf f with sqBase := v / 4096 * 4096 } := by
  unfold State.write64
  dsimp only
  rw [if_neg (by decide), if_pos rfl]

theorem State.write64_cqBase (v : Nat) : s.write64 f 0x100008 v =
    if (s.adminOf f).enable then s else s.setAdmin { s.adminOf f with cqBase := v / 4096 * 4096 } := by
  unfold State.write64
  dsimp only
  rw [if_neg (by decide), if_neg (by decide), if_pos rfl]

theorem State.write32_depth (v : Nat) : s.write32 f 0x100010 v =
    if (s.adminOf f).enable then s else s.setAdmin { s.adminOf f with depth := v } := by
  unfold State.write32
  dsimp only
  rw [if_neg (by decide), if_pos rfl]

/-- No register of 4 bytes stands below the wake time. -/
theorem State.write32_low {off : Nat} (hoff : off < 0x58) (v : Nat) : s.write32 f off v = s := by
  unfold State.write32
  dsimp only
  rw [if_neg (by omega), if_neg (by omega), if_neg (by omega), if_neg (by omega), if_neg (by omega), if_neg (by omega),
    if_neg (by omega), if_neg (by omega), if_neg (by simp; omega), if_neg (by omega), if_neg (by omega), if_neg (by omega),
    if_neg (by simp; omega), if_neg (by simp; omega), if_neg (by simp; omega), if_neg (by simp; omega)]

theorem State.write32_vector {n : Nat} (hn : n < 2048) (v : Nat) : s.write32 f (0xF21000 + 4 * n) v =
    s.setVector { s.vector f n with timer := bits v 25 16, count := bits v 7 0 } := by
  have hindex : (0xF21000 + 4 * n - 0xF21000) / 4 = n := by omega
  unfold State.write32
  dsimp only
  rw [if_neg (by omega), if_neg (by omega), if_neg (by omega), if_neg (by omega), if_neg (by omega), if_neg (by omega),
    if_neg (by omega), if_neg (by omega), if_neg (by simp; omega), if_neg (by omega), if_neg (by omega), if_neg (by omega),
    if_neg (by simp; omega), if_pos (by simp; omega), hindex]

theorem State.write32_hold {v : Nat} (hset : bit v 31 = true) : s.write32 f 0xF20000 v =
    { s with tel.bankHold := f :: s.tel.bankHold.filter (· != f) } := by
  unfold State.write32
  dsimp only
  rw [if_neg (by decide), if_neg (by decide), if_neg (by decide), if_neg (by decide), if_neg (by decide), if_neg (by decide),
    if_neg (by decide), if_neg (by decide), if_neg (by decide), if_pos rfl, if_pos hset]

theorem State.readClears_counts (hlink : s.boot.link = true) (hmay : s.mayWrite f = true) :
    (s.readClears f 0x700008).pool.timeouts = 0 ∧ (s.readClears f 0x601000).dlv.planMisses = 0 := by
  have hgo : (!s.boot.link || !s.mayWrite f) = false := by simp [hlink, hmay]
  constructor <;> simp only [State.readClears, hgo, Bool.false_eq_true, if_false]

theorem State.readClears_other (hmay : s.mayWrite f = false) (off : Nat) : s.readClears f off = s := if_pos (by simp [hmay])

end

/-! ### RAS registers -/

section
variable {s : State} {f : Fn} {tee : Bool} {v : Nat} (hlink : s.boot.link = true) (hhears : s.hears f tee = true)
include hlink hhears

/-- A head that leaves nothing unread arms the source. -/
theorem execRasHeadWrite_all (hmay : s.mayWrite f = true) (hall : (v % 2 ^ 13 + 8192 - s.ras.head) % 8192 = s.ras.unread)
    (htail : s.wake.ras.tail = v % 2 ^ 13) :
    execRasHeadWrite ⟨f, tee⟩ v s = .next { s.wake with ras.head := v % 2 ^ 13, tel.rasArmed := true } := by
  have hnone : (({ s.wake with ras.head := v % 2 ^ 13, tel.rasArmed := true } : State).ras).unread = 0 := by
    show (s.wake.ras.tail + 8192 - v % 2 ^ 13) % 8192 = 0
    rw [htail]
    omega
  unfold execRasHeadWrite
  dsimp only
  rw [if_pos (by simp only [hlink, hhears, hmay, hall, Nat.le_refl, decide_true, Bool.and_self]), if_pos hnone]

theorem execRasResume_tenant (hkey : bits v 31 16 = 0x5EB7) (hbit : bit v 1 = true) (hhalt : s.wake.boot.halted = true)
    (hsource : s.wake.ras.haltSource ≠ 4) (hpin : s.wake.boot.haltN = false) (htenant : s.wake.tenantFn f = true) :
    execRasResume ⟨f, tee⟩ v s = .next ({ s.wake with
      boot.halted := false
      ras.haltSource := 0
      store.namespaces := upd (fun n : Namespace => n.width == 8 && n.gstate == .active)
        (fun n : Namespace => { n with gstate := .degraded }) s.wake.store.namespaces } : State).readyChanged.regroup := by
  refine congrArg Host.Outcome.next ((if_pos ?_).trans (if_pos ?_))
  · rw [hlink, hhears, hkey, hbit]
    rfl
  · simp [hhalt, hsource, hpin, htenant]

theorem execRasClearLost_may (hmay : s.mayWrite f = true) :
    execRasClearLost ⟨f, tee⟩ s = .next { s.wake with ras.lost := [0, 0, 0, 0, 0, 0] } :=
  congrArg Host.Outcome.next (if_pos (by simp [hlink, hhears, hmay]))

end

/-- Settles O53: each register in its own row. -/
theorem registerRows : Obligations.RegisterRows := by
  unfold Obligations.RegisterRows
  refine ⟨?_, ?_⟩
  · intro s f tee v hlink hhears
    refine ⟨fun hmay => ?_, fun hmay => ?_, fun hoff => ⟨?_, ?_, ?_⟩, fun hon => ⟨?_, ?_, ?_⟩, fun n hn => ?_, fun hset => ?_,
      execRegisterWrite_read hhears, fun hmay => State.readClears_counts hlink hmay, fun hmay => State.readClears_other hmay,
      fun n hn => execRegisterWrite_qstatus hlink hhears hn, fun off hlow halign => ?_⟩
    · exact (execRegisterWrite_64 hlink hhears rfl).trans (by rw [State.write64_wakeAt, if_pos hmay])
    · exact (execRegisterWrite_64 hlink hhears rfl).trans (by rw [State.write64_wakeAt, if_neg (by simp [hmay])])
    · exact (execRegisterWrite_64 hlink hhears rfl).trans (by rw [State.write64_sqBase, if_neg (by simp [hoff])])
    · exact (execRegisterWrite_64 hlink hhears rfl).trans (by rw [State.write64_cqBase, if_neg (by simp [hoff])])
    · exact (execRegisterWrite_32 hlink hhears rfl).trans (by rw [State.write32_depth, if_neg (by simp [hoff])])
    · exact (execRegisterWrite_64 hlink hhears rfl).trans (by rw [State.write64_sqBase, if_pos hon])
    · exact (execRegisterWrite_64 hlink hhears rfl).trans (by rw [State.write64_cqBase, if_pos hon])
    · exact (execRegisterWrite_32 hlink hhears rfl).trans (by rw [State.write32_depth, if_pos hon])
    · exact (execRegisterWrite_32 hlink hhears (by omega)).trans (congrArg _ (State.write32_vector hn _))
    · exact (execRegisterWrite_32 hlink hhears rfl).trans (congrArg _ (State.write32_hold hset))
    · exact (execRegisterWrite_32 hlink hhears halign).trans (congrArg _ (State.write32_low hlow _))
  · intro s f tee v hlink hhears
    exact ⟨fun hmay hall htail _ => execRasHeadWrite_all hlink hhears hmay hall htail,
      fun hkey hbit hhalt hsource hpin htenant =>
        ⟨_, execRasResume_tenant hlink hhears hkey hbit hhalt hsource hpin htenant, rfl⟩,
      fun hmay => execRasClearLost_may hlink hhears hmay⟩

end Sys2Proof.Machine
end

section
/-! PROOFS. Tenancy.lean: the tenant lifecycle. -/
namespace Sys2Proof.Machine

theorem State.drawN_boot (n : Nat) : ∀ s : State, (s.drawN n).2.boot = s.boot := by
  induction n with
  | zero => exact fun s => rfl
  | succ n ih => exact fun s => ih s.draw.2

theorem bodyTenantClaim_new {o : Op} {t u : State} {x : Spdm} (hnew : t.sec.claimOp ≠ some o.tag)
    (hx : t.spdmOn (t.opFn o) (o.p 8 4) = some x) (hlife : t.sec.life = .unclaimed) (hmutual : x.mutualAuth = true) (hkey : x.key ≠ 0)
    (hpolicy : t.mgmt.policy = [] ∨ x.root ∈ t.mgmt.policy)
    (hu : u = ({ t with
        sec.life := .claiming
        sec.claimOp := some o.tag
        sec.claimFn := some x.fn
        sec.tenantKey := x.key } : State).securityChanged) (hfree : u.sec.latched = false)
    (hsame : (u.senseFuses false).boot.marginal = u.boot.marginal)
    (hfuses : (u.senseFuses false).boot.rollback ≤ (u.senseFuses false).boot.svn) :
    bodyTenantClaim o t = claimRest o (u.senseFuses false) := by
  have hallowed : (!t.mgmt.policy.isEmpty && !t.mgmt.policy.contains x.root) = false := by
    rcases hpolicy with h | h
    · simp [h]
    · simp [h]
  unfold bodyTenantClaim
  rw [if_neg hnew, hx]
  dsimp only
  rw [hallowed, if_neg (by simp [hlife, hmutual, hkey]), ← hu, if_neg (by simp [hfree]), if_pos hsame, if_neg (Nat.not_lt.2 hfuses)]

/-- The state whose entropy source no longer keeps an operation waiting. -/
def State.servedEntropy (s : State) (tag : Nat) : State := { s with sec.waiting := s.sec.waiting.filter (·.1 != .op tag) }

/-- R384: the claimed state, with its root and its session's number. -/
def State.claimedWith (s : State) (root id : Nat) : State := { s.claimSettings with
  sec.life := .claimed
  sec.claimOp := none
  sec.root := some root
  sec.keysPresent := true
  sec.session := id
  sec.tenant := s.sec.tenantKey
  boot.claims := s.boot.claims + 1 }

theorem claimRest_drawn {o : Op} {s w : State} {root id : Nat} (hdeck : s.boot.deck = true) (hclean : s.sec.cleanFailed = false)
    (hok : s.entropyOk = true) (hroot : ((s.servedEntropy o.tag).drawN 6).1 = root)
    (hid : ((s.servedEntropy o.tag).drawN 6).2.drawN 1 = (id, w)) :
    claimRest o s = if id = 0 then .wait .entropy { w with sec.requests := 0 }
      else .done .ok id ((State.securityChanged (State.claimedWith { w with sec.requests := 0 } root id)).bump 0x301 1).attestAll := by
  unfold claimRest
  rw [if_neg (by simp [hdeck]), if_neg (by simp [hclean]), if_neg (by simp [hok])]
  unfold State.withEntropy
  rw [if_pos hok]
  unfold State.servedEntropy at hroot hid
  dsimp only
  rw [hroot, hid]
  rfl

/-- The rest of a claim draws the root and the session's number. -/
theorem claimRest_draws {o : Op} {s : State} (hdeck : s.boot.deck = true) (hclean : s.sec.cleanFailed = false) (hok : s.entropyOk = true) :
    ∃ (root id : Nat) (w u : State),
      (((s.servedEntropy o.tag).drawN 6).1 = root ∧ ((s.servedEntropy o.tag).drawN 6).2.drawN 1 = (id, w)) ∧
      (claimRest o s = if id = 0 then .wait .entropy { w with sec.requests := 0 }
        else .done .ok id ((State.securityChanged u).bump 0x301 1).attestAll) ∧
      u.sec.session = id ∧ u.sec.life = .claimed ∧ u.sec.claimOp = none ∧ u.sec.keysPresent = true ∧ u.sec.root = some root ∧
      u.boot.claims = s.boot.claims + 1 := by
  have hboot : (((s.servedEntropy o.tag).drawN 6).2.drawN 1).2.boot = s.boot := (State.drawN_boot _ _).trans (State.drawN_boot _ _)
  generalize hid : ((s.servedEntropy o.tag).drawN 6).2.drawN 1 = drawn at hboot
  obtain ⟨id, w⟩ := drawn
  exact ⟨_, id, w, State.claimedWith { w with sec.requests := 0 } _ id, ⟨rfl, rfl⟩, claimRest_drawn hdeck hclean hok rfl hid,
    rfl, rfl, rfl, rfl, rfl, congrArg (fun b : Boot => b.claims + 1) hboot⟩

theorem State.start_claimResume {s : State} {tag : Nat} {o : Op} (ho : s.op tag = some o) (hshort : o.long = false)
    (hstarted : o.started = true) (hopen : o.finished = false) (hop : o.opcode = 0xA0) (hrun : s.boot.halted = false)
    (hawake : s.awakeFor 0xA0 = true) (hclaim : (s.actFor o).sec.claimOp = some o.tag) :
    s.start bodyTenantClaim tag = State.settle tag (claimRest o (s.actFor o)) := by
  unfold State.start
  rw [ho]
  dsimp only
  rw [if_neg (by simp [hshort, hopen, hrun, hop, hawake]), if_pos hstarted, bodyTenantClaim, if_pos hclaim]

/-- Settles O54: each step of the lifecycle in the branch that its hypotheses select. -/
theorem tenantLifecycle : Obligations.TenantLifecycle := by
  unfold Obligations.TenantLifecycle
  refine ⟨?claim, fun o s hdeck hclean hok => claimRest_draws hdeck hclean hok, ?resume, ?activate, ?release, ?walked, ?timer, ?status,
    ?report⟩
  case claim =>
    intro s t c o x hb hnew hx hlife hmutual hkey hpolicy u hu hfree hsame hfuses
    exact (State.next_submit hb rfl).trans (by rw [bodyTenantClaim_new hnew hx hlife hmutual hkey hpolicy hu hfree hsame hfuses])
  case resume =>
    intro s tag o hclaimOp ho hshort hstarted hopen hop hrun hawake hclaim
    show execClaimResume s = _
    unfold execClaimResume
    rw [hclaimOp]
    exact congrArg _ (State.start_claimResume ho hshort hstarted hopen hop hrun hawake hclaim)
  case activate =>
    intro s t c o hb hsession hlife hid hfuses
    exact State.next_submit_done hb (if_neg (by simp [hsession, hlife, hid, Nat.not_lt.2 hfuses]))
  case release =>
    intro s t c o hb hwait hsession hin
    exact State.next_submit hb ((if_neg (by simp [hwait])).trans (if_neg (by simp [hsession, hin])))
  case walked =>
    intro s tag hlife hat hrecalls hop
    show execReleaseWalkEnd s = _
    unfold execReleaseWalkEnd
    rw [if_pos (by simp [hlife, hat, hrecalls]), hop]
  case timer =>
    intro s t ht hlife hlate
    show execReleaseResetTimer s = _
    unfold execReleaseResetTimer
    rw [ht]
    exact congrArg _ (if_pos (Bool.and_eq_true_iff.2 ⟨decide_eq_true hlife, decide_eq_true hlate⟩))
  case status =>
    intro s t w c o hb hw
    exact State.next_submit_done hb (State.writeThen_wrote _ hw)
  case report =>
    intro s t w c o hb halign hw
    exact State.next_submit_done hb ((if_neg (by simp [halign])).trans (State.writeThen_wrote _ hw))

end Sys2Proof.Machine
end

section
/-! PROOFS. Keys.lean: weight keys, network keys and MACsec. -/
namespace Sys2Proof.Machine

section
variable {o : Op} {t : State}

theorem bodyWeightBind_bind {b : List Byte} (hsession : t.tenantSession (t.opFn o) (o.p 20 4) = true) (hact : o.p 8 1 = 0)
    (hlow : 320 ≤ o.p 16 4) (hhigh : o.p 16 4 ≤ 128 + 192 * 4096) (hb : t.got o o.buf (o.p 16 4) = some b)
    (hblob : blobOk (b.take 128) (o.p 16 4) = true) :
    bodyWeightBind o t = (bindBlob b t).after (fun u => u.readFor o o.buf (o.p 16 4)) := by
  unfold bodyWeightBind
  rw [if_neg (by simp [hsession]), hact]
  refine (if_neg ?_).trans ((State.withRead_got _ hb).trans (congrArg _ (if_pos hblob)))
  simp only [Bool.or_eq_true, decide_eq_true_eq]
  omega

theorem bodyWeightBind_unbind {x : Binding} (hsession : t.tenantSession (t.opFn o) (o.p 20 4) = true) (hact : o.p 8 1 = 1)
    (hx : t.binding (o.p 12 4) = some x) (hfree : ∀ w ∈ t.tiers.weights, w.binding ≠ o.p 12 4) :
    bodyWeightBind o t = .done .ok (o.p 12 4) { t with sec.bindings := t.sec.bindings.filter (·.slot != x.slot) } := by
  have hnone : t.tiers.weights.any (fun w => w.binding == o.p 12 4) = false :=
    List.any_eq_false.2 fun w hw => by simpa using hfree w hw
  unfold bodyWeightBind
  rw [if_neg (by simp [hsession]), hact, hx]
  exact if_neg (Bool.eq_false_iff.1 hnone)

theorem bodyNetKey_clear (hsession : t.tenantSession (t.opFn o) (o.p 12 4) = true) (hport : o.p 8 1 < 4) (hact : o.p 9 1 = 1) :
    bodyNetKey o t = .done .ok 0 (t.setMac (o.p 8 1) (if t.sec.macsec.any (fun m => m.port == o.p 8 1 && m.stopped) then
      [⟨o.p 8 1, none, false, false, true⟩] else [])) := by
  unfold bodyNetKey
  dsimp only
  rw [if_neg (by simp [hsession]), if_neg (by simp [hact]; omega), if_pos hact]

theorem bodyNetKey_set {b : List Byte} (hsession : t.tenantSession (t.opFn o) (o.p 12 4) = true) (hport : o.p 8 1 < 4)
    (hact : o.p 9 1 = 0) (hflags : o.p 10 1 < 2) (hb : t.got o o.buf 80 = some b) (hrest : leNat (b.drop 76) = 0) :
    bodyNetKey o t = BodyOut.after (fun u => u.readFor o o.buf 80)
      (match Config.gcmOpen (Config.hkdf (Config.exportSecret (o.p 12 4)) labelNetkey)
          (leNat (b.take 12)) [] ((b.drop 12).take 48) (leNat ((b.drop 60).take 16)) with
        | none => .done .integrityError 0 t
        | some k => .done .ok 0 (t.setMac (o.p 8 1) [⟨o.p 8 1, some (leNat (k.take 32)), bit (o.p 10 1) 0, false,
          t.sec.macsec.any (fun m => m.port == o.p 8 1 && m.stopped)⟩])) := by
  unfold bodyNetKey
  dsimp only
  rw [if_neg (by simp [hsession]), if_neg (by simp [hact]; omega), if_neg (by omega), if_neg (Nat.not_le.2 hflags),
    State.withRead_got _ hb]
  exact congrArg _ (if_neg (by simp [hrest]))

end

/-- R404: a blob for this tenant and this firmware binds what its own entry opens to. -/
theorem bindBlob_mine {s : State} {b : List Byte}
    (htenant : beNat (((b.take 128).drop 8).take 48) = 0 ∨ beNat (((b.take 128).drop 8).take 48) = s.sec.tenant)
    (hsvn : leNat (((b.take 128).drop 56).take 4) ≤ s.boot.svn) :
    bindBlob b s = (match blobEntry b with
      | none => .done .denied 0 s
      | some e => match Config.gcmOpen (Config.hkdf (Config.ecdh (beNat ((e.drop 48).take 96))) labelBind) 0 (b.take 128)
          ((e.drop 144).take 32) (leNat ((e.drop 176).take 16)) with
        | none => .done .integrityError 0 s
        | some k => s.addBinding (leNat k) (leNat (((b.take 128).drop 60).take 8))) := by
  have hmine : ((beNat (((b.take 128).drop 8).take 48) != 0 && beNat (((b.take 128).drop 8).take 48) != s.sec.tenant) ||
      decide (s.boot.svn < leNat (((b.take 128).drop 56).take 4))) = false := by
    rw [decide_eq_false (Nat.not_lt.2 hsvn), Bool.or_false]
    rcases htenant with h | h
    · simp [h]
    · simp [h]
  unfold bindBlob
  cases blobEntry b with
  | none => rfl
  | some e => exact if_neg (Bool.eq_false_iff.1 hmine)

/-- Settles O55: each key command and MACsec's securing in the branch that its hypotheses select. -/
theorem keyCommands : Obligations.KeyCommands := by
  unfold Obligations.KeyCommands
  refine ⟨?bind, fun s b htenant hsvn => bindBlob_mine htenant hsvn, ?added, ?unbind, ?net, ?mka⟩
  case bind =>
    intro s t c o b hb hsession hact hlow hhigh hbytes hblob
    exact (State.next_submit hb rfl).trans (by rw [bodyWeightBind_bind hsession hact hlow hhigh hbytes hblob])
  case added =>
    intro s key iv i hslot
    refine ⟨_, rfl, ?_⟩
    unfold State.addBinding
    rw [hslot]
  case unbind =>
    intro s t c o x hb hsession hact hx hfree
    exact State.next_submit_done hb (bodyWeightBind_unbind hsession hact hx hfree)
  case net =>
    intro s t c o hb hsession hport
    refine ⟨fun hact hrunning => ?_, fun m hact hm hmport hstopped => ?_, fun b hact hflags hbytes hrest => ?_⟩
    · have hnone : t.sec.macsec.any (fun m => m.port == o.p 8 1 && m.stopped) = false := List.any_eq_false.2 fun m hm => by
        by_cases h : m.port = o.p 8 1
        · simp [hrunning m hm h]
        · simp [h]
      exact State.next_submit_done hb ((bodyNetKey_clear hsession hport hact).trans (by rw [hnone]; rfl))
    · have hsome : t.sec.macsec.any (fun m => m.port == o.p 8 1 && m.stopped) = true :=
        List.any_eq_true.2 ⟨m, hm, by simp [hmport, hstopped]⟩
      exact State.next_submit_done hb ((bodyNetKey_clear hsession hport hact).trans (by rw [hsome]; rfl))
    · refine (State.next_submit hb (bodyNetKey_set hsession hport hact hflags hbytes hrest)).trans ?_
      cases Config.gcmOpen (Config.hkdf (Config.exportSecret (o.p 12 4)) labelNetkey)
          (leNat (b.take 12)) [] ((b.drop 12).take 48) (leNat ((b.drop 60).take 16)) with
      | none => rfl
      | some k => rfl
  case mka =>
    intro s port m hm hport hcak hopen
    exact if_pos (List.any_eq_true.2 ⟨m, hm, by simp [hport, hcak, hopen]⟩)

end Sys2Proof.Machine
end

section
/-! PROOFS. LinkSecurity.lean: SPDM sessions, IDE keys, TDISP interfaces, function reset and JTAG. -/
namespace Sys2Proof.Machine

/-! ### SPDM -/

section
variable {s : State} {f : Fn} (hdoe : s.doe f = true)
include hdoe

theorem execSpdmRequest_endSession {id : Nat} {x : Spdm} (hx : s.wake.spdmOn f id = some x) :
    execSpdmRequest f (.endSession id) s =
      .next (((s.wake.updSpdm id (fun x => { x with records := x.records + 1 })).endSpdm id).emit (.spdm f true [])) := by
  refine (if_neg (by simp [hdoe])).trans (congrArg Host.Outcome.next ?_)
  unfold State.inSpdm
  rw [hx]

theorem execSpdmRequest_finish {id key root : Nat} {auth : Bool} {x : Spdm} (hx : x ∈ s.wake.sec.spdms) (hid : x.id = id) (hf : x.fn = f)
    (hopen : x.established = false) :
    execSpdmRequest f (.finish id auth key root) s = .next (((s.wake.updSpdm id (fun x => { x with
        established := true, mutualAuth := auth, key := key % 2 ^ 384, root := root
        lastBeat := s.wake.clock.now })).bump 0x300 1).emit (.spdm f true [])) := by
  refine (if_neg (by simp [hdoe])).trans (if_pos ?_)
  exact List.any_eq_true.2 ⟨x, hx, by simp [hid, hf, hopen]⟩

theorem execSpdmKeyExchange_served {hb : Nat} (hfew : s.wake.sec.spdms.length < 16) (hok : s.wake.entropyOk = true) :
    execSpdmKeyExchange f hb s = .next (s.wake.keyExchange f hb) :=
  (if_neg (by simp [hdoe])).trans ((if_neg (Nat.not_le.2 hfew)).trans (if_pos hok))

theorem execSpdmKeyExchange_full {hb : Nat} (hfull : 16 ≤ s.wake.sec.spdms.length) :
    execSpdmKeyExchange f hb s = .next (s.wake.emit (.spdm f false [])) :=
  (if_neg (by simp [hdoe])).trans (if_pos hfull)

end

theorem execSpdmSessionLimit_due {s : State} {id : Nat} {x : Spdm} (hx : x ∈ s.sec.spdms) (hid : x.id = id)
    (hdue : 2 ^ 32 ≤ x.records ∨ x.since + 86400000000000 ≤ s.clock.now) : execSpdmSessionLimit id s = .next (s.endSpdm id) := by
  refine congrArg Host.Outcome.next (if_pos (List.any_eq_true.2 ⟨x, hx, Bool.and_eq_true_iff.2 ⟨beq_iff_eq.2 hid, ?_⟩⟩))
  exact Bool.or_eq_true_iff.2 (hdue.imp decide_eq_true decide_eq_true)

theorem execSpdmHeartbeatTimeout_due {s : State} {id : Nat} {x : Spdm} (hx : x ∈ s.sec.spdms) (hid : x.id = id)
    (hopen : x.established = true) (hbeat : x.hbeat ≠ 0) (hlate : x.lastBeat + x.hbeat * 1000000000 ≤ s.clock.now) :
    execSpdmHeartbeatTimeout id s = .next (s.endSpdm id) := by
  refine congrArg Host.Outcome.next (if_pos (List.any_eq_true.2 ⟨x, hx, Bool.and_eq_true_iff.2 ⟨?_, decide_eq_true hlate⟩⟩))
  simp [hid, hopen, hbeat]

/-! ### IDE keys -/

section
variable {s u : State} {link id : Nat} {x : Spdm} (hx : s.spdmOn ⟨link, 0⟩ id = some x)
  (hu : u = s.wake.updSpdm id (fun x => { x with records := x.records + 1 }))
include hx hu

theorem State.ideKm_known {k : State → Option State} {w : State} (hk : k u = some w) :
    s.ideKm link id k = w.emit (.ideKm link true 0) := by
  subst hu
  unfold State.ideKm
  rw [hx]
  dsimp only
  rw [hk]

theorem execIdeKmQuery_known : execIdeKmQuery link id s =
    .next (u.emit (.ideKm link true (1 + 8 * 2 ^ 8 + b2n (u.ideOk link (.mem true)) * 2 ^ 16))) := by
  subst hu
  unfold execIdeKmQuery
  rw [hx]

theorem execIdeKmKeyProg_new {st : IdeStream} (hok : u.ideOk link st = true) (hnew : u.ide link st = none) :
    execIdeKmKeyProg link id st 0 s =
      .next ((u.setIde ⟨link, st, some u.clock.now, none, none, false, false⟩).emit (.ideKm link true 0)) := by
  refine congrArg Host.Outcome.next (State.ideKm_known hx hu ?_)
  dsimp only
  rw [if_neg (by simp [hok]), hnew]
  rfl

section
variable {st : IdeStream} {y : Ide} {t : Nat} (hy : u.ide link st = some y)
include hy

theorem execIdeKmKSetGo_keyed (hkey : y.k0 = some t) : execIdeKmKSetGo link id st 0 s =
    .next (((u.setIde { y with active := some 0, secure := true, left := false }).ideReady link).emit (.ideKm link true 0)) := by
  refine congrArg Host.Outcome.next (State.ideKm_known hx hu ?_)
  rw [hy]
  exact if_neg (by simp [hkey])

theorem execIdeKmKSetStop_known : execIdeKmKSetStop link id st 0 s =
    .next ((if y.active = some 0 then (u.setIde { y with k0 := none }).ideLeaves { y with k0 := none }
      else u.setIde { y with k0 := none }).emit (.ideKm link true 0)) := by
  refine congrArg Host.Outcome.next (State.ideKm_known hx hu ?_)
  rw [hy]
  rfl

end

end

/-! ### The end of a session with its reset -/

/-- R54: what a warm reset leaves of a session. -/
theorem State.warmReset_unclaimed (s : State) (cause : Nat) :
    (s.warmReset cause).sec.lastCause = (s.endSession cause).sec.lastCause ∧ (s.warmReset cause).sec.life = .unclaimed ∧
      (s.warmReset cause).sec.keysPresent = false ∧ (s.warmReset cause).pool.mem = [] ∧ (s.warmReset cause).store = Store.reset ∧
      (s.warmReset cause).boot.link = false := by
  obtain ⟨t, ht, hcause, hlife, hkeys, hmem, hstore, hlink⟩ : ∃ t, s.warmReset cause = State.noteReady t s.devReady ∧
      t.sec.lastCause = (s.endSession cause).sec.lastCause ∧ t.sec.life = .unclaimed ∧ t.sec.keysPresent = false ∧ t.pool.mem = [] ∧
      t.store = Store.reset ∧ t.boot.link = false := ⟨_, rfl, rfl, rfl, rfl, rfl, rfl, rfl⟩
  have hsignals := State.noteReady_signals t s.devReady
  rw [ht, hsignals.sec, hsignals.pool, hsignals.store, hsignals.boot]
  exact ⟨hcause, hlife, hkeys, hmem, hstore, hlink⟩

/-- Settles O56: each security event in the branch that its hypotheses select. -/
theorem linkAndDebugSecurity : Obligations.LinkAndDebugSecurity := by
  unfold Obligations.LinkAndDebugSecurity
  refine ⟨⟨?spdm, ?limits, ?ide, ?keyLimit, ?tdisp, ?reset, ?config⟩, ?jtag⟩
  case spdm =>
    intro s f hdoe
    exact ⟨if_neg (by simp [hdoe]), fun id x hx => execSpdmRequest_endSession hdoe hx,
      fun id auth key root x hx hid hf hopen => execSpdmRequest_finish hdoe hx hid hf hopen,
      fun hb hfew hok => execSpdmKeyExchange_served hdoe hfew hok, fun hb hfull => execSpdmKeyExchange_full hdoe hfull⟩
  case limits =>
    intro s id x hx hid
    exact ⟨fun hdue => execSpdmSessionLimit_due hx hid hdue,
      fun hopen hbeat hlate => execSpdmHeartbeatTimeout_due hx hid hopen hbeat hlate⟩
  case ide =>
    intro s u link id st x hx hu
    refine ⟨execIdeKmQuery_known hx hu, fun hok hnew => execIdeKmKeyProg_new hx hu hok hnew,
      fun y t hy hkey => ⟨execIdeKmKSetGo_keyed hx hu hy hkey, fun hidle => ?_, fun hactive => ?_⟩⟩
    · exact (execIdeKmKSetStop_known hx hu hy).trans (by rw [if_neg hidle])
    · exact (execIdeKmKSetStop_known hx hu hy).trans (by rw [if_pos hactive])
  case keyLimit =>
    intro s link st x hx
    show execIdeKeyLimit link st s = _
    unfold execIdeKeyLimit
    rw [hx]
  case tdisp =>
    intro s f
    refine ⟨fun hunlocked hmay => if_pos (by simp [hunlocked, hmay]), fun hlocked => if_pos hlocked, fun hother => if_neg hother,
      fun _ hnone => ?_⟩
    show execStopInterfaceRequest f s = _
    unfold execStopInterfaceRequest
    dsimp only
    rw [hnone]
  case reset =>
    intro s f
    refine ⟨_, rfl, ?_, ?_, ?_, ?_, ?_, ?_⟩
    · exact fun x hx => bne_iff_ne.1 (List.mem_filter.1 hx).2
    · exact fun x hx => bne_iff_ne.1 (List.mem_filter.1 hx).2
    · exact fun x hx => bne_iff_ne.1 (List.mem_filter.1 hx).2
    · exact fun h => bne_iff_ne.1 (List.mem_filter.1 h).2 rfl
    · exact fun h => bne_iff_ne.1 (List.mem_filter.1 h).2 rfl
    · exact fun x hx => bne_iff_ne.1 (List.mem_filter.1 hx).2
  case config =>
    intro s f bars cmd hnew
    exact if_neg hnew
  case jtag =>
    intro s
    refine ⟨rfl, fun hshut => if_pos (by simp [hshut]), fun hopen hlife => (if_neg (by simp [hopen])).trans (if_pos hlife),
      fun hopen hlife => ⟨_, (if_neg (by simp [hopen])).trans (if_neg hlife), ?_⟩⟩
    obtain ⟨hcause, hrest⟩ := State.warmReset_unclaimed { s.endSession 4 with sec.lastCause := 4 } 4
    refine ⟨hcause.trans ?_, hrest⟩
    obtain ⟨-, -, -, -, -, -, -, hlast⟩ := State.endSession_frame { s.endSession 4 with sec.lastCause := 4 } 4
    exact hlast.trans (ite_self _)

end Sys2Proof.Machine
end

section
/-! PROOFS. Components.lean: components that fail, fatal faults and the halt. -/
namespace Sys2Proof.Machine

theorem upd_none {α : Type} {p : α → Bool} {f : α → α} {l : List α} (h : ∀ x ∈ l, p x = false) : upd p f l = l :=
  (List.map_congr_left fun x hx => if_neg (Bool.eq_false_iff.1 (h x hx))).trans l.map_id

theorem State.loseStack_known {s t : State} {n : Nat} (hn : n < 6) (hok : bit s.boot.stackOk n = true) (ht : t = ({ s with
      boot.stackOk := s.boot.stackOk - 2 ^ n } : State).readyChanged.log (.plain .degraded 0x0105 (0x1000 + 0x100 * n + 0x13) none)) :
    (s.deckRebuilds = true → s.loseStack n = t) ∧
    (s.deckRebuilds = false → s.store.blocks = [] → s.loseStack n =
      ((((t.loseTails []).loseTiles (fun _ x => x.tier = 0 && x.home = n)).poisonPlace 0 n).noteShort)) := by
  subst ht
  unfold State.loseStack
  rw [if_neg (by simp only [hok, Bool.not_true, Bool.or_false, decide_eq_true_eq]; omega)]
  constructor
  · intro hrebuilt
    exact if_pos hrebuilt
  · intro hplain hblocks
    refine (if_neg (Bool.eq_false_iff.1 hplain)).trans ?_
    rw [hblocks]
    rfl

theorem tierLocus_causeway (home chan : Nat) : tierLocus 1 home chan = 0x5000 + 0x100 * (chan / 4) + 0x20 + chan := by
  show 0x5020 + 0x100 * (chan / 4) + chan = _
  omega

theorem State.loseChannel_empty {s : State} {c : Nat} (hc : c < 8) (hok : bit s.boot.causewayOk c = true) (hblocks : s.store.blocks = [])
    (hleases : s.tiers.leases = []) :
    s.loseChannel c = ((((({ s with boot.causewayOk := s.boot.causewayOk - 2 ^ c } : State).readyChanged.log
      (.plain .degraded 0x0115 (0x5000 + 0x100 * (c / 4) + 0x20 + c) none)).loseTiles
        (fun _ x => x.tier = 1 && x.chan = c)).poisonPlace 1 c).noteShort) := by
  unfold State.loseChannel
  rw [if_neg (by simp only [hok, Bool.not_true, Bool.or_false, decide_eq_true_eq]; omega), hblocks, hleases, tierLocus_causeway]
  rfl

theorem State.loseBank_empty {s : State} {b : Nat} (hthere : (s.bank b).lost = false) (hempty : s.bankList b = []) :
    s.loseBank b = ({ s with idx.banks := { s.bank b with lost := true } :: s.idx.banks.filter (·.num != b) } : State).log
      (.plain .degraded 0x0124 (0x2000 + 0x100 * (b / 64) + b % 64) none) := by
  unfold State.loseBank
  rw [if_neg (by simp [hthere]), hempty]
  rfl

theorem execFatalFault_up {s : State} (hup : s.boot.phase = .up) (l : Nat) :
    execFatalFault (.dieFailed l) s = .next ({ s with sec.fatalPersists := true }.fatal (fatalReport l 1)) ∧
    execFatalFault (.secondFault l) s = .next (s.fatal (fatalReport l 3)) ∧
    execFatalFault (.tableUncorrectable l) s = .next ((s.log (.plain .fatal 0x0122 l none)).fatal (fatalReport l 2)) ∧
    (s.sec.life ≠ .claiming → execFatalFault .cleanState s = .next { s with sec.cleanFailed := true }) := by
  have hpowered : (decide (s.boot.phase = .off) || decide (s.boot.phase = .tripped) || decide (s.boot.phase = .supplyHeld)) = false := by
    rw [hup]
    rfl
  refine ⟨?_, ?_, ?_, fun hlife => ?_⟩
  · exact if_neg (Bool.eq_false_iff.1 hpowered)
  · exact if_neg (Bool.eq_false_iff.1 hpowered)
  · exact if_neg (Bool.eq_false_iff.1 hpowered)
  · refine (if_neg (Bool.eq_false_iff.1 hpowered)).trans ?_
    dsimp only
    split
    · contradiction
    · rfl

/-- Nothing is left to stop on a halted device without links and operations. -/
theorem execHaltComplete_quiet {s : State} (hhalt : s.boot.halted = true) (hops : ∀ o ∈ s.q.ops, haltedAccepts o.opcode = true)
    (hports : ∀ p ∈ s.dlv.ports, p.num < 32) : execHaltComplete s = .next { s with boot.ethUp := 0 } := by
  have hnone : s.q.ops.filter (fun o => !haltedAccepts o.opcode && s.commitStage o.tag != some true) = [] :=
    List.filter_eq_nil_iff.2 fun o ho => by simp [hops o ho]
  have hfar : ∀ p ∈ s.dlv.ports, (decide (32 ≤ p.num) && decide (p.num < 40)) = false := fun p hp => by
    simp [Nat.not_le.2 (hports p hp)]
  have hdown : s.dlv.ports.any (fun p => decide (32 ≤ p.num) && decide (p.num < 40) && p.linked) = false :=
    List.any_eq_false.2 fun p hp => by simp [Nat.not_le.2 (hports p hp)]
  unfold execHaltComplete
  rw [if_neg (by simp [hhalt])]
  dsimp only
  rw [hnone, List.foldl_nil, hdown, upd_none hfar, if_neg Bool.false_ne_true]

/-- Settles O57: each component that fails, in the branch that its hypotheses select. -/
theorem componentFaults : Obligations.ComponentFaults := by
  unfold Obligations.ComponentFaults
  refine ⟨?fabric, ?stack, ?lane, ?channel, ?bank, fun s l hup => execFatalFault_up hup l, ?halted, ?running, ?slice, ?core⟩
  case fabric =>
    intro s n hlink hin
    exact ⟨if_pos (by rw [hlink, hin]; rfl), fun hhalf => if_pos (by rw [hlink, hin, hhalf]; rfl)⟩
  case stack =>
    intro s t n hn hok ht
    obtain ⟨hrebuilt, hplain⟩ := State.loseStack_known hn hok ht
    exact ⟨fun h => congrArg _ (hrebuilt h), fun h hblocks => congrArg _ (hplain h hblocks)⟩
  case lane =>
    intro s n c hn hc hok
    have hthere : ¬(decide (6 ≤ n) || decide (32 ≤ c) || !bit s.boot.stackOk n) = true := by
      simp only [hok, Bool.not_true, Bool.or_false, Bool.or_eq_true, decide_eq_true_eq]
      omega
    exact ⟨fun hmany => (if_neg hthere).trans (if_pos hmany), fun hfew => (if_neg hthere).trans (if_neg (Nat.not_le.2 hfew))⟩
  case channel =>
    intro s c hc hok hblocks hleases
    exact congrArg _ (State.loseChannel_empty hc hok hblocks hleases)
  case bank =>
    intro s b hb hthere hempty
    exact congrArg _ ((if_pos hb).trans (State.loseBank_empty hthere hempty))
  case halted =>
    intro s hhalt hops hports
    exact execHaltComplete_quiet hhalt hops hports
  case running =>
    intro s hrun
    exact if_pos (by simp [hrun])
  case slice =>
    intro s pier slice hpier hslice hin
    exact if_pos (by simp [hpier, hslice, hin])
  case core =>
    intro s span core hspan hcore hin
    exact if_pos (by rw [hin, decide_eq_true hspan, decide_eq_true hcore]; rfl)

end Sys2Proof.Machine
end

section
/-! PROOFS. Telemetry.lean: monitors, counter dumps, interrupts and fixed-rate periods. -/
namespace Sys2Proof.Machine

section
variable {o : Op} {t : State}

theorem bodyCntDump_stop {d : Dump} (hact : o.p 8 1 = 1) (hd : t.tel.dump = some d) (hqp : d.qp = o.qp) :
    bodyCntDump o t = .done .ok 0 { t with tel.dump := none } := by
  unfold bodyCntDump
  dsimp only
  rw [if_pos hact, hd]
  exact if_pos (by simp [hqp])

section
variable {k : Nat} (hk : k = t.portOf o (o.p 28 1)) (hport : k < 32) (halign : o.buf % 4096 = 0)
include hk hport halign

theorem bodyCntDump_start (hact : o.p 8 1 = 0) (hslots : o.p 12 2 ∈ [2, 4, 8, 16, 32, 64, 128, 256]) (hlow : 100 ≤ o.p 24 4)
    (hhigh : o.p 24 4 ≤ 10000000) (hlater : o.time + 100000 ≤ o.p 16 8) (hidle : t.tel.dump = none)
    (hallowed : outboundDenied t.stg.live (t.portFn o k) o.buf (o.p 12 2 * 17408) = false) (hup : t.linkUp k = true)
    (hfits : o.buf + o.p 12 2 * 17408 ≤ 2 ^ 64) :
    bodyCntDump o t = .done .ok (o.p 16 8) { t with
      tel.dump := some ⟨o.qp, o.buf, o.p 12 2, o.p 16 8, o.p 24 4, k, 0, 0, none⟩, tel.dumpFault := false } := by
  have hfirst : (if o.p 16 8 = 0 then o.time + 100000 else o.p 16 8) = o.p 16 8 := if_neg (by omega)
  have hfields : (!([2, 4, 8, 16, 32, 64, 128, 256].contains (o.p 12 2)) || decide (o.p 24 4 < 100) || decide (10000000 < o.p 24 4) ||
      decide (o.p 16 8 < o.time + 100000)) = false := by
    rw [List.contains_iff_mem.2 hslots, decide_eq_false (Nat.not_lt.2 hlow), decide_eq_false (Nat.not_lt.2 hhigh),
      decide_eq_false (Nat.not_lt.2 hlater)]
    rfl
  have hreach : (!t.linkUp k || decide (2 ^ 64 < o.buf + o.p 12 2 * 17408)) = false := by
    rw [hup, decide_eq_false (Nat.not_lt.2 hfits)]
    rfl
  unfold bodyCntDump
  dsimp only
  rw [if_neg (by omega), ← hk, if_neg (by simp [hact, halign]; omega), if_neg (by omega), hfirst, hfields,
    if_neg Bool.false_ne_true, hidle,
    if_neg (by simp), hallowed, if_neg Bool.false_ne_true, hreach, if_neg Bool.false_ne_true]

theorem bodyCntDump_once {b : List Byte} {u : State} (hact : o.p 8 1 = 2) (hwork : o.work = .snapshot b)
    (hu : t.hostWrite (t.portFn o k) k o.buf (slotWith 2 b) = .ok u) :
    bodyCntDump o t = .done .ok 0 (u.dumpSent o.qp k 17408).snapTaken := by
  unfold bodyCntDump
  dsimp only
  rw [if_neg (by omega), ← hk, if_neg (by simp [hact, halign]; omega), if_pos hact, hwork]
  dsimp only
  rw [hu]

end

end

section
variable {s t : State} {d : Dump} (hd : s.tel.dump = some d)
include hd

theorem execSnapshotInstant_skipped (hdue : d.first + d.seq * d.period * 1000 ≤ s.clock.now) (hlatched : d.latched.isSome = true) :
    execSnapshotInstant s = .next (({ s with
      tel.dump := some { d with seq := d.seq + 1, skipped := d.skipped + 1 }
      tel.dumpSkipped := min 0xFFFF (s.tel.dumpSkipped + 1) } : State).bump 0x606 1) := by
  unfold execSnapshotInstant
  rw [hd]
  dsimp only
  rw [if_neg (Nat.not_lt.2 hdue), if_pos hlatched]

theorem execSnapshotInstant_taken {b : List Byte} (hdue : d.first + d.seq * d.period * 1000 ≤ s.clock.now)
    (hb : b = s.slotBytes (d.first + d.seq * d.period * 1000) d.seq d.skipped) (hfree : d.latched = none)
    (hrun : s.boot.halted = false ∨ s.ras.haltSource ≠ 4)
    (ht : s.hostWrite (s.dumpFn d.qp d.port) d.port (d.slotAt d.seq) (slotWith ((2 * d.seq + 1) % 2 ^ 32) b) = .ok t) :
    execSnapshotInstant s = .next { t.dumpSent d.qp d.port 17408 with
      tel.dump := some { d with seq := d.seq + 1, latched := some (d.seq, b) } } := by
  unfold execSnapshotInstant
  rw [hd]
  dsimp only
  rw [if_neg (Nat.not_lt.2 hdue), if_neg (by simp [hfree]), if_neg (by rcases hrun with h | h <;> simp [h]), ← hb, ht]

theorem execDumpSlotWritten_sent {q : Nat} {b : List Byte} (hlatched : d.latched = some (q, b))
    (hrun : s.boot.halted = false ∨ s.ras.haltSource ≠ 4)
    (ht : s.hostWrite (s.dumpFn d.qp d.port) d.port (d.slotAt q) (slotWith ((2 * q + 2) % 2 ^ 32) b) = .ok t) :
    execDumpSlotWritten s = .next ({ t.dumpSent d.qp d.port 4 with tel.dump := some { d with latched := none } } : State).snapTaken := by
  unfold execDumpSlotWritten
  rw [hd]
  dsimp only
  rw [hlatched]
  dsimp only
  rw [if_neg (by rcases hrun with h | h <;> simp [h]), ht]

end

/-- An acknowledgement of every source keeps none. -/
theorem total_kept_none (m : Nat) :
    total ((List.range 16).map (fun i => if bit m i && !bit 0xFFFF i then 2 ^ i else 0)) = 0 := by
  have hnone : (List.range 16).map (fun i => if bit m i && !bit 0xFFFF i then 2 ^ i else 0) = (List.range 16).map (fun _ => 0) := by
    refine List.map_congr_left fun i hi => ?_
    have hset : ∀ i ∈ List.range 16, bit 0xFFFF i = true := by decide
    rw [hset i hi, Bool.not_true, Bool.and_false, if_neg Bool.false_ne_true]
  rw [hnone]
  rfl

theorem execIrqSharedAck_all {s : State} {f : Fn} {tee : Bool} (hmay : s.mayCount f tee = true) :
    execIrqSharedAck ⟨f, tee⟩ 0xFFFF s = .next
      (((List.range 16).filter (fun i => bit 0xFFFF i && ({ s.wake with tel.shared := 0, tel.waiting := 0 } : State).levelHolds i)).foldl
        State.raiseSrc { s.wake with tel.shared := 0, tel.waiting := 0 }) := by
  unfold execIrqSharedAck
  rw [if_pos hmay]
  dsimp only
  rw [total_kept_none, total_kept_none]

/-- Settles O58: each telemetry event in the branch that its hypotheses select. -/
theorem telemetryRows : Obligations.TelemetryRows := by
  unfold Obligations.TelemetryRows
  refine ⟨?clear, ?dump, ?instant, ?written, fun s f tee hmay => execIrqSharedAck_all hmay, ?moderated, ?hold, ?period⟩
  case clear =>
    intro s f tee n hmay hn
    exact congrArg _ (if_pos (by rw [hmay, decide_eq_true hn]; rfl))
  case dump =>
    intro s t c o hb
    refine ⟨fun d hact hd hqp => State.next_submit_done hb (bodyCntDump_stop hact hd hqp), ?_,
      fun k b u hact hk hport halign hwork hu => State.next_submit_done hb (bodyCntDump_once hk hport halign hact hwork hu)⟩
    intro k hact hk hport halign hslots hlow hhigh hlater hidle hallowed hup hfits
    exact State.next_submit_done hb (bodyCntDump_start hk hport halign hact hslots hlow hhigh hlater hidle hallowed hup hfits)
  case instant =>
    intro s t d b hd hdue hbytes
    exact ⟨fun hlatched => execSnapshotInstant_skipped hd hdue hlatched,
      fun hfree hrun ht => execSnapshotInstant_taken hd hdue hbytes hfree hrun ht⟩
  case written =>
    intro s t d q b hd hlatched hrun ht
    exact execDumpSlotWritten_sent hd hlatched hrun ht
  case moderated =>
    intro s f n hpending htimer hdue hsent
    exact congrArg _ (if_pos (by rw [decide_eq_true hdue, hsent, bne_iff_ne.2 hpending, bne_iff_ne.2 htimer]; rfl))
  case hold =>
    intro s f tee hlink hhears
    exact congrArg _ (if_pos (by simp [hlink, hhears]))
  case period =>
    intro s hfixed hdue
    exact ⟨_, rfl, if_pos (by rw [hfixed, decide_eq_true hdue]; rfl)⟩

end Sys2Proof.Machine
end

section
/-! PROOFS. Management.lean: what an authenticated management action does where its state permits it (O59). -/
namespace Sys2Proof.Machine

/-- A management action whose state permits it wakes the device, acts and is answered. -/
theorem State.mgmtAct_permitted {s : State} {ok : Bool} (k : State → State) (hm : s.managed = true) (hok : ok = true) :
    s.mgmtAct ok k = (k s.wake).emit (.mgmt true []) :=
  if_pos (by rw [hm, hok]; rfl)

theorem execMgmtEnterLinkWatch_permitted {s : State} {port : Nat} (hm : s.managed = true) (hfree : s.sec.life = .unclaimed)
    (hlink : s.boot.link = true) (hrun : s.boot.halted = false) (hlw : s.boot.linkwatch = false) (hport : port < 8) :
    execMgmtEnterLinkWatch port s =
      .next (if s.mayWatch then (s.watch port).emit (.mgmt true []) else s.emit (.mgmt false [0x10])) :=
  congrArg Host.Outcome.next (if_neg (by simp [hm, hfree, hlink, hrun, hlw, hport]))

/-- A managed device wakes for a read over the management plane, and is then read. -/
theorem execMgmtRead_managed {s : State} (hm : s.managed = true) :
    execMgmtRead .devReady s = .next (s.wake.emit (.mgmt true [s.wake.devReady])) ∧
    execMgmtRead .sensors s = .next (s.wake.emit (.mgmt true [s.wake.mgmt.lastPower, s.wake.mgmt.logicMax, s.wake.mgmt.hbmMax])) ∧
    ∀ i, execMgmtRead (.counter i) s = .next (s.wake.emit (.mgmt true [s.wake.counterReg i])) := by
  have hwake : ∀ sensors : Bool, (if (s.managed || sensors) = true then s.wake else s) = s.wake := fun _ =>
    if_pos (by rw [hm]; rfl)
  have hstill : s.wake.managed = true := by
    rw [← hm, State.managed, State.managed, State.wake]
    split <;> rfl
  unfold execMgmtRead
  dsimp only
  simp only [hwake, hstill, if_true, implies_true, and_self]

/-- The other slot, not valid, keeps no lower version that the counter could pass. -/
theorem execMgmtAdvanceRollback_permitted {s : State} {sl : Slot} (hm : s.managed = true) (hfree : s.sec.life = .unclaimed)
    (hrun : s.boot.running = some sl) (hother : s.boot.slotValid sl.other = false) :
    execMgmtAdvanceRollback s = .next ({ s.wake with
      boot.fuses := blowAll s.wake.boot.fuses (s.wake.boot.svn - s.wake.boot.rollback) }.emit (.mgmt true [])) :=
  congrArg Host.Outcome.next (State.mgmtAct_permitted _ hm (by simp [hfree, hrun, hother]))

/-- Settles O59: each action in the state that permits it, and the refusal of a second ENROL. -/
theorem managementActions : Obligations.ManagementActions := by
  unfold Obligations.ManagementActions
  refine ⟨fun s hm => ⟨?halt, ?release, ?reset, ?watch, ?readReady, ?readSensors, ?readCounter, ?ceiling, ?policy, ?footing, ?write,
    ?activate, ?ptp, ?addAnchor, ?dropAnchor, ?rollback⟩, ?enrol, ?enrolled⟩
  case halt => exact fun hlink => congrArg Host.Outcome.next (State.mgmtAct_permitted _ hm hlink)
  case release => exact fun hin => congrArg Host.Outcome.next (if_pos (by rw [hm, hin]; rfl))
  case reset => exact fun hr => congrArg Host.Outcome.next (State.mgmtAct_permitted _ hm hr)
  case watch =>
    intro port hfree hlink hrun hlw hport
    have hact := execMgmtEnterLinkWatch_permitted hm hfree hlink hrun hlw hport
    exact ⟨fun hmay => hact.trans (congrArg Host.Outcome.next (if_pos hmay)),
      fun hmay => hact.trans (congrArg Host.Outcome.next (if_neg (Bool.eq_false_iff.1 hmay)))⟩
  case readReady => exact (execMgmtRead_managed hm).1
  case readSensors => exact (execMgmtRead_managed hm).2.1
  case readCounter => exact (execMgmtRead_managed hm).2.2
  case ceiling =>
    exact fun w hlow hhigh => congrArg Host.Outcome.next (State.mgmtAct_permitted _ hm (by simp [hlow, hhigh]))
  case policy =>
    exact fun l hfree hlen => congrArg Host.Outcome.next (State.mgmtAct_permitted _ hm (by simp [hfree, hlen]))
  case footing => exact fun z k hk => congrArg Host.Outcome.next (State.mgmtAct_permitted _ hm (decide_eq_true hk))
  case write => exact fun sl im hsl => if_pos (by simp [hm, hsl])
  case activate =>
    exact fun sl hr hfree hvalid => congrArg Host.Outcome.next (State.mgmtAct_permitted _ hm (by simp [hr, hfree, hvalid]))
  case ptp => exact fun a b p => congrArg Host.Outcome.next (State.mgmtAct_permitted _ hm rfl)
  case addAnchor =>
    exact fun a hroom hnew => congrArg Host.Outcome.next (State.mgmtAct_permitted _ hm (by simp [hroom, hnew]))
  case dropAnchor =>
    exact fun a hthere hmore => congrArg Host.Outcome.next (State.mgmtAct_permitted _ hm (by simp [hthere, hmore]))
  case rollback => exact fun sl hfree hrun hother => execMgmtAdvanceRollback_permitted hm hfree hrun hother
  case enrol => exact fun s a hon hnone => congrArg Host.Outcome.next (if_pos (by simp [hon, hnone]))
  case enrolled => exact fun s a hsome => congrArg Host.Outcome.next (if_neg (by simp [hsome]))

end Sys2Proof.Machine
end

section
/-! PROOFS. PowerTime.lean: power and thermal samples, supply faults, discovery, clocks and pins (O60). -/
namespace Sys2Proof.Machine

/-- A sample that raises the power clamp, of a device that is up and not in link-watch. -/
theorem execPowerSample_raises {s : State} {mw n level : Nat} (hup : s.boot.phase = .up) (hlw : s.boot.linkwatch = false)
    (hraise : s.raise mw = some (n, level)) :
    execPowerSample mw s = .next (({ s.spend mw with
      mgmt.lastPower := mw
      mgmt.peak1ms := (s.clock.now, mw) :: (s.spend mw).mgmt.peak1ms.filter (fun x => s.clock.now < x.1 + 1000000)
      mgmt.raiseLevel := level
      mgmt.belowSince := none } : State).setSteps (min 15 ((s.spend mw).mgmt.powerStep + n)) (s.spend mw).mgmt.thermalStep) := by
  have hstill : (s.spend mw).boot.linkwatch = false := hlw
  unfold execPowerSample
  rw [if_neg (by simp [hup])]
  dsimp only
  rw [hraise, hstill, if_neg Bool.false_ne_true]

/-- A sample at the trip temperature trips the device, after the sample is recorded. -/
theorem execThermalSample_trips {s : State} {logic hbm : Nat} (locus : Nat) (hup : s.boot.phase = .up)
    (hwas : s.mgmt.thermal ≠ .trip) (hnext : Thermal.next s.mgmt.thermal logic hbm = .trip) :
    ∃ u : State, execThermalSample logic hbm locus s = .next (u.trip locus) ∧ u.mgmt.thermal = .trip ∧ u.mgmt.logicMax = logic ∧
      u.mgmt.hbmMax = hbm ∧ u.store = s.store ∧ u.boot = s.boot := by
  unfold execThermalSample
  rw [if_neg (by simp [hup, hwas])]
  dsimp only
  refine ⟨_, if_pos hnext, ?_, rfl, rfl, rfl, rfl⟩
  dsimp only
  exact hnext

/-- A host that is seen again over a function bound already changes no binding. -/
theorem execDiscoveryUpdate_boundHost {s : State} {link route : Nat} (hlink : s.linkUp link = true) (hroute : route < 16)
    (hbound : s.pool.bound.contains ⟨link, route⟩ = true) :
    execDiscoveryUpdate .host link route ⟨true, none⟩ s = .next (s.routeWaiting.seeParty .host link route) := by
  have hopen : (s.linkUp link && decide (route < 16)) = true := by rw [hlink, decide_eq_true hroute]; rfl
  have htray : s.assignTray .host none = s := rfl
  unfold execDiscoveryUpdate
  dsimp only
  rw [htray, if_pos hopen, if_pos hbound]

/-- Any party but a host, seen, is recorded, after a fabric manager's tray. -/
theorem execDiscoveryUpdate_seen {s : State} {k : PartyKind} {link route : Nat} (hk : k ≠ .host) (tray : Option Nat) :
    execDiscoveryUpdate k link route ⟨true, tray⟩ s = .next ((s.assignTray k tray).seeParty k link route) := by
  unfold execDiscoveryUpdate
  cases k with
  | host => exact absurd rfl hk
  | accelerator => dsimp only
  | partner => dsimp only
  | fabricManager => dsimp only

/-- A report of a group namespace that this member does not hold is kept for later. -/
theorem execMemberNamespaceReport_unheld {s : State} {slot : Nat} {salt : BitVec 128} (ps : MemberParams) (hslot : slot ≠ s.wake.slot)
    (hnone : s.wake.groupNs salt = none) :
    execMemberNamespaceReport slot salt true ps s = .next { s.wake with
      grp.reports := s.wake.grp.reports.filter (fun r => !(r.1 == slot && r.2.1 == salt)) ++ [(slot, salt, ps)] } := by
  have hstill : ∀ reports, ({ s.wake with grp.reports := reports } : State).groupNs salt = none := fun _ => hnone
  unfold execMemberNamespaceReport
  dsimp only
  rw [if_neg hslot, hstill, if_pos rfl]

/-- Settles O60: each sample, fault, party, clock message and pin in the branch that its hypotheses select. -/
theorem powerAndTime : Obligations.PowerAndTime := by
  unfold Obligations.PowerAndTime
  refine ⟨fun s n => rfl, ?sample, ?thermal, ?host, ?other, ?manager, fun s link => rfl, ?pps, ?supply, ?ptp, ?perst, fun s h => rfl,
    ?report, ?wakePart⟩
  case sample => exact fun s mw n level hup hlw hraise => execPowerSample_raises hup hlw hraise
  case thermal => exact fun s logic hbm locus hup hwas hnext => execThermalSample_trips locus hup hwas hnext
  case host =>
    intro s link route hlink hroute hbound
    exact execDiscoveryUpdate_boundHost hlink hroute hbound
  case other =>
    intro s k link route hk
    refine (execDiscoveryUpdate_seen hk none).trans ?_
    cases k <;> rfl
  case manager => exact fun s link route t => execDiscoveryUpdate_seen (k := .fabricManager) PartyKind.noConfusion (some t)
  case pps => exact fun s hon => if_neg hon
  case supply => exact fun s rail hup => if_neg (by simp [hup])
  case ptp =>
    intro s time offset hon
    refine (if_neg hon).trans ?_
    simp only [if_true, decide_true, Bool.true_and]
  case perst =>
    intro s p hp hset
    have hthere : ¬(decide (8 ≤ p) || !bit s.boot.perst p) = true := by
      simp only [hset, Bool.not_true, Bool.or_false, decide_eq_true_eq]
      omega
    exact ⟨_, if_neg hthere, rfl⟩
  case report => exact fun s slot salt ps hslot hnone => execMemberNamespaceReport_unheld ps hslot hnone
  case wakePart => exact fun s hwaking => ⟨if_pos hwaking, if_pos hwaking, if_pos hwaking⟩

end Sys2Proof.Machine
end
